-- ==== Sys2Proof/Word.lean ====
section
/-! DEFINITION. The word types of the block, and the plainest arithmetic on them: bytes, 32-bit registers, 64-bit
counters, little-endian byte order (00 R10), and the unit indexes of the module (00 R11). -/

namespace Sys2Proof

/-- One byte of memory. -/
abbrev Byte := BitVec 8
/-- A 32-bit register (21 R501). -/
abbrev W32 := BitVec 32
/-- A 64-bit counter or scratchpad lane. -/
abbrev W64 := BitVec 64

/-- Ashlar die P0-P3 (01 R30). -/
abbrev Die := Fin 4
/-- Keystone K0-K1. -/
abbrev Key := Fin 2
/-- HBM stack, and the Footing under it, H0-H11: stack 3p+b stands in Bay b of die p (00 R11). -/
abbrev Stack := Fin 12
/-- Linear Block index on its die, course * 18 + column (00 R11). -/
abbrev Blk := Fin 288
/-- Issuer context of a Block. -/
abbrev Ctx := Fin 4
/-- Local ring of a die (09 R229). -/
abbrev Ring := Fin 2048
/-- DDR5 socket S0-S5; socket 3k+n belongs to Keystone k. -/
abbrev Socket := Fin 6
/-- Joint end of an Ashlar die (J0-J3) or of a Keystone (KA, KB, KX, and 3 unused). -/
abbrev Joint := Fin 4
/-- Unit with a Bond end: 0-3 Ashlar, 4-5 Keystone. -/
abbrev Unit6 := Fin 6

/-- Little-endian value of a list of bytes (00 R10): the first byte is the least significant. -/
def leNat : List Byte → Nat
  | [] => 0
  | b :: bs => b.toNat + 256 * leNat bs

/-- The `n` little-endian bytes of a number, lowest first (00 R10). -/
def leBytes : Nat → Nat → List Byte
  | 0, _ => []
  | n + 1, v => BitVec.ofNat 8 v :: leBytes n (v / 256)

/-- `v` rounded up to a multiple of `m`. -/
def roundUp (v m : Nat) : Nat := (v + m - 1) / m * m

/-- Quotient rounded up. -/
def ceilDiv (a b : Nat) : Nat := (a + b - 1) / b

/-- `v` held at its largest value `top` (a counter that holds). -/
def holdAt (top v : Nat) : Nat := if top < v then top else v

end Sys2Proof
end

