-- ==== Sys2Proof/Syntax.lean ====
section
/-! DEFINITION. The commands of the block: one constructor for each row of spec/opcode_table.json, in the table's
order, with its operands. What an outside event decides (an ECC outcome, a metered draw, a ticket's bytes) is an
operand of the command that carries it. -/

namespace Sys2Proof

/-- The commands. Each docstring names the row and its rule. -/
inductive Instr where
  /-- POWER_UP (R491). -/
  | powerUp (slot : BitVec 6)
  /-- POWER_GOOD (R491). -/
  | powerGood
  /-- MOD_EN_FALL (R492). -/
  | modEnFall
  /-- MOD_RESET_ASSERT (R489). -/
  | modResetAssert (ns : Nat)
  /-- MOD_RESET_RELEASE (R491). -/
  | modResetRelease
  /-- INPUT_HIGH (R483). -/
  | inputHigh (v : BitVec 16)
  /-- INPUT_MARGIN (R483). -/
  | inputMargin (v : BitVec 16)
  /-- INPUT_NORMAL (R483). -/
  | inputNormal (v : BitVec 16)
  /-- INPUT_LOW (R453). -/
  | inputLow (v : BitVec 16)
  /-- REFCLK_LOSS (R436). -/
  | refclkLoss (d : Die)
  /-- PLL_UNLOCK (R436). -/
  | pllUnlock (u : Unit6)
  /-- HW_THERM_TRIP (R488). -/
  | hwThermTrip
  /-- THERMAL_TRIP (R448). -/
  | thermalTrip (u : Fin 20) (i : Fin 24) (t : BitVec 11)
  /-- COOLANT_WARM (R498). -/
  | coolantWarm (t : BitVec 11)
  /-- MODULE_COLD (R465). -/
  | moduleCold
  /-- MODULE_WARM (R467). -/
  | moduleWarm
  /-- KCORE (R371). -/
  | kcore (ks : BitVec 2) (slow : BitVec 24)
  /-- KFULL (R376). -/
  | kfull (k : Key)
  /-- DIE_WARM (R515). -/
  | dieWarm (d : Die)
  /-- DIE_COLD (R515). -/
  | dieCold (d : Die)
  /-- RESET_REQ_MODULE_WARM (R383). -/
  | resetReqModuleWarm (d : Die) (target : BitVec 3)
  /-- RESET_REQ_KCORE (R383). -/
  | resetReqKcore (d : Die) (target : BitVec 3)
  /-- RESET_REQ_KFULL (R383). -/
  | resetReqKfull (d : Die) (target : BitVec 3)
  /-- RESET_REQ_DIE_WARM (R383). -/
  | resetReqDieWarm (d : Die) (target : BitVec 3)
  /-- RESET_REQ_DIE_COLD (R383). -/
  | resetReqDieCold (d : Die) (target : BitVec 3)
  /-- ROM_ELECTION (R464). -/
  | romElection (pass : BitVec 4) (pos : List (Fin 4))
  /-- BOOT_STEP_DONE (R465). -/
  | bootStepDone (good : BitVec 20) (caps : List (BitVec 10))
  /-- BOOT_STEP_TIMEOUT (R465). -/
  | bootStepTimeout
  /-- POSITION_CHECK (R37). -/
  | positionCheck (d : Die) (j1 : Option (Fin 4)) (j2 : Option (Fin 4)) (kp : Option (Fin 4))
  /-- PD_REQUEST_ON (R43). -/
  | pdRequestOn (u : Fin 20) (dom : BitVec 7)
  /-- PD_REQUEST_OFF (R43). -/
  | pdRequestOff (u : Fin 20) (dom : BitVec 7)
  /-- PD_QUEUE_HEAD (R43). -/
  | pdQueueHead (q : Unit6)
  /-- DOMAIN_WAKE_DONE (R102). -/
  | domainWakeDone (dom : Fin 120)
  /-- DOMAIN_OFF_DONE (R41). -/
  | domainOffDone (dom : Fin 120)
  /-- BLOCK_FENCE (R104). -/
  | blockFence (d : Die) (n : Blk)
  /-- BLOCK_TEST (R105). -/
  | blockTest (d : Die) (n : Blk)
  /-- BLOCK_SELFTEST_DONE (R105). -/
  | blockSelftestDone (d : Die) (n : Blk) (pass : Bool)
  /-- BLOCK_CLEAR_DONE (R105). -/
  | blockClearDone (d : Die) (n : Blk)
  /-- CTX_ENABLE (R100). -/
  | ctxEnable (d : Die) (n : Blk) (c : Ctx)
  /-- CTX_DISABLE (R78). -/
  | ctxDisable (d : Die) (n : Blk) (c : Ctx)
  /-- FP_FLAGS_CLEAR (R69). -/
  | fpFlagsClear (d : Die) (n : Blk) (c : Ctx) (v : W32) (same : BitVec 7) (sat : BitVec 16)
  /-- VIOL_CLEAR (R101). -/
  | violClear (d : Die) (n : Blk) (v : W32) (same : Option W32)
  /-- SPAD_READ (R95). -/
  | spadRead (d : Die) (n : Blk) (m : Fin 5) (c : Ctx) (off : BitVec 21) (len : Nat)
  /-- SPAD_WRITE (R95). -/
  | spadWrite (d : Die) (n : Blk) (m : Fin 5) (c : Ctx) (off : BitVec 21) (data : List Byte)
  /-- SPAD_SET_WRITE (R96). -/
  | spadSetWrite (d : Die) (n : Blk) (m : Fin 5) (c : Ctx) (off : BitVec 21) (data : List Byte)
  /-- SPAD_CLEAR_WRITE (R96). -/
  | spadClearWrite (d : Die) (n : Blk) (m : Fin 5) (c : Ctx) (off : BitVec 21) (data : List Byte)
  /-- OPND (R118). -/
  | opnd (d : Die) (n : Blk) (c : Ctx)
  /-- MASON (R118). -/
  | mason (d : Die) (n : Blk) (c : Ctx)
  /-- MASON_START (R82). -/
  | masonStart (d : Die) (n : Blk) (c : Ctx)
  /-- MASON_DONE (R82). -/
  | masonDone (d : Die) (n : Blk) (c : Ctx)
  /-- PLUMB_COMPARE_DONE (R222). -/
  | plumbCompareDone (d : Die)
  /-- HOD (R121). -/
  | hod (d : Die) (n : Blk) (c : Ctx)
  /-- HOD_DONE (R121). -/
  | hodDone (d : Die) (n : Blk) (c : Ctx) (i : Nat)
  /-- TRANSFER_PLANNED_DONE (R121). -/
  | transferPlannedDone (d : Die) (n : Blk) (c : Ctx) (i : Nat)
  /-- WAITG (R118). -/
  | waitg (d : Die) (n : Blk) (c : Ctx)
  /-- CTX_WAKE (R76). -/
  | ctxWake (d : Die) (n : Blk) (c : Ctx)
  /-- SIGNAL (R118). -/
  | signal (d : Die) (n : Blk) (c : Ctx)
  /-- LOOP (R118). -/
  | loop (d : Die) (n : Blk) (c : Ctx)
  /-- FENCEW (R118). -/
  | fencew (d : Die) (n : Blk) (c : Ctx)
  /-- END (R118). -/
  | ctxEnd (d : Die) (n : Blk) (c : Ctx)
  /-- ADD (R88). -/
  | add (d : Die) (n : Blk) (c : Ctx)
  /-- SUB (R88). -/
  | sub (d : Die) (n : Blk) (c : Ctx)
  /-- MUL (R88). -/
  | mul (d : Die) (n : Blk) (c : Ctx)
  /-- FMA (R88). -/
  | fma (d : Die) (n : Blk) (c : Ctx)
  /-- DIV (R88). -/
  | div (d : Die) (n : Blk) (c : Ctx)
  /-- SQRT (R88). -/
  | sqrt (d : Die) (n : Blk) (c : Ctx)
  /-- MIN (R88). -/
  | min (d : Die) (n : Blk) (c : Ctx)
  /-- MAX (R88). -/
  | max (d : Die) (n : Blk) (c : Ctx)
  /-- MINNUM (R88). -/
  | minnum (d : Die) (n : Blk) (c : Ctx)
  /-- MAXNUM (R88). -/
  | maxnum (d : Die) (n : Blk) (c : Ctx)
  /-- CMPEQ (R88). -/
  | cmpeq (d : Die) (n : Blk) (c : Ctx)
  /-- CMPLT (R88). -/
  | cmplt (d : Die) (n : Blk) (c : Ctx)
  /-- CMPLE (R88). -/
  | cmple (d : Die) (n : Blk) (c : Ctx)
  /-- EXP2 (R87). -/
  | exp2 (d : Die) (n : Blk) (c : Ctx)
  /-- LOG2 (R87). -/
  | log2 (d : Die) (n : Blk) (c : Ctx)
  /-- TANH (R87). -/
  | tanh (d : Die) (n : Blk) (c : Ctx)
  /-- SIGMOID (R87). -/
  | sigmoid (d : Die) (n : Blk) (c : Ctx)
  /-- ERF (R87). -/
  | erf (d : Die) (n : Blk) (c : Ctx)
  /-- SINPI (R87). -/
  | sinpi (d : Die) (n : Blk) (c : Ctx)
  /-- COSPI (R87). -/
  | cospi (d : Die) (n : Blk) (c : Ctx)
  /-- RSQRT (R87). -/
  | rsqrt (d : Die) (n : Blk) (c : Ctx)
  /-- VLOAD (R88). -/
  | vload (d : Die) (n : Blk) (c : Ctx)
  /-- VSTORE (R88). -/
  | vstore (d : Die) (n : Blk) (c : Ctx)
  /-- VKEY (R88). -/
  | vkey (d : Die) (n : Blk) (c : Ctx)
  /-- POOL_MAX (R145). -/
  | poolMax (d : Die) (n : Blk) (c : Ctx)
  /-- POOL_AVG_ALL (R146). -/
  | poolAvgAll (d : Die) (n : Blk) (c : Ctx)
  /-- POOL_AVG_VALID (R146). -/
  | poolAvgValid (d : Die) (n : Blk) (c : Ctx)
  /-- ARGMAX (R147). -/
  | argmax (d : Die) (n : Blk) (c : Ctx)
  /-- ARGMAX_CONT (R147). -/
  | argmaxCont (d : Die) (n : Blk) (c : Ctx)
  /-- CAST_ABSMAX (R209). -/
  | castAbsmax (d : Die) (n : Blk) (c : Ctx)
  /-- CAST_DELAYED (R213). -/
  | castDelayed (d : Die) (n : Blk) (c : Ctx)
  /-- CAST_DECODE (R88). -/
  | castDecode (d : Die) (n : Blk) (c : Ctx)
  /-- CVT (R88). -/
  | cvt (d : Die) (n : Blk) (c : Ctx)
  /-- VEC_DONE (R118). -/
  | vecDone (d : Die) (n : Blk) (c : Ctx)
  /-- LINTEL_ROW_ARRIVE (R139). -/
  | lintelRowArrive (d : Die) (n : Blk) (i : Fin 64) (g : BitVec 20)
  /-- LINTEL_RELEASE_ARRIVE (R138). -/
  | lintelReleaseArrive (d : Die) (n : Blk) (c : Ctx) (i : Nat) (count : BitVec 20)
  /-- LINTEL_ISSUE_START (R138). -/
  | lintelIssueStart (d : Die) (n : Blk) (c : Ctx) (i : Nat)
  /-- PLB_ENABLE (R225). -/
  | plbEnable (d : Die) (v : W32)
  /-- PLB_DISABLE (R224). -/
  | plbDisable (d : Die)
  /-- RING_DOORBELL (R230). -/
  | ringDoorbell (d : Die) (r : Ring) (tail : BitVec 17)
  /-- RING_ENABLE (R232). -/
  | ringEnable (d : Die) (r : Ring) (v : W32)
  /-- RING_DISABLE (R232). -/
  | ringDisable (d : Die) (r : Ring)
  /-- MOVE (R234). -/
  | move (d : Die) (r : Ring)
  /-- RUN (R234). -/
  | run (d : Die) (r : Ring)
  /-- LOAD (R125). -/
  | load (d : Die) (r : Ring)
  /-- LOAD_DIGEST_DONE (R125). -/
  | loadDigestDone (d : Die) (r : Ring) (seq : W32)
  /-- UNLOAD (R249). -/
  | unload (d : Die) (r : Ring)
  /-- ABORT (R249). -/
  | abort (d : Die) (r : Ring)
  /-- POWER_ON (R242). -/
  | powerOn (d : Die) (r : Ring)
  /-- POWER_OFF (R242). -/
  | powerOff (d : Die) (r : Ring)
  /-- FENCE (R234). -/
  | fence (d : Die) (r : Ring)
  /-- ITEM_START (R241). -/
  | itemStart (d : Die) (r : Ring) (seq : W32)
  /-- RUN_START (R127). -/
  | runStart (d : Die) (r : Ring) (seq : W32)
  /-- RUN_END (R123). -/
  | runEnd (d : Die) (r : Ring) (seq : W32)
  /-- ITEM_COMPLETE (R247). -/
  | itemComplete (d : Die) (r : Ring) (seq : W32)
  /-- FB_BATCH_IDLE_CLOSE (R267). -/
  | fbBatchIdleClose (d : Die)
  /-- FB_RESUME (R268). -/
  | fbResume (d : Die) (v : W32)
  /-- INV_RANGE (R269). -/
  | invRange (u : Unit6) (asid : BitVec 16)
  /-- INV_ASID (R269). -/
  | invAsid (u : Unit6) (asid : BitVec 16)
  /-- INV_ALL (R269). -/
  | invAll (u : Unit6)
  /-- INV_ACK (R269). -/
  | invAck (u : Unit6)
  /-- XLT_ENABLE (R273). -/
  | xltEnable (u : Unit6) (v : W32)
  /-- XLT_DISABLE (R273). -/
  | xltDisable (u : Unit6)
  /-- PCIE_REQUEST (R264). -/
  | pcieRequest (k : Key) (pasid : Option (BitVec 20)) (va : BitVec 64) (kind : Fin 13) (len : Nat) (data : List Byte)
  /-- LEDGER_PERIOD_END (R447). -/
  | ledgerPeriodEnd (d : Die) (draw : List Nat) (temps : List (BitVec 11)) (ftg : List (BitVec 11)) (v : BitVec 16)
  /-- CALENDAR_SLOT_END (R332). -/
  | calendarSlotEnd (d : Die)
  /-- RECAL_WINDOW_END (R445). -/
  | recalWindowEnd (d : Die)
  /-- RESERVE_EXHAUSTED (R449). -/
  | reserveExhausted (d : Die) (b : Fin 21)
  /-- SENSOR_REPORT (R443). -/
  | sensorReport (d : Die) (src : Die) (reads : List (Fin 24 × BitVec 11))
  /-- LDG_ENABLE (R455). -/
  | ldgEnable (d : Die)
  /-- LDG_DISABLE (R455). -/
  | ldgDisable (d : Die)
  /-- LDG_MODULE_WRITE (R455). -/
  | ldgModuleWrite (v : W32)
  /-- LDG_BUDGET_WRITE (R455). -/
  | ldgBudgetWrite (d : Die) (i : Fin 21) (v : W32)
  /-- ROW_REPAIR_START (R160). -/
  | rowRepairStart (h : Stack) (pc : Fin 64) (bank : Fin 64) (row : Nat)
  /-- ROW_REPAIR_DONE (R160). -/
  | rowRepairDone (h : Stack)
  /-- RETIRE_REQUEST (R166). -/
  | retireRequest (h : Stack) (pc : Fin 64)
  /-- RETIRE_COPY_START (R163). -/
  | retireCopyStart (h : Stack)
  /-- RETIRE_DONE (R163). -/
  | retireDone (h : Stack)
  /-- PATROL_SCRUB_TICK (R205). -/
  | patrolScrubTick (h : Stack) (ecc : Fin 17)
  /-- SKT_EVACUATE (R170). -/
  | sktEvacuate (n : Socket)
  /-- SKT_OFFLINE (R171). -/
  | sktOffline (n : Socket)
  /-- SKT_ONLINE (R170). -/
  | sktOnline (n : Socket)
  /-- SKT_STOP_DONE (R172). -/
  | sktStopDone (n : Socket)
  /-- SKT_TRAIN_DONE (R172). -/
  | sktTrainDone (n : Socket) (ok : Bool) (cap : BitVec 10)
  /-- SKT_CLEAR_DONE (R172). -/
  | sktClearDone (n : Socket)
  /-- FTG_ENABLE (R206). -/
  | ftgEnable (h : Stack)
  /-- FTG_DISABLE (R183). -/
  | ftgDisable (h : Stack)
  /-- UPDATE_MOMENTUM (R186). -/
  | updateMomentum (d : Die) (r : Ring)
  /-- UPDATE_ADAPTIVE (R186). -/
  | updateAdaptive (d : Die) (r : Ring)
  /-- UPDATE_SIGNED (R186). -/
  | updateSigned (d : Die) (r : Ring)
  /-- REDUCE (R193). -/
  | reduce (d : Die) (r : Ring)
  /-- COMPRESS_TOPK (R196). -/
  | compressTopk (d : Die) (r : Ring)
  /-- TOPK_MERGE (R196). -/
  | topkMerge (d : Die) (r : Ring)
  /-- COMPRESS_SIGN (R199). -/
  | compressSign (d : Die) (r : Ring)
  /-- HASH (R200). -/
  | hash (d : Die) (r : Ring)
  /-- SCRUB (R204). -/
  | scrub (d : Die) (r : Ring)
  /-- ZERO (R204). -/
  | zero (d : Die) (r : Ring)
  /-- FTG_COMMAND_START (R181). -/
  | ftgCommandStart (h : Stack) (e : Fin 5)
  /-- FTG_COMMAND_DONE (R180). -/
  | ftgCommandDone (h : Stack) (e : Fin 5) (ecc : List (Nat × Bool))
  /-- FETCH_SHARED (R284). -/
  | fetchShared (home : Fin 18) (line : Nat) (a : Fin 64) (tn : BitVec 12) (ecc : Fin 9)
  /-- FETCH_OWNED (R284). -/
  | fetchOwned (home : Fin 18) (line : Nat) (a : Fin 64) (tn : BitVec 12) (ecc : Fin 9)
  /-- OWN_HELD (R284). -/
  | ownHeld (home : Fin 18) (line : Nat) (a : Fin 64) (tn : BitVec 12) (ecc : Fin 9)
  /-- FETCH_COPY (R284). -/
  | fetchCopy (home : Fin 18) (line : Nat) (a : Fin 64) (tn : BitVec 12) (ecc : Fin 9)
  /-- FETCH_CLEAN (R285). -/
  | fetchClean (home : Fin 18) (line : Nat) (a : Fin 64) (tn : BitVec 12) (ecc : Fin 9)
  /-- PUT_LINE (R284). -/
  | putLine (home : Fin 18) (line : Nat) (a : Fin 64) (tn : BitVec 12) (data : List Byte)
  /-- PUT_BYTES (R284). -/
  | putBytes (home : Fin 18) (line : Nat) (a : Fin 64) (tn : BitVec 12) (en : BitVec 128) (data : List Byte) (ecc : Fin 9)
  /-- ATOM_HOME (R288). -/
  | atomHome (home : Fin 18) (addr : Nat) (a : Fin 64) (tn : BitVec 12) (op : Fin 10) (size : Fin 2) (x : W64) (y : W64) (ecc : Fin 9)
  /-- PROBE_SHARE (R284). -/
  | probeShare (a : Fin 40) (line : Nat) (req : Fin 64)
  /-- PROBE_YIELD (R284). -/
  | probeYield (a : Fin 40) (line : Nat) (req : Fin 64)
  /-- PROBE_DROP (R284). -/
  | probeDrop (a : Fin 40) (line : Nat) (req : Fin 64)
  /-- PROBE_COPY (R284). -/
  | probeCopy (a : Fin 40) (line : Nat) (req : Fin 64)
  /-- PROBE_FLUSH (R284). -/
  | probeFlush (a : Fin 40) (line : Nat) (req : Fin 64)
  /-- SNOOP_RESPONSE (R284). -/
  | snoopResponse (home : Fin 18) (line : Nat) (a : Fin 40)
  /-- WRITE_BACK (R284). -/
  | writeBack (home : Fin 18) (line : Nat) (a : Fin 40)
  /-- HOME_QUEUE_SERVE (R280). -/
  | homeQueueServe (home : Fin 18) (line : Nat)
  /-- DEAD_NOTICE (R290). -/
  | deadNotice (home : Fin 18) (a : Fin 40)
  /-- RECLAIM_DONE (R290). -/
  | reclaimDone (home : Fin 18)
  /-- READAHEAD_PURGE (R294). -/
  | readaheadPurge (e : Fin 10) (line : Nat) (len : Nat)
  /-- ATOM_ADD (R287). -/
  | atomAdd (a : Fin 40) (addr : Nat) (size : Fin 2) (x : W64)
  /-- ATOM_SMIN (R287). -/
  | atomSmin (a : Fin 40) (addr : Nat) (size : Fin 2) (x : W64)
  /-- ATOM_SMAX (R287). -/
  | atomSmax (a : Fin 40) (addr : Nat) (size : Fin 2) (x : W64)
  /-- ATOM_UMIN (R287). -/
  | atomUmin (a : Fin 40) (addr : Nat) (size : Fin 2) (x : W64)
  /-- ATOM_UMAX (R287). -/
  | atomUmax (a : Fin 40) (addr : Nat) (size : Fin 2) (x : W64)
  /-- ATOM_SWAP (R287). -/
  | atomSwap (a : Fin 40) (addr : Nat) (size : Fin 2) (x : W64)
  /-- ATOM_CAS (R287). -/
  | atomCas (a : Fin 40) (addr : Nat) (size : Fin 2) (cmp : W64) (x : W64)
  /-- ATOM_AND (R287). -/
  | atomAnd (a : Fin 40) (addr : Nat) (size : Fin 2) (x : W64)
  /-- ATOM_OR (R287). -/
  | atomOr (a : Fin 40) (addr : Nat) (size : Fin 2) (x : W64)
  /-- ATOM_XOR (R287). -/
  | atomXor (a : Fin 40) (addr : Nat) (size : Fin 2) (x : W64)
  /-- ATOM_MODE_WRITE (R297). -/
  | atomModeWrite (u : Unit6) (v : W32)
  /-- SCOPE_G (R364). -/
  | scopeG (a : Fin 40) (addr : Nat) (len : Nat)
  /-- BND_ENABLE (R320). -/
  | bndEnable (u : Unit6) (j : Joint)
  /-- BND_DISABLE (R320). -/
  | bndDisable (u : Unit6) (j : Joint)
  /-- BND_RETRAIN (R320). -/
  | bndRetrain (u : Unit6) (j : Joint)
  /-- TS0_LOCK (R304). -/
  | ts0Lock (u : Unit6) (j : Joint)
  /-- LANE_TEST_DONE (R304). -/
  | laneTestDone (u : Unit6) (j : Joint) (good : BitVec 26) (pol : BitVec 26)
  /-- PROPOSE (R308). -/
  | propose (u : Unit6) (j : Joint) (t : List Byte)
  /-- CONFIRM (R308). -/
  | confirm (u : Unit6) (j : Joint) (t : List Byte)
  /-- NARROW_PROPOSE (R310). -/
  | narrowPropose (u : Unit6) (j : Joint) (t : List Byte)
  /-- NARROW_CONFIRM (R310). -/
  | narrowConfirm (u : Unit6) (j : Joint) (t : List Byte)
  /-- EPOCH_TIMEOUT (R308). -/
  | epochTimeout (u : Unit6) (j : Joint)
  /-- NARROW_TIMEOUT (R310). -/
  | narrowTimeout (u : Unit6) (j : Joint)
  /-- FLIT_RECEIVE (R313). -/
  | flitReceive (u : Unit6) (j : Joint) (f : List Byte) (low : Option (Fin 24))
  /-- PARTNER_SILENT (R315). -/
  | partnerSilent (u : Unit6) (j : Joint)
  /-- RETRAIN_TIMEOUT (R304). -/
  | retrainTimeout (u : Unit6) (j : Joint)
  /-- ABSENT_NOTICE (R316). -/
  | absentNotice (u : Unit6) (dead : Unit6)
  /-- REJOIN (R318). -/
  | rejoin (d : Unit6)
  /-- ADMIT_DIE (R318). -/
  | admitDie (d : Unit6)
  /-- NET_PORT_ENABLE (R341). -/
  | netPortEnable (d : Die) (n : Fin 2) (v : W32)
  /-- NET_PORT_DISABLE (R341). -/
  | netPortDisable (d : Die) (n : Fin 2)
  /-- LINK_UP (R324). -/
  | linkUp (d : Die) (n : Fin 2) (half : Fin 2)
  /-- LINK_LOST (R324). -/
  | linkLost (d : Die) (n : Fin 2) (half : Fin 2)
  /-- NET_WRITE (R335). -/
  | netWrite (d : Die) (r : Ring)
  /-- NET_READ (R335). -/
  | netRead (d : Die) (r : Ring)
  /-- NET_SEND (R335). -/
  | netSend (d : Die) (r : Ring)
  /-- NET_RECV (R335). -/
  | netRecv (d : Die) (r : Ring)
  /-- NET_REG (R329). -/
  | netReg (d : Die) (r : Ring)
  /-- NET_DEREG (R340). -/
  | netDereg (d : Die) (r : Ring)
  /-- RAW_TX (R335). -/
  | rawTx (d : Die) (r : Ring)
  /-- FLOW_SET_OPEN (R326). -/
  | flowSetOpen (d : Die) (r : Ring)
  /-- FLOW_SET_RESET (R326). -/
  | flowSetReset (d : Die) (r : Ring)
  /-- FLOW_SET_CLOSE (R326). -/
  | flowSetClose (d : Die) (r : Ring)
  /-- NVME (R339). -/
  | nvme (d : Die) (r : Ring)
  /-- NVME_RESPONSE (R339). -/
  | nvmeResponse (d : Die) (ctx : Fin 262144) (data : List Byte)
  /-- ROCE_SEND (R328). -/
  | roceSend (d : Die) (ctx : Fin 262144) (psn : BitVec 24) (ce : Bool) (seg : Fin 4) (held : Bool) (data : List Byte)
  /-- ROCE_WRITE (R329). -/
  | roceWrite (d : Die) (ctx : Fin 262144) (psn : BitVec 24) (ce : Bool) (seg : Fin 4) (held : Bool) (va : BitVec 64) (key : BitVec 32) (len : BitVec 32) (data : List Byte)
  /-- ROCE_READ_REQUEST (R329). -/
  | roceReadRequest (d : Die) (ctx : Fin 262144) (psn : BitVec 24) (ce : Bool) (held : Bool) (va : BitVec 64) (key : BitVec 32) (len : BitVec 32)
  /-- ROCE_READ_RESPONSE (R328). -/
  | roceReadResponse (d : Die) (ctx : Fin 262144) (psn : BitVec 24) (ce : Bool) (seg : Fin 4) (held : Bool) (data : List Byte)
  /-- ROCE_ACK (R328). -/
  | roceAck (d : Die) (ctx : Fin 262144) (psn : BitVec 24)
  /-- ROCE_NAK (R337). -/
  | roceNak (d : Die) (ctx : Fin 262144) (psn : BitVec 24) (code : Fin 4)
  /-- CNP (R332). -/
  | cnp (d : Die) (ctx : Fin 262144)
  /-- POLLEK_DATA (R331). -/
  | pollekData (d : Die) (ctx : Fin 262144) (ce : Bool) (held : Bool) (pkt : List Byte)
  /-- POLLEK_ACK (R331). -/
  | pollekAck (d : Die) (ctx : Fin 262144) (psn : BitVec 32) (ece : Bool)
  /-- POLLEK_NAK (R331). -/
  | pollekNak (d : Die) (ctx : Fin 262144) (psn : BitVec 32)
  /-- EXCEPTION_FRAME (R327). -/
  | exceptionFrame (d : Die) (n : Fin 2) (data : List Byte)
  /-- RX_RESERVE_ADMIT (R336). -/
  | rxReserveAdmit (d : Die) (n : Fin 2)
  /-- RTO_EXPIRE (R328). -/
  | rtoExpire (d : Die) (ctx : Fin 262144)
  /-- ACK_TIMER (R328). -/
  | ackTimer (d : Die) (ctx : Fin 262144)
  /-- NET_BOUND_EXPIRE (R337). -/
  | netBoundExpire (d : Die) (r : Ring) (seq : W32)
  /-- CHAIN_SUM (R348). -/
  | chainSum (d : Die) (r : Ring)
  /-- CHAIN_TOPK (R349). -/
  | chainTopk (d : Die) (r : Ring)
  /-- CHAIN_SIGN (R350). -/
  | chainSign (d : Die) (r : Ring)
  /-- PERMUTE (R357). -/
  | permute (d : Die) (r : Ring)
  /-- GROUP_SET (R345). -/
  | groupSet (d : Die) (r : Ring)
  /-- GROUP_CLOSE (R345). -/
  | groupClose (d : Die) (r : Ring)
  /-- HELLO_TIMER (R345). -/
  | helloTimer (d : Die) (g : W32)
  /-- HELLO (R345). -/
  | hello (d : Die) (ctx : Option (Fin 262144)) (ce : Bool) (pkt : List Byte)
  /-- RED_SUM (R352). -/
  | redSum (d : Die) (ctx : Option (Fin 262144)) (ce : Bool) (pkt : List Byte)
  /-- RED_TOPK (R352). -/
  | redTopk (d : Die) (ctx : Option (Fin 262144)) (ce : Bool) (pkt : List Byte)
  /-- RED_SIGN (R352). -/
  | redSign (d : Die) (ctx : Option (Fin 262144)) (ce : Bool) (pkt : List Byte)
  /-- GATHER (R352). -/
  | gather (d : Die) (ctx : Option (Fin 262144)) (ce : Bool) (pkt : List Byte)
  /-- PERM (R357). -/
  | perm (d : Die) (ctx : Option (Fin 262144)) (ce : Bool) (pkt : List Byte)
  /-- CHAIN_BOUND_EXPIRE (R354). -/
  | chainBoundExpire (d : Die) (r : Ring) (seq : W32)
  /-- PLN_STAGE_WRITE (R358). -/
  | plnStageWrite (d : Die) (i : Fin 16) (v : W32)
  /-- IDLE_CLEAR (R360). -/
  | idleClear (d : Die) (row : Fin 17)
  /-- WDOG_CTRL_WRITE (R383). -/
  | wdogCtrlWrite (k : Key) (v : W32)
  /-- WDOG_KICK (R370). -/
  | wdogKick (k : Key)
  /-- WDOG_EXPIRE (R370). -/
  | wdogExpire (k : Key)
  /-- L2_WRITEBACK_TIMEOUT (R371). -/
  | l2WritebackTimeout (k : Key) (cl : Fin 12)
  /-- KEYSTONE_RETURNED (R376). -/
  | keystoneReturned (k : Key)
  /-- ATTACH_ENABLE (R383). -/
  | attachEnable (d : Die)
  /-- ATTACH_CLAIM (R375). -/
  | attachClaim (d : Die) (v : W32)
  /-- ATTACH_FINISH (R375). -/
  | attachFinish (d : Die) (v : W32)
  /-- ATTACH_RECORD_REWRITE (R374). -/
  | attachRecordRewrite (d : Die)
  /-- HOLD_REPLAY (R381). -/
  | holdReplay (d : Die)
  /-- HOLD_DISCARD (R381). -/
  | holdDiscard (d : Die)
  /-- HOLD_DRAIN_DONE (R381). -/
  | holdDrainDone (d : Die)
  /-- HOLD_STALL_RESUME (R380). -/
  | holdStallResume (d : Die)
  /-- FLT_ENABLE (R404). -/
  | fltEnable (d : Die) (v : W32)
  /-- FLT_DISABLE (R404). -/
  | fltDisable (d : Die)
  /-- FLT_RING_ENABLE (R404). -/
  | fltRingEnable (d : Die) (r : Fin 16) (v : W32)
  /-- FLT_HEAD_WRITE (R404). -/
  | fltHeadWrite (d : Die) (r : Fin 16) (v : BitVec 13)
  /-- OVERFLOW_DRAIN (R391). -/
  | overflowDrain (d : Die) (r : Fin 16)
  /-- FLT_FLAGS_CLEAR (R403). -/
  | fltFlagsClear (d : Die) (v : W32) (same : BitVec 4)
  /-- PKG_SLOT_REQUEST (R400). -/
  | pkgSlotRequest (u : Unit6) (num : Nat)
  /-- RECOVERY_SLOT_GRANT (R395). -/
  | recoverySlotGrant (u : Unit6) (num : Nat)
  /-- RECOVERY_ACTION_DONE (R395). -/
  | recoveryActionDone (u : Unit6) (num : Nat) (ok : Bool)
  /-- RECOVERY_TIMEOUT (R394). -/
  | recoveryTimeout (u : Unit6) (num : Nat)
  /-- CKP_ENABLE (R433). -/
  | ckpEnable (d : Die) (v : W32)
  /-- CKP_DISABLE (R433). -/
  | ckpDisable (d : Die)
  /-- POINT (R413). -/
  | point (d : Die) (r : Ring)
  /-- BED (R418). -/
  | bed (d : Die) (r : Ring)
  /-- UNBED (R419). -/
  | unbed (d : Die) (r : Ring)
  /-- VERIFY (R425). -/
  | verify (d : Die) (r : Ring)
  /-- ADOPT (R429). -/
  | adopt (d : Die) (r : Ring)
  /-- HOLDUP_READY (R450). -/
  | holdupReady (usable : BitVec 16)
  /-- PERSISTENT_STORE_START (R452). -/
  | persistentStoreStart (usable : BitVec 16)
  /-- PERSISTENT_STORE_DONE (R452). -/
  | persistentStoreDone (usable : BitVec 16)
  /-- IMG_UPDATE (R469). -/
  | imgUpdate
  /-- IMG_CHECK_DONE (R469). -/
  | imgCheckDone
  /-- IMG_RAISE_SVN (R471). -/
  | imgRaiseSvn
  /-- CNT_INC (R471). -/
  | cntInc
  /-- SEAL_EXTEND (R473). -/
  | sealExtend (v : W32)
  /-- JRNL_ENABLE (R480). -/
  | jrnlEnable (d : Die) (j : Fin 4) (v : W32)
  /-- JRNL_DISABLE (R480). -/
  | jrnlDisable (d : Die) (j : Fin 4)
  /-- GET_CERT (R476). -/
  | getCert (ver : Byte) (tag : BitVec 16) (data : List Byte)
  /-- GET_MEASUREMENTS (R476). -/
  | getMeasurements (ver : Byte) (tag : BitVec 16) (data : List Byte)
  /-- GET_SEAL (R476). -/
  | getSeal (ver : Byte) (tag : BitVec 16) (data : List Byte)
  /-- GET_TREATMENT (R477). -/
  | getTreatment (ver : Byte) (tag : BitVec 16) (data : List Byte)
  /-- ENTDAA (R493). -/
  | entdaa (a : BitVec 7)
  /-- SET_ENDPOINT_ID (R493). -/
  | setEndpointId (eid : Byte)
  /-- GET_ENDPOINT_ID (R493). -/
  | getEndpointId
  /-- GET_MCTP_VERSION_SUPPORT (R493). -/
  | getMctpVersionSupport (typ : Byte)
  /-- GET_MESSAGE_TYPE_SUPPORT (R493). -/
  | getMessageTypeSupport
  /-- GET_STATUS (R494). -/
  | getStatus (ver : Byte) (tag : BitVec 16) (data : List Byte)
  /-- RESET (R494). -/
  | mgmtReset (ver : Byte) (tag : BitVec 16) (data : List Byte)
  /-- SET_BUDGET (R494). -/
  | setBudget (ver : Byte) (tag : BitVec 16) (data : List Byte)
  /-- GET_FATAL (R494). -/
  | getFatal (ver : Byte) (tag : BitVec 16) (data : List Byte)
  /-- LOCATE (R494). -/
  | locate (ver : Byte) (tag : BitVec 16) (data : List Byte)
  /-- REGISTER_WRITE (R13). -/
  | registerWrite (pcie : Bool) (a : BitVec 52) (size : Nat) (v : W64)
  /-- PLL_LOCK (R436). -/
  | pllLock (u : Unit6)
  /-- UNCORRECTABLE_STATE_ERROR (R405). -/
  | uncorrectableStateError (t : Fin 5) (i : Fin 12) (j : Fin 16)
  /-- HBM_LANE_FAULT (R162). -/
  | hbmLaneFault (h : Stack) (pc : Fin 64)
  /-- WIDTH_TICKET_SEND (R306). -/
  | widthTicketSend (u : Unit6) (j : Joint)
  /-- IMG_READBACK_DONE (R469). -/
  | imgReadbackDone
  /-- GROUP_SET_BOUND_EXPIRE (R345). -/
  | groupSetBoundExpire (d : Die) (r : Ring) (seq : W32)
  /-- STALLED_ITEM_BOUND_EXPIRE (R379). -/
  | stalledItemBoundExpire (d : Die) (r : Ring) (seq : W32)
  /-- LO_READ_LATCH (R513). -/
  | loReadLatch (a : BitVec 52)
  deriving DecidableEq, Repr

end Sys2Proof
end

