-- ==== Sys2Proof/Decode.lean ====
section
/-! DEFINITION. The words of the command table. The table gives no row any bits: commands come as events, register writes
and packets, whose fields the commands carry as operands, so no word spells a command. -/

namespace Sys2Proof

/-- The command a word spells: none, since no row of the table gives bits. -/
def decodeTableWord (_nbits _w : Nat) : Option Instr := none

end Sys2Proof
end

