-- ==== Sys2Proof/Config.lean ====
section
/-! DEFINITION. What an implementation fixes, and the free values: constants with no body, so that no proof can see
what they are. The shipped image's CONFIG values that the spec does not give are DESIGN CHOICE (log entry 3). -/

namespace Sys2Proof

/-- A fresh open value: the `n`-th value the block took that the spec states no result for (log entry 1). -/
opaque Config.freeNat : Nat → Nat

/-- The choice of a vector approximation (operation code, format code, input bits) among the results that 03 R87 allows: the spec
bounds its error and gives no bits (log entry 2). -/
opaque Config.approx : Nat → Nat → Nat → Nat

/-- What a pooling, argmax or cast instruction of a plan says without a field of 03 R88 or 04 R118: by plan digest, logical
Block and place in the program, 0 the source format, 1 the channel count of an argmax, 2 to 4 the outputs and the window's height and
width that the walk charges a pooling for, 5 the narrow format of a CAST_DECODE (log entry 26). -/
opaque Config.vecShape : List Byte → Nat → Nat → Nat → Nat

/-- Bytes per CK_ARITH cycle of a Hod move within its Block, which names no run: 04 R121 states no rate for it (log entry 33). -/
opaque Config.localRate : Nat

/-- Bank and row (bank + 64 times row) of a local row of a pseudo-channel: 06 R156 gives the pseudo-channel of a granule and not its bank
(log entry 35). -/
opaque Config.bankRow : Nat → Nat

/-- What the free bits of a message header hold: 12 R303 says that they carry the opcode and address and gives no places (log entry 174). -/
opaque Config.msgRest : Nat → Nat

/-- What a network packet holds where the spec gives no bits: 0 the IPv6 flow label and 1 the hop limit of a RoCEv2 packet by UDP source port, 2 the
message number of an AETH and 3 its receiver-not-ready timer by sequence number, 4 the ECN field of a Pollek ACK or NAK (log entry 180). -/
opaque Config.rocOpen : Nat → Nat → Nat

/-- A payload byte of a BLK message in a sent flit: the model queues a bulk payload by its length (log entry 174). -/
opaque Config.msgByte : Nat → Byte

/-- A byte of an image component, by the component's digest and the byte's offset: the flash's contents are not given (log entry 173). -/
opaque Config.imageByte : List Byte → Nat → Byte

/-- The directory set of a home that a line falls in: 11 R278 gives the associativity and not the index (log entry 36). -/
opaque Config.dirSet : Nat → Nat → Nat

/-- ECDSA on brainpoolP384r1 with SHA-384 (19 R461): public key, digest, signature. Named by the spec, not given by
it (log entry 4). -/
opaque Config.ecdsaValid : List Byte → List Byte → List Byte → Bool

/-- The 96-byte signature of die `d` over a digest (19 R472, R478; log entry 4). -/
opaque Config.dieSign : Nat → List Byte → List Byte

/-- The fused KEYHASH (19 R472; log entry 4). -/
opaque Config.keyHash : List Byte

/-- SHA-384 of the ROM (19 R473; log entry 4). -/
opaque Config.romDigest : List Byte

/-- A byte of the certificate area, written at manufacture (19 R458; log entry 4). -/
opaque Config.certByte : Nat → Byte

/-- Whether a MOD_RESET_N pulse of `ns` nanoseconds, from 1 to 10 µs, requests MODULE_COLD: 20 R489 says neither
(log entry 5). -/
opaque Config.pulseSeen : Nat → Bool

/-- SVN_FLOOR fuses blown (19 R471): DESIGN CHOICE 0 (log entry 3). -/
def Config.svnFloor : Nat := 0

/-- DEBUG_LOCK fuse (19 R472): DESIGN CHOICE 0 (log entry 3). -/
def Config.debugLock : Nat := 0

/-- Shipped WATTS and KS_ALLOT (18 R455 'Image'): DESIGN CHOICE within R440 (log entry 3). -/
def Config.watts : Nat := 4800
/-- See `Config.watts`. -/
def Config.ksAllot : Nat := 300

/-- Shipped budget of register index `i` in µJ (18 R439): a Course 12,000 as the worked case of R446 has it, the rest
DESIGN CHOICE (log entry 3); four quotas of 262,500 and two allotments of 300 W meet the sum of R440 at 4,800 W exactly. -/
def Config.budget (i : Nat) : Nat :=
  if i < 16 then 12000 else if i < 19 then 45000 else if i = 19 then 60000 else 262500

/-- Shipped class costs in mJ by class code (18 R451). -/
def Config.hupCost (c : Nat) : Nat :=
  if c = 0 then 120 else if c = 1 then 180 else if c = 2 then 2400 else 9600

/-- Shipped k of every stack (06 R155). -/
def Config.reserve : Nat := 1

/-- Shipped MAC address of port `n`: DESIGN CHOICE, locally administered (log entry 3). -/
def Config.mac (n : Nat) : Nat := 0x020000000000 + n

/-- Shipped Block map code of die `d`, Block `n`: the sixteen lowest columns of each Course ALLOC, the other two SPARE
(01 R25 asks for 16 ALLOC per Course; which ones is DESIGN CHOICE, log entry 3). -/
def Config.mapCode (n : Nat) : Nat := if n % 18 < 16 then 1 else 2

/-- Shipped coefficients in the row order of 18 R441: c85 in fJ, slope. -/
def Config.coefs : List (Nat × Nat) :=
  [(400, 40), (720, 40), (1300, 40), (5200, 40), (21000, 40), (4600, 40), (72000, 700), (300, 60), (28000, 120),
   (16000, 120), (2000, 40), (40000, 120), (900, 60), (6000, 60)]

/-- Shipped LIMIT and TRIP of the logic dies, then of the stacks (18 R448). -/
def Config.limits : List Nat := [100, 115, 95, 105]

/-- Stavuno's IANA enterprise number (19 R462 record 8): DESIGN CHOICE 0 (log entry 3). -/
def Config.pen : Nat := 0

/-- Stavuno's MIPI manufacturer identifier (20 R493): DESIGN CHOICE 0 (log entry 3). -/
def Config.mipiId : Nat := 0

end Sys2Proof
end

