-- ==== Sys2Proof/Machine/Tab.lean ====
section
/-! DEFINITION. Sparse tables: a list of (key, value) pairs in ONE canonical form, keys strictly rising and no
listed value equal to what an unlisted key reads as. Registers, memory and every per-unit record are such tables. -/

namespace Sys2Proof.Machine

/-- A sparse table. -/
abbrev Tab (α : Type) := List (Nat × α)

/-- What a key reads as: the first entry listed for it, else the default `d`. -/
def tget {α : Type} (d : Nat → α) : Tab α → Nat → α
  | [], k => d k
  | (k', v) :: t, k => if k' = k then v else tget d t k

/-- The table without the entries of one key. -/
def tdel {α : Type} (k : Nat) : Tab α → Tab α
  | [] => []
  | (k', v) :: t => if k' = k then tdel k t else (k', v) :: tdel k t

/-- Insertion at the place that keeps the keys rising. -/
def tins {α : Type} (k : Nat) (v : α) : Tab α → Tab α
  | [] => [(k, v)]
  | (k', v') :: t => if k < k' then (k, v) :: (k', v') :: t else (k', v') :: tins k v t

/-- A write: a value equal to the default removes the entry, so that equal tables are equal lists. -/
def tset {α : Type} [DecidableEq α] (d : Nat → α) (t : Tab α) (k : Nat) (v : α) : Tab α :=
  if v = d k then tdel k t else tins k v (tdel k t)

/-- Keys strictly rising from `lo` on. -/
def rising {α : Type} : Nat → Tab α → Bool
  | _, [] => true
  | lo, (k, _) :: t => decide (lo ≤ k) && rising (k + 1) t

/-- The canonical form of a table. -/
def twf {α : Type} [DecidableEq α] (d : Nat → α) (t : Tab α) : Bool :=
  rising 0 t && t.all (fun e => decide (e.2 ≠ d e.1))

/-- An element put before the first one that does not stand before it. -/
def insBy {α : Type} (le : α → α → Bool) (x : α) : List α → List α
  | [] => [x]
  | y :: ys => if le x y then x :: y :: ys else y :: insBy le x ys

/-- A list in the order of `le`; equal elements keep their order. -/
def sortBy {α : Type} (le : α → α → Bool) : List α → List α
  | [] => []
  | x :: xs => insBy le x (sortBy le xs)

/-- Numbers in ascending order. -/
def sortNat (xs : List Nat) : List Nat := sortBy (fun a b => decide (a ≤ b)) xs

/-- The entries whose key satisfies `p`. -/
def tfilter {α : Type} (p : Nat → Bool) (t : Tab α) : Tab α := t.filter (fun e => p e.1)

/-- An update of one key's value by a function. -/
def tmod {α : Type} [DecidableEq α] (d : Nat → α) (t : Tab α) (k : Nat) (f : α → α) : Tab α :=
  tset d t k (f (tget d t k))

/-- The place of a key in a sorted list of keys without repeats: insertion. -/
def kins (k : Nat) : List Nat → List Nat
  | [] => [k]
  | a :: t => if k < a then k :: a :: t else if k = a then a :: t else a :: kins k t

end Sys2Proof.Machine
end

