-- ==== Sys2Proof/Machine/Regs.lean ====
section
/-! DEFINITION. Every register of the module (21 R500-R508 and the owning rules): its address, its access codes, its
governing ENABLE, its reset group and its reset value. -/

namespace Sys2Proof.Machine

/-- Base of the control window of unit `u` (21 R500). -/
def winBase (u : Nat) : Nat := 0xF00000000000 + u * 0x10000000

/-- Kind of control window: units 0-3, 4-5, 8-19. -/
inductive Win where
  | ashlar | keystone | footing
  deriving DecidableEq, Repr

/-- Reset groups of 21 R504. -/
inductive Grp where
  | a | b | c | d | e | f | g | h | p
  deriving DecidableEq, Repr

/-- Whether a register's reset value is a constant or is computed from its place and the shipped image. -/
inductive RstKind where
  | fixed | dieIdent | temp | ldgModule | budget | hupCost | macLo | macHi | fuse | blkId | blkState | hbmStatus
  deriving DecidableEq, Repr

/-- A row of the register map: `dims` are the strides and counts of its indexes, outermost first; `rw`, `w1c` and
`rwl` the bits of those codes (00 R13) that carry no behaviour of their own; `gov` the ENABLE bits (bit 0 of the
word at base plus strides times indexes) that lock the RWL bits while any is 1; `rst` the reset value. -/
structure RegRow where
  name : String
  win : Win
  base : Nat
  dims : List (Nat × Nat)
  rw : Nat
  w1c : Nat
  rwl : Nat
  gov : List (Nat × List Nat)
  rst : Nat
  kind : RstKind
  grp : Grp
  deriving DecidableEq, Repr

/-- Register rows, part 0 (21 R505-R508 and the owning rules). -/
def regRows0 : List RegRow := [
  ⟨"GLB_DIE_IDENT", .ashlar, 0, [], 0, 0, 0, [], 0, .dieIdent, .d⟩,
  ⟨"GLB_CTL_COUNT_LO", .ashlar, 8, [], 0, 0, 0, [], 0, .fixed, .c⟩,
  ⟨"GLB_CTL_COUNT_HI", .ashlar, 0xc, [], 0, 0, 0, [], 0, .fixed, .c⟩,
  ⟨"GLB_CTL_COUNT_LO", .keystone, 8, [], 0, 0, 0, [], 0, .fixed, .c⟩,
  ⟨"GLB_CTL_COUNT_HI", .keystone, 0xc, [], 0, 0, 0, [], 0, .fixed, .c⟩,
  ⟨"GLB_PD_STATE_LO", .ashlar, 0x40, [], 0, 0, 0, [], 0, .fixed, .p⟩,
  ⟨"GLB_PD_STATE_HI", .ashlar, 0x44, [], 0, 0, 0, [], 0x80, .fixed, .p⟩,
  ⟨"GLB_PD_CTRL", .ashlar, 0x48, [], 0x7f, 0, 0, [], 0, .fixed, .p⟩,
  ⟨"GLB_PD_STATE_LO", .keystone, 0x40, [], 0, 0, 0, [], 0, .fixed, .p⟩,
  ⟨"GLB_PD_STATE_HI", .keystone, 0x44, [], 0, 0, 0, [], 0, .fixed, .p⟩,
  ⟨"GLB_PD_CTRL", .keystone, 0x48, [], 0x7f, 0, 0, [], 0, .fixed, .p⟩,
  ⟨"GLB_PD_STATE_LO", .footing, 0x40, [], 0, 0, 0, [], 0, .fixed, .p⟩,
  ⟨"GLB_PD_STATE_HI", .footing, 0x44, [], 0, 0, 0, [], 0, .fixed, .p⟩,
  ⟨"GLB_PD_CTRL", .footing, 0x48, [], 0x7f, 0, 0, [], 0, .fixed, .p⟩,
  ⟨"GLB_TEMP_i", .ashlar, 0x100, [(4, 24)], 0, 0, 0, [], 0, .temp, .a⟩,
  ⟨"CKP_CTRL", .ashlar, 0x3000, [], 0, 0, 0xe, [(0x3000, [])], 0, .fixed, .a⟩,
  ⟨"CKP_SPLIT", .ashlar, 0x3004, [], 0, 0, 0xff3f3f, [(0x3000, [])], 0x101e1a, .fixed, .a⟩,
  ⟨"CKP_STATUS", .ashlar, 0x3008, [], 0, 0, 0, [], 0, .fixed, .a⟩,
  ⟨"CKP_POINT_STEP_LO", .ashlar, 0x300c, [], 0, 0, 0, [], 0, .fixed, .a⟩,
  ⟨"CKP_POINT_STEP_HI", .ashlar, 0x3010, [], 0, 0, 0, [], 0, .fixed, .a⟩,
  ⟨"CKP_S2_PATH", .ashlar, 0x3014, [], 0, 0, 0xfffffff, [(0x3000, [])], 0, .fixed, .a⟩,
  ⟨"LDG_CTRL", .ashlar, 0x4000, [], 0, 0, 0, [], 0, .fixed, .a⟩,
  ⟨"LDG_MODULE", .ashlar, 0x4004, [], 0, 0, 0, [], 0, .ldgModule, .a⟩,
  ⟨"LDG_PERIOD_LO", .ashlar, 0x4008, [], 0, 0, 0, [], 0, .fixed, .a⟩,
  ⟨"LDG_PERIOD_HI", .ashlar, 0x400c, [], 0, 0, 0, [], 0, .fixed, .a⟩,
  ⟨"LDG_STATUS", .ashlar, 0x4010, [], 0, 0, 0, [], 0, .fixed, .a⟩,
  ⟨"LDG_BUDGET_i", .ashlar, 0x4100, [(0x10, 21)], 0, 0, 0, [], 0, .budget, .a⟩,
  ⟨"LDG_METER_i", .ashlar, 0x4104, [(0x10, 21)], 0, 0, 0, [], 0, .fixed, .a⟩,
  ⟨"LDG_SCALE_i", .ashlar, 0x4108, [(0x10, 21)], 0, 0, 0, [], 0x400, .fixed, .a⟩,
  ⟨"LDG_TEMP_i", .ashlar, 0x410c, [(0x10, 21)], 0, 0, 0, [], 0x1019, .fixed, .a⟩,
  ⟨"HUP_STATUS", .ashlar, 0x4800, [], 0, 0, 0, [], 0, .fixed, .c⟩,
  ⟨"HUP_COST_c", .ashlar, 0x4804, [(4, 4)], 0, 0, 0, [], 0, .hupCost, .c⟩,
  ⟨"HUP_LAST", .ashlar, 0x4814, [], 0, 0, 0, [], 0, .fixed, .c⟩,
  ⟨"HUP_COUNT", .ashlar, 0x4818, [], 0, 0, 0, [], 0, .fixed, .c⟩,
  ⟨"PLB_CTRL", .ashlar, 0x5000, [], 0, 0, 0xffe, [(0x5000, [])], 0x18, .fixed, .a⟩]

/-- Register rows, part 1 (21 R505-R508 and the owning rules). -/
def regRows1 : List RegRow := [
  ⟨"PLB_TABLE_BASE_LO", .ashlar, 0x5004, [], 0, 0, 0xff800000, [(0x5000, [])], 0, .fixed, .a⟩,
  ⟨"PLB_TABLE_BASE_HI", .ashlar, 0x5008, [], 0, 0, 0xfffff, [(0x5000, [])], 0, .fixed, .a⟩,
  ⟨"PLB_SEED_LO", .ashlar, 0x500c, [], 0, 0, 0xffffffff, [(0x5000, [])], 0, .fixed, .a⟩,
  ⟨"PLB_SEED_HI", .ashlar, 0x5010, [], 0, 0, 0xffffffff, [(0x5000, [])], 0, .fixed, .a⟩,
  ⟨"PLB_STATUS", .ashlar, 0x5014, [], 0, 0, 0, [], 0, .fixed, .a⟩,
  ⟨"PLB_SAMPLED", .ashlar, 0x5018, [], 0, 0, 0, [], 0, .fixed, .a⟩,
  ⟨"PLB_SKIPPED", .ashlar, 0x501c, [], 0, 0, 0, [], 0, .fixed, .a⟩,
  ⟨"ADM_CLASS_c", .ashlar, 0x6000, [(4, 8)], 0xffff, 0, 0, [], 0xf000, .fixed, .a⟩,
  ⟨"XLT_CTRL", .ashlar, 0x7000, [], 0, 0, 0x1e, [(0x7000, [])], 8, .fixed, .a⟩,
  ⟨"XLT_ASID_BASE_LO", .ashlar, 0x7004, [], 0, 0, 0xfffff000, [(0x7000, [])], 0, .fixed, .a⟩,
  ⟨"XLT_ASID_BASE_HI", .ashlar, 0x7008, [], 0, 0, 0xfffff, [(0x7000, [])], 0, .fixed, .a⟩,
  ⟨"XLT_FB_HDR_LO", .ashlar, 0x700c, [], 0, 0, 0xfffff000, [(0x7000, [])], 0, .fixed, .a⟩,
  ⟨"XLT_FB_HDR_HI", .ashlar, 0x7010, [], 0, 0, 0xfffff, [(0x7000, [])], 0, .fixed, .a⟩,
  ⟨"XLT_FB_REC_LO", .ashlar, 0x7014, [], 0, 0, 0xfffff000, [(0x7000, [])], 0, .fixed, .a⟩,
  ⟨"XLT_FB_REC_HI", .ashlar, 0x7018, [], 0, 0, 0xfffff, [(0x7000, [])], 0, .fixed, .a⟩,
  ⟨"XLT_FB_NEXT", .ashlar, 0x7024, [], 0, 0, 0, [], 0, .fixed, .a⟩,
  ⟨"XLT_FB_OLDEST", .ashlar, 0x7028, [], 0, 0, 0, [], 0, .fixed, .a⟩,
  ⟨"XLT_INV_VA_LO", .ashlar, 0x7030, [], 0xfffff000, 0, 0, [], 0, .fixed, .a⟩,
  ⟨"XLT_INV_VA_HI", .ashlar, 0x7034, [], 0x1ffffff, 0, 0, [], 0, .fixed, .a⟩,
  ⟨"XLT_INV_PAGES", .ashlar, 0x7038, [], 0xffffffff, 0, 0, [], 1, .fixed, .a⟩,
  ⟨"XLT_INV_SEQ", .ashlar, 0x7040, [], 0, 0, 0, [], 0xffffffff, .fixed, .a⟩,
  ⟨"XLT_INV_DONE", .ashlar, 0x7044, [], 0, 0, 0, [], 0xffffffff, .fixed, .a⟩,
  ⟨"XLT_STATUS", .ashlar, 0x7048, [], 0, 0, 0, [], 0xffff0000, .fixed, .a⟩,
  ⟨"XLT_CTRL", .keystone, 0x7000, [], 0, 0, 0, [(0x7000, [])], 0, .fixed, .e⟩,
  ⟨"XLT_ASID_BASE_LO", .keystone, 0x7004, [], 0, 0, 0xfffff000, [(0x7000, [])], 0, .fixed, .e⟩,
  ⟨"XLT_ASID_BASE_HI", .keystone, 0x7008, [], 0, 0, 0xfffff, [(0x7000, [])], 0, .fixed, .e⟩,
  ⟨"XLT_INV_VA_LO", .keystone, 0x7030, [], 0xfffff000, 0, 0, [], 0, .fixed, .e⟩,
  ⟨"XLT_INV_VA_HI", .keystone, 0x7034, [], 0x1ffffff, 0, 0, [], 0, .fixed, .e⟩,
  ⟨"XLT_INV_PAGES", .keystone, 0x7038, [], 0xffffffff, 0, 0, [], 1, .fixed, .e⟩,
  ⟨"XLT_INV_SEQ", .keystone, 0x7040, [], 0, 0, 0, [], 0xffffffff, .fixed, .e⟩,
  ⟨"XLT_INV_DONE", .keystone, 0x7044, [], 0, 0, 0, [], 0xffffffff, .fixed, .e⟩,
  ⟨"XLT_STATUS", .keystone, 0x7048, [], 0, 0, 0, [], 0xffff0000, .fixed, .e⟩,
  ⟨"XLT_PCIE_ASID", .keystone, 0x704c, [], 0, 0, 0xffff, [(0x7000, [])], 0, .fixed, .e⟩,
  ⟨"COH_HOME_STATUS_i", .ashlar, 0x8000, [(0x20, 3)], 0, 0, 0, [], 0, .fixed, .a⟩,
  ⟨"COH_DEAD_LO_i", .ashlar, 0x8004, [(0x20, 3)], 0, 0, 0, [], 0, .fixed, .a⟩]

/-- Register rows, part 2 (21 R505-R508 and the owning rules). -/
def regRows2 : List RegRow := [
  ⟨"COH_DEAD_HI_i", .ashlar, 0x8008, [(0x20, 3)], 0, 0, 0, [], 0, .fixed, .a⟩,
  ⟨"COH_RECLAIM_i", .ashlar, 0x800c, [(0x20, 3)], 0, 0, 0, [], 0, .fixed, .a⟩,
  ⟨"COH_DIR_EVICT_i", .ashlar, 0x8010, [(0x20, 3)], 0, 0, 0, [], 0, .fixed, .a⟩,
  ⟨"COH_ATOM_CTRL", .ashlar, 0x8080, [], 0, 0, 0, [], 0, .fixed, .a⟩,
  ⟨"COH_ATOM_COUNT", .ashlar, 0x8084, [], 0, 0, 0, [], 0, .fixed, .a⟩,
  ⟨"BND_CTRL_j", .ashlar, 0x9000, [(0x40, 4)], 0, 0, 0, [], 0, .fixed, .a⟩,
  ⟨"BND_STATUS_j", .ashlar, 0x9004, [(0x40, 4)], 0, 0, 0, [], 0x70000, .fixed, .a⟩,
  ⟨"BND_RX_GOOD_j", .ashlar, 0x9008, [(0x40, 4)], 0, 0, 0, [], 0, .fixed, .a⟩,
  ⟨"BND_TX_MAP_j", .ashlar, 0x900c, [(0x40, 4)], 0, 0, 0, [], 0, .fixed, .a⟩,
  ⟨"BND_ERR_j", .ashlar, 0x9010, [(0x40, 4)], 0, 0, 0, [], 0, .fixed, .a⟩,
  ⟨"BND_EVENTS_j", .ashlar, 0x9014, [(0x40, 4)], 0, 0, 0, [], 0, .fixed, .a⟩,
  ⟨"COH_HOME_STATUS_i", .keystone, 0x8000, [(0x20, 3)], 0, 0, 0, [], 0, .fixed, .e⟩,
  ⟨"COH_DEAD_LO_i", .keystone, 0x8004, [(0x20, 3)], 0, 0, 0, [], 0, .fixed, .e⟩,
  ⟨"COH_DEAD_HI_i", .keystone, 0x8008, [(0x20, 3)], 0, 0, 0, [], 0, .fixed, .e⟩,
  ⟨"COH_RECLAIM_i", .keystone, 0x800c, [(0x20, 3)], 0, 0, 0, [], 0, .fixed, .e⟩,
  ⟨"COH_DIR_EVICT_i", .keystone, 0x8010, [(0x20, 3)], 0, 0, 0, [], 0, .fixed, .e⟩,
  ⟨"COH_ATOM_CTRL", .keystone, 0x8080, [], 0, 0, 0, [], 0, .fixed, .e⟩,
  ⟨"COH_ATOM_COUNT", .keystone, 0x8084, [], 0, 0, 0, [], 0, .fixed, .e⟩,
  ⟨"BND_CTRL_j", .keystone, 0x9000, [(0x40, 3)], 0, 0, 0, [], 0, .fixed, .e⟩,
  ⟨"BND_STATUS_j", .keystone, 0x9004, [(0x40, 3)], 0, 0, 0, [], 0x70000, .fixed, .e⟩,
  ⟨"BND_RX_GOOD_j", .keystone, 0x9008, [(0x40, 3)], 0, 0, 0, [], 0, .fixed, .e⟩,
  ⟨"BND_TX_MAP_j", .keystone, 0x900c, [(0x40, 3)], 0, 0, 0, [], 0, .fixed, .e⟩,
  ⟨"BND_ERR_j", .keystone, 0x9010, [(0x40, 3)], 0, 0, 0, [], 0, .fixed, .e⟩,
  ⟨"BND_EVENTS_j", .keystone, 0x9014, [(0x40, 3)], 0, 0, 0, [], 0, .fixed, .e⟩,
  ⟨"NET_PORT_CFG_n", .ashlar, 0xa000, [(0x40, 2)], 0, 0, 0x1f1f06, [(0xa000, [0x40])], 0, .fixed, .a⟩,
  ⟨"NET_PORT_STATUS_n", .ashlar, 0xa004, [(0x40, 2)], 0, 0, 0, [], 0, .fixed, .a⟩,
  ⟨"NET_PORT_MAC_LO_n", .ashlar, 0xa008, [(0x40, 2)], 0, 0, 0xffffffff, [(0xa000, [0x40])], 0, .macLo, .a⟩,
  ⟨"NET_PORT_MAC_HI_n", .ashlar, 0xa00c, [(0x40, 2)], 0, 0, 0xffff, [(0xa000, [0x40])], 0, .macHi, .a⟩,
  ⟨"NET_PORT_DROPS_n", .ashlar, 0xa010, [(0x40, 2)], 0, 0, 0, [], 0, .fixed, .a⟩,
  ⟨"NET_CTX_BASE_LO", .ashlar, 0xa080, [], 0, 0, 0xff000000, [(0xa000, []), (0xa040, [])], 0, .fixed, .a⟩,
  ⟨"NET_CTX_BASE_HI", .ashlar, 0xa084, [], 0, 0, 0xfffff, [(0xa000, []), (0xa040, [])], 0, .fixed, .a⟩,
  ⟨"CRS_IDLE_LO_c_k", .ashlar, 0xb000, [(0x100, 16), (8, 9)], 0, 0, 0, [], 0, .fixed, .a⟩,
  ⟨"CRS_IDLE_HI_c_k", .ashlar, 0xb004, [(0x100, 16), (8, 9)], 0, 0, 0, [], 0, .fixed, .a⟩,
  ⟨"CRS_IDLE_LO_16_k", .ashlar, 0xd800, [(8, 9)], 0, 0, 0, [], 0, .fixed, .a⟩,
  ⟨"CRS_IDLE_HI_16_k", .ashlar, 0xd804, [(8, 9)], 0, 0, 0, [], 0, .fixed, .a⟩]

/-- Register rows, part 3 (21 R505-R508 and the owning rules). -/
def regRows3 : List RegRow := [
  ⟨"GLB_RESET_CTRL", .ashlar, 0xc000, [], 0, 0, 0, [], 0, .fixed, .a⟩,
  ⟨"GLB_ATTACH_CTRL", .ashlar, 0xc004, [], 0, 0, 0, [], 0, .fixed, .a⟩,
  ⟨"GLB_ATTACH_BASE_LO", .ashlar, 0xc008, [], 0, 0, 0xfffff000, [(0xc004, [])], 0, .fixed, .a⟩,
  ⟨"GLB_ATTACH_BASE_HI", .ashlar, 0xc00c, [], 0, 0, 0xfffff, [(0xc004, [])], 0, .fixed, .a⟩,
  ⟨"GLB_HOLD_BASE_LO", .ashlar, 0xc010, [], 0, 0, 0xfffff000, [(0xc004, [])], 0, .fixed, .a⟩,
  ⟨"GLB_HOLD_BASE_HI", .ashlar, 0xc014, [], 0, 0, 0xfffff, [(0xc004, [])], 0, .fixed, .a⟩,
  ⟨"GLB_ATTACH_EPOCH", .ashlar, 0xc01c, [], 0, 0, 0, [], 0, .fixed, .a⟩,
  ⟨"GLB_HOLD_CTRL", .ashlar, 0xc024, [], 0, 0, 0, [], 0, .fixed, .a⟩,
  ⟨"GLB_HOLD_USED", .ashlar, 0xc028, [], 0, 0, 0, [], 0, .fixed, .a⟩,
  ⟨"GLB_HOLD_RECORDS", .ashlar, 0xc02c, [], 0, 0, 0, [], 0, .fixed, .a⟩,
  ⟨"GLB_HOST_WDOG_CTRL", .keystone, 0xc000, [], 0, 0, 0, [], 0, .fixed, .e⟩,
  ⟨"GLB_HOST_WDOG_STATUS", .keystone, 0xc008, [], 0, 0, 0, [], 0, .fixed, .e⟩,
  ⟨"PLN_STAGE_i", .ashlar, 0xd000, [(4, 16)], 0, 0, 0, [], 0, .fixed, .a⟩,
  ⟨"FLT_CTRL", .ashlar, 0xe000, [], 0, 0, 0xe, [(0xe000, [])], 8, .fixed, .a⟩,
  ⟨"FLT_ROUTE_LO", .ashlar, 0xe004, [], 0, 0, 0xffffffff, [(0xe000, [])], 0, .fixed, .a⟩,
  ⟨"FLT_ROUTE_HI", .ashlar, 0xe008, [], 0, 0, 0xffffffff, [(0xe000, [])], 0, .fixed, .a⟩,
  ⟨"FLT_POLICY_BASE_LO", .ashlar, 0xe00c, [], 0, 0, 0xfffff000, [(0xe000, [])], 0, .fixed, .a⟩,
  ⟨"FLT_POLICY_BASE_HI", .ashlar, 0xe010, [], 0, 0, 0xfffff, [(0xe000, [])], 0, .fixed, .a⟩,
  ⟨"FLT_MSI_ADDR_LO", .ashlar, 0xe014, [], 0, 0, 0xfffffffc, [(0xe000, [])], 0, .fixed, .a⟩,
  ⟨"FLT_MSI_ADDR_HI", .ashlar, 0xe018, [], 0, 0, 0xfffff, [(0xe000, [])], 0, .fixed, .a⟩,
  ⟨"FLT_MSI_DATA", .ashlar, 0xe01c, [], 0, 0, 0xffffffff, [(0xe000, [])], 0, .fixed, .a⟩,
  ⟨"FLT_SEQ_LO", .ashlar, 0xe020, [], 0, 0, 0, [], 0, .fixed, .c⟩,
  ⟨"FLT_SEQ_HI", .ashlar, 0xe024, [], 0, 0, 0, [], 0, .fixed, .c⟩,
  ⟨"FLT_SEQ_LO", .keystone, 0xe020, [], 0, 0, 0, [], 0, .fixed, .c⟩,
  ⟨"FLT_SEQ_HI", .keystone, 0xe024, [], 0, 0, 0, [], 0, .fixed, .c⟩,
  ⟨"FLT_RECOVERY", .ashlar, 0xe028, [], 0, 0, 0, [], 0, .fixed, .a⟩,
  ⟨"FLT_FLAGS", .ashlar, 0xe02c, [], 0, 0xf, 0, [], 0, .fixed, .a⟩,
  ⟨"FLT_LOG_STATUS", .ashlar, 0xe030, [], 0, 0, 0, [], 0, .fixed, .c⟩,
  ⟨"FLT_RING_BASE_LO_r", .ashlar, 0xe100, [(0x20, 16)], 0, 0, 0xfffc0000, [(0xe108, [0x20])], 0, .fixed, .a⟩,
  ⟨"FLT_RING_BASE_HI_r", .ashlar, 0xe104, [(0x20, 16)], 0, 0, 0xfffff, [(0xe108, [0x20])], 0, .fixed, .a⟩,
  ⟨"FLT_RING_CTRL_r", .ashlar, 0xe108, [(0x20, 16)], 0, 0, 2, [(0xe108, [0x20])], 0, .fixed, .a⟩,
  ⟨"FLT_RING_HEAD_r", .ashlar, 0xe10c, [(0x20, 16)], 0, 0, 0, [], 0, .fixed, .a⟩,
  ⟨"FLT_RING_TAIL_r", .ashlar, 0xe110, [(0x20, 16)], 0, 0, 0, [], 0, .fixed, .a⟩,
  ⟨"FLT_RING_OVF_r", .ashlar, 0xe114, [(0x20, 16)], 0, 0, 0, [], 0, .fixed, .a⟩,
  ⟨"FLT_LOG_i", .ashlar, 0xf000, [(0x40, 64), (4, 16)], 0, 0, 0, [], 0, .fixed, .c⟩]

/-- Register rows, part 4 (21 R505-R508 and the owning rules). -/
def regRows4 : List RegRow := [
  ⟨"GLB_BOOT_STATUS", .ashlar, 0x10000, [], 0, 0, 0, [], 0, .fixed, .g⟩,
  ⟨"GLB_IMG_SRC_LO", .ashlar, 0x10004, [], 0xfffff000, 0, 0, [], 0, .fixed, .g⟩,
  ⟨"GLB_IMG_SRC_HI", .ashlar, 0x10008, [], 0xfffff, 0, 0, [], 0, .fixed, .g⟩,
  ⟨"GLB_IMG_LEN", .ashlar, 0x1000c, [], 0xffffffff, 0, 0, [], 0, .fixed, .g⟩,
  ⟨"GLB_IMG_CTRL", .ashlar, 0x10010, [], 0, 0, 0, [], 0, .fixed, .g⟩,
  ⟨"GLB_IMG_PROGRESS", .ashlar, 0x10014, [], 0, 0, 0, [], 0, .fixed, .g⟩,
  ⟨"GLB_CNT_i", .ashlar, 0x10020, [(4, 4)], 0, 0, 0, [], 0, .fixed, .g⟩,
  ⟨"GLB_FUSE", .ashlar, 0x10034, [], 0, 0, 0, [], 0, .fuse, .g⟩,
  ⟨"SEAL_MEAS_m_w", .ashlar, 0x11000, [(0x40, 16), (4, 12)], 0, 0, 0, [], 0, .fixed, .g⟩,
  ⟨"SEAL_EXT_DATA_w", .ashlar, 0x11400, [(4, 12)], 0xffffffff, 0, 0, [], 0, .fixed, .g⟩,
  ⟨"SEAL_JRNL_CTRL_j", .ashlar, 0x11500, [(0x20, 4)], 0, 0, 0xffff003e, [(0x11500, [0x20])], 0x18, .fixed, .a⟩,
  ⟨"SEAL_JRNL_BASE_LO_j", .ashlar, 0x11504, [(0x20, 4)], 0, 0, 0xfffff000, [(0x11500, [0x20])], 0, .fixed, .a⟩,
  ⟨"SEAL_JRNL_BASE_HI_j", .ashlar, 0x11508, [(0x20, 4)], 0, 0, 0xfffff, [(0x11500, [0x20])], 0, .fixed, .a⟩,
  ⟨"SEAL_JRNL_HEAD_j", .ashlar, 0x1150c, [(0x20, 4)], 0x1fffff, 0, 0, [], 0, .fixed, .a⟩,
  ⟨"SEAL_JRNL_TAIL_j", .ashlar, 0x11510, [(0x20, 4)], 0, 0, 0, [], 0, .fixed, .a⟩,
  ⟨"SEAL_JRNL_JOB_LO_j", .ashlar, 0x11514, [(0x20, 4)], 0, 0, 0xffffffff, [(0x11500, [0x20])], 0, .fixed, .a⟩,
  ⟨"SEAL_JRNL_JOB_HI_j", .ashlar, 0x11518, [(0x20, 4)], 0, 0, 0xffffffff, [(0x11500, [0x20])], 0, .fixed, .a⟩,
  ⟨"GLB_MOD_STATUS", .ashlar, 0x12000, [], 0, 0, 0, [], 0x207f, .fixed, .h⟩,
  ⟨"GLB_MOD_INPUT", .ashlar, 0x12004, [], 0, 0, 0, [], 0, .fixed, .h⟩,
  ⟨"GLB_MOD_COOLANT", .ashlar, 0x12008, [], 0, 0, 0, [], 0, .fixed, .h⟩,
  ⟨"GLB_MOD_EVENTS", .ashlar, 0x1200c, [], 0, 0xf, 0, [], 0, .fixed, .h⟩,
  ⟨"BLK_ID", .ashlar, 0x1000000, [(0x1000, 288)], 0, 0, 0, [], 0, .blkId, .b⟩,
  ⟨"BLK_STATE", .ashlar, 0x1000004, [(0x1000, 288)], 0, 0, 0, [], 0, .blkState, .b⟩,
  ⟨"BLK_CTRL", .ashlar, 0x1000008, [(0x1000, 288)], 0, 0, 0, [], 0, .fixed, .b⟩,
  ⟨"BLK_CTX_CTRL_n", .ashlar, 0x1000020, [(0x1000, 288), (8, 4)], 0, 0, 0, [], 0, .fixed, .b⟩,
  ⟨"BLK_CTX_STATUS_n", .ashlar, 0x1000024, [(0x1000, 288), (8, 4)], 0, 0, 0, [], 0, .fixed, .b⟩,
  ⟨"BLK_MASON_CFG_n", .ashlar, 0x1000040, [(0x1000, 288), (4, 4)], 0, 0, 0xff7f, [(0x1000020, [0x1000, 8])], 8, .fixed, .b⟩,
  ⟨"BLK_FP_FLAGS_n", .ashlar, 0x1000080, [(0x1000, 288), (4, 4)], 0, 0x7f, 0, [], 0, .fixed, .b⟩,
  ⟨"BLK_VIOL", .ashlar, 0x10000a0, [(0x1000, 288)], 0, 0x80000000, 0, [], 0, .fixed, .b⟩,
  ⟨"BLK_W1C_EVENTS", .ashlar, 0x10000a4, [(0x1000, 288)], 0, 0, 0, [], 0, .fixed, .b⟩,
  ⟨"BLK_CAST_RAISED_n", .ashlar, 0x10000c0, [(0x1000, 288), (4, 4)], 0, 0, 0, [], 0, .fixed, .b⟩,
  ⟨"BLK_RGN_n_m_r", .ashlar, 0x1000200, [(0x1000, 288), (0x20, 4), (8, 4), (4, 2)], 0, 0, 0xffff1fff, [(0x1000020, [0x1000, 8, 0, 0])], 0, .fixed, .b⟩,
  ⟨"BLK_RGN_EXT_r", .ashlar, 0x1000280, [(0x1000, 288), (4, 4)], 0, 0, 0xffff1fff, [(0x1000020, [0x1000, 0]), (0x1000028, [0x1000, 0]), (0x1000030, [0x1000, 0]), (0x1000038, [0x1000, 0])], 0, .fixed, .b⟩,
  ⟨"BLK_LINTEL_TAG_i", .ashlar, 0x1000300, [(0x1000, 288), (4, 64)], 0, 0, 0, [], 0, .fixed, .b⟩,
  ⟨"RING_SQ_BASE_LO", .ashlar, 0x2000000, [(0x40, 2048)], 0, 0, 0xfffff000, [(0x2000010, [0x40])], 0, .fixed, .a⟩]

/-- Register rows, part 5 (21 R505-R508 and the owning rules). -/
def regRows5 : List RegRow := [
  ⟨"RING_SQ_BASE_HI", .ashlar, 0x2000004, [(0x40, 2048)], 0, 0, 0x1ffffff, [(0x2000010, [0x40])], 0, .fixed, .a⟩,
  ⟨"RING_CQ_BASE_LO", .ashlar, 0x2000008, [(0x40, 2048)], 0, 0, 0xfffff000, [(0x2000010, [0x40])], 0, .fixed, .a⟩,
  ⟨"RING_CQ_BASE_HI", .ashlar, 0x200000c, [(0x40, 2048)], 0, 0, 0x1ffffff, [(0x2000010, [0x40])], 0, .fixed, .a⟩,
  ⟨"RING_CFG", .ashlar, 0x2000010, [(0x40, 2048)], 0, 0, 0xfffffffe, [(0x2000010, [0x40])], 0x9cc, .fixed, .a⟩,
  ⟨"RING_STATUS", .ashlar, 0x2000014, [(0x40, 2048)], 0, 0, 0, [], 0, .fixed, .a⟩,
  ⟨"RING_SQ_HEAD", .ashlar, 0x2000018, [(0x40, 2048)], 0, 0, 0, [], 0, .fixed, .a⟩,
  ⟨"RING_OUTSTANDING", .ashlar, 0x200001c, [(0x40, 2048)], 0, 0, 0, [], 0, .fixed, .a⟩,
  ⟨"RING_MSI_ADDR_LO", .ashlar, 0x2000020, [(0x40, 2048)], 0, 0, 0xfffffffc, [(0x2000010, [0x40])], 0, .fixed, .a⟩,
  ⟨"RING_MSI_ADDR_HI", .ashlar, 0x2000024, [(0x40, 2048)], 0, 0, 0xfffff, [(0x2000010, [0x40])], 0, .fixed, .a⟩,
  ⟨"RING_MSI_DATA", .ashlar, 0x2000028, [(0x40, 2048)], 0, 0, 0xffffffff, [(0x2000010, [0x40])], 0, .fixed, .a⟩,
  ⟨"RING_SEQ", .ashlar, 0x200002c, [(0x40, 2048)], 0, 0, 0, [], 0, .fixed, .a⟩,
  ⟨"RING_SQ_TAIL", .ashlar, 0x4000000, [(0x1000, 2048)], 0, 0, 0, [], 0, .fixed, .a⟩,
  ⟨"RING_CQ_HEAD", .ashlar, 0x4000004, [(0x1000, 2048)], 0x1ffff, 0, 0, [], 0, .fixed, .a⟩,
  ⟨"RING_CQ_TAIL", .ashlar, 0x4000008, [(0x1000, 2048)], 0, 0, 0, [], 0, .fixed, .a⟩,
  ⟨"GLB_TEMP_i", .keystone, 0x100, [(4, 8)], 0, 0, 0, [], 0, .fixed, .e⟩,
  ⟨"GLB_SKT_CTRL_n", .keystone, 0x2000, [(0x10, 3)], 0, 0, 0, [], 0, .fixed, .c⟩,
  ⟨"GLB_SKT_STATUS_n", .keystone, 0x2004, [(0x10, 3)], 0, 0, 0, [], 0, .fixed, .c⟩,
  ⟨"FTG_CTRL", .footing, 0x100, [], 2, 0, 0, [], 2, .fixed, .f⟩,
  ⟨"FTG_ENGINE_STATUS", .footing, 0x104, [], 0, 0, 0, [], 0, .fixed, .f⟩,
  ⟨"FTG_FP_FLAGS", .footing, 0x108, [], 0, 0x7f, 0, [], 0, .fixed, .f⟩,
  ⟨"FTG_PATROL_POS", .footing, 0x10c, [], 0, 0, 0, [], 0, .fixed, .f⟩,
  ⟨"FTG_W1C_EVENTS", .footing, 0x110, [], 0, 0, 0, [], 0, .fixed, .f⟩,
  ⟨"FTG_TEMP", .footing, 0x114, [], 0, 0, 0, [], 0, .fixed, .f⟩,
  ⟨"FTG_SEAL_SEQ", .footing, 0x400, [], 0, 0, 0, [], 0, .fixed, .f⟩,
  ⟨"FTG_SEAL_DIGEST_i", .footing, 0x404, [(4, 12)], 0, 0, 0, [], 0, .fixed, .f⟩,
  ⟨"FTG_HBM_STATUS", .footing, 0x1000, [], 0, 0, 0, [], 0, .hbmStatus, .f⟩,
  ⟨"FTG_PC_STATE_i", .footing, 0x1010, [(4, 4)], 0, 0, 0, [], 0, .fixed, .f⟩,
  ⟨"FTG_RETIRE_CTRL", .footing, 0x1020, [], 0x3f, 0, 0, [], 0, .fixed, .f⟩,
  ⟨"FTG_RETIRE_PROGRESS", .footing, 0x1024, [], 0, 0, 0, [], 0, .fixed, .f⟩]

/-- Every register of the module: its place, its access codes (00 R13), its governing ENABLE and its reset. -/
def regRows : List RegRow :=
  regRows0 ++ regRows1 ++ regRows2 ++ regRows3 ++ regRows4 ++ regRows5

/-- The indexes by which an offset falls in nested strides, if it does. -/
def dimIdx : List (Nat × Nat) → Nat → Option (List Nat)
  | [], r => if r = 0 then some [] else none
  | (st, c) :: ds, r => if r / st < c then (dimIdx ds (r % st)).map (fun l => r / st :: l) else none

/-- The unit of a control-window address, below 20, and its kind. -/
def winOf (a : Nat) : Option (Nat × Win × Nat) :=
  if a < 0xF00000000000 then none
  else
    let u := (a - 0xF00000000000) / 0x10000000
    let o := (a - 0xF00000000000) % 0x10000000
    if u < 4 then some (u, .ashlar, o) else if u < 6 then some (u, .keystone, o)
    else if 8 ≤ u ∧ u < 20 then some (u, .footing, o) else none

/-- The row a window kind and offset fall in, with the indexes. -/
def rowIn (w : Win) (o : Nat) : List RegRow → Option (RegRow × List Nat)
  | [] => none
  | r :: rs =>
    if r.win = w ∧ r.base ≤ o then
      match dimIdx r.dims (o - r.base) with
      | some is => some (r, is)
      | none => rowIn w o rs
    else rowIn w o rs

/-- The register at an address: its unit, row and indexes. -/
def regAt (a : Nat) : Option (Nat × RegRow × List Nat) :=
  match winOf a with
  | none => none
  | some (u, w, o) => (rowIn w o regRows).map (fun p => (u, p.1, p.2))

/-- Nearest edge of sensor `i` in die frame: 0 N, 1 E, 2 S, 3 W (18 R443). -/
def sensorEdge (i : Nat) : Nat :=
  let k := i / 3
  if k < 2 then 0
  else if k < 6 then (if i % 3 = 0 then 3 else if i % 3 = 2 then 1 else if k < 4 then 0 else 2)
  else 2

/-- Reset value of a register row at a unit and indexes. -/
def rowReset (u : Nat) (r : RegRow) (is : List Nat) : Nat :=
  let i := is.getD 0 0
  match r.kind with
  | .fixed => r.rst
  | .dieIdent => u % 4 + (u % 4 / 2) * 16 + (u % 2) * 32 + 288 * 256
  | .temp => ((sensorEdge i + u) % 4) * 0x800
  | .ldgModule => Config.watts + Config.ksAllot * 0x10000
  | .budget => Config.budget i
  | .hupCost => Config.hupCost i
  | .macLo => Config.mac (2 * u + i) % 0x100000000
  | .macHi => Config.mac (2 * u + i) / 0x100000000
  | .fuse => Config.svnFloor + Config.debugLock * 128
  | .blkId => i + (i / 18) * 0x200 + (i % 18) * 0x2000 + (i % 18 / 6) * 0x40000 + u * 0x100000
  | .blkState => if i % 18 < 16 then 0 else 1
  | .hbmStatus => Config.reserve

/-- What a register reads before anything wrote it: its reset value; an offset of no register reads 0 (21 R500). -/
def regReset (a : Nat) : W32 :=
  match regAt a with
  | some (u, r, is) => BitVec.ofNat 32 (rowReset u r is)
  | none => 0

/-- Addresses of the ENABLE words that govern a row's RWL bits at the given unit and indexes. -/
def govAddrs (u : Nat) (r : RegRow) (is : List Nat) : List Nat :=
  r.gov.map (fun g => winBase u + g.1 + ((g.2.zip is).map (fun p => p.1 * p.2)).sum)

/-- The registers that every Ashlar window reports and that have one home, in window 0: LDG_MODULE, HUP_*,
GLB_ATTACH_EPOCH, GLB_BOOT_STATUS, GLB_IMG_*, GLB_CNT_*, GLB_FUSE, SEAL_MEAS, SEAL_EXT, GLB_MOD_* (18 R455, R456,
15 R383, 19 R473, R480, 20 R497). -/
def sharedOff (o : Nat) : Bool :=
  o == 0x4004 || (decide (0x4800 ≤ o) && decide (o < 0x4820)) || o == 0xC01C ||
  (decide (0x10000 ≤ o) && decide (o < 0x11440)) || (decide (0x12000 ≤ o) && decide (o < 0x12010))

/-- The home address of a register: window 0's for a shared register. -/
def canonReg (a : Nat) : Nat :=
  match winOf a with
  | some (_, .ashlar, o) => if sharedOff o then winBase 0 + o else a
  | _ => a

namespace Reg

/-- GLB_DIE_IDENT (01 R38). -/
def GLB_DIE_IDENT (u : Nat) : Nat := winBase u + 0x0
/-- GLB_CTL_COUNT_LO (18 R437). -/
def GLB_CTL_COUNT_LO (u : Nat) : Nat := winBase u + 0x8
/-- GLB_CTL_COUNT_HI (18 R437). -/
def GLB_CTL_COUNT_HI (u : Nat) : Nat := winBase u + 0xc
/-- GLB_PD_STATE_LO (01 R44). -/
def GLB_PD_STATE_LO (u : Nat) : Nat := winBase u + 0x40
/-- GLB_PD_STATE_HI (01 R44). -/
def GLB_PD_STATE_HI (u : Nat) : Nat := winBase u + 0x44
/-- GLB_PD_CTRL (01 R44). -/
def GLB_PD_CTRL (u : Nat) : Nat := winBase u + 0x48
/-- GLB_TEMP_i (18 R455). -/
def GLB_TEMP (u : Nat) (i : Nat) : Nat := winBase u + 0x100 + 0x4 * i
/-- CKP_CTRL (17 R433). -/
def CKP_CTRL (u : Nat) : Nat := winBase u + 0x3000
/-- CKP_SPLIT (17 R433). -/
def CKP_SPLIT (u : Nat) : Nat := winBase u + 0x3004
/-- CKP_STATUS (17 R433). -/
def CKP_STATUS (u : Nat) : Nat := winBase u + 0x3008
/-- CKP_POINT_STEP_LO (17 R433). -/
def CKP_POINT_STEP_LO (u : Nat) : Nat := winBase u + 0x300c
/-- CKP_POINT_STEP_HI (17 R433). -/
def CKP_POINT_STEP_HI (u : Nat) : Nat := winBase u + 0x3010
/-- CKP_S2_PATH (17 R433). -/
def CKP_S2_PATH (u : Nat) : Nat := winBase u + 0x3014
/-- LDG_CTRL (18 R455). -/
def LDG_CTRL (u : Nat) : Nat := winBase u + 0x4000
/-- LDG_MODULE (18 R455). -/
def LDG_MODULE : Nat := winBase 0 + 0x4004
/-- LDG_PERIOD_LO (18 R455). -/
def LDG_PERIOD_LO (u : Nat) : Nat := winBase u + 0x4008
/-- LDG_PERIOD_HI (18 R455). -/
def LDG_PERIOD_HI (u : Nat) : Nat := winBase u + 0x400c
/-- LDG_STATUS (18 R455). -/
def LDG_STATUS (u : Nat) : Nat := winBase u + 0x4010
/-- LDG_BUDGET_i (18 R455). -/
def LDG_BUDGET (u : Nat) (i : Nat) : Nat := winBase u + 0x4100 + 0x10 * i
/-- LDG_METER_i (18 R455). -/
def LDG_METER (u : Nat) (i : Nat) : Nat := winBase u + 0x4104 + 0x10 * i
/-- LDG_SCALE_i (18 R455). -/
def LDG_SCALE (u : Nat) (i : Nat) : Nat := winBase u + 0x4108 + 0x10 * i
/-- LDG_TEMP_i (18 R455). -/
def LDG_TEMP (u : Nat) (i : Nat) : Nat := winBase u + 0x410c + 0x10 * i
/-- HUP_STATUS (18 R456). -/
def HUP_STATUS : Nat := winBase 0 + 0x4800
/-- HUP_COST_c (18 R456). -/
def HUP_COST (i : Nat) : Nat := winBase 0 + 0x4804 + 0x4 * i
/-- HUP_LAST (18 R456). -/
def HUP_LAST : Nat := winBase 0 + 0x4814
/-- HUP_COUNT (18 R456). -/
def HUP_COUNT : Nat := winBase 0 + 0x4818
/-- PLB_CTRL (08 R225). -/
def PLB_CTRL (u : Nat) : Nat := winBase u + 0x5000
/-- PLB_TABLE_BASE_LO (08 R225). -/
def PLB_TABLE_BASE_LO (u : Nat) : Nat := winBase u + 0x5004
/-- PLB_TABLE_BASE_HI (08 R225). -/
def PLB_TABLE_BASE_HI (u : Nat) : Nat := winBase u + 0x5008
/-- PLB_SEED_LO (08 R225). -/
def PLB_SEED_LO (u : Nat) : Nat := winBase u + 0x500c
/-- PLB_SEED_HI (08 R225). -/
def PLB_SEED_HI (u : Nat) : Nat := winBase u + 0x5010
/-- PLB_STATUS (08 R225). -/
def PLB_STATUS (u : Nat) : Nat := winBase u + 0x5014
/-- PLB_SAMPLED (08 R225). -/
def PLB_SAMPLED (u : Nat) : Nat := winBase u + 0x5018
/-- PLB_SKIPPED (08 R225). -/
def PLB_SKIPPED (u : Nat) : Nat := winBase u + 0x501c
/-- ADM_CLASS_c (09 R245). -/
def ADM_CLASS (u : Nat) (i : Nat) : Nat := winBase u + 0x6000 + 0x4 * i
/-- XLT_CTRL (10 R273). -/
def XLT_CTRL (u : Nat) : Nat := winBase u + 0x7000
/-- XLT_ASID_BASE_LO (10 R273). -/
def XLT_ASID_BASE_LO (u : Nat) : Nat := winBase u + 0x7004
/-- XLT_ASID_BASE_HI (10 R273). -/
def XLT_ASID_BASE_HI (u : Nat) : Nat := winBase u + 0x7008
/-- XLT_FB_HDR_LO (10 R273). -/
def XLT_FB_HDR_LO (u : Nat) : Nat := winBase u + 0x700c
/-- XLT_FB_HDR_HI (10 R273). -/
def XLT_FB_HDR_HI (u : Nat) : Nat := winBase u + 0x7010
/-- XLT_FB_REC_LO (10 R273). -/
def XLT_FB_REC_LO (u : Nat) : Nat := winBase u + 0x7014
/-- XLT_FB_REC_HI (10 R273). -/
def XLT_FB_REC_HI (u : Nat) : Nat := winBase u + 0x7018
/-- XLT_FB_NEXT (10 R273). -/
def XLT_FB_NEXT (u : Nat) : Nat := winBase u + 0x7024
/-- XLT_FB_OLDEST (10 R273). -/
def XLT_FB_OLDEST (u : Nat) : Nat := winBase u + 0x7028
/-- XLT_INV_VA_LO (10 R273). -/
def XLT_INV_VA_LO (u : Nat) : Nat := winBase u + 0x7030
/-- XLT_INV_VA_HI (10 R273). -/
def XLT_INV_VA_HI (u : Nat) : Nat := winBase u + 0x7034
/-- XLT_INV_PAGES (10 R273). -/
def XLT_INV_PAGES (u : Nat) : Nat := winBase u + 0x7038
/-- XLT_INV_SEQ (10 R273). -/
def XLT_INV_SEQ (u : Nat) : Nat := winBase u + 0x7040
/-- XLT_INV_DONE (10 R273). -/
def XLT_INV_DONE (u : Nat) : Nat := winBase u + 0x7044
/-- XLT_STATUS (10 R273). -/
def XLT_STATUS (u : Nat) : Nat := winBase u + 0x7048
/-- XLT_PCIE_ASID (10 R273). -/
def XLT_PCIE_ASID (u : Nat) : Nat := winBase u + 0x704c
/-- COH_HOME_STATUS_i (11 R297). -/
def COH_HOME_STATUS (u : Nat) (i : Nat) : Nat := winBase u + 0x8000 + 0x20 * i
/-- COH_DEAD_LO_i (11 R297). -/
def COH_DEAD_LO (u : Nat) (i : Nat) : Nat := winBase u + 0x8004 + 0x20 * i
/-- COH_DEAD_HI_i (11 R297). -/
def COH_DEAD_HI (u : Nat) (i : Nat) : Nat := winBase u + 0x8008 + 0x20 * i
/-- COH_RECLAIM_i (11 R297). -/
def COH_RECLAIM (u : Nat) (i : Nat) : Nat := winBase u + 0x800c + 0x20 * i
/-- COH_DIR_EVICT_i (11 R297). -/
def COH_DIR_EVICT (u : Nat) (i : Nat) : Nat := winBase u + 0x8010 + 0x20 * i
/-- COH_ATOM_CTRL (11 R297). -/
def COH_ATOM_CTRL (u : Nat) : Nat := winBase u + 0x8080
/-- COH_ATOM_COUNT (11 R297). -/
def COH_ATOM_COUNT (u : Nat) : Nat := winBase u + 0x8084
/-- BND_CTRL_j (12 R320). -/
def BND_CTRL (u : Nat) (i : Nat) : Nat := winBase u + 0x9000 + 0x40 * i
/-- BND_STATUS_j (12 R320). -/
def BND_STATUS (u : Nat) (i : Nat) : Nat := winBase u + 0x9004 + 0x40 * i
/-- BND_RX_GOOD_j (12 R320). -/
def BND_RX_GOOD (u : Nat) (i : Nat) : Nat := winBase u + 0x9008 + 0x40 * i
/-- BND_TX_MAP_j (12 R320). -/
def BND_TX_MAP (u : Nat) (i : Nat) : Nat := winBase u + 0x900c + 0x40 * i
/-- BND_ERR_j (12 R320). -/
def BND_ERR (u : Nat) (i : Nat) : Nat := winBase u + 0x9010 + 0x40 * i
/-- BND_EVENTS_j (12 R320). -/
def BND_EVENTS (u : Nat) (i : Nat) : Nat := winBase u + 0x9014 + 0x40 * i
/-- NET_PORT_CFG_n (13 R341). -/
def NET_PORT_CFG (u : Nat) (i : Nat) : Nat := winBase u + 0xa000 + 0x40 * i
/-- NET_PORT_STATUS_n (13 R341). -/
def NET_PORT_STATUS (u : Nat) (i : Nat) : Nat := winBase u + 0xa004 + 0x40 * i
/-- NET_PORT_MAC_LO_n (13 R341). -/
def NET_PORT_MAC_LO (u : Nat) (i : Nat) : Nat := winBase u + 0xa008 + 0x40 * i
/-- NET_PORT_MAC_HI_n (13 R341). -/
def NET_PORT_MAC_HI (u : Nat) (i : Nat) : Nat := winBase u + 0xa00c + 0x40 * i
/-- NET_PORT_DROPS_n (13 R341). -/
def NET_PORT_DROPS (u : Nat) (i : Nat) : Nat := winBase u + 0xa010 + 0x40 * i
/-- NET_CTX_BASE_LO (13 R341). -/
def NET_CTX_BASE_LO (u : Nat) : Nat := winBase u + 0xa080
/-- NET_CTX_BASE_HI (13 R341). -/
def NET_CTX_BASE_HI (u : Nat) : Nat := winBase u + 0xa084
/-- CRS_IDLE_LO_c_k (14 R360). -/
def CRS_IDLE_LO (u : Nat) (i : Nat) (j : Nat) : Nat := winBase u + 0xb000 + 0x100 * i + 0x8 * j
/-- CRS_IDLE_HI_c_k (14 R360). -/
def CRS_IDLE_HI (u : Nat) (i : Nat) (j : Nat) : Nat := winBase u + 0xb004 + 0x100 * i + 0x8 * j
/-- CRS_IDLE_LO_16_k (14 R360). -/
def CRS_IDLE_LO_16 (u : Nat) (i : Nat) : Nat := winBase u + 0xd800 + 0x8 * i
/-- CRS_IDLE_HI_16_k (14 R360). -/
def CRS_IDLE_HI_16 (u : Nat) (i : Nat) : Nat := winBase u + 0xd804 + 0x8 * i
/-- GLB_RESET_CTRL (15 R383). -/
def GLB_RESET_CTRL (u : Nat) : Nat := winBase u + 0xc000
/-- GLB_ATTACH_CTRL (15 R383). -/
def GLB_ATTACH_CTRL (u : Nat) : Nat := winBase u + 0xc004
/-- GLB_ATTACH_BASE_LO (15 R383). -/
def GLB_ATTACH_BASE_LO (u : Nat) : Nat := winBase u + 0xc008
/-- GLB_ATTACH_BASE_HI (15 R383). -/
def GLB_ATTACH_BASE_HI (u : Nat) : Nat := winBase u + 0xc00c
/-- GLB_HOLD_BASE_LO (15 R383). -/
def GLB_HOLD_BASE_LO (u : Nat) : Nat := winBase u + 0xc010
/-- GLB_HOLD_BASE_HI (15 R383). -/
def GLB_HOLD_BASE_HI (u : Nat) : Nat := winBase u + 0xc014
/-- GLB_ATTACH_EPOCH (15 R383). -/
def GLB_ATTACH_EPOCH : Nat := winBase 0 + 0xc01c
/-- GLB_HOLD_CTRL (15 R383). -/
def GLB_HOLD_CTRL (u : Nat) : Nat := winBase u + 0xc024
/-- GLB_HOLD_USED (15 R383). -/
def GLB_HOLD_USED (u : Nat) : Nat := winBase u + 0xc028
/-- GLB_HOLD_RECORDS (15 R383). -/
def GLB_HOLD_RECORDS (u : Nat) : Nat := winBase u + 0xc02c
/-- GLB_HOST_WDOG_CTRL (15 R383). -/
def GLB_HOST_WDOG_CTRL (u : Nat) : Nat := winBase u + 0xc000
/-- GLB_HOST_WDOG_STATUS (15 R383). -/
def GLB_HOST_WDOG_STATUS (u : Nat) : Nat := winBase u + 0xc008
/-- PLN_STAGE_i (14 R358). -/
def PLN_STAGE (u : Nat) (i : Nat) : Nat := winBase u + 0xd000 + 0x4 * i
/-- FLT_CTRL (16 R404). -/
def FLT_CTRL (u : Nat) : Nat := winBase u + 0xe000
/-- FLT_ROUTE_LO (16 R404). -/
def FLT_ROUTE_LO (u : Nat) : Nat := winBase u + 0xe004
/-- FLT_ROUTE_HI (16 R404). -/
def FLT_ROUTE_HI (u : Nat) : Nat := winBase u + 0xe008
/-- FLT_POLICY_BASE_LO (16 R404). -/
def FLT_POLICY_BASE_LO (u : Nat) : Nat := winBase u + 0xe00c
/-- FLT_POLICY_BASE_HI (16 R404). -/
def FLT_POLICY_BASE_HI (u : Nat) : Nat := winBase u + 0xe010
/-- FLT_MSI_ADDR_LO (16 R404). -/
def FLT_MSI_ADDR_LO (u : Nat) : Nat := winBase u + 0xe014
/-- FLT_MSI_ADDR_HI (16 R404). -/
def FLT_MSI_ADDR_HI (u : Nat) : Nat := winBase u + 0xe018
/-- FLT_MSI_DATA (16 R404). -/
def FLT_MSI_DATA (u : Nat) : Nat := winBase u + 0xe01c
/-- FLT_SEQ_LO (16 R404). -/
def FLT_SEQ_LO (u : Nat) : Nat := winBase u + 0xe020
/-- FLT_SEQ_HI (16 R404). -/
def FLT_SEQ_HI (u : Nat) : Nat := winBase u + 0xe024
/-- FLT_RECOVERY (16 R404). -/
def FLT_RECOVERY (u : Nat) : Nat := winBase u + 0xe028
/-- FLT_FLAGS (16 R404). -/
def FLT_FLAGS (u : Nat) : Nat := winBase u + 0xe02c
/-- FLT_LOG_STATUS (16 R404). -/
def FLT_LOG_STATUS (u : Nat) : Nat := winBase u + 0xe030
/-- FLT_RING_BASE_LO_r (16 R404). -/
def FLT_RING_BASE_LO (u : Nat) (i : Nat) : Nat := winBase u + 0xe100 + 0x20 * i
/-- FLT_RING_BASE_HI_r (16 R404). -/
def FLT_RING_BASE_HI (u : Nat) (i : Nat) : Nat := winBase u + 0xe104 + 0x20 * i
/-- FLT_RING_CTRL_r (16 R404). -/
def FLT_RING_CTRL (u : Nat) (i : Nat) : Nat := winBase u + 0xe108 + 0x20 * i
/-- FLT_RING_HEAD_r (16 R404). -/
def FLT_RING_HEAD (u : Nat) (i : Nat) : Nat := winBase u + 0xe10c + 0x20 * i
/-- FLT_RING_TAIL_r (16 R404). -/
def FLT_RING_TAIL (u : Nat) (i : Nat) : Nat := winBase u + 0xe110 + 0x20 * i
/-- FLT_RING_OVF_r (16 R404). -/
def FLT_RING_OVF (u : Nat) (i : Nat) : Nat := winBase u + 0xe114 + 0x20 * i
/-- FLT_LOG_i (16 R404). -/
def FLT_LOG (u : Nat) (i : Nat) (j : Nat) : Nat := winBase u + 0xf000 + 0x40 * i + 0x4 * j
/-- GLB_BOOT_STATUS (19 R480). -/
def GLB_BOOT_STATUS : Nat := winBase 0 + 0x10000
/-- GLB_IMG_SRC_LO (19 R480). -/
def GLB_IMG_SRC_LO : Nat := winBase 0 + 0x10004
/-- GLB_IMG_SRC_HI (19 R480). -/
def GLB_IMG_SRC_HI : Nat := winBase 0 + 0x10008
/-- GLB_IMG_LEN (19 R480). -/
def GLB_IMG_LEN : Nat := winBase 0 + 0x1000c
/-- GLB_IMG_CTRL (19 R480). -/
def GLB_IMG_CTRL : Nat := winBase 0 + 0x10010
/-- GLB_IMG_PROGRESS (19 R480). -/
def GLB_IMG_PROGRESS : Nat := winBase 0 + 0x10014
/-- GLB_CNT_i (19 R480). -/
def GLB_CNT (i : Nat) : Nat := winBase 0 + 0x10020 + 0x4 * i
/-- GLB_FUSE (19 R480). -/
def GLB_FUSE : Nat := winBase 0 + 0x10034
/-- SEAL_MEAS_m_w (19 R480). -/
def SEAL_MEAS (i : Nat) (j : Nat) : Nat := winBase 0 + 0x11000 + 0x40 * i + 0x4 * j
/-- SEAL_EXT_DATA_w (19 R480). -/
def SEAL_EXT_DATA (i : Nat) : Nat := winBase 0 + 0x11400 + 0x4 * i
/-- SEAL_JRNL_CTRL_j (19 R480). -/
def SEAL_JRNL_CTRL (u : Nat) (i : Nat) : Nat := winBase u + 0x11500 + 0x20 * i
/-- SEAL_JRNL_BASE_LO_j (19 R480). -/
def SEAL_JRNL_BASE_LO (u : Nat) (i : Nat) : Nat := winBase u + 0x11504 + 0x20 * i
/-- SEAL_JRNL_BASE_HI_j (19 R480). -/
def SEAL_JRNL_BASE_HI (u : Nat) (i : Nat) : Nat := winBase u + 0x11508 + 0x20 * i
/-- SEAL_JRNL_HEAD_j (19 R480). -/
def SEAL_JRNL_HEAD (u : Nat) (i : Nat) : Nat := winBase u + 0x1150c + 0x20 * i
/-- SEAL_JRNL_TAIL_j (19 R480). -/
def SEAL_JRNL_TAIL (u : Nat) (i : Nat) : Nat := winBase u + 0x11510 + 0x20 * i
/-- SEAL_JRNL_JOB_LO_j (19 R480). -/
def SEAL_JRNL_JOB_LO (u : Nat) (i : Nat) : Nat := winBase u + 0x11514 + 0x20 * i
/-- SEAL_JRNL_JOB_HI_j (19 R480). -/
def SEAL_JRNL_JOB_HI (u : Nat) (i : Nat) : Nat := winBase u + 0x11518 + 0x20 * i
/-- GLB_MOD_STATUS (20 R497). -/
def GLB_MOD_STATUS : Nat := winBase 0 + 0x12000
/-- GLB_MOD_INPUT (20 R497). -/
def GLB_MOD_INPUT : Nat := winBase 0 + 0x12004
/-- GLB_MOD_COOLANT (20 R497). -/
def GLB_MOD_COOLANT : Nat := winBase 0 + 0x12008
/-- GLB_MOD_EVENTS (20 R497). -/
def GLB_MOD_EVENTS : Nat := winBase 0 + 0x1200c
/-- BLK_ID (03 R74). -/
def BLK_ID (u : Nat) (i : Nat) : Nat := winBase u + 0x1000000 + 0x1000 * i
/-- BLK_STATE (03 R74). -/
def BLK_STATE (u : Nat) (i : Nat) : Nat := winBase u + 0x1000004 + 0x1000 * i
/-- BLK_CTRL (03 R74). -/
def BLK_CTRL (u : Nat) (i : Nat) : Nat := winBase u + 0x1000008 + 0x1000 * i
/-- BLK_CTX_CTRL_n (03 R78). -/
def BLK_CTX_CTRL (u : Nat) (i : Nat) (j : Nat) : Nat := winBase u + 0x1000020 + 0x1000 * i + 0x8 * j
/-- BLK_CTX_STATUS_n (03 R78). -/
def BLK_CTX_STATUS (u : Nat) (i : Nat) (j : Nat) : Nat := winBase u + 0x1000024 + 0x1000 * i + 0x8 * j
/-- BLK_MASON_CFG_n (03 R86). -/
def BLK_MASON_CFG (u : Nat) (i : Nat) (j : Nat) : Nat := winBase u + 0x1000040 + 0x1000 * i + 0x4 * j
/-- BLK_FP_FLAGS_n (02 R69). -/
def BLK_FP_FLAGS (u : Nat) (i : Nat) (j : Nat) : Nat := winBase u + 0x1000080 + 0x1000 * i + 0x4 * j
/-- BLK_VIOL (03 R101). -/
def BLK_VIOL (u : Nat) (i : Nat) : Nat := winBase u + 0x10000a0 + 0x1000 * i
/-- BLK_W1C_EVENTS (16 R403). -/
def BLK_W1C_EVENTS (u : Nat) (i : Nat) : Nat := winBase u + 0x10000a4 + 0x1000 * i
/-- BLK_CAST_RAISED_n (08 R216). -/
def BLK_CAST_RAISED (u : Nat) (i : Nat) (j : Nat) : Nat := winBase u + 0x10000c0 + 0x1000 * i + 0x4 * j
/-- BLK_RGN_n_m_r (03 R99). -/
def BLK_RGN (u : Nat) (i : Nat) (j : Nat) (k : Nat) (l : Nat) : Nat := winBase u + 0x1000200 + 0x1000 * i + 0x20 * j + 0x8 * k + 0x4 * l
/-- BLK_RGN_EXT_r (03 R99). -/
def BLK_RGN_EXT (u : Nat) (i : Nat) (j : Nat) : Nat := winBase u + 0x1000280 + 0x1000 * i + 0x4 * j
/-- BLK_LINTEL_TAG_i (05 R139). -/
def BLK_LINTEL_TAG (u : Nat) (i : Nat) (j : Nat) : Nat := winBase u + 0x1000300 + 0x1000 * i + 0x4 * j
/-- RING_SQ_BASE_LO (09 R231). -/
def RING_SQ_BASE_LO (u : Nat) (i : Nat) : Nat := winBase u + 0x2000000 + 0x40 * i
/-- RING_SQ_BASE_HI (09 R231). -/
def RING_SQ_BASE_HI (u : Nat) (i : Nat) : Nat := winBase u + 0x2000004 + 0x40 * i
/-- RING_CQ_BASE_LO (09 R231). -/
def RING_CQ_BASE_LO (u : Nat) (i : Nat) : Nat := winBase u + 0x2000008 + 0x40 * i
/-- RING_CQ_BASE_HI (09 R231). -/
def RING_CQ_BASE_HI (u : Nat) (i : Nat) : Nat := winBase u + 0x200000c + 0x40 * i
/-- RING_CFG (09 R231). -/
def RING_CFG (u : Nat) (i : Nat) : Nat := winBase u + 0x2000010 + 0x40 * i
/-- RING_STATUS (09 R231). -/
def RING_STATUS (u : Nat) (i : Nat) : Nat := winBase u + 0x2000014 + 0x40 * i
/-- RING_SQ_HEAD (09 R231). -/
def RING_SQ_HEAD (u : Nat) (i : Nat) : Nat := winBase u + 0x2000018 + 0x40 * i
/-- RING_OUTSTANDING (09 R231). -/
def RING_OUTSTANDING (u : Nat) (i : Nat) : Nat := winBase u + 0x200001c + 0x40 * i
/-- RING_MSI_ADDR_LO (09 R231). -/
def RING_MSI_ADDR_LO (u : Nat) (i : Nat) : Nat := winBase u + 0x2000020 + 0x40 * i
/-- RING_MSI_ADDR_HI (09 R231). -/
def RING_MSI_ADDR_HI (u : Nat) (i : Nat) : Nat := winBase u + 0x2000024 + 0x40 * i
/-- RING_MSI_DATA (09 R231). -/
def RING_MSI_DATA (u : Nat) (i : Nat) : Nat := winBase u + 0x2000028 + 0x40 * i
/-- RING_SEQ (09 R231). -/
def RING_SEQ (u : Nat) (i : Nat) : Nat := winBase u + 0x200002c + 0x40 * i
/-- RING_SQ_TAIL (09 R231). -/
def RING_SQ_TAIL (u : Nat) (i : Nat) : Nat := winBase u + 0x4000000 + 0x1000 * i
/-- RING_CQ_HEAD (09 R231). -/
def RING_CQ_HEAD (u : Nat) (i : Nat) : Nat := winBase u + 0x4000004 + 0x1000 * i
/-- RING_CQ_TAIL (09 R231). -/
def RING_CQ_TAIL (u : Nat) (i : Nat) : Nat := winBase u + 0x4000008 + 0x1000 * i
/-- GLB_SKT_CTRL_n (06 R173). -/
def GLB_SKT_CTRL (u : Nat) (i : Nat) : Nat := winBase u + 0x2000 + 0x10 * i
/-- GLB_SKT_STATUS_n (06 R173). -/
def GLB_SKT_STATUS (u : Nat) (i : Nat) : Nat := winBase u + 0x2004 + 0x10 * i
/-- FTG_CTRL (07 R206). -/
def FTG_CTRL (u : Nat) : Nat := winBase u + 0x100
/-- FTG_ENGINE_STATUS (07 R206). -/
def FTG_ENGINE_STATUS (u : Nat) : Nat := winBase u + 0x104
/-- FTG_FP_FLAGS (07 R206). -/
def FTG_FP_FLAGS (u : Nat) : Nat := winBase u + 0x108
/-- FTG_PATROL_POS (07 R206). -/
def FTG_PATROL_POS (u : Nat) : Nat := winBase u + 0x10c
/-- FTG_W1C_EVENTS (16 R403). -/
def FTG_W1C_EVENTS (u : Nat) : Nat := winBase u + 0x110
/-- FTG_TEMP (18 R455). -/
def FTG_TEMP (u : Nat) : Nat := winBase u + 0x114
/-- FTG_SEAL_SEQ (07 R206). -/
def FTG_SEAL_SEQ (u : Nat) : Nat := winBase u + 0x400
/-- FTG_SEAL_DIGEST_i (07 R206). -/
def FTG_SEAL_DIGEST (u : Nat) (i : Nat) : Nat := winBase u + 0x404 + 0x4 * i
/-- FTG_HBM_STATUS (06 R166). -/
def FTG_HBM_STATUS (u : Nat) : Nat := winBase u + 0x1000
/-- FTG_PC_STATE_i (06 R166). -/
def FTG_PC_STATE (u : Nat) (i : Nat) : Nat := winBase u + 0x1010 + 0x4 * i
/-- FTG_RETIRE_CTRL (06 R166). -/
def FTG_RETIRE_CTRL (u : Nat) : Nat := winBase u + 0x1020
/-- FTG_RETIRE_PROGRESS (06 R166). -/
def FTG_RETIRE_PROGRESS (u : Nat) : Nat := winBase u + 0x1024

end Reg

end Sys2Proof.Machine
end

