-- ==== Sys2Proof/Machine/State.lean ====
section
/-! DEFINITION. The state of the module as plain data: every register (one sparse table over the physical addresses
of the control windows), the addressed memories, and every piece of architectural state that a rule of the spec
gives a unit without a register of its own. Reasons a step can stop, and `State.reset`, stand here too. -/

namespace Sys2Proof.Machine

/-- The reasons a step can stop with a fault. -/
inductive Fault where
  /-- No meaning raises it in this model: every access the spec forbids is refused or completed with an error by the
  rule that owns it, so nothing stops. Safe: it would only end a run early. -/
  | noSuchAddress (a : Nat)
  deriving DecidableEq, Repr

/-- The reasons a step is refused. -/
inductive Refusal where
  /-- Raised by an arm of `exec` whose command has no meaning yet. Safe: a run ends early. -/
  | notModelled (mnemonic : String)
  /-- Raised by a meaning whose operands no sender can form (a length the rule's field cannot hold, see WellFormed).
  Safe: a run ends early on a command the hardware never receives. -/
  | illFormed
  deriving DecidableEq, Repr

/-- The kind of a message the block sends. `args` and `data` are as each constructor says. -/
inductive MK where
  /-- Interrupt write: args address, data word (09 R237, 16 R388). -/
  | msi
  /-- A response to a requester outside the block: args request code, status; data the bytes returned. -/
  | response
  /-- An error response: args reason, detail. -/
  | errorResponse
  /-- A refused access from outside: args reason, detail. -/
  | refusal
  /-- Access fault or Unsupported Request: args 0 core, 1 PCIe (21 R501, R503). -/
  | accessFault
  /-- Value of a register read: args address, value (21 R513). -/
  | readValue
  /-- A coherence message: args code, line, from agent, to agent (11 R282). -/
  | coherence
  /-- A bulk transfer over the Bond joints: args from unit, to unit, bytes (11 R282, R283). -/
  | bulk
  /-- An MGT message: args code, from unit, to unit, then operands. -/
  | mgt
  /-- A Bond ticket: args unit, joint, type, epoch, width (12 R306). -/
  | ticket
  /-- A Bond flit action: args unit, joint, code, sequence number. -/
  | flit
  /-- A network packet: args die, port (8 + p for a BLK message to die p, 14 R352), kind (0 SEND 1 WRITE 2 READ request 3 READ response
  4 acknowledge 5 NAK 6 CNP 7 Pollek DATA 8 Pollek ACK 9 Pollek NAK 10 raw frame), context, PSN, then what the kind carries; data the
  frame on the wire, or the BLK message. -/
  | packet
  /-- A journal, seal or management frame: args code, tag; data the frame. -/
  | frame
  /-- A retirement of an item as its COMPLETE/ACCEPT/REFUSE record: args die, ring, kind, reason, detail, seq. -/
  | record
  /-- A PCIe completion: args keystone, status 0 success 1 Unsupported Request 2 Completer Abort. -/
  | pcie
  deriving DecidableEq, Repr

/-- A message sent. -/
structure Msg where
  kind : MK
  args : List Nat
  data : List Byte
  deriving DecidableEq, Repr

/-- Who asked for a power transition (01 R43). -/
inductive ReqOrg where
  /-- GLB_PD_CTRL of control window `u`. -/
  | ctrl (u : Nat)
  /-- The recovery `num` of the fault unit of unit `owner`. -/
  | fault (owner num : Nat)
  /-- A POWER item. -/
  | item (die ring seq : Nat)
  deriving DecidableEq, Repr

/-- A power request (01 R43). -/
structure PwrReq where
  dom : Nat
  on : Bool
  org : ReqOrg
  deriving DecidableEq, Repr

/-- A power sequencer: its queue, and the transition in progress (01 R43). -/
structure Sequencer where
  queue : List PwrReq
  cur : Option PwrReq
  deriving DecidableEq, Repr

/-- Containment domains of 16 R394. -/
inductive Dom where
  | block (d n : Nat)
  | course (d c : Nat)
  | bay (d b : Nat)
  | footing (h : Nat)
  | socket (n : Nat)
  | cores (k : Nat)
  | joint (u j : Nat)
  | port (n : Nat)
  | ashlar (d : Nat)
  | keystone (k : Nat)
  | module
  deriving DecidableEq, Repr

/-- A fault record before it takes its PHASE (16 R385). -/
structure FRec where
  seq : Nat
  origin : Nat
  /-- FLAGS without PHASE: bit 1 COALESCED, 2 ESCALATED, 3 CONSEQUENT, 4 QUEUED, 5 POLICY. -/
  flags : Nat
  time : Nat
  reason : Nat
  detail : Nat
  level : Nat
  kind : Nat
  source : Nat
  count : Nat
  recovery : Nat
  data : List Byte
  deriving DecidableEq, Repr

/-- An overflow entry of a fault ring (16 R390). -/
structure OvfEntry where
  kind : Nat
  source : Nat
  first : FRec
  last : FRec
  count : Nat
  /-- A drain has written its first record and not yet its last (16 R391). -/
  half : Bool
  deriving DecidableEq, Repr

/-- What a fault ring holds beside its registers: overflow entries in the order taken, waiting FATAL records, and
the figures of the drain in progress (16 R390-R392). -/
structure FRingX where
  ovf : List OvfEntry
  waiting : List FRec
  total : Nat
  keys : Nat
  loSeq : Nat
  hiSeq : Nat
  deriving DecidableEq, Repr

/-- A recovery (16 R395). -/
structure Recovery where
  owner : Nat
  num : Nat
  dom : Dom
  /-- The level it runs at. -/
  level : Nat
  seq : Nat
  /-- Counter value when it was raised, and when its action started. -/
  raised : Nat
  start : Nat
  dieSlot : Bool
  pkgSlot : Bool
  /-- A package slot has been asked for and not granted. -/
  pkgAsked : Bool
  /-- It waited for a slot (QUEUED). -/
  waited : Bool
  /-- Its action has begun. -/
  running : Bool
  /-- The die goes through DIE_COLD (16 R396). -/
  cold : Bool
  reason : Nat
  detail : Nat
  deriving DecidableEq, Repr

/-- A calendar reservation: resource code, slot, rate in bytes per CK_ARITH cycle (09 R241). -/
structure Resv where
  res : Nat
  slot : Nat
  rate : Nat
  deriving DecidableEq, Repr

/-- An energy commitment: budget (32 * die + index, 0-20 as the registers number them), ledger period of that die, µJ (09 R243; 01 R46). -/
structure Charge where
  budget : Nat
  period : Nat
  uj : Nat
  deriving DecidableEq, Repr

/-- A held translation: a run of `len` bytes, contiguous in both address spaces (10 R263). -/
structure Extent where
  va : Nat
  pa : Nat
  len : Nat
  deriving DecidableEq, Repr

/-- An accepted item, until its COMPLETE record is written (09 R239). -/
structure Item where
  die : Nat
  ring : Nat
  seq : Nat
  tag : Nat
  opcode : Nat
  flags : Nat
  asid : Nat
  /-- The 64 bytes of the descriptor as admitted. -/
  desc : List Byte
  /-- The parameter block, bindings or manifest copied at admission. -/
  param : List Byte
  obs : Nat
  start : Nat
  bound : Nat
  started : Bool
  /-- Power domains used in the sense of R247. -/
  uses : List Nat
  extents : List Extent
  resv : List Resv
  charges : List Charge
  /-- Charges of the same work with every scale at 1, by budget (18 R445). -/
  pred : List (Nat × Nat)
  /-- The detail of the cause of R247 that it met, 0 for none. -/
  late : Nat
  /-- The reason and detail it must end with, when a fault already decided it. -/
  fate : Option (Nat × Nat)
  /-- Plan handle, group, context or engine it works on. -/
  obj : Nat
  /-- It has bytes in the holding area (15 R379). -/
  held : Bool
  /-- Completion FLAGS and AUX (09 R236). -/
  cflags : Nat
  caux : Nat
  /-- DIGEST and AUX of its journal entry, when a rule other than KIND 8 gives them (19 R475): kind, digest, aux; for KIND 1 the Scree keys
  in place of the aux, whose digest takes the completion FLAGS. -/
  jrnl : Option (Nat × List Byte × List Byte)
  /-- The energy ledger moved its start (14 R359). -/
  eMoved : Bool
  /-- How far an item of several steps has come: the write of a POINT in hand (17 R413), the command identifier of an NVMe item (13 R339), 2 for a
  LOAD that waits for a Course that is WAKING (03 R103). -/
  phase : Nat
  deriving DecidableEq, Repr

/-- What a ring holds beside its registers: the observation time of each unconsumed entry, oldest first, whether its
front entry is parked (09 R230, 10 R265), whether its front entry was looked at and waits for room or extents (09 R238, 10 R263), the
descriptor that admission read and checked before it parked, and whether a batch answered so far denies one of its pages (10 R268). -/
structure RingX where
  obs : List Nat
  parked : Bool
  waits : Bool
  desc : Option (List Byte)
  denied : Bool
  deriving DecidableEq, Repr

/-- A cached leaf (10 R262). `bay` 0-2 for a Bay cache, 3 for the die (or the I/O unit's) cache. -/
structure XEntry where
  bay : Nat
  asid : Nat
  va : Nat
  size : Nat
  pa : Nat
  rights : Nat
  deriving DecidableEq, Repr

/-- A page-fault record of an open or closed batch (10 R266). -/
structure PFRec where
  va : Nat
  asid : Nat
  ring : Nat
  seq : Nat
  need : Nat
  level : Nat
  tag : Nat
  deriving DecidableEq, Repr

/-- An invalidation posted and not yet acknowledged (10 R269). -/
structure Inv where
  seq : Nat
  kind : Nat
  asid : Nat
  va : Nat
  pages : Nat
  /-- Items (die, ring, SEQ) and registered regions (die, key index) that hold an overlapping translation since before the post. -/
  items : List (Nat × Nat × Nat)
  regions : List (Nat × Nat)
  deriving DecidableEq, Repr

/-- A translation unit: of an Ashlar die (0-3) or of a Keystone's I/O unit (4-5). -/
structure XUnit where
  cache : List XEntry
  batch : List PFRec
  opened : Nat
  /-- Closed batches the driver has not answered, oldest first: number and records. -/
  closed : List (Nat × List PFRec)
  inv : List Inv
  deriving DecidableEq, Repr

/-- The CONFIG component of an image (19 R462). -/
structure ImgCfg where
  /-- Block map codes by die * 288 + index: 0 BAD, 1 ALLOC, 2 SPARE; unlisted as the shipped map. -/
  map : Tab Nat
  reserve : List Nat
  macs : List Nat
  watts : Nat
  ksAllot : Nat
  /-- Four lists of 21 budgets in µJ. -/
  budgets : List (List Nat)
  /-- Fourteen rows: c85 in fJ, slope. -/
  coefs : List (Nat × Nat)
  /-- LIMIT and TRIP of the logic dies, then of the stacks. -/
  limits : List Nat
  costs : List Nat
  pen : Nat
  deriving DecidableEq, Repr

/-- What a slot's bytes decode to (19 R460). -/
structure Img where
  digest : List Byte
  svn : Nat
  comps : List (List Byte)
  cfg : ImgCfg
  /-- Authentic under R461. -/
  authentic : Bool
  wellFormed : Bool
  deriving DecidableEq, Repr

/-- A slot and its record (19 R459). `state` is 0xFF, 0x7F or 0x3F. -/
structure Slot where
  sequence : Nat
  state : Nat
  recDigest : List Byte
  img : Img
  deriving DecidableEq, Repr

/-- The health record of the flash (19 R458): pseudo-channel states by stack * 64 + pc (2 RETIRED), Block map changes
by die * 288 + index (a code of BLK_STATE), and each stack's relocation map. -/
structure Health where
  pcs : Tab Nat
  map : Tab Nat
  deriving DecidableEq, Repr

/-- The configuration flash (19 R458). -/
structure Flash where
  slots : List Slot
  health : Health
  counters : List Nat
  /-- Records of 64 bytes, oldest first. -/
  archive : List (List Byte)
  deriving DecidableEq, Repr

/-- What a persistent store writes (18 R451). -/
inductive StoreWork where
  /-- Counter `i` advances by one. -/
  | counter (i : Nat)
  /-- The fatal log entry `i` of die `d`. -/
  | log (d i : Nat)
  /-- The health record, with these contents. -/
  | health (h : Health)
  /-- One step of the image update (19 R469): 0 erase the record, n block n - 1, 10000 the final programming. -/
  | image (step : Nat)
  deriving DecidableEq, Repr

/-- A live image update (19 R469). -/
structure Update where
  target : Nat
  src : Nat
  len : Nat
  img : Img
  written : List Byte
  deriving DecidableEq, Repr

/-- A treatment journal beside its registers (19 R474). -/
structure Journal where
  hash : List Byte
  num : Nat
  sealNum : Nat
  sealDigest : List Byte
  deriving DecidableEq, Repr

/-- The management rail: rails, pins and straps (20 R487-R493). -/
structure ModuleX where
  rail : Bool
  pkgRails : Bool
  powerGood : Bool
  /-- MOD_RESET_N is low. -/
  inReset : Bool
  /-- The internal input switch is closed. -/
  switch : Bool
  /-- The module is at L4 (16 R397). -/
  l4 : Bool
  /-- FAULT_N and THERM_TRIP_N are driven low. -/
  faultN : Bool
  tripN : Bool
  /-- PCIE_PERST_N[k] is low. -/
  perst : List Bool
  i3c : Option Nat
  eid : Option Nat
  /-- Lowest input of the preceding and of the current ledger period, 10 mV. -/
  vPrev : Nat
  vNow : Nat
  /-- MARGIN has been entered and its first record written. -/
  marginTold : Bool
  /-- The boot sequence under way follows a MODULE_WARM (19 R467). -/
  warm : Bool
  /-- Dies that reported the loss of the reference (18 R436). -/
  refLost : List Nat
  /-- A MODULE_COLD waits for the persistent store in progress (20 R496). -/
  coldDue : Bool
  deriving DecidableEq, Repr

/-- The ledger of a die beside its registers (18 R443-R449). -/
structure LedgerX where
  /-- Registers written since the last boundary, by index (21 is LDG_MODULE), with the value in effect until the next (18 R454). -/
  pendB : List (Nat × Nat)
  /-- µJ metered, and predicted with k = 1, in the current window, by budget. -/
  winM : List Nat
  winP : List Nat
  /-- Budgets stalled until the boundary (18 R449). -/
  stalled : List Nat
  /-- Derated budgets, each with its d in 64ths (18 R448); a budget not listed has d = 1. -/
  derated : List (Nat × Nat)
  /-- Neighbours' edge readings in effect this period, and those arrived for the next: (sensor code, quarter degrees). -/
  nbr : List (Nat × Nat)
  nbrNext : List (Nat × Nat)
  /-- Standing commitments of completed items for the current period (18 R447). -/
  kept : List Charge
  deriving DecidableEq, Repr

/-- The hold-up store and the persistent stores (18 R450-R452). -/
structure Holdup where
  queue : List StoreWork
  cur : Option StoreWork
  /-- Stores refused with HOLDUP_LOW that the Plinth retries each period. -/
  retry : List StoreWork
  deriving DecidableEq, Repr

/-- A caching agent's copy of a line (11 R277): `line` is the home address divided by 128; `st` 1 S, 2 E, 3 M. -/
structure Copy where
  agent : Nat
  line : Nat
  st : Nat
  data : List Byte
  deriving DecidableEq, Repr

/-- A directory entry of a home (11 R278): the line, the agent it is EXCLUSIVE to plus 1 (0 for SHARED), and the agents
whose presence bits are set. Lines without an entry are UNCACHED. -/
structure DirEnt where
  home : Nat
  line : Nat
  excl : Nat
  pres : List Nat
  deriving DecidableEq, Repr

/-- The holding area of a die beside its registers (15 R377-R381): the next SEQ; the writes stalled on a full log (ring, item SEQ,
address, bytes); the items (ring, SEQ) that have done everything but those; and the Keystones whose memory's writes the die diverts. -/
structure HoldX where
  seq : Nat
  stalled : List (Nat × Nat × Nat × List Byte)
  ending : List (Nat × Nat)
  away : List Nat
  deriving DecidableEq, Repr

/-- The attach record and host-reset state of a die or Keystone (15 R371, R374). -/
structure HostX where
  /-- Attach-record generation g, per die. -/
  gen : Nat
  /-- A field outside DRIVER has changed since the last rewrite. -/
  dirty : Bool
  /-- DETACHED_AT. -/
  detachedAt : Nat
  deriving DecidableEq, Repr

/-- A Hod operation of a context (04 R121, 05 R137): its ordinal in the run, the counter it raises (15 none), the descriptor,
the generation of a lintel issue (0 otherwise), whether its issue is held, and which of its two completions have come. -/
structure HodOp where
  id : Nat
  ctr : Nat
  desc : Nat
  gen : Nat
  held : Bool
  actual : Bool
  planned : Bool
  deriving DecidableEq, Repr

/-- A Mason operation issued and not complete: the instruction word, the operand set-up of the last opnd (scale words A and
B, B ring and its length), whether the array has started it, and its ordinal in the run (03 R82, 08 R220). -/
structure MOp where
  word : Nat
  as : Nat
  bs : Nat
  ring : Nat
  rlen : Nat
  started : Bool
  ord : Nat
  deriving DecidableEq, Repr

/-- An issuer context beside its registers (03 R76, R87; 04 R118): the plan handle and logical Block, its program store as
64-bit words, where it stands, its loops (first word, words, iteration, count; innermost first), its sixteen counters, the
operand set-up, its vector registers (by 64 v + lane), its operations in progress, and what a lintel producer knows:
issues and release counts by descriptor. -/
structure CtxX where
  plan : Nat
  lb : Nat
  prog : List Nat
  pc : Nat
  loops : List (Nat × Nat × Nat × Nat)
  ctrs : List Nat
  as : Nat
  bs : Nat
  ring : Nat
  rlen : Nat
  vregs : Tab Nat
  /-- Channels scanned so far by the argmax chain of each vector register (05 R147; log entry 26). -/
  chan : Tab Nat
  mason : List MOp
  vec : List Nat
  hods : List HodOp
  nHod : Nat
  nMason : Nat
  gens : Tab Nat
  rel : Tab Nat
  /-- The context has executed END in the run in progress. -/
  ended : Bool
  /-- CK_CTL counter at its run's start (03 R77). -/
  began : Nat
  deriving DecidableEq, Repr

/-- A plan of a die (04 R108-R126): its handle, image, placement (physical Block and context of each logical Block), the
physical Bay of each logical Bay, and its run number. -/
structure Plan where
  die : Nat
  handle : Nat
  img : List Byte
  place : List (Nat × Nat)
  bays : List Nat
  runNo : Nat
  deriving DecidableEq, Repr

/-- A Plumb sample (08 R220-R222): Block, context, plan handle, logical Block, run number, operation ordinal, the 4,096 captured
results and their references as binary32 patterns. -/
structure Sample where
  blk : Nat
  ctx : Nat
  handle : Nat
  lb : Nat
  run : Nat
  ord : Nat
  got : List Nat
  want : List Nat
  deriving DecidableEq, Repr


/-- A retirement of a pseudo-channel (06 R162-R163): its number, whether it is forced, whether FTG_RETIRE_CTRL asked for it, whether its
copy has begun, and the items (die, ring, SEQ) admitted before it, for which a planned copy waits. -/
structure Retire where
  pc : Nat
  forced : Bool
  reg : Bool
  copying : Bool
  before : List (Nat × Nat × Nat)
  deriving DecidableEq, Repr

/-- A stack and its Footing beside their registers (06 R159-R166): rows (pseudo-channel, bank, row) that yielded corrected errors with
the ledger period of the last, banks with uncorrectable errors and the period, rows PENDING repair, the repair in progress, hard repairs
used by pc * 64 + bank, the ledger period of the last repair's start, RETIRED pseudo-channels in order (the relocation map follows from
it), the retirement in progress, and those that wait. -/
structure StackX where
  ces : List (Nat × Nat × Nat × Nat)
  /-- Rows with a corrected error since their last repair, each with the ledger period of the first (06 R160). -/
  seen : List (Nat × Nat × Nat × Nat)
  ues : List (Nat × Nat × Nat)
  due : List (Nat × Nat × Nat)
  cur : Option (Nat × Nat × Nat)
  used : Tab Nat
  last : Option Nat
  order : List Nat
  ret : Option Retire
  queue : List Retire
  deriving DecidableEq, Repr

/-- A request at a home (11 R284): home, line (home address / 128), requester, kind (0 FETCH_SHARED 1 FETCH_OWNED 2 OWN_HELD 3 FETCH_COPY
4 FETCH_CLEAN 5 PUT_LINE 6 PUT_BYTES 7 ATOM_HOME 8 far atomic), transaction number, byte enables and payload; for an atomic its offset
in the line, operation, size in bytes and operands; the error its read of memory meets, 0 none, unit 1-4 corrected, or 4 more for
uncorrectable (06 R159); and what it answers, message code and data, once a later access that keeps no copy found it pending and its
effect was taken before that access (R280). A PCIe AtomicOp carries in `data` the DATA of the record that its failure leaves. -/
structure Req where
  home : Nat
  line : Nat
  a : Nat
  kind : Nat
  tn : Nat
  en : Nat
  data : List Byte
  off : Nat
  op : Nat
  size : Nat
  x : Nat
  y : Nat
  ecc : Nat
  done : Option (Nat × List Byte)
  deriving DecidableEq, Repr

/-- A transaction on a BUSY line (11 R280): its request (none for a directory eviction, R279), the agents snooped and the probe sent
(0 SHARE 1 YIELD 2 DROP 3 COPY 4 FLUSH), those that have not answered, modified data taken from an owner and not in memory, whether
another agent's copy was found, and the owner that sends the data straight to the requester (11 R284). -/
structure Txn where
  home : Nat
  line : Nat
  req : Option Req
  probe : Nat
  wait : List Nat
  dat : Option (List Byte)
  took : Bool
  fwd : Option Nat
  deriving DecidableEq, Repr

/-- An answer a home keeps for 4,096 cycles (12 R316): home, requester, transaction number, time, message code and data. -/
structure Answer where
  home : Nat
  a : Nat
  tn : Nat
  time : Nat
  code : Nat
  line : Nat
  data : List Byte
  deriving DecidableEq, Repr

/-- A narrowing in progress at a joint end (12 R310): the new GOOD mask and width of this end as receiver, the width agreed, whether its own
NARROW_PROPOSE is unanswered, and the two SWITCH numbers once known. -/
structure Narrow where
  good : Nat
  width : Nat
  sent : Bool
  txSwitch : Option Nat
  rxSwitch : Option Nat
  deriving DecidableEq, Repr

/-- A message that waits at a joint end (12 R303, R312): its class (0 REQ 1 SNP 2 RSP 3 DAT 4 BLK 5 MGT), payload bytes, destination and source
unit, the source's transaction number, whether it takes the second virtual channel (R311), and its payload where the model holds it. -/
structure TxMsg where
  cls : Nat
  len : Nat
  dst : Nat
  src : Nat
  tn : Nat
  ch : Bool
  data : List Byte
  deriving DecidableEq, Repr

/-- A flit in the replay buffer (12 R302, R313): SEQ, FIRST and its fifteen slots. -/
structure TxFlit where
  seq : Nat
  first : Nat
  body : List Byte
  deriving DecidableEq, Repr

/-- A joint end beside its registers (12 R304-R313): the epoch under exchange, its own proposed width, the widths of the CONFIRMs sent and
received, epochs abandoned in succession, FRESH, the partner's LAST and FRESH, the partner's GOOD mask; then the session: next SEQ to
send, expected SEQ, NAKs in succession, the replay buffer, credits of the six classes, flits received (the logical group follows), CRC
outcomes per group newest first (true a failure), and a narrowing; then the transmitter (R300, R310-R313): messages that wait, oldest first, the rest
of a message that a flit has begun, flits to send again, whether the next flit carries NAK, slots of each class spent on the second virtual channel,
credits to return and the class whose turn it is, the part of BLK's reserved rate not used yet in 1/(40 w) of a slot, the width and logical group of
the next flit sent, the own SWITCH still ahead, the width flits are received at, and the bytes of a message received in part. -/
structure BondX where
  e : Nat
  own : Nat
  sentW : Option Nat
  gotW : Option Nat
  gave : Nat
  fresh : Bool
  pLast : Option Nat
  pGood : Nat
  next : Nat
  expect : Nat
  naks : Nat
  replay : List TxFlit
  cred : List Nat
  seen : Nat
  hist : Tab (List Bool)
  narrow : Option Narrow
  txq : List TxMsg
  cont : List Byte
  again : List TxFlit
  nak : Bool
  vc2 : List Nat
  owe : List Nat
  turn : Nat
  tok : Nat
  txW : Nat
  txG : Nat
  txSw : Option Nat
  rxW : Nat
  inb : List Byte
  deriving DecidableEq, Repr
/-- A registered region (13 R329, R333): die, region index, KEY byte, ASID, address, length, ACCESS ([0] remote READ, [1] remote WRITE and
SEND), its extents, and for the transient key of an NVMe transfer the item (ring, SEQ) it belongs to (13 R339). -/
structure NetReg where
  die : Nat
  key : Nat
  byte : Nat
  asid : Nat
  va : Nat
  len : Nat
  access : Nat
  extents : List Extent
  owner : Option (Nat × Nat)
  deriving DecidableEq, Repr

/-- A packet sent on a flow and not acknowledged: its PSN, how many PSNs it takes (a READ request takes those of its response), its kind (0
SEND 1 WRITE 2 READ request 3 chain operation), the item (ring, SEQ) it serves (ring 65,535 for a HELLO), the segment or chunk, and the
message as sent. -/
structure TxPkt where
  psn : Nat
  span : Nat
  kind : Nat
  ring : Nat
  seq : Nat
  seg : Nat
  msg : Msg
  deriving DecidableEq, Repr

/-- A flow context beside its record (13 R325-R332): FREE 0, READY 1, ERROR 2; the send rate and whether a notification came in this slot;
the next PSN to send and the next expected; the next message number to send and the next expected; packets received since the last
acknowledgement; a CE mark to report; retries used after a timeout or NAK, and after receiver-not-ready; counter plus one of the last CNP
sent; packets not acknowledged, oldest first; and of the message being received: bytes so far, and of a WRITE its address, key and length. -/
structure FlowX where
  st : Nat
  rate : Nat
  notified : Bool
  next : Nat
  expect : Nat
  msgOut : Nat
  msgIn : Nat
  unacked : Nat
  ece : Bool
  tries : Nat
  rnr : Nat
  lastCnp : Nat
  tx : List TxPkt
  rxOff : Nat
  rxVa : Nat
  rxKey : Nat
  rxLen : Nat
  deriving DecidableEq, Repr

/-- A communication group of a die (14 R343-R345): number, record, state (0 CLOSED 1 PENDING 2 OPEN 3 ERROR), the GROUP_SET item that made it
PENDING, whether PRED and SUCC have answered, collective items completed since its OPEN, and the bound of the last one. -/
structure Group where
  die : Nat
  num : Nat
  recd : List Byte
  st : Nat
  item : Nat × Nat
  okPred : Bool
  okSucc : Bool
  count : Nat
  last : Nat
  deriving DecidableEq, Repr

/-- A collective item in progress (14 R348-R357): its item, its ordinal in the group (MSG), segments formed and gathered, bytes of the
segment being received; for PERMUTE the chunk in hand and whether it was sent, acknowledged and accepted; and whether a mismatched packet
has been reported. -/
structure ChainX where
  die : Nat
  ring : Nat
  seq : Nat
  ord : Nat
  formed : List Nat
  gathered : List Nat
  rxSeg : Nat
  rxOff : Nat
  chunk : Nat
  sent : Bool
  acked : Bool
  got : Bool
  told : Bool
  deriving DecidableEq, Repr

/-- A reset or management request queued at the Cornerstone (15 R369): the window whose GLB_RESET_CTRL asked (none for
another source), the type 1-5 and the target. -/
structure ResetReq where
  win : Option Nat
  typ : Nat
  target : Nat
  deriving DecidableEq, Repr

/-- The whole machine. -/
structure State where
  /-- Every register, by physical address; unlisted addresses read `regReset`. -/
  regs : Tab W32
  /-- 64-bit counters behind LO/HI pairs, by the LO register's address: GLB_CTL_COUNT, FLT_SEQ, CKP_POINT_STEP, CRS_IDLE. -/
  wide : Tab W64
  /-- The HI latch of each LO/HI pair, by the LO register's address (21 R513). -/
  latch : Tab W32
  /-- HBM, DDR5, scratchpads and boot stores, by physical address (10 R251); unlisted bytes read 0. -/
  mem : List Host.Cell
  /-- Poisoned units, by their first address: 32 bytes of HBM or DDR5, 8 bytes of scratchpad. -/
  poison : List Nat
  /-- Everything sent outside, newest first. -/
  sent : List Msg
  /-- How many open values have been taken. -/
  fresh : Nat
  /-- Commands waiting, first in first out. -/
  pending : List Instr
  /-- Units out of service: 0-3 Ashlar, 4-5 Keystone. -/
  absent : List Nat
  /-- Units whose root PLL is unlocked. -/
  pllOff : List Nat
  seqs : Tab Sequencer
  fring : Tab FRingX
  /-- Copied policy entries by die * 256 + detail: MIN_LEVEL plus 8 for DIE_COLD. -/
  policy : Tab Nat
  recov : List Recovery
  /-- Last recovery number given, by origin unit. -/
  recNum : Tab Nat
  /-- Package slot requests waiting at the Cornerstone: owner, number. -/
  pkgQ : List (Nat × Nat)
  items : List Item
  ringx : Tab RingX
  /-- Ring last served, by die (09 R244). -/
  served : Tab Nat
  xlt : Tab XUnit
  /-- CONFIG in effect since boot. -/
  cfg : ImgCfg
  flash : Flash
  update : Option Update
  journals : Tab Journal
  /-- Signed responses since MODULE_COLD (19 R478). -/
  signed : Nat
  modx : ModuleX
  ledger : Tab LedgerX
  hup : Holdup
  resetQ : List ResetReq
  /-- Lines held by the caching agents (11 R277). -/
  copies : List Copy
  /-- Holding areas, by die. -/
  hold : Tab HoldX
  /-- Attach records, by die. -/
  hostx : Tab HostX
  /-- Clusters of Keystone k whose L2 has not finished writing back in a KCORE or KFULL, as a 12-bit mask; the cores are
  in reset while it is not 0 (15 R371). -/
  l2busy : Tab Nat
  /-- Directory entries of the 18 homes, oldest allocation first (11 R278-R279). -/
  dir : List DirEnt
  /-- The Cornerstone's current copy of the health record (01 R26, 06 R163). -/
  health : Health
  /-- Issuer contexts, by (die * 288 + Block) * 4 + context. -/
  ctxx : Tab CtxX
  /-- BLOCK resets in progress, by die * 288 + Block: 1 self-test, 2 clearing after a pass, 3 clearing after a failure
  (03 R105). -/
  btest : Tab Nat
  /-- Resident plans. -/
  plans : List Plan
  /-- The Plumb unit's sample, by die. -/
  plumb : Tab (Option Sample)
  /-- Stacks and their Footings. -/
  stackx : Tab StackX
  /-- Counter of its Keystone, plus one, when an access last reached each socket; 0 for never (06 R171). -/
  sktLast : Tab Nat
  /-- Transactions on BUSY lines, and requests that wait for one, in arrival order (11 R280). -/
  txns : List Txn
  waitq : List Req
  /-- Snoop responses on their way to a home: `st` 0 from an agent without a copy, 1 clean data, 2 no data and a copy dropped, 3 modified data (11 R284). -/
  resps : List Copy
  /-- Write-backs on their way to a home. -/
  wbs : List Copy
  /-- Answers homes keep. -/
  answers : List Answer
  /-- Reclaims under way: home, agent, lines poisoned (11 R290). -/
  reclaims : List (Nat × Nat × Nat)
  /-- Lines named by an ORPHAN_DROP record while their home is absent (11 R292). -/
  named : List Nat
  /-- Predictor counters of the clusters and Mortar complexes, by agent * 256 + index (11 R289). -/
  pred : Tab Nat
  /-- Lines in the read-ahead buffers: network engine of port 0-7, root port 8-9 (11 R291). -/
  rahead : Tab (List Nat)
  /-- Joint ends, by unit * 4 + joint. -/
  bondx : Tab BondX
  /-- REJOIN messages held at the Cornerstone (12 R318). -/
  rejoins : List Nat
  /-- Registered regions of the network engines (13 R329). -/
  netRegs : List NetReg
  /-- Flow contexts by number (13 R325). -/
  flows : Tab FlowX
  /-- Inbound packets that wait in the receive buffers for their standing reserves, oldest first, by die * 2 + port (13 R336). -/
  rxbuf : Tab (List Instr)
  /-- Communication groups that are not CLOSED (14 R343). -/
  groups : List Group
  /-- Collective items in progress. -/
  chains : List ChainX
  /-- CK_CTL cycles counted by the host watchdog of Keystone k (15 R370). -/
  wdog : Tab Nat
  /-- Block sites, six at a time by (die * 16 + Course) * 3 + Bay, that a Course or Bay event took out of service and that stay out while
  their stack's Footing is faulted (01 R48). -/
  sitesOut : List Nat
  /-- Scratchpad lanes whose stored bits hold a single-bit error, by first address (03 R91); `mem` holds what the ECC corrects them to. -/
  flips : List Nat
  /-- Register writes that items have made and that have not taken effect, oldest first: address and value (21 R502). -/
  regq : List (Nat × W32)
  /-- Digests of PLINTH, FOOTING and KBOOT in the private store of each Ashlar die (19 R465 step 4, R467). -/
  privStore : Tab (List (List Byte))
  /-- Digest of the KBOOT in the boot store of each Keystone; empty before the first load (19 R466). -/
  bootStore : Tab (List Byte)
  /-- Address at which the harts of each Keystone started last; 0 while they are held in reset (19 R466). -/
  harts : Tab Nat
  /-- How many of the messages in `sent` the transmitters have taken over (12 R312). -/
  txSeen : Nat
  deriving DecidableEq, Repr

/-- What a step answers. -/
abbrev Out := Host.Outcome State Fault Refusal

/-- Default of the register table. -/
def regDef (a : Nat) : W32 := regReset a
/-- Default of the counters. -/
def wideDef (_ : Nat) : W64 := 0
/-- Default of the latches (21 R513: reset to 0). -/
def latchDef (_ : Nat) : W32 := 0
/-- What a byte of memory that nothing has written reads as: 0 (DESIGN CHOICE, log entry 6). -/
def memDef (_ : Nat) : Byte := 0
/-- Default sequencer. -/
def seqDef (_ : Nat) : Sequencer := ⟨[], none⟩
/-- Default fault ring. -/
def fringDef (_ : Nat) : FRingX := ⟨[], [], 0, 0, 0, 0⟩
/-- Default policy entry: no raise (16 R396). -/
def policyDef (_ : Nat) : Nat := 7
/-- Default number. -/
def natDef (_ : Nat) : Nat := 0
/-- Default ring. -/
def ringDef (_ : Nat) : RingX := ⟨[], false, false, none, false⟩
/-- Default translation unit. -/
def xltDef (_ : Nat) : XUnit := ⟨[], [], 0, [], []⟩
/-- Default journal. -/
def jrnlDef (_ : Nat) : Journal := ⟨[], 0, 0, []⟩
/-- Default ledger. -/
def ledgerDef (_ : Nat) : LedgerX := ⟨[], List.replicate 21 0, List.replicate 21 0, [], [], [], [], []⟩
/-- Default holding area. -/
def holdDef (_ : Nat) : HoldX := ⟨0, [], [], []⟩
/-- Default attach record. -/
def hostxDef (_ : Nat) : HostX := ⟨0, false, 0⟩

/-- An empty context. -/
def ctxDef (_ : Nat) : CtxX := ⟨0, 0, [], 0, [], List.replicate 16 0, 0, 0, 0, 0, [], [], [], [], [], 0, 0, [], [], false, 0⟩
/-- No sample. -/
def plumbDef (_ : Nat) : Option Sample := none

/-- A stack without a history. -/
def stackDef (_ : Nat) : StackX := ⟨[], [], [], [], none, [], none, [], none, []⟩
/-- Predictor counters reset to 2 (11 R289). -/
def predDef (_ : Nat) : Nat := 2
/-- An empty read-ahead buffer. -/
def raheadDef (_ : Nat) : List Nat := []
/-- A private store before the first load. -/
def storeDef (_ : Nat) : List (List Byte) := []
/-- A boot store before the first load. -/
def bootDef (_ : Nat) : List Byte := []
/-- Full credits of REQ, SNP, RSP, DAT, BLK and MGT (12 R311). -/
def fullCred : List Nat := [1024, 1024, 1024, 4608, 16384, 256]
/-- A joint end after a reset: FRESH, no epoch held. -/
def bondDef (_ : Nat) : BondX := ⟨0, 0, none, none, 0, true, none, 0, 0, 0, 0, [], fullCred, 0, [], none, [], [], [], false,
  List.replicate 6 0, List.replicate 6 0, 0, 0, 0, 0, none, 0, []⟩

/-- A FREE flow context. -/
def flowDef (_ : Nat) : FlowX := ⟨0, 0, false, 0, 0, 0, 0, 0, false, 0, 0, 0, [], 0, 0, 0, 0⟩
/-- An empty receive buffer. -/
def rxbufDef (_ : Nat) : List Instr := []

/-- The shipped CONFIG (log entry 3). -/
def shippedCfg : ImgCfg where
  map := []
  reserve := List.replicate 12 Config.reserve
  macs := (List.range 8).map Config.mac
  watts := Config.watts
  ksAllot := Config.ksAllot
  budgets := List.replicate 4 ((List.range 21).map Config.budget)
  coefs := Config.coefs
  limits := Config.limits
  costs := (List.range 4).map Config.hupCost
  pen := Config.pen

/-- The shipped image (log entry 3: its digests are DESIGN CHOICE zeros). -/
def shippedImg : Img where
  digest := List.replicate 48 0
  svn := 0
  comps := List.replicate 4 (List.replicate 48 0)
  cfg := shippedCfg
  authentic := true
  wellFormed := true

/-- An empty slot. -/
def emptySlot : Slot := ⟨0, 0xFF, [], { shippedImg with authentic := false, wellFormed := false }⟩

/-- The state right after MODULE_COLD, before the first boot step: the management rail is up, power is good, the boot
sequence of 19 R465 has completed no step, every register is at its reset value and the memories hold nothing. -/
def State.reset : State where
  regs := []
  wide := []
  latch := []
  mem := []
  poison := []
  sent := []
  fresh := 0
  pending := []
  absent := []
  pllOff := []
  seqs := []
  fring := []
  policy := []
  recov := []
  recNum := []
  pkgQ := []
  items := []
  ringx := []
  served := []
  xlt := []
  cfg := shippedCfg
  flash := ⟨[⟨1, 0x3F, List.replicate 48 0, shippedImg⟩, emptySlot], ⟨[], []⟩, [0, 0, 0, 0], []⟩
  update := none
  journals := []
  signed := 0
  modx := ⟨true, true, true, false, true, false, false, false, [false, false], none, none, 6000, 6000, false, false, [], false⟩
  ledger := []
  hup := ⟨[], none, []⟩
  resetQ := []
  copies := []
  hold := []
  hostx := []
  l2busy := []
  dir := []
  health := ⟨[], []⟩
  ctxx := []
  btest := []
  plans := []
  plumb := []
  stackx := []
  sktLast := []
  txns := []
  waitq := []
  resps := []
  wbs := []
  answers := []
  reclaims := []
  named := []
  pred := []
  rahead := []
  bondx := []
  rejoins := []
  netRegs := []
  flows := []
  rxbuf := []
  groups := []
  chains := []
  wdog := []
  sitesOut := []
  flips := []
  regq := []
  privStore := []
  bootStore := []
  harts := []
  txSeen := 0

/-! ### One field replaced -/

/-- The state with `regs` replaced. -/
def State.withRegs (s : State) (v : Tab W32) : State := { s with regs := v }
/-- The state with `wide` replaced. -/
def State.withWide (s : State) (v : Tab W64) : State := { s with wide := v }
/-- The state with `latch` replaced. -/
def State.withLatch (s : State) (v : Tab W32) : State := { s with latch := v }
/-- The state with `mem` replaced. -/
def State.withMem (s : State) (v : List Host.Cell) : State := { s with mem := v }
/-- The state with `poison` replaced. -/
def State.withPoison (s : State) (v : List Nat) : State := { s with poison := v }
/-- The state with `sent` replaced. -/
def State.withSent (s : State) (v : List Msg) : State := { s with sent := v }
/-- The state with `fresh` replaced. -/
def State.withFresh (s : State) (v : Nat) : State := { s with fresh := v }
/-- The state with `pending` replaced. -/
def State.withPending (s : State) (v : List Instr) : State := { s with pending := v }
/-- The state with `absent` replaced. -/
def State.withAbsent (s : State) (v : List Nat) : State := { s with absent := v }
/-- The state with `pllOff` replaced. -/
def State.withPllOff (s : State) (v : List Nat) : State := { s with pllOff := v }
/-- The state with `seqs` replaced. -/
def State.withSeqs (s : State) (v : Tab Sequencer) : State := { s with seqs := v }
/-- The state with `fring` replaced. -/
def State.withFring (s : State) (v : Tab FRingX) : State := { s with fring := v }
/-- The state with `policy` replaced. -/
def State.withPolicy (s : State) (v : Tab Nat) : State := { s with policy := v }
/-- The state with `recov` replaced. -/
def State.withRecov (s : State) (v : List Recovery) : State := { s with recov := v }
/-- The state with `recNum` replaced. -/
def State.withRecNum (s : State) (v : Tab Nat) : State := { s with recNum := v }
/-- The state with `pkgQ` replaced. -/
def State.withPkgQ (s : State) (v : List (Nat × Nat)) : State := { s with pkgQ := v }
/-- The state with `items` replaced. -/
def State.withItems (s : State) (v : List Item) : State := { s with items := v }
/-- The state with `ringx` replaced. -/
def State.withRingx (s : State) (v : Tab RingX) : State := { s with ringx := v }
/-- The state with `served` replaced. -/
def State.withServed (s : State) (v : Tab Nat) : State := { s with served := v }
/-- The state with `xlt` replaced. -/
def State.withXlt (s : State) (v : Tab XUnit) : State := { s with xlt := v }
/-- The state with `cfg` replaced. -/
def State.withCfg (s : State) (v : ImgCfg) : State := { s with cfg := v }
/-- The state with `flash` replaced. -/
def State.withFlash (s : State) (v : Flash) : State := { s with flash := v }
/-- The state with `update` replaced. -/
def State.withUpdate (s : State) (v : Option Update) : State := { s with update := v }
/-- The state with `journals` replaced. -/
def State.withJournals (s : State) (v : Tab Journal) : State := { s with journals := v }
/-- The state with `signed` replaced. -/
def State.withSigned (s : State) (v : Nat) : State := { s with signed := v }
/-- The state with `modx` replaced. -/
def State.withModx (s : State) (v : ModuleX) : State := { s with modx := v }
/-- The state with `ledger` replaced. -/
def State.withLedger (s : State) (v : Tab LedgerX) : State := { s with ledger := v }
/-- The state with `hup` replaced. -/
def State.withHup (s : State) (v : Holdup) : State := { s with hup := v }
/-- The state with `resetQ` replaced. -/
def State.withResetQ (s : State) (v : List ResetReq) : State := { s with resetQ := v }
/-- The state with `copies` replaced. -/
def State.withCopies (s : State) (v : List Copy) : State := { s with copies := v }
/-- The state with `hold` replaced. -/
def State.withHold (s : State) (v : Tab HoldX) : State := { s with hold := v }
/-- The state with `hostx` replaced. -/
def State.withHostx (s : State) (v : Tab HostX) : State := { s with hostx := v }
/-- The state with `l2busy` replaced. -/
def State.withL2busy (s : State) (v : Tab Nat) : State := { s with l2busy := v }
/-- The state with `dir` replaced. -/
def State.withDir (s : State) (v : List DirEnt) : State := { s with dir := v }
/-- The state with `health` replaced. -/
def State.withHealth (s : State) (v : Health) : State := { s with health := v }
/-- The state with `ctxx` replaced. -/
def State.withCtxx (s : State) (v : Tab CtxX) : State := { s with ctxx := v }
/-- The state with `btest` replaced. -/
def State.withBtest (s : State) (v : Tab Nat) : State := { s with btest := v }
/-- The state with `plans` replaced. -/
def State.withPlans (s : State) (v : List Plan) : State := { s with plans := v }
/-- The state with `plumb` replaced. -/
def State.withPlumb (s : State) (v : Tab (Option Sample)) : State := { s with plumb := v }
/-- The state with `stackx` replaced. -/
def State.withStackx (s : State) (v : Tab StackX) : State := { s with stackx := v }
/-- The state with `sktLast` replaced. -/
def State.withSktLast (s : State) (v : Tab Nat) : State := { s with sktLast := v }
/-- The state with `txns` replaced. -/
def State.withTxns (s : State) (v : List Txn) : State := { s with txns := v }
/-- The state with `waitq` replaced. -/
def State.withWaitq (s : State) (v : List Req) : State := { s with waitq := v }
/-- The state with `resps` replaced. -/
def State.withResps (s : State) (v : List Copy) : State := { s with resps := v }
/-- The state with `wbs` replaced. -/
def State.withWbs (s : State) (v : List Copy) : State := { s with wbs := v }
/-- The state with `answers` replaced. -/
def State.withAnswers (s : State) (v : List Answer) : State := { s with answers := v }
/-- The state with `reclaims` replaced. -/
def State.withReclaims (s : State) (v : List (Nat × Nat × Nat)) : State := { s with reclaims := v }
/-- The state with `named` replaced. -/
def State.withNamed (s : State) (v : List Nat) : State := { s with named := v }
/-- The state with `pred` replaced. -/
def State.withPred (s : State) (v : Tab Nat) : State := { s with pred := v }
/-- The state with `rahead` replaced. -/
def State.withRahead (s : State) (v : Tab (List Nat)) : State := { s with rahead := v }
/-- The state with `bondx` replaced. -/
def State.withBondx (s : State) (v : Tab BondX) : State := { s with bondx := v }
/-- The state with `rejoins` replaced. -/
def State.withRejoins (s : State) (v : List Nat) : State := { s with rejoins := v }
/-- The state with `netRegs` replaced. -/
def State.withNetRegs (s : State) (v : List NetReg) : State := { s with netRegs := v }
/-- The state with `flows` replaced. -/
def State.withFlows (s : State) (v : Tab FlowX) : State := { s with flows := v }
/-- The state with `rxbuf` replaced. -/
def State.withRxbuf (s : State) (v : Tab (List Instr)) : State := { s with rxbuf := v }
/-- The state with `groups` replaced. -/
def State.withGroups (s : State) (v : List Group) : State := { s with groups := v }
/-- The state with `chains` replaced. -/
def State.withChains (s : State) (v : List ChainX) : State := { s with chains := v }
/-- The state with `wdog` replaced. -/
def State.withWdog (s : State) (v : Tab Nat) : State := { s with wdog := v }
/-- The state with `flips` replaced. -/
def State.withFlips (s : State) (v : List Nat) : State := { s with flips := v }
/-- The state with `regq` replaced. -/
def State.withRegq (s : State) (v : List (Nat × W32)) : State := { s with regq := v }
/-- The state with `privStore` replaced. -/
def State.withPrivStore (s : State) (v : Tab (List (List Byte))) : State := { s with privStore := v }
/-- The state with `bootStore` replaced. -/
def State.withBootStore (s : State) (v : Tab (List Byte)) : State := { s with bootStore := v }
/-- The state with `harts` replaced. -/
def State.withHarts (s : State) (v : Tab Nat) : State := { s with harts := v }
/-- The state with `txSeen` replaced. -/
def State.withTxSeen (s : State) (v : Nat) : State := { s with txSeen := v }
/-- The state with `sitesOut` replaced. -/
def State.withSitesOut (s : State) (v : List Nat) : State := { s with sitesOut := v }

end Sys2Proof.Machine
end

