-- ==== Sys2Proof/Machine/Mem.lean ====
section
/-! DEFINITION. The physical map (10 R251) and the memories: what an address holds, the canonical address of a byte
that two views reach, reads and writes of bytes, and poison. -/

namespace Sys2Proof.Machine

/-- Bits `lo` to `lo + n - 1` of a register, as a number. -/
def getBits (w : W32) (lo n : Nat) : Nat := (w.extractLsb' lo n).toNat

/-- The register with bits `lo` to `lo + n - 1` replaced by those of `v`. -/
def setBits (w : W32) (lo n v : Nat) : W32 :=
  (w &&& ~~~((BitVec.ofNat 32 (2 ^ n - 1)) <<< lo)) ||| (BitVec.ofNat 32 (v % 2 ^ n) <<< lo)

/-- A register of the table. -/
def rd (s : State) (a : Nat) : W32 := tget regDef s.regs a
/-- The hardware's own write of a register, whatever its access code. -/
def wr (s : State) (a : Nat) (v : W32) : State := s.withRegs (tset regDef s.regs a v)
/-- A field of a register. -/
def fget (s : State) (a lo n : Nat) : Nat := getBits (rd s a) lo n
/-- The hardware's own write of a field. -/
def fset (s : State) (a lo n v : Nat) : State := wr s a (setBits (rd s a) lo n v)
/-- A one-bit field. -/
def bit (s : State) (a i : Nat) : Bool := fget s a i 1 == 1
/-- A 64-bit counter, by its LO register's address. -/
def rdW (s : State) (a : Nat) : W64 := tget wideDef s.wide a
/-- A 64-bit counter's new value. -/
def wrW (s : State) (a : Nat) (v : W64) : State := s.withWide (tset wideDef s.wide a v)
/-- A message sent. -/
def emit (s : State) (k : MK) (args : List Nat) (data : List Byte) : State :=
  s.withSent (⟨k, args, data⟩ :: s.sent)

/-- The CK_CTL counter of unit `u` (18 R437). -/
def ctl (s : State) (u : Nat) : Nat := (rdW s (Reg.GLB_CTL_COUNT_LO u)).toNat

/-- Populated bytes of stack `h`'s window: 72 GiB less k times 1,152 MiB (06 R155). -/
def stackSize (s : State) (h : Nat) : Nat := 77309411328 - fget s (Reg.FTG_HBM_STATUS (8 + h)) 0 2 * 1207959552

/-- The smallest populated stack size (06 R157). -/
def stackMin (s : State) : Nat := ((List.range 12).map (stackSize s)).foldl min 77309411328

/-- What a physical address holds. -/
inductive Place where
  /-- DDR5 byte at this address. -/
  | ddr (a : Nat)
  /-- Stack `h`, per-stack offset `o`. -/
  | hbm (h o : Nat)
  /-- Scratchpad: die, Block, offset in the Block's 2 MiB window, alias 0 normal 1 set 2 clear. -/
  | spad (d n o al : Nat)
  /-- Control window of unit `u`. -/
  | ctrl (u o : Nat)
  /-- The striped view beyond its size. -/
  | beyond
  | unassigned
  deriving DecidableEq, Repr

/-- The physical map of 10 R251. -/
def place (s : State) (a : Nat) : Place :=
  if a < 0x030000000000 then .ddr a
  else if 0x100000000000 ≤ a ∧ a < 0x118000000000 then
    .hbm ((a - 0x100000000000) / 0x2000000000) ((a - 0x100000000000) % 0x2000000000)
  else if 0x1C0000000000 ≤ a ∧ a < 0x1CD800000000 then
    let o := a - 0x1C0000000000
    if o < 12 * stackMin s then .hbm (o / 4096 % 12) (o / 4096 / 12 * 4096 + o % 4096) else .beyond
  else if 0xE00000000000 ≤ a ∧ a < 0xE10000000000 then
    let o := a - 0xE00000000000
    let w := o % 0x4000000000
    let al := w / 0x1000000000
    let b := w % 0x1000000000
    if al < 3 ∧ b < 288 * 0x200000 then .spad (o / 0x4000000000) (b / 0x200000) (b % 0x200000) al else .unassigned
  else match winOf a with
    | some (u, _, o) => .ctrl u o
    | none => .unassigned

/-- Per-stack address of offset `o` of stack `h`. -/
def hbmAddr (h o : Nat) : Nat := 0x100000000000 + h * 0x2000000000 + o
/-- Address of offset `o` of a Block's scratchpad window, normal alias. -/
def spadAddr (d n o : Nat) : Nat := 0xE00000000000 + d * 0x4000000000 + n * 0x200000 + o

/-- The one home address of a byte: the striped view's byte lies in a per-stack window (06 R157), an alias's byte in the
normal view (03 R96). -/
def home (s : State) (a : Nat) : Nat :=
  match place s a with
  | .hbm h o => hbmAddr h o
  | .spad d n o _ => spadAddr d n o
  | _ => a

/-- The first address of the unit that carries one poison mark (06 R159, 03 R91). -/
def poisonUnit (a : Nat) : Nat := if 0xE00000000000 ≤ a then a / 8 * 8 else a / 32 * 32

/-- One byte of a memory. -/
def rdByte (m : List Host.Cell) (a : Nat) : Byte := tget memDef m a
/-- `n` bytes from a home address on. -/
def rdBytes (m : List Host.Cell) (a : Nat) : Nat → List Byte
  | 0 => []
  | n + 1 => rdByte m a :: rdBytes m (a + 1) n
/-- Bytes stored from a home address on. -/
def wrBytes (m : List Host.Cell) (a : Nat) : List Byte → List Host.Cell
  | [] => m
  | b :: bs => wrBytes (tset memDef m a b) (a + 1) bs

/-- Poison marks left after a write of `len` bytes at `a`: every unit written whole is cleared (06 R159). -/
def clearPoison (p : List Nat) (a len : Nat) : List Nat :=
  p.filter (fun u => ¬ (a ≤ u ∧ u + (if 0xE00000000000 ≤ u then 8 else 32) ≤ a + len))

/-- Stored errors left after a write of `len` bytes at `a`: the bits of every scratchpad word and every HBM unit it touches are written anew
(03 R91, 06 R159). -/
def clearFlips (f : List Nat) (a len : Nat) : List Nat :=
  f.filter (fun u => let k := if 0xE00000000000 ≤ u then 256 else 32; ¬ (a / k ≤ u / k ∧ u / k * k < a + len))

/-- A stack is FAULTED: every line homed on it is poisoned (06 R164). -/
def stackFaulted (s : State) (h : Nat) : Bool := fget s (Reg.FTG_HBM_STATUS (8 + h)) 4 2 == 2

/-! ### Requests that a home has taken and not completed (11 R280) -/

/-- New value of an atomic: 0 ADD 1 SMIN 2 SMAX 3 UMIN 4 UMAX 5 SWAP 6 CAS 7 AND 8 OR 9 XOR, on `n` bytes (11 R287). -/
def atomNew (op n old x y : Nat) : Nat :=
  let m := 256 ^ n
  let sg : Nat → Int := fun v => if m / 2 ≤ v then (v : Int) - m else v
  let a := x % m
  if op = 0 then (old + a) % m
  else if op = 1 then (if sg a < sg old then a else old)
  else if op = 2 then (if sg old < sg a then a else old)
  else if op = 3 then min old a
  else if op = 4 then max old a
  else if op = 5 then a
  else if op = 6 then (if old = a then y % m else old)
  else if op = 7 then old &&& a
  else if op = 8 then old ||| a
  else old ^^^ a

/-- The bytes of a line with `n` bytes at `off` replaced. -/
def lineSet (d : List Byte) (off n v : Nat) : List Byte := d.take off ++ leBytes n v ++ d.drop (off + n)
/-- Bytes of a line merged under enables (11 R284). -/
def mergeBytes (old d : List Byte) (en : Nat) : List Byte := old.zipIdx.map (fun x => if en.testBit x.2 then d.getD x.2 0 else x.1)
/-- The operand of an atomic in the data of its line. -/
def Req.old (r : Req) (d : List Byte) : Nat := leNat ((d.drop r.off).take r.size)
/-- A line's data after a request, from its data before: `bad` when the operand of an atomic is poisoned. -/
def Req.after (r : Req) (bad : Bool) (d : List Byte) : List Byte :=
  if r.done.isSome then d
  else if r.kind = 5 then r.data
  else if r.kind = 6 then mergeBytes d r.data r.en
  else if 7 ≤ r.kind ∧ !bad then lineSet d r.off r.size (atomNew r.op r.size (r.old d) r.x r.y)
  else d
/-- A request writes 32-byte unit `u` of its line whole (11 R286). -/
def Req.covers (r : Req) (u : Nat) : Bool :=
  r.done.isNone && (r.kind == 5 || (r.kind == 6 && r.en / 2 ^ (32 * u) % 2 ^ 32 == 2 ^ 32 - 1))

/-- Requests for a line that its home has not completed, in the order it will: the one in progress, then those that wait (11 R280). -/
def pendingReqs (s : State) (l : Nat) : List Req :=
  (s.txns.filter (fun t => t.line == l)).filterMap (·.req) ++ s.waitq.filter (fun r => r.line == l)

/-- A poison mark in a home range that no pending request covers. -/
def markedAt (s : State) (a n : Nat) : Bool :=
  s.poison.any (fun u => decide (u < a + n ∧ a < u + (if 0xE00000000000 ≤ u then 8 else 32)) &&
    !(pendingReqs s (u / 128)).any (fun r => r.covers (u % 128 / 32)))

/-- Some byte of a home range lies in a poisoned unit. -/
def poisonedAt (s : State) (a n : Nat) : Bool :=
  (decide (0x100000000000 ≤ a ∧ a < 0x118000000000) && stackFaulted s ((a - 0x100000000000) / 0x2000000000)) || markedAt s a n

/-! ### Coherent accesses by agents that keep no copy -/

/-- The newest data of a line that is not in memory: an agent's modified copy, or modified data on its way to the home (11 R277,
R284). -/
def dirtyData (s : State) (line : Nat) : Option (List Byte) :=
  ((s.copies ++ s.resps ++ s.wbs).find? (fun c => c.line == line && c.st == 3)).map (·.data) <|>
  (s.txns.find? (fun t => t.line == line && t.dat.isSome)).bind (·.dat)

/-- The data of a line as a coherent read sees it: the modified data, else memory (11 R284), with every request that is pending for the
line performed first, as the read waits behind them (11 R280). -/
def lineNow (s : State) (l : Nat) : List Byte :=
  (pendingReqs s l).foldl (fun d r => r.after (poisonedAt s (l * 128 + r.off) r.size) d)
    ((dirtyData s l).getD (rdBytes s.mem (l * 128) 128))

/-- The byte at a home address as a coherent read sees it. -/
def cohByte (s : State) (a : Nat) : Byte :=
  let l := a / 128
  if (pendingReqs s l).isEmpty then
    match dirtyData s l with
    | some bs => bs.getD (a % 128) 0
    | none => rdByte s.mem a
  else (lineNow s l).getD (a % 128) 0

/-- The byte at any physical address, through the map, as a coherent read sees it. -/
def memByte (s : State) (a : Nat) : Byte := cohByte s (home s a)

/-- `n` bytes from physical address `a`, each through the map. -/
def memRead (s : State) (a : Nat) : Nat → List Byte
  | 0 => []
  | n + 1 => memByte s a :: memRead s (a + 1) n

/-- Modified data of lines `l` to `l + n` written to memory: that on its way first, as it is the older. -/
def flushMem (s : State) (l n : Nat) : List Host.Cell :=
  let hit : Nat → Bool := fun x => decide (l ≤ x ∧ x ≤ l + n)
  let m := (s.wbs ++ s.resps ++ s.copies).foldl (fun m c => if hit c.line && c.st == 3 then wrBytes m (c.line * 128) c.data else m) s.mem
  s.txns.foldl (fun m t => match t.dat with
    | some bs => if hit t.line then wrBytes m (t.line * 128) bs else m
    | none => m) m

/-- COH_HOME_STATUS of a home (11 R297). -/
def homeReg (h : Nat) : Nat := if h < 12 then Reg.COH_HOME_STATUS (h / 3) (h % 3) else Reg.COH_HOME_STATUS (4 + (h - 12) / 3) ((h - 12) % 3)
/-- DIR_USE of a home: entries in use divided by 64 (11 R297). -/
def dirUse (s : State) (h : Nat) : State := fset s (homeReg h) 16 16 (holdAt 0xFFFF ((s.dir.filter (fun e => e.home == h)).length / 64))
/-- DIR_USE of the homes that some entries belong to. -/
def dirUses (s : State) (es : List DirEnt) : State := (es.map (·.home)).eraseDups.foldl dirUse s

/-- A pending request takes its effect at memory; it answers when its transaction ends (11 R280). -/
def performReq (s : State) (r : Req) : State × Req :=
  let a := r.line * 128
  let d := rdBytes s.mem a 128
  let bad := poisonedAt s (a + r.off) r.size
  let s' := (s.withMem (wrBytes s.mem a (r.after bad d))
      |>.withPoison (s.poison.filter (fun u => ¬ (u / 128 = r.line ∧ r.covers (u % 128 / 32) = true))))
  if r.done.isSome then (s, r)
  else if r.kind = 5 then (s'.withFlips (clearFlips s.flips a 128), { r with done := some (8, []) })
  else if r.kind = 6 then (s', { r with done := some (8, []) })
  else if 7 ≤ r.kind then (s', { r with done := some (if bad then (6, []) else (9, leBytes r.size (r.old d))) })
  else (s, { r with done := some (if poisonedAt s a 128 then (6, []) else (7, d)) })

/-- The pending requests of the lines that satisfy `hit` take their effect, each line's in its order. -/
def performPending (s : State) (hit : Nat → Bool) : State :=
  let x := s.txns.foldl (fun x t => match t.req with
    | some r => if hit t.line then (let p := performReq x.1 r; (p.1, x.2 ++ [{ t with req := some p.2 }])) else (x.1, x.2 ++ [t])
    | none => (x.1, x.2 ++ [t])) (s, [])
  let y := x.1.waitq.foldl (fun y r => if hit r.line then (let p := performReq y.1 r; (p.1, y.2 ++ [p.2])) else (y.1, y.2 ++ [r])) (x.1, [])
  (y.1.withTxns x.2 |>.withWaitq y.2)

/-- Modified copies of the lines from `l` to `l + n` written back to memory, the requests pending for them performed, every copy of them
dropped and the lines UNCACHED: what a write by a non-caching agent makes the home do first (11 R280, R284). -/
def dropLines (s : State) (l n : Nat) : State :=
  let hit : Nat → Bool := fun x => decide (l ≤ x ∧ x ≤ l + n)
  if !(s.copies.any (fun c => hit c.line) || s.dir.any (fun e => hit e.line) || s.txns.any (fun t => hit t.line) ||
    s.wbs.any (fun c => hit c.line) || s.resps.any (fun c => hit c.line) || s.waitq.any (fun r => hit r.line)) then s
  else
    let gone := s.dir.filter (fun e => hit e.line)
    let s := (s.withMem (flushMem s l n)
        |>.withCopies (s.copies.filter (fun c => !hit c.line))
        |>.withDir (s.dir.filter (fun e => !hit e.line))
        |>.withWbs (s.wbs.filter (fun c => !hit c.line))
        |>.withResps (s.resps.map (fun c => if hit c.line then { c with st := 0, data := [] } else c))
        |>.withTxns (s.txns.map (fun t => if hit t.line then { t with dat := none } else t)))
    dirUses (performPending s hit) gone

/-- Lines read through the clean-read port: a modified copy is written back and its holder keeps it EXCLUSIVE (07 R203, 11 R284, R285). -/
def cleanLines (s : State) (l n : Nat) : State :=
  let hit : Nat → Bool := fun x => decide (l ≤ x ∧ x ≤ l + n)
  if !(s.copies ++ s.wbs ++ s.resps).any (fun c => hit c.line && c.st == 3) && !s.txns.any (fun t => hit t.line && t.dat.isSome) then s
  else s.withMem (flushMem s l n)
      |>.withCopies (s.copies.map (fun c => if hit c.line && c.st == 3 then { c with st := 2 } else c))

/-- Pieces of physical ranges, cut at 4 KiB pages. -/
def pagesF (a n : Nat) : Nat → List (Nat × Nat)
  | 0 => []
  | f + 1 => if n = 0 then [] else let k := min n (4096 - a % 4096); (a, k) :: pagesF (a + k) (n - k) f

/-- A physical range read through the clean-read port, page by page through the map. -/
def cleanPa (s : State) (pa n : Nat) : State :=
  (pagesF pa n (n / 4096 + 2)).foldl (fun s p => let a := home s p.1; cleanLines s (a / 128) ((a % 128 + p.2 - 1) / 128)) s

/-- Lines of a range gone from one read-ahead buffer: 0-7 network engine `2 * die + port`, 8-9 root port (11 R291). -/
def purgeOne (s : State) (e l n : Nat) : State :=
  s.withRahead (tset raheadDef s.rahead e ((tget raheadDef s.rahead e).filter (fun x => ¬ (l ≤ x ∧ x ≤ l + n))))
/-- Lines of a range gone from every read-ahead buffer. -/
def purgeRange (s : State) (l n : Nat) : State := (List.range 10).foldl (fun s e => purgeOne s e l n) s

/-- An agent's copies that satisfy `hit` written back where modified, and gone; the home no longer holds a line it took back from its
owner as EXCLUSIVE (11 R296: a write-back applied before a DEAD notice leaves the line unpoisoned). -/
def writeBackAll (s : State) (hit : Copy → Bool) : State :=
  let ms := s.copies.filter (fun c => hit c && c.st == 3)
  let gone : DirEnt → Bool := fun e => ms.any (fun c => c.line == e.line && e.excl == c.agent + 1)
  dirUses (s.withMem (ms.foldl (fun m c => wrBytes m (c.line * 128) c.data) s.mem)
      |>.withCopies (s.copies.filter (fun c => !hit c))
      |>.withDir (s.dir.filter (fun e => !gone e))) (s.dir.filter gone)

/-- The bytes of a contiguous home range, stored: copies of its lines are recalled first. -/
def memWriteAt (s : State) (a : Nat) (bs : List Byte) : State :=
  let s := dropLines s (a / 128) ((a % 128 + bs.length - 1) / 128)
  (s.withMem (wrBytes s.mem a bs) |>.withPoison (clearPoison s.poison a bs.length)
      |>.withFlips (clearFlips s.flips a bs.length))

/-- Bytes stored from physical address `a` on, through the map, in pieces of at most one 4 KiB page. `fuel` bounds
the pieces. -/
def memWriteF (s : State) (a : Nat) (bs : List Byte) : Nat → State
  | 0 => s
  | f + 1 =>
    if bs.isEmpty then s
    else
      let k := 4096 - a % 4096
      memWriteF (memWriteAt s (home s a) (bs.take k)) (a + k) (bs.drop k) f

/-- Bytes stored from physical address `a` on. -/
def memWrite (s : State) (a : Nat) (bs : List Byte) : State := memWriteF s a bs (bs.length / 4096 + 2)

/-- Some byte of a physical range lies in a poisoned unit; `fuel` bounds the 4 KiB pieces. -/
def poisonedF (s : State) (a n : Nat) : Nat → Bool
  | 0 => false
  | f + 1 =>
    if n = 0 then false
    else
      let k := min n (4096 - a % 4096)
      poisonedAt s (home s a) k || poisonedF s (a + k) (n - k) f

/-- Some byte of a physical range lies in a poisoned unit. -/
def poisoned (s : State) (a n : Nat) : Bool := poisonedF s a n (n / 4096 + 2)

/-- The unit of an address marked poisoned. -/
def setPoison (s : State) (a : Nat) : State := s.withPoison (kins (poisonUnit (home s a)) s.poison)

/-- A little-endian number read from memory. -/
def memNat (s : State) (a n : Nat) : Nat := leNat (memRead s a n)

/-- The whole range lies in the populated part of one per-stack window (10 R255, R256; the striped view does not count). -/
def inStack (s : State) (a n : Nat) : Bool :=
  decide (0x100000000000 ≤ a) && decide (a < 0x118000000000) &&
  decide ((a - 0x100000000000) % 0x2000000000 + n ≤ stackSize s ((a - 0x100000000000) / 0x2000000000))

/-- The whole range lies in the populated part of one per-stack window of die `d`'s own stacks. -/
def inOwnStack (s : State) (d a n : Nat) : Bool :=
  inStack s a n && decide ((a - 0x100000000000) / 0x2000000000 / 3 = d)

/-- Everything listed in a range of home addresses is lost: it reads as memory that nothing has written. -/
def memLose (s : State) (lo hi : Nat) : State :=
  s.withMem (s.mem.filter (fun c => ¬ (lo ≤ c.1 ∧ c.1 < hi)))
      |>.withPoison (s.poison.filter (fun u => ¬ (lo ≤ u ∧ u < hi)))
      |>.withFlips (s.flips.filter (fun u => ¬ (lo ≤ u ∧ u < hi)))

/-- The contents of stack `h` are lost (01 R41), and with them the orphans of its home (11 R292). -/
def loseStack (s : State) (h : Nat) : State :=
  let s := memLose s (hbmAddr h 0) (hbmAddr h 0x2000000000)
  let mine : Nat → Bool := fun l => decide (hbmAddr h 0 ≤ l * 128 ∧ l * 128 < hbmAddr h 0x2000000000)
  (s.withCopies (s.copies.filter (fun c => !mine c.line))
      |>.withWbs (s.wbs.filter (fun c => !mine c.line))
      |>.withNamed (s.named.filter (fun l => !mine l)))
/-- The scratchpad of Block `n` of die `d` zeroed (03 R102). -/
def zeroSpad (s : State) (d n : Nat) : State := memLose s (spadAddr d n 0) (spadAddr d n 0x200000)

end Sys2Proof.Machine
end

