-- ==== Sys2Proof/Machine/Ops.lean ====
section
/-! DEFINITION. Operations that many commands share: reason codes, service and domain states, sending an interrupt, the
last-reason fields of a register, and writing a fault record to its ring (16 R385-R393). -/

namespace Sys2Proof.Machine

/-! ### Reason codes (21 R509) -/
namespace Rsn
def DONE : Nat := 0x00
def DONE_COALESCED : Nat := 0x01
def STATE : Nat := 0x40
def CFG_RANGE : Nat := 0x41
def CFG_ALIGN : Nat := 0x42
def CFG_CONFLICT : Nat := 0x43
def CFG_MISSING : Nat := 0x44
def RIGHTS : Nat := 0x45
def BAD_DESC : Nat := 0x46
def PLAN_DIGEST : Nat := 0x47
def SCOPE : Nat := 0x48
def NOT_SCHEDULABLE : Nat := 0x80
def ENERGY : Nat := 0x81
def HOLDUP_LOW : Nat := 0x82
def XLT_PENDING : Nat := 0x83
def HOST_ABSENT : Nat := 0x84
def PEER_ABSENT : Nat := 0x85
def DIE_ABSENT : Nat := 0x86
def FENCED : Nat := 0x87
def LATE : Nat := 0xC0
def POISON : Nat := 0xC1
def LINK_FAIL : Nat := 0xC2
def ECC_UNCORR : Nat := 0xC3
def NUMERIC : Nat := 0xC4
def SEAL_MISMATCH : Nat := 0xC5
def ABORTED : Nat := 0xC6
def OVERRUN : Nat := 0xC7
def OVERFLOW : Nat := 0xC8
end Rsn

/-- A reason and a detail code, or none: the outcome of a check. -/
abbrev Chk := Option (Nat × Nat)

/-- The first condition that fails decides. -/
def firstFail : List (Bool × Nat × Nat) → Chk
  | [] => none
  | (ok, r, d) :: cs => if ok then firstFail cs else some (r, d)

/-- Fields REASON at bit `lo` and DETAIL at bit `lo + 8` of a register. -/
def setRD (s : State) (a lo reason detail : Nat) : State := fset (fset s a lo 8 reason) a (lo + 8) 8 detail

/-- RWL fields that lie in the same word as their ENABLE (bit 0): taken from the written value while ENABLE is 0
(00 R13). -/
def rwlIn (s : State) (a mask : Nat) (v : W32) : State :=
  if bit s a 0 then s
  else wr s a ((rd s a &&& ~~~(BitVec.ofNat 32 mask)) ||| (v &&& BitVec.ofNat 32 mask))

/-- The end of an ENABLE write of 1: ENABLE set when every check passed, and the codes of the check at bit `lo`. -/
def finishEnable (s : State) (a lo : Nat) (c : Chk) : State :=
  match c with
  | none => setRD (fset s a 0 1 1) a lo 0 0
  | some (r, d) => setRD s a lo r d

/-- The codes of a failed check shown in the RESULT and DETAIL bytes at `lo`, or, with every check passed, what follows. -/
def onChk (s : State) (a lo : Nat) (c : Chk) (f : State → State) : State :=
  match c with
  | some r => setRD s a lo r.1 r.2
  | none => f s

/-- A counter field of `n` bits at `lo` raised by `k`, holding at its largest value. -/
def holdAdd (s : State) (a lo n k : Nat) : State := fset s a lo n (holdAt (2 ^ n - 1) (fget s a lo n + k))
/-- A counter field raised by `k`, wrapping. -/
def wrapAdd (s : State) (a lo n k : Nat) : State := fset s a lo n (fget s a lo n + k)

/-- A fresh open value (log entry 1), and the state that has taken it. -/
def takeFree (s : State) : Nat × State := (Config.freeNat s.fresh, (s.withFresh (s.fresh + 1)))

/-! ### Units and domains -/

/-- Register and bit of power domain `n`'s state: an Ashlar window's own, a Keystone's or a Footing's (01 R39, R44). -/
def pdPlace (n : Nat) : Nat × Nat :=
  if n < 96 then
    let p := n / 24
    let i := n % 24
    if i < 16 then (Reg.GLB_PD_STATE_LO p, 2 * i)
    else if i < 19 then (Reg.GLB_PD_STATE_HI p, 2 * (i - 16))
    else if i = 19 then (Reg.GLB_PD_STATE_HI p, 6)
    else (Reg.GLB_PD_STATE_HI p, 8 + 2 * (i - 20))
  else if n < 108 then (Reg.GLB_PD_STATE_LO (4 + (n - 96) / 6), 2 * ((n - 96) % 6))
  else (Reg.GLB_PD_STATE_LO (8 + (n - 108)), 0)

/-- State of a power domain: 0 OFF, 1 WAKING, 2 ON, 3 QUIESCING (01 R44). -/
def pd (s : State) (n : Nat) : Nat := fget s (pdPlace n).1 (pdPlace n).2 2
/-- A power domain's new state. -/
def setPd (s : State) (n v : Nat) : State := fset s (pdPlace n).1 (pdPlace n).2 2 v
/-- Domain numbers (01 R39). -/
def dCourse (p c : Nat) : Nat := 24 * p + c
/-- Bay infrastructure. -/
def dBay (p b : Nat) : Nat := 24 * p + 16 + b
/-- Mortar. -/
def dMortar (p : Nat) : Nat := 24 * p + 19
/-- Joint. -/
def dJoint (p j : Nat) : Nat := 24 * p + 20 + j
/-- Keystone core group. -/
def dCores (k g : Nat) : Nat := 96 + 6 * k + g
/-- Keystone uncore. -/
def dUncore (k : Nat) : Nat := 96 + 6 * k + 4
/-- Keystone I/O. -/
def dKio (k : Nat) : Nat := 96 + 6 * k + 5
/-- Footing. -/
def dFooting (h : Nat) : Nat := 108 + h
/-- A domain is ON. -/
def isOn (s : State) (n : Nat) : Bool := pd s n == 2
/-- The Mortar domain of die `p` is ON. -/
def mortarOn (s : State) (p : Nat) : Bool := isOn s (dMortar p)

/-- Unit `u` is out of service (12 R316, 18 R436, 01 R37). -/
def outOf (s : State) (u : Nat) : Bool := s.absent.contains u
/-- Unit `u` serves: an Ashlar die confirmed by the position check and not out of service (01 R37), a Keystone with its
uncore ON and not out of service. -/
def serving (s : State) (u : Nat) : Bool :=
  !outOf s u && (if u < 4 then fget s (Reg.GLB_DIE_IDENT u) 2 2 == 1 else isOn s (dUncore (u - 4)))
/-- POS of the Cornerstone's die (19 R480). -/
def cornerstone (s : State) : Nat := fget s Reg.GLB_BOOT_STATUS 3 3
/-- Step 9 of R465 has ended. -/
def ready (s : State) : Bool := bit s Reg.GLB_BOOT_STATUS 2

/-- The domain is being recovered, or is contained, by a recovery (16 R398). -/
def recovering (s : State) (d : Dom) : Bool := s.recov.any (fun r => r.dom == d)

/-- Writes to the window of unit `u` reach it: `u` is in service, and a Footing whose domain is OFF ignores them (21 R503). -/
def winGone (s : State) (u : Nat) : Bool := outOf s (if u < 8 then u else (u - 8) / 3)

/-- A register write through the window of unit `u`: an access fault when the unit is out of service, nothing when it is a
Footing whose domain is OFF (21 R503), else what the write does. -/
def viaWin (s : State) (u : Nat) (f : State → Out) : Out :=
  if winGone s u then .next (emit s .accessFault [0] [])
  else if 8 ≤ u ∧ pd s (dFooting (u - 8)) = 0 then .next s
  else f s

/-! ### Interrupt writes -/

/-- The Keystone whose window a physical address lies in. -/
def keyOf (a : Nat) : Option Nat :=
  match winOf a with
  | some (u, .keystone, _) => some (u - 4)
  | _ => none

/-- State of host `k`: 0 ATTACHED 1 DETACHED 2 ABSENT 3 RETURNED 4 REATTACHING (15 R373). -/
def hostState (s : State) (k : Nat) : Nat := fget s (Reg.GLB_ATTACH_CTRL (cornerstone s)) (24 + 3 * k) 3

/-- An interrupt write: discarded and counted in MSI_LOST while the Keystone it names is in reset or absent (15 R372). -/
def sendMsi (s : State) (addr data : Nat) : State :=
  match keyOf addr with
  | some k =>
    if tget natDef s.l2busy k ≠ 0 ∨ hostState s k = 2 then holdAdd s (Reg.GLB_HOST_WDOG_STATUS (4 + k)) 16 16 1
    else emit s .msi [addr, data] []
  | none => emit s .msi [addr, data] []

/-! ### Persistent store requests (18 R452) -/

/-- A store requested of the Plinth. -/
def requestStore (s : State) (w : StoreWork) : State := s.withHup { s.hup with queue := s.hup.queue ++ [w] }

/-! ### Fault records -/

/-- FATAL: levels 3 and 4 (16 R385). -/
def fatalLevel (l : Nat) : Bool := l == 3 || l == 4
/-- CLASS from LEVEL alone (16 R385). -/
def recClass (l : Nat) : Nat := if l = 7 then 0 else if l = 0 then 1 else if l ≤ 2 then 2 else 3

/-- The 64 bytes of a record with a PHASE (16 R385). -/
def recBytes (r : FRec) (phase : Nat) : List Byte :=
  leBytes 6 r.seq ++ leBytes 1 r.origin ++ leBytes 1 (r.flags + phase) ++ leBytes 8 r.time ++ leBytes 1 r.reason ++
  leBytes 1 r.detail ++ leBytes 1 (r.level + 8 * recClass r.level) ++ leBytes 1 r.kind ++ leBytes 4 r.source ++
  leBytes 4 r.count ++ leBytes 4 r.recovery ++ (r.data ++ List.replicate 32 0).take 32

/-- The die a record of an origin goes to (16 R388). -/
def recDie (s : State) (origin : Nat) : Nat :=
  if origin < 4 then (if outOf s origin then cornerstone s else origin)
  else
    let k := origin - 4
    if !outOf s (2 * k) then 2 * k else if !outOf s (2 * k + 1) then 2 * k + 1 else cornerstone s

/-- What a fault ring holds beside its registers. -/
def fring (s : State) (d r : Nat) : FRingX := tget fringDef s.fring (d * 16 + r)
/-- Its new contents. -/
def setFring (s : State) (d r : Nat) (x : FRingX) : State := s.withFring (tset fringDef s.fring (d * 16 + r) x)

/-- Entries of a fault ring that are free (16 R388). -/
def fringFree (s : State) (d r : Nat) : Nat :=
  4096 - (fget s (Reg.FLT_RING_TAIL d r) 0 13 + 8192 - fget s (Reg.FLT_RING_HEAD d r) 0 13) % 8192

/-- Physical base of a fault ring. -/
def fringBase (s : State) (d r : Nat) : Nat :=
  fget s (Reg.FLT_RING_BASE_LO d r) 18 14 * 0x40000 + fget s (Reg.FLT_RING_BASE_HI d r) 0 20 * 0x100000000

/-- A record written to the ring's next entry: 64 bytes at base + 64 (n mod 4096), PHASE 1 on even passes, and the
interrupt of FLT_MSI with NOTIFY while FLT_CTRL.ENABLE is 1 (16 R385, R388, R404). -/
def fringPut (s : State) (d r : Nat) (x : FRec) : State :=
  let n := fget s (Reg.FLT_RING_TAIL d r) 0 13
  let s := memWrite s (fringBase s d r + 64 * (n % 4096)) (recBytes x (if n < 4096 then 1 else 0))
  let s := fset s (Reg.FLT_RING_TAIL d r) 0 13 (n + 1)
  if bit s (Reg.FLT_RING_CTRL d r) 1 && bit s (Reg.FLT_CTRL d) 0 then
    sendMsi s (fget s (Reg.FLT_MSI_ADDR_LO d) 2 30 * 4 + fget s (Reg.FLT_MSI_ADDR_HI d) 0 20 * 0x100000000)
      (rd s (Reg.FLT_MSI_DATA d)).toNat
  else s

/-- ABSORBED and SOURCES of a ring follow its overflow entries (16 R404). -/
def fringOvfReg (s : State) (d r : Nat) : State :=
  let x := fring s d r
  fset (fset s (Reg.FLT_RING_OVF d r) 0 9 x.ovf.length) (Reg.FLT_RING_OVF d r) 10 22 (holdAt 0x3FFFFF x.total)

/-- The overflow entries after a record is absorbed: into the entry of its key, else a free entry, else entry 255
(16 R390). -/
def absorbIn (es : List OvfEntry) (x : FRec) : List OvfEntry :=
  let hit : OvfEntry → Bool := fun e => e.kind == x.kind && e.source == x.source
  if es.any hit then es.map (fun e => if hit e then { e with last := x, count := e.count + 1 } else e)
  else if es.length < 256 then es ++ [⟨x.kind, x.source, x, x, 1, false⟩]
  else (es.zipIdx).map (fun p => if p.2 = 255 then { p.1 with last := x, count := p.1.count + 1 } else p.1)

/-- A non-FATAL record absorbed (16 R390); FLT_FLAGS.OVERFLOW is set. -/
def fringAbsorb (s : State) (d r : Nat) (x : FRec) : State :=
  let f := fring s d r
  let f' := { f with
    ovf := absorbIn f.ovf x, total := f.total + 1
    loSeq := if f.total = 0 then x.seq else min f.loSeq x.seq
    hiSeq := if f.total = 0 then x.seq else max f.hiSeq x.seq }
  fset (fringOvfReg (setFring s d r f') d r) (Reg.FLT_FLAGS d) 1 1 1

/-- The sixteen words of a record in the fatal log, PHASE reading 0 (16 R393). -/
def logWords (s : State) (d i : Nat) (x : FRec) : State :=
  let bs := recBytes x 0
  (List.range 16).foldl (fun s k => wr s (Reg.FLT_LOG d i k) (BitVec.ofNat 32 (leNat ((bs.drop (4 * k)).take 4)))) s

/-- A FATAL record in the die's fatal log, with its LOG store requested; kept in the ring alone and counted in LOST
when all 64 entries are unstored (16 R393). -/
def logFatal (s : State) (d : Nat) (x : FRec) : State :=
  let i := fget s (Reg.FLT_LOG_STATUS d) 0 6
  let n := fget s (Reg.FLT_LOG_STATUS d) 8 7
  if n < 64 then
    let s := logWords s d i x
    let s := fset (fset s (Reg.FLT_LOG_STATUS d) 0 6 (i + 1)) (Reg.FLT_LOG_STATUS d) 8 7 (n + 1)
    requestStore s (.log d i)
  else fset (holdAdd s (Reg.FLT_LOG_STATUS d) 16 16 1) (Reg.FLT_FLAGS d) 2 1 1

/-- A flag of GLB_MOD_EVENTS set, ALERT with it (20 R487, R497). -/
def modEvent (s : State) (i : Nat) : State := fset (fset s Reg.GLB_MOD_EVENTS i 1 1) Reg.GLB_MOD_STATUS 9 1 1

/-- A record delivered to die `d` (16 R388-R393). -/
def putRecord (s : State) (d : Nat) (x : FRec) : State :=
  let r := if bit s (Reg.FLT_CTRL d) 0 then
      (if x.kind < 8 then fget s (Reg.FLT_ROUTE_LO d) (4 * x.kind) 4 else fget s (Reg.FLT_ROUTE_HI d) (4 * (x.kind - 8)) 4)
    else 0
  let f := fring s d r
  let en := bit s (Reg.FLT_RING_CTRL d r) 0
  if fatalLevel x.level then
    let s := modEvent (fset (logFatal s d x) (Reg.FLT_FLAGS d) 0 1 1) 0
    if en && f.waiting.isEmpty && decide (0 < fringFree s d r) then fringPut s d r x
    else setFring s d r { fring s d r with waiting := f.waiting ++ [x] }
  else if en && f.ovf.isEmpty && decide (16 < fringFree s d r) then fringPut s d r x
  else fringAbsorb s d r x

/-- An event to be recorded: the unit that detects it, its codes, its floor level (7 informational), its kind, source
and data, and the domain it lies in. -/
structure Ev where
  origin : Nat
  reason : Nat
  detail : Nat
  floor : Nat
  kind : Nat
  source : Nat
  data : List Byte
  dom : Dom

/-- The next SEQ of an origin (16 R387). -/
def nextSeq (s : State) (o : Nat) : Nat := (rdW s (Reg.FLT_SEQ_LO o)).toNat

/-- A record of an event at a level, with FLAGS bits and a recovery number, written under R387 and R388. -/
def recordAt (s : State) (e : Ev) (level flags recovery : Nat) : State :=
  let q := nextSeq s e.origin
  let s := wrW s (Reg.FLT_SEQ_LO e.origin) (BitVec.ofNat 64 ((q + 1) % 2 ^ 48))
  putRecord s (recDie s e.origin)
    ⟨q, e.origin, flags, ctl s e.origin, e.reason, e.detail, level, e.kind, e.source, 1, recovery, e.data⟩

/-- A record with a COUNT of its own, informational (16 R391). -/
def recordCount (s : State) (e : Ev) (count : Nat) : State :=
  let q := nextSeq s e.origin
  let s := wrW s (Reg.FLT_SEQ_LO e.origin) (BitVec.ofNat 64 ((q + 1) % 2 ^ 48))
  putRecord s (recDie s e.origin)
    ⟨q, e.origin, 0, ctl s e.origin, e.reason, e.detail, e.floor, e.kind, e.source, count, 0, e.data⟩

/-- The posted policy's entry for a detail code on a die (16 R396). -/
def policyOf (s : State) (d detail : Nat) : Nat :=
  if bit s (Reg.FLT_CTRL d) 0 && bit s (Reg.FLT_CTRL d) 1 then tget policyDef s.policy (d * 256 + detail) else 7

/-- The level of an event: the greater of its floor and MIN_LEVEL, and whether the policy raised it (16 R396). -/
def evLevel (s : State) (e : Ev) : Nat × Bool :=
  let m := policyOf s (recDie s e.origin) e.detail % 8
  if m = 7 then (e.floor, false)
  else if e.floor = 7 then (m, true)
  else if e.floor < m then (m, true) else (e.floor, false)

end Sys2Proof.Machine
end

