-- ==== Sys2Proof/Machine/Ctx.lean ====
section
/-! DEFINITION. Issuer contexts and plans as other rules see them: a context's extra state, the plan a handle names, the end of
a run with its numerics report (03 R76, 04 R108-R109, 08 R218-R219). -/

namespace Sys2Proof.Machine

/-- Place of a context in the table. -/
def ctxKey (d n c : Nat) : Nat := (d * 288 + n) * 4 + c
/-- A context beside its registers. -/
def ctxX (s : State) (d n c : Nat) : CtxX := tget ctxDef s.ctxx (ctxKey d n c)
/-- Its new value. -/
def setCtxX (s : State) (d n c : Nat) (x : CtxX) : State := s.withCtxx (tset ctxDef s.ctxx (ctxKey d n c) x)
/-- A context with no plan: its vector registers stand (03 R87, R102). -/
def CtxX.bare (x : CtxX) : CtxX := { ctxDef 0 with vregs := x.vregs, chan := x.chan }
/-- State of a context: 0 EMPTY 1 LOADED 2 READY 3 RUNNING 4 WAITING 5 HALTED (03 R76). -/
def ctxState (s : State) (d n c : Nat) : Nat := fget s (Reg.BLK_CTX_STATUS d n c) 0 3
/-- A context's new state; WAIT_CAUSE reads 0 outside WAITING. -/
def setCtxState (s : State) (d n c v : Nat) : State :=
  let s := fset s (Reg.BLK_CTX_STATUS d n c) 0 3 v
  if v = 4 then s else fset s (Reg.BLK_CTX_STATUS d n c) 24 4 0
/-- A run is in progress in the context. -/
def inRun (s : State) (d n c : Nat) : Bool := ctxState s d n c == 3 || ctxState s d n c == 4

/-- Operations in progress abandoned (03 R104 steps 2-3). -/
def dropOps (s : State) (d n c : Nat) : State :=
  let x := ctxX s d n c
  setCtxX s d n c { x with mason := [], vec := [], hods := [] }

/-- The plan a handle names. -/
def planOf (s : State) (d h : Nat) : Option Plan := s.plans.find? (fun p => p.die == d && p.handle == h)
/-- A plan replaced by its new value. -/
def putPlan (s : State) (p : Plan) : State :=
  s.withPlans (s.plans.map (fun q => if q.die = p.die ∧ q.handle = p.handle then p else q))

/-- A little-endian number in a plan's image (04 R109). -/
def Plan.num (p : Plan) (o n : Nat) : Nat := leNat ((p.img.drop o).take n)
/-- CYCLES. -/
def Plan.cycles (p : Plan) : Nat := p.num 0x18 8
/-- SLOTS. -/
def Plan.slots (p : Plan) : Nat := p.num 0x15 1
/-- RUN_LATENCY. -/
def Plan.runLat (p : Plan) : Nat := p.num 0x12 2
/-- LINTEL_DEPTH. -/
def Plan.depth (p : Plan) : Nat := p.num 0x14 1
/-- DIGEST. -/
def Plan.digest (p : Plan) : List Byte := (p.img.drop 0xD0).take 48

/-- The Plumb sample of a die discarded; the unit is IDLE (08 R224). -/
def loseSample (s : State) (d : Nat) : State :=
  match tget plumbDef s.plumb d with
  | some _ => fset (s.withPlumb (tset plumbDef s.plumb d none)) (Reg.PLB_STATUS d) 0 2 0
  | none => s

/-- The sample of a plan discarded, uncounted: the plan leaves, or its handle is assigned anew (08 R224). -/
def losePlanSample (s : State) (d h : Nat) : State :=
  match tget plumbDef s.plumb d with
  | some x => if x.handle = h then loseSample s d else s
  | none => s

/-- The Plumb sample of a die discarded and counted in SKIPPED (08 R224). -/
def dropSample (s : State) (d : Nat) : State :=
  if (tget plumbDef s.plumb d).isSome then loseSample (wrapAdd s (Reg.PLB_SKIPPED d) 0 32 1) d else s

/-- The sample of a Block's context is being captured: a halt or fence discards it (08 R224). -/
def dropCapture (s : State) (d n c : Nat) : State :=
  match tget plumbDef s.plumb d with
  | some x => if x.blk = n ∧ x.ctx = c ∧ fget s (Reg.PLB_STATUS d) 0 2 = 1 then dropSample s d else s
  | none => s

/-- A Course is powered off: a capture in one of its Blocks is discarded (08 R224). -/
def dropCourseCapture (s : State) (d c : Nat) : State :=
  match tget plumbDef s.plumb d with
  | some x => if x.blk / 18 = c then dropCapture s d x.blk x.ctx else s
  | none => s

/-- Physical base of the numerics table (08 R225). -/
def plbBase (s : State) (d : Nat) : Nat :=
  fget s (Reg.PLB_TABLE_BASE_LO d) 23 9 * 0x800000 + fget s (Reg.PLB_TABLE_BASE_HI d) 0 20 * 0x100000000

/-- A 32-bit counter of a numerics entry, holding at its largest value (08 R218). -/
def hold32 (v : Nat) : Nat := holdAt 0xFFFFFFFF v

/-- A freshly zeroed entry: MIN_T reads 24 (08 R218). -/
def numFresh (s : State) (d h : Nat) : State :=
  memWrite s (plbBase s d + 128 * h) (List.replicate 24 0 ++ [24] ++ List.replicate 103 0)

/-- A run's FLAGS: the OR over its contexts (08 R219). -/
def runFlags (s : State) (p : Plan) : Nat :=
  p.place.foldl (fun f b => f ||| fget s (Reg.BLK_FP_FLAGS p.die b.1 b.2) 0 7) 0

/-- The report of a run's end into the plan's numerics entry, while PLB_CTRL.ENABLE is 1 (08 R218, R219). -/
def runReport (s : State) (p : Plan) : State :=
  if !bit s (Reg.PLB_CTRL p.die) 0 then s
  else
    let a := plbBase s p.die + 128 * p.handle
    let sat := (p.place.map (fun b => fget s (Reg.BLK_FP_FLAGS p.die b.1 b.2) 16 16)).sum
    let rai := (p.place.map (fun b => (rd s (Reg.BLK_CAST_RAISED p.die b.1 b.2)).toNat)).sum
    let n : Nat → Nat := fun o => memNat s (a + o) 4
    memWrite s a (leBytes 4 (hold32 (n 0 + 1)) ++ leBytes 4 (n 4 ||| runFlags s p) ++ leBytes 4 (hold32 (n 8 + sat)) ++
      leBytes 4 (hold32 (n 12 + rai)) ++ memRead s (a + 16) 112)

/-- The contexts of a plan whose run ends stand READY with their partial results in place (09 R249); a halted one stays
HALTED. -/
def endContexts (s : State) (p : Plan) : State :=
  p.place.foldl (fun s b =>
    let s := dropCapture (dropOps s p.die b.1 b.2) p.die b.1 b.2
    if inRun s p.die b.1 b.2 then setCtxState s p.die b.1 b.2 2 else s) s

/-- A run ends: its contexts, then its report. Answers the FLAGS its completion carries (09 R236). -/
def stopRun (s : State) (d h : Nat) : State × Nat :=
  match planOf s d h with
  | some p => (runReport (endContexts s p) p, runFlags s p)
  | none => (s, 0)

end Sys2Proof.Machine
end

