-- ==== Sys2Proof/Machine/Xlat.lean ====
section
/-! DEFINITION. Address translation (10 R253-R268): the walk of the device tables, the translation caches, the pages of a
region, and the physical checks of its leaves. -/

namespace Sys2Proof.Machine

/-- The outcome of translating one page. -/
inductive XRes where
  /-- A leaf. -/
  | ok (e : XEntry)
  /-- A missing entry at this level; 5 for the ASID entry (10 R266). -/
  | missing (level : Nat)
  /-- Refused with these codes, by the entry at this physical address. -/
  | bad (reason detail pa : Nat)
  deriving DecidableEq, Repr

/-- A translation unit's extra state. -/
def xunit (s : State) (u : Nat) : XUnit := tget xltDef s.xlt u
/-- Its new extra state. -/
def setXunit (s : State) (u : Nat) (x : XUnit) : State := s.withXlt (tset xltDef s.xlt u x)

/-- Physical base of unit `u`'s ASID table (10 R255). -/
def asidBase (s : State) (u : Nat) : Nat :=
  fget s (Reg.XLT_ASID_BASE_LO u) 12 20 * 4096 + fget s (Reg.XLT_ASID_BASE_HI u) 0 20 * 0x100000000

/-- A malformed entry (10 R258). -/
def malformed (pa : Nat) : XRes := .bad Rsn.BAD_DESC 0xB2 pa

/-- The sixteen entries of a 64 KiB group agree (10 R258): valid C64K leaves, equal rights, PPNs rising by one from a
64 KiB-aligned first page. -/
def groupOk (s : State) (tab idx e : Nat) : Bool :=
  let g := idx / 16 * 16
  let first := memNat s (tab + 8 * g) 8
  decide (first / 4096 % 2 ^ 40 % 16 = 0) &&
  (List.range 16).all (fun i =>
    let x := memNat s (tab + 8 * (g + i)) 8
    decide (x % 4096 = e % 4096) && decide (x / 4096 % 2 ^ 40 = first / 4096 % 2 ^ 40 + i) && decide (x / 2 ^ 52 = 0))

/-- What one table entry says: the walk ends, or goes down to the table at an address. -/
inductive WStep where
  | done (r : XRes)
  | down (pa : Nat)

/-- One entry at level `lv` of the table at `tab` (10 R256-R258). Bits of an entry: 0 V, 1 R, 2 W, 3 A, 4 LEAF, 5 C64K. -/
def walkEntry (s : State) (asid va tab lv : Nat) : WStep :=
  let idx := va / 2 ^ (12 + 9 * lv) % 512
  let at' := tab + 8 * idx
  if poisoned s at' 8 then .done (.bad Rsn.POISON 0xC2 at')
  else
    let e := memNat s at' 8
    let b : Nat → Bool := fun i => e / 2 ^ i % 2 == 1
    let pa := e / 4096 % 2 ^ 40 * 4096
    if !b 0 then .done (.missing lv)
    else if e / 64 % 64 ≠ 0 ∨ e / 2 ^ 52 ≠ 0 then .done (malformed at')
    else if b 4 then
      if lv ≥ 3 then .done (malformed at')
      else if ((b 2 || b 3) && !b 1) || (b 3 && !b 2) then .done (malformed at')
      else if pa % 2 ^ (12 + 9 * lv) ≠ 0 then .done (malformed at')
      else if b 5 && lv ≠ 0 then .done (malformed at')
      else if b 5 && !groupOk s tab idx e then .done (malformed at')
      else if b 5 then .done (.ok ⟨3, asid, va / 65536 * 65536, 65536, pa / 65536 * 65536, e / 2 % 8⟩)
      else .done (.ok ⟨3, asid, va / 2 ^ (12 + 9 * lv) * 2 ^ (12 + 9 * lv), 2 ^ (12 + 9 * lv), pa, e / 2 % 8⟩)
    else if b 1 || b 2 || b 3 || b 5 || lv = 0 then .done (malformed at')
    else if inStack s pa 4096 then .down pa else .done (malformed at')

/-- The walk from the table at a level. -/
def walkF (s : State) (asid va : Nat) (tab : Nat) : Nat → XRes
  | 0 => match walkEntry s asid va tab 0 with
    | .done r => r
    | .down pa => malformed pa
  | n + 1 => match walkEntry s asid va tab (n + 1) with
    | .done r => r
    | .down pa => walkF s asid va pa n

/-- The whole walk, from the ASID entry (10 R255). -/
def walk (s : State) (u asid va : Nat) : XRes :=
  let p := asidBase s u + 16 * asid
  if poisoned s p 16 then .bad Rsn.POISON 0xC2 p
  else
    let e := memNat s p 16
    let root := e / 4096 % 2 ^ 40 * 4096
    if e % 2 = 0 then .missing 5
    else if e % 4096 ≠ 1 ∨ e / 2 ^ 52 ≠ 0 ∨ !inStack s root 4096 then malformed p
    else walkF s asid va root 4

/-- Entries one cache holds (10 R262). -/
def cacheCap (u bay : Nat) : Nat := if u ≥ 4 then 2048 else if bay = 3 then 32768 else 4096

/-- A cached leaf that covers an address, in the Bay cache `bay` first, then in the unit's own (10 R261). -/
def cacheHit (x : XUnit) (bay asid va : Nat) : Option XEntry :=
  let m : Nat → XEntry → Bool := fun b e => e.bay == b && e.asid == asid && decide (e.va ≤ va ∧ va < e.va + e.size)
  match x.cache.find? (m bay) with
  | some e => some e
  | none => x.cache.find? (m 3)

/-- A leaf put into one cache; the oldest entry of a full cache leaves (10 R262: replacement affects no result). -/
def cachePut (u : Nat) (x : XUnit) (e : XEntry) : XUnit :=
  let mine := x.cache.filter (fun f => f.bay == e.bay)
  let c := if mine.length < cacheCap u e.bay then x.cache
    else match mine.getLast? with
      | some o => x.cache.erase o
      | none => x.cache
  { x with cache := e :: c }

/-- One page translated: caches, then a walk that fills both (10 R261). `bay` is 3 for an item without executing Bay. -/
def lookup (s : State) (u bay asid va : Nat) : XRes × State :=
  match cacheHit (xunit s u) bay asid va with
  | some e => (.ok e, s)
  | none =>
    match walk s u asid va with
    | .ok e =>
      let x := cachePut u (xunit s u) e
      let x := if bay = 3 then x else cachePut u x { e with bay := bay }
      (.ok e, setXunit s u x)
    | r => (r, s)

/-- The row of the physical map an address lies in (10 R251); none for an unassigned one. -/
def mapRow (a : Nat) : Option Nat :=
  if a < 0x030000000000 then some 0
  else if 0x100000000000 ≤ a ∧ a < 0x118000000000 then some (1 + (a - 0x100000000000) / 0x2000000000)
  else if 0x1C0000000000 ≤ a ∧ a < 0x1CD800000000 then some 20
  else if 0xE00000000000 ≤ a ∧ a < 0xE10000000000 then
    if a % 0x4000000000 % 0x1000000000 < 288 * 0x200000 ∧ a % 0x4000000000 / 0x1000000000 < 3 then
      some (30 + (a - 0xE00000000000) / 0x1000000000) else none
  else (winOf a).map (fun p => 60 + p.1)

/-- State of socket `n` (06 R173). -/
def sktState (s : State) (n : Nat) : Nat := fget s (Reg.GLB_SKT_STATUS (4 + n / 3) (n % 3)) 0 3
/-- CAP_GIB of socket `n`. -/
def sktCap (s : State) (n : Nat) : Nat := fget s (Reg.GLB_SKT_STATUS (4 + n / 3) (n % 3)) 4 10
/-- Sockets of the boot population, ascending: those that are not EMPTY (06 R168, R170). -/
def sockets (s : State) : List Nat := (List.range 6).filter (fun n => decide (sktState s n ≠ 0))
/-- Capacity in GiB of each module of the boot population: that of a socket that serves. One that does not may hold another module. -/
def bootCap (s : State) : Nat :=
  match (sockets s).find? (fun n => decide (sktState s n ≤ 2)) with
  | some n => sktCap s n
  | none => sktCap s ((sockets s).headD 0)
/-- Bytes of the DDR5 range (06 R169). -/
def ddrSize (s : State) : Nat := (sockets s).length * bootCap s * 1073741824
/-- The socket that a DDR5 byte lies in (06 R169). -/
def socketOf (s : State) (a : Nat) : Nat := (sockets s).getD (a / 4096 % max 1 (sockets s).length) 0
/-- An access reaches a home address: a socket notes when (06 R171). -/
def touchSkt (s : State) (a : Nat) : State :=
  if a < 0x030000000000 then
    let n := socketOf s a
    (s.withSktLast (tset natDef s.sktLast n (ctl s (4 + n / 3) + 1)))
  else s
/-- The physical checks of a range an item names: the leaf's page inside one row (10 R252), the populated parts
(06 R155, R157, R169), the hole of a Block window (03 R89), and the control windows (10 R253). -/
def physCheck (s : State) (priv : Bool) (pa n : Nat) : Chk :=
  match place s pa with
  | .unassigned => some (Rsn.CFG_RANGE, 0xB1)
  | .beyond => some (Rsn.CFG_RANGE, 0x60)
  | .ddr a => if a + n ≤ ddrSize s then none else some (Rsn.CFG_RANGE, 0x61)
  | .hbm h o =>
    if pa < 0x118000000000 then (if o + n ≤ stackSize s h then none else some (Rsn.CFG_RANGE, 0x60))
    else if pa - 0x1C0000000000 + n ≤ 12 * stackMin s then none else some (Rsn.CFG_RANGE, 0x60)
  | .spad _ _ o _ => if o + n ≤ 0x180000 then none else some (Rsn.CFG_RANGE, 0x04)
  | .ctrl u o =>
    if priv || (decide (u < 4) && decide (0x04000000 ≤ o) && decide (o + n ≤ 0x04800000)) then none
    else some (Rsn.RIGHTS, 0xB3)

/-- An address in the Sv57 form (10 R254). -/
def vaForm (va : Nat) : Bool := decide (va / 2 ^ 56 = 0 ∨ va / 2 ^ 56 = 255)

/-- What translating the regions of an item gives: extents in order, missing pages (address, need, level), the first
refusal with the physical address of the entry and the virtual address that met it, and the state with the caches filled. -/
structure Xlated where
  s : State
  ext : List Extent
  miss : List (Nat × Nat × Nat)
  bad : Chk
  met : Nat × Nat

/-- Extents merged when contiguous in both spaces (10 R263). -/
def pushExt (es : List Extent) (e : Extent) : List Extent :=
  match es.getLast? with
  | some l => if l.va + l.len = e.va ∧ l.pa + l.len = e.pa then es.dropLast ++ [{ l with len := l.len + e.len }] else es ++ [e]
  | none => [e]

/-- A missing page recorded, once per item, with every right it is needed for; at most 64 are recorded (10 R265). -/
def addMiss (ms : List (Nat × Nat × Nat)) (m : Nat × Nat × Nat) : List (Nat × Nat × Nat) :=
  if ms.any (fun x => x.1 == m.1) then ms.map (fun x => if x.1 = m.1 then (x.1, x.2.1 ||| m.2.1, x.2.2) else x)
  else if ms.length < 64 then ms ++ [m] else ms

/-- What refuses `n` bytes at `pa` under a leaf: rights (10 R260), a page not inside one assigned row (10 R252), or the physical checks. -/
def leafCheck (s : State) (priv : Bool) (need : Nat) (e : XEntry) (pa n : Nat) : Chk :=
  if need &&& e.rights ≠ need then some (Rsn.RIGHTS, 0xB9)
  else if mapRow e.pa = none ∨ mapRow e.pa ≠ mapRow (e.pa + e.size - 1) then some (Rsn.CFG_RANGE, 0xB1)
  else physCheck s priv pa n

/-- The pages of one region `[va, va + n)` with rights `need` (1 R, 2 W, 4 A; 10 R260), added to what is translated so
far. -/
def xlatF (u bay asid : Nat) (priv : Bool) (need : Nat) (t : Xlated) (va n : Nat) : Nat → Xlated
  | 0 => t
  | f + 1 =>
    if n = 0 ∨ t.bad ≠ none then t
    else
      let va' := va % 2 ^ 57
      let r := lookup t.s u bay asid va'
      let t := { t with s := r.2 }
      match r.1 with
      | .bad a b pa => { t with bad := some (a, b), met := (pa, va') }
      | .missing lv =>
        let k := min n (4096 - va % 4096)
        let t := { t with miss := addMiss t.miss (va' / 4096 * 4096, need, lv) }
        xlatF u bay asid priv need t (va + k) (n - k) f
      | .ok e =>
        let k := min n (e.va + e.size - va')
        let pa := e.pa + (va' - e.va)
        match leafCheck t.s priv need e pa k with
        | some c => { t with bad := some c, met := (pa, va') }
        | none => xlatF u bay asid priv need { t with ext := pushExt t.ext ⟨va, pa, k⟩ } (va + k) (n - k) f

/-- A region to be translated: address, bytes, rights. -/
abbrev Region := Nat × Nat × Nat

/-- The regions of an item, in operand order (10 R261, R265). More than 16,384 extents are refused (10 R263). -/
def xlatAll (s : State) (u bay asid : Nat) (priv : Bool) (rs : List Region) : Xlated :=
  let t := rs.foldl (fun t r =>
    if t.bad ≠ none then t
    else if !vaForm r.1 then { t with bad := some (Rsn.CFG_RANGE, 0xB8) }
    else xlatF u bay asid priv r.2.2 t r.1 r.2.1 (r.2.1 / 4096 + 2)) ⟨s, [], [], none, (0, 0)⟩
  if t.bad = none ∧ 16384 < t.ext.length then { t with bad := some (Rsn.CFG_RANGE, 0xB5) } else t

/-- The physical address an extent list gives a virtual one. -/
def extPa (es : List Extent) (va : Nat) : Option Nat :=
  (es.find? (fun e => decide (e.va ≤ va ∧ va < e.va + e.len))).map (fun e => e.pa + (va - e.va))

/-- Bytes read through extents; a byte that no extent covers reads 0 (every region an item names is covered). -/
def extRead (s : State) (es : List Extent) (va : Nat) : Nat → List Byte
  | 0 => []
  | n + 1 => (match extPa es va with | some p => memByte s p | none => 0) :: extRead s es (va + 1) n

/-- The physical pieces of a virtual range under extents. -/
def extPieces (es : List Extent) (va n : Nat) : List (Nat × Nat) :=
  es.filterMap (fun e =>
    let lo := max va e.va
    let hi := min (va + n) (e.va + e.len)
    if lo < hi then some (e.pa + (lo - e.va), hi - lo) else none)

/-- A region read through the clean-read port. -/
def cleanExt (s : State) (es : List Extent) (va n : Nat) : State := (extPieces es va n).foldl (fun s p => cleanPa s p.1 p.2) s

end Sys2Proof.Machine
end

