-- ==== Sys2Proof/Machine/Forms.lean ====
section
/-! DEFINITION. Forms of the blocks that admission copies: fields of a descriptor, the operands of a MOVE (09 R234), and the parameter
block of a Footing command (07 R177, R178). -/

namespace Sys2Proof.Machine

/-- A little-endian field of a descriptor. -/
def dfld (desc : List Byte) (o n : Nat) : Nat := leNat ((desc.drop o).take n)

/-- Operands of a MOVE (09 R234). -/
structure MoveOps where
  src : Nat
  dst : Nat
  rb : Nat
  rows : Nat
  sstr : Nat
  dstr : Nat
  rate : Nat
  exec : Nat

/-- Operands read from a descriptor. -/
def moveOps (desc : List Byte) : MoveOps :=
  ⟨dfld desc 0x10 8, dfld desc 0x18 8, dfld desc 0x20 4, dfld desc 0x24 4, dfld desc 0x28 4, dfld desc 0x2C 4,
    dfld desc 0x30 2, dfld desc 0x32 2⟩

/-! ### Parameter blocks (07 R177, R178) -/

/-- Defined opcodes of a Footing command. -/
def ftgOp (op : Nat) : Bool := [0x01, 0x02, 0x03, 0x10, 0x20, 0x21, 0x22, 0x30, 0x40, 0x41].contains op
/-- Engine: 0 update, 1 reduce, 2 compressor, 3 hash lane, 4 move unit. -/
def ftgEngine (op : Nat) : Nat := if op ≤ 3 then 0 else if op = 0x10 then 1 else if op < 0x30 then 2 else if op = 0x30 then 3 else 4
/-- Bytes of an entry. -/
def entSize (op : Nat) : Nat := if op ≤ 3 then 128 else if op < 0x30 then 64 else 16
/-- OP of a block. -/
def pOp (p : List Byte) : Nat := dfld p 0 1
/-- NENT. -/
def pNent (p : List Byte) : Nat := dfld p 2 2
/-- Entries held in the copy. -/
def pEnts (p : List Byte) : Nat := min 256 (pNent p)
/-- G_FMT. -/
def pGfmt (p : List Byte) : Nat := dfld p 4 1
/-- RESULT. -/
def pResult (p : List Byte) : Nat := dfld p 8 8
/-- STEP. -/
def pStep (p : List Byte) : Nat := dfld p 0x10 8
/-- FLAGS bit. -/
def pFlag (p : List Byte) (i : Nat) : Bool := (dfld p 1 1).testBit i
/-- A field of entry `i`. -/
def ent (p : List Byte) (i o n : Nat) : Nat := dfld p (64 + i * entSize (pOp p) + o) n
/-- A signed byte of an entry. -/
def entS (p : List Byte) (i o : Nat) : Int := let v := ent p i o 1; if 128 ≤ v then (v : Int) - 256 else v
/-- Bytes of a gradient element. -/
def gBytes (f : Nat) : Nat := if f = 2 then 4 else 2
/-- Bytes of a reduce format: 0 binary32 1 GF16 2 binary16. -/
def rBytes (f : Nat) : Nat := if f = 0 then 4 else 2

/-- A region of a command: address, bytes, role (0 input, 1 output, 2 updated in place), entry plus 1 (0 RESULT). -/
structure FReg where
  va : Nat
  len : Nat
  role : Nat
  ent : Nat
  deriving DecidableEq, Repr

/-- Regions of entry `i`. -/
def entRegs (p : List Byte) (i : Nat) : List FReg :=
  let op := pOp p
  let g := gBytes (pGfmt p)
  let r : Nat → Nat → Nat → FReg := fun o n role => ⟨ent p i o 8, n, role, i + 1⟩
  if op ≤ 3 then
    let n := ent p i 0x30 8
    [r 0x00 (2 * n) 2, r 0x08 (g * n) 0, r 0x10 (2 * n) 2] ++ (if op = 2 then [r 0x18 (2 * n) 2] else []) ++
      (if ent p i 0x20 8 = 0 then [] else [r 0x20 n 1, r 0x28 (ceilDiv n 32) 1])
  else if op = 0x10 then
    let n := ent p i 0x18 8
    let mode := ent p i 0x34 1
    if 3 ≤ mode then [r 0x08 (520 * n) 0, r 0x10 (4104 * n) 1] ++ (if mode = 4 then [r 0x00 (4104 * n) 0] else [])
    else [r 0x08 (rBytes (ent p i 0x35 1) * n) 0, r 0x10 ((if mode = 2 then rBytes (ent p i 0x36 1) else 4) * n) 1] ++
      (if mode = 0 then [] else [r 0x00 (4 * n) 0])
  else if op < 0x30 then
    let n := ent p i 0x20 8
    [r 0x00 (g * 4096 * n) 0, r 0x08 (8192 * n) 2, r 0x10 ((if op = 0x22 then 520 else 4 * ent p i 0x38 2) * n) 1] ++
      (if op = 0x21 then [r 0x18 (4 * ent p i 0x3A 2 * n) 0] else [])
  else [⟨ent p i 0 8, ent p i 8 8, if op = 0x30 then 0 else if op = 0x40 then 2 else 1, i + 1⟩]

/-- Every region of a command, RESULT first. -/
def cmdRegs (p : List Byte) : List FReg := ⟨pResult p, 128, 1, 0⟩ :: (List.range (pEnts p)).flatMap (entRegs p)

/-- Physical pieces of a command's inputs (`out` false) or outputs. -/
def cmdPieces (it : Item) (out : Bool) : List (Nat × Nat) :=
  ((cmdRegs it.param).filter (fun r => r.role == 2 || r.role == (if out then 1 else 0))).flatMap (fun r => extPieces it.extents r.va r.len)

/-- Two ranges of `n` bytes overlap. -/
def overlap (a n b m : Nat) : Bool := decide (a < b + m ∧ b < a + n)
/-- Two lists of physical pieces overlap. -/
def piecesMeet (a b : List (Nat × Nat)) : Bool := a.any (fun x => b.any (fun y => overlap x.1 x.2 y.1 y.2))
/-! ### Geometry of a chain (14 R347-R350) -/

/-- SEGS; 0 encodes 65,536. -/
def cSegs (desc : List Byte) : Nat := let v := dfld desc 0x16 2; if v = 0 then 65536 else v
/-- Elements of a chain segment. -/
def cElems (desc : List Byte) : Nat := dfld desc 0x30 4 / cSegs desc
/-- Compression segments of a chain segment. -/
def cComp (desc : List Byte) : Nat := cElems desc / 4096
/-- LOCAL_FMT. -/
def cLocal (desc : List Byte) : Nat := dfld desc 0x34 1 % 4
/-- OUT_FMT. -/
def cOut (desc : List Byte) : Nat := dfld desc 0x34 1 / 4 % 4
/-- ROUND. -/
def cRound (desc : List Byte) : Nat := dfld desc 0x34 1 / 16 % 2
/-- GATHER. -/
def cGather (desc : List Byte) : Bool := dfld desc 0x34 1 / 32 % 2 == 1
/-- K_TOPK of the parameter block. -/
def cTopk (param : List Byte) : Nat := dfld param 0x30 2
/-- Bytes of a segment in running form. -/
def cRunBytes (op : Nat) (desc param : List Byte) : Nat :=
  if op = 0x29 then 4 * cElems desc else if op = 0x2A then 4 * cTopk param * cComp desc else 4104 * cComp desc
/-- Bytes of a segment in OUT form. -/
def cOutBytes (op : Nat) (desc param : List Byte) : Nat :=
  if op = 0x29 then rBytes (cOut desc) * cElems desc else cRunBytes op desc param
/-- Bytes of STAGING. -/
def cStaging (op : Nat) (desc param : List Byte) : Nat :=
  2 * cRunBytes op desc param + (if op = 0x2B then 520 * cComp desc else 0)
/-- A compressor's gradient format code of a reduce format code. -/
def gOfR (f : Nat) : Nat := if f = 0 then 2 else f - 1

/-- Regions of a chain item: LOCAL, OUT, STAGING, and RES of the compressed chains. -/
def cRegions (op : Nat) (desc param : List Byte) : List Region :=
  let n := dfld desc 0x30 4
  [(dfld desc 0x28 8, cStaging op desc param, 3), (dfld desc 0x18 8, rBytes (cLocal desc) * n, 1),
    (dfld desc 0x20 8, cSegs desc * cOutBytes op desc param, 3)] ++ (if op = 0x29 then [] else [(dfld param 0x20 8, 2 * n, 3)])

/-- Pieces of memory that an item reads (`out` false) or writes on a stack: a Footing command's, or those of a chain, whose hops are ordered
with the stack's commands (14 R349). -/
def stackPieces (it : Item) (out : Bool) : List (Nat × Nat) :=
  if 0x29 ≤ it.opcode ∧ it.opcode ≤ 0x2B then
    let rs := cRegions it.opcode it.desc it.param
    (if out then rs.filter (fun r => r.2.2 == 3) else rs).flatMap (fun r => extPieces it.extents r.1 r.2.1)
  else cmdPieces it out

/-- A later command must wait for an earlier one (07 R181). -/
def cmdHazard (a : Item) (ins outs : List (Nat × Nat)) : Bool :=
  piecesMeet (stackPieces a true) (ins ++ outs) || piecesMeet (stackPieces a false) outs

end Sys2Proof.Machine
end

