-- ==== Sys2Proof/Machine/Sha.lean ====
section
/-! DEFINITION. The digests and checks the spec names by their standards: SHA-384 (FIPS 180-4; 07 R202, 19 R461), and
bitwise CRCs (12 R301, R306; 13 R330). -/

namespace Sys2Proof.Machine

/-- The primes below `n`, for `n` up to 529: no smaller prime up to 19 divides them. -/
def primesTo (n : Nat) : List Nat :=
  (List.range n).filter (fun p => decide (2 ≤ p) && [2, 3, 5, 7, 11, 13, 17, 19].all (fun d => p == d || p % d != 0))

/-- The integer `k`-th root of `x` below `2 ^ bits`, bit by bit from the top; `r` is what is found so far. -/
def rootF (k x : Nat) : Nat → Nat → Nat
  | 0, r => r
  | b + 1, r => rootF k x b (if (r + 2 ^ b) ^ k ≤ x then r + 2 ^ b else r)

/-- The first 64 bits of the fraction of the `k`-th root of `p` (FIPS 180-4). -/
def rootBits (k p : Nat) : W64 := BitVec.ofNat 64 (rootF k (p * 2 ^ (64 * k)) 70 0)

/-- The round constants: the fractions of the cube roots of the first eighty primes. -/
def shaK : List W64 := (primesTo 410).map (rootBits 3)

/-- The initial hash value of SHA-384: the fractions of the square roots of the ninth to the sixteenth prime. -/
def shaH : List W64 := ((primesTo 54).drop 8).map (rootBits 2)

/-- A big-endian 64-bit word of bytes. -/
def be64 (bs : List Byte) : W64 := (bs.take 8).foldl (fun a b => (a <<< 8) ||| b.zeroExtend 64) 0

/-- The bytes of a word, most significant first. -/
def be64Bytes (w : W64) : List Byte := (List.range 8).map (fun i => (w >>> (56 - 8 * i)).truncate 8)

/-- Message schedule, newest word first: `n` words added to the sixteen of the block. -/
def shaSchedule : Nat → List W64 → List W64
  | 0, w => w
  | n + 1, w =>
    let g : Nat → W64 := fun i => w.getD i 0
    let s0 := (g 14).rotateRight 1 ^^^ (g 14).rotateRight 8 ^^^ (g 14 >>> 7)
    let s1 := (g 1).rotateRight 19 ^^^ (g 1).rotateRight 61 ^^^ (g 1 >>> 6)
    shaSchedule n ((s1 + g 6 + s0 + g 15) :: w)

/-- One round on the eight working variables. -/
def shaRound (v : List W64) (kw : W64 × W64) : List W64 :=
  match v with
  | [a, b, c, d, e, f, g, h] =>
    let s1 := e.rotateRight 14 ^^^ e.rotateRight 18 ^^^ e.rotateRight 41
    let ch := (e &&& f) ^^^ (~~~e &&& g)
    let t1 := h + s1 + ch + kw.1 + kw.2
    let s0 := a.rotateRight 28 ^^^ a.rotateRight 34 ^^^ a.rotateRight 39
    let mj := (a &&& b) ^^^ (a &&& c) ^^^ (b &&& c)
    [t1 + (s0 + mj), a, b, c, d + t1, e, f, g]
  | v => v

/-- One 128-byte block. -/
def shaBlock (h : List W64) (bs : List Byte) : List W64 :=
  let w := shaSchedule 64 (((List.range 16).map (fun i => be64 (bs.drop (8 * i)))).reverse)
  let v := (shaK.zip w.reverse).foldl shaRound h
  (h.zip v).map (fun p => p.1 + p.2)

/-- The blocks of a padded message. -/
def shaBlocks (h : List W64) (bs : List Byte) : Nat → List W64
  | 0 => h
  | n + 1 => shaBlocks (shaBlock h (bs.take 128)) (bs.drop 128) n

/-- SHA-384: 48 bytes. -/
def sha384 (m : List Byte) : List Byte :=
  let len := m.length
  let pad := (128 + 111 - len % 128) % 128
  let p := m ++ [(0x80 : Byte)] ++ List.replicate pad 0 ++ List.replicate 8 0 ++ be64Bytes (BitVec.ofNat 64 (8 * len))
  ((shaBlocks shaH p (p.length / 128)).flatMap be64Bytes).take 48

/-- A CRC of width `n`, most significant bit first, over bytes each taken most significant bit first. -/
def crcMsb {n : Nat} (poly init : BitVec n) (bs : List Byte) : BitVec n :=
  bs.foldl (fun c b =>
    (List.range 8).foldl (fun c i => if c.msb != b.getLsbD (7 - i) then (c <<< 1) ^^^ poly else c <<< 1) c) init

/-- A CRC of width `n`, least significant bit first (reflected). -/
def crcLsb {n : Nat} (poly init : BitVec n) (bs : List Byte) : BitVec n :=
  bs.foldl (fun c b =>
    (List.range 8).foldl (fun c i => if c.getLsbD 0 != b.getLsbD i then (c >>> 1) ^^^ poly else c >>> 1) c) init

/-- Philox 4x32 with ten rounds (02 R67): counter words, key words. -/
def philox (c0 c1 c2 c3 k0 k1 : W32) : Nat → List W32
  | 0 => [c0, c1, c2, c3]
  | n + 1 =>
    let p0 := c0.toNat * 0xD2511F53
    let p1 := c2.toNat * 0xCD9E8D57
    philox (BitVec.ofNat 32 (p1 / 2 ^ 32) ^^^ c1 ^^^ k0) (BitVec.ofNat 32 p1)
      (BitVec.ofNat 32 (p0 / 2 ^ 32) ^^^ c3 ^^^ k1) (BitVec.ofNat 32 p0) (k0 + 0x9E3779B9) (k1 + 0xBB67AE85) n

end Sys2Proof.Machine
end

