-- ==== Sys2Proof/Machine/Stack.lean ====
section
/-! DEFINITION. The HBM stacks (06 R153-R166): where a byte lies in its stack, the reserve and the relocation of retired
pseudo-channels, and what the loss of a stack's contents leaves. -/

namespace Sys2Proof.Machine

/-- A stack beside its registers. -/
def stackX (s : State) (h : Nat) : StackX := tget stackDef s.stackx h
/-- Its new value. -/
def setStackX (s : State) (h : Nat) (x : StackX) : State := s.withStackx (tset stackDef s.stackx h x)
/-- State of a pseudo-channel: 0 ACTIVE 1 RETIRING 2 RETIRED (06 R166). -/
def pcState (s : State) (h pc : Nat) : Nat := fget s (Reg.FTG_PC_STATE (8 + h) (pc / 16)) (2 * (pc % 16)) 2
/-- Its new state. -/
def setPc (s : State) (h pc v : Nat) : State := fset s (Reg.FTG_PC_STATE (8 + h) (pc / 16)) (2 * (pc % 16)) 2 v

/-- Pseudo-channel and local index of granule `g` (06 R156). -/
def granulePc (g : Nat) : Nat × Nat := ((g ^^^ (g / 64) ^^^ (g / 4096)) % 64, g / 64)
/-- Local indexes of a pseudo-channel below the reserve (06 R156). -/
def localCount (k : Nat) : Nat := (1152 - 18 * k) * 4096

/-- The survivors of the `i`-th retirement, ascending (06 R163). -/
def survivors (order : List Nat) (i : Nat) : List Nat := (List.range 64).filter (fun p => !(order.take (i + 1)).contains p)

/-- Numbers below `n` that leave `a` modulo `m`. -/
def countMod (n m a : Nat) : Nat := if a < n then (n - a - 1) / m + 1 else 0

/-- Where local index `l` of pseudo-channel `pc` lies under the relocation of R163, for the reserve's at most two retirements: a
survivor's lowest free reserve row. The second retirement carries along, after its own indexes, what the first had put there. -/
def physIndex (k : Nat) (order : List Nat) (pc l : Nat) : Nat × Nat :=
  let n := localCount k
  let one := survivors order 0
  let two := survivors order 1
  match order with
  | [] => (pc, l)
  | r1 :: rest =>
    let p1 := if pc = r1 then (one.getD (l % one.length) 0, n + l / one.length) else (pc, l)
    match rest with
    | [] => p1
    | r2 :: _ =>
      if p1.1 ≠ r2 then p1
      else
        let j := l % two.length
        let t := two.getD j 0
        let held := countMod n one.length (one.idxOf t)
        if pc = r2 then (t, n + held + l / two.length)
        else (t, n + held + countMod n two.length j + l / (one.length * two.length))

/-- Place in the order of a copy of index `l` of pseudo-channel `pc`, which the retiring pseudo-channel `r` holds: its own indexes first,
then those an earlier retirement put there (06 R163). -/
def copyPos (k : Nat) (order : List Nat) (r pc l : Nat) : Nat :=
  if pc = r then l else localCount k + l / (survivors order 0).length

/-- Where an index lies now: an index that a copy in progress has moved is at its new place (06 R163 step 4). -/
def placeNow (s : State) (h pc l : Nat) : Nat × Nat :=
  let x := stackX s h
  let k := fget s (Reg.FTG_HBM_STATUS (8 + h)) 0 2
  let p := physIndex k x.order pc l
  match x.ret with
  | some r =>
    if r.copying ∧ p.1 = r.pc ∧ copyPos k x.order r.pc pc l < fget s (Reg.FTG_RETIRE_PROGRESS (8 + h)) 0 23 then
      physIndex k (x.order ++ [r.pc]) pc l
    else p
  | none => p

/-- Pseudo-channel, bank and row of offset `o` of stack `h` (06 R153, R163): 64 banks of 18,432 rows. Which bank and row a local row lies in
is open (log entry 35). -/
def rowOf (s : State) (h o : Nat) : Nat × Nat × Nat :=
  let g := granulePc (o / 256)
  let p := placeNow s h g.1 g.2
  (p.1, Config.bankRow (p.2 / 4) % 64, Config.bankRow (p.2 / 4) / 64 % 18432)

/-- A pseudo-channel's state in the health record, with a HEALTH store requested (06 R163 steps 1 and 5). -/
def healthPc (s : State) (h pc v : Nat) : State :=
  let x := { s.health with pcs := tset natDef s.health.pcs (h * 64 + pc) v }
  requestStore (s.withHealth x) (.health x)

/-- A pseudo-channel becomes RETIRED. -/
def retirePc (s : State) (h pc : Nat) : State :=
  let a := Reg.FTG_HBM_STATUS (8 + h)
  let s := fset (fset (setPc s h pc 2) a 2 2 (fget s a 2 2 + 1)) a 4 8 0
  let x := stackX s h
  healthPc (setStackX s h { x with order := x.order ++ [pc], ret := none }) h pc 2

/-- The contents of a stack are lost (06 R163, R165): pending repairs are discarded and a RETIRING pseudo-channel becomes RETIRED; hard
repairs and the relocation map stay. -/
def stackLost (s : State) (h : Nat) : State :=
  let s := loseStack s h
  let s := match (stackX s h).ret with
    | some r => retirePc s h r.pc
    | none => s
  let x := stackX s h
  setStackX s h { stackDef 0 with used := x.used, order := x.order }

/-- The health record's pseudo-channel states in a stack's registers (06 R166), and the relocation map rebuilt from it (R163). `warm` keeps
one that is RETIRING, whose copy starts again from index 0; otherwise it is RETIRED. -/
def applyPcs (s : State) (h : Nat) (warm : Bool) : State :=
  let v : Nat → Nat := fun i => tget natDef s.health.pcs (h * 64 + i)
  let gone := (List.range 64).filter (fun i => v i == 2 || (v i == 1 && !warm))
  let s := fset (fset s (Reg.FTG_HBM_STATUS (8 + h)) 0 2 (s.cfg.reserve.getD h 0)) (Reg.FTG_HBM_STATUS (8 + h)) 2 2 gone.length
  let s := gone.foldl (fun s i => setPc s h i 2) s
  let x := stackX s h
  let s := setStackX s h { x with
    order := x.order.filter gone.contains ++ gone.filter (fun p => !x.order.contains p)
    ret := x.ret.map (fun r => { r with copying := false, before := [] }) }
  match (List.range 64).find? (fun i => v i == 1 && warm) with
  | some pc =>
    let s := fset (setPc s h pc 1) (Reg.FTG_HBM_STATUS (8 + h)) 4 8 (1 + 4 * pc)
    if (stackX s h).ret.isSome then s else setStackX s h { stackX s h with ret := some ⟨pc, false, false, false, []⟩ }
  | none => s

end Sys2Proof.Machine
end

