-- ==== Sys2Proof/Machine/Adm.lean ====
section
/-! DEFINITION. Rings, the calendar, the energy ledger's arithmetic, completion records, the treatment journals and the
end of an item (09, 18 R439-R449, 19 R474-R475). -/

namespace Sys2Proof.Machine

/-! ### Rings -/

/-- Submission entries of a ring (09 R229). -/
def sqEntries (s : State) (d r : Nat) : Nat := 2 ^ fget s (Reg.RING_CFG d r) 1 5
/-- Completion entries. -/
def cqEntries (s : State) (d r : Nat) : Nat := 2 ^ fget s (Reg.RING_CFG d r) 6 5
/-- Virtual bases. -/
def sqBase (s : State) (d r : Nat) : Nat :=
  fget s (Reg.RING_SQ_BASE_LO d r) 12 20 * 4096 + fget s (Reg.RING_SQ_BASE_HI d r) 0 25 * 0x100000000
/-- Virtual base of the completion ring. -/
def cqBase (s : State) (d r : Nat) : Nat :=
  fget s (Reg.RING_CQ_BASE_LO d r) 12 20 * 4096 + fget s (Reg.RING_CQ_BASE_HI d r) 0 25 * 0x100000000
/-- The ring's address space. -/
def ringAsid (s : State) (d r : Nat) : Nat := fget s (Reg.RING_CFG d r) 16 16
/-- PRIV of a ring. -/
def ringPriv (s : State) (d r : Nat) : Bool := bit s (Reg.RING_CFG d r) 13
/-- Extra state of a ring. -/
def ringX (s : State) (d r : Nat) : RingX := tget ringDef s.ringx (d * 2048 + r)
/-- Its new extra state. -/
def setRingX (s : State) (d r : Nat) (x : RingX) : State := s.withRingx (tset ringDef s.ringx (d * 2048 + r) x)
/-- Entries waiting in the submission ring (09 R229). -/
def sqWaiting (s : State) (d r : Nat) : Nat :=
  let m := 2 * sqEntries s d r
  (fget s (Reg.RING_SQ_TAIL d r) 0 17 + m - fget s (Reg.RING_SQ_HEAD d r) 0 17 % m) % m
/-- Records in the completion ring the driver has not taken. -/
def cqUsed (s : State) (d r : Nat) : Nat :=
  let m := 2 * cqEntries s d r
  (fget s (Reg.RING_CQ_TAIL d r) 0 17 + m - fget s (Reg.RING_CQ_HEAD d r) 0 17 % m) % m
/-- Room for both records of one more item (09 R238). -/
def cqRoom (s : State) (d r : Nat) : Bool :=
  decide (cqUsed s d r + fget s (Reg.RING_OUTSTANDING d r) 0 17 + 2 ≤ cqEntries s d r)

/-! ### Writes that an absent Keystone diverts (15 R377-R381) -/

/-- Holding area of a die. -/
def holdX (s : State) (d : Nat) : HoldX := tget holdDef s.hold d
/-- Its new state. -/
def setHoldX (s : State) (d : Nat) (x : HoldX) : State := s.withHold (tset holdDef s.hold d x)
/-- Base of the holding area. -/
def holdBase (s : State) (d : Nat) : Nat :=
  fget s (Reg.GLB_HOLD_BASE_LO d) 12 20 * 4096 + fget s (Reg.GLB_HOLD_BASE_HI d) 0 20 * 0x100000000
/-- Base of the attach record of a die. -/
def attachBase (s : State) (d : Nat) : Nat :=
  fget s (Reg.GLB_ATTACH_BASE_LO d) 12 20 * 4096 + fget s (Reg.GLB_ATTACH_BASE_HI d) 0 20 * 0x100000000
/-- The Keystone whose socket a home address lies on. -/
def keyHome (s : State) (a : Nat) : Option Nat := if a < 0x030000000000 then some (socketOf s a / 3) else none
/-- Writes of die `d` for this home address are diverted (15 R378): from the moment its Keystone is ABSENT until the die has drained its
holding area after the Keystone's return (R376 step 6, R381). -/
def diverted (s : State) (d a : Nat) : Bool :=
  match keyHome s a with
  | some k => (holdX s d).away.contains k
  | none => false

/-- Some page of a physical range lies in memory whose writes the die diverts; the sockets interleave in pages, so six show all. -/
def rangeAway (s : State) (d pa len : Nat) : Bool :=
  decide (pa < 0x030000000000) && (List.range (min 6 (len / 4096 + 2))).any (fun i =>
    diverted s d (home s (pa + min (4096 * i) (len - 1))))

/-- A virtual range under extents meets such memory: a read of it waits (15 R378). -/
def extAway (s : State) (d : Nat) (es : List Extent) (va n : Nat) : Bool :=
  (extPieces es va n).any (fun p => rangeAway s d p.1 p.2)

/-- The holding area of a die holds something (15 R381). -/
def holdsAny (s : State) (d : Nat) : Bool :=
  decide (fget s (Reg.GLB_HOLD_USED d) 0 26 ≠ 0 ∨ fget s (Reg.GLB_HOLD_RECORDS d) 0 18 ≠ 0)

/-- STATE of GLB_HOLD_CTRL is HOLDING once something is held and no drain runs. -/
def holdState (s : State) (d : Nat) : State :=
  if fget s (Reg.GLB_HOLD_CTRL d) 2 2 = 0 then fset s (Reg.GLB_HOLD_CTRL d) 2 2 1 else s

/-- One data entry appended to the log (15 R377): 32-byte header and the bytes padded to a multiple of 32. Answers
false when the log is full (R380). -/
def holdPut (s : State) (d kind ring iseq pa : Nat) (bs : List Byte) : State × Bool :=
  let used := fget s (Reg.GLB_HOLD_USED d) 0 26
  let x := holdX s d
  let e := leBytes 8 pa ++ leBytes 8 x.seq ++ leBytes 2 bs.length ++ leBytes 1 kind ++ leBytes 1 0 ++ leBytes 2 ring ++
    leBytes 2 0 ++ leBytes 4 iseq ++ leBytes 4 0 ++ bs ++ List.replicate (roundUp bs.length 32 - bs.length) 0
  if 0x3800000 < used + e.length ∨ !bit s (Reg.GLB_ATTACH_CTRL d) 0 then (s, false)
  else
    let s := memWrite s (holdBase s d + used) e
    let s := setHoldX s d { x with seq := x.seq + 1 }
    let s := fset s (Reg.GLB_HOLD_USED d) 0 26 (used + e.length)
    (holdState s d, true)

/-- A write of die `d`'s units to a home range, in line pieces: performed, held, or stalled, which pauses the item's ring
(15 R378, R380). The flag says that some byte was held. `fuel` bounds the pieces. -/
def devWriteF (s : State) (d kind ring iseq pa : Nat) (bs : List Byte) (held : Bool) : Nat → State × Bool
  | 0 => (s, held)
  | f + 1 =>
    if bs.isEmpty then (s, held)
    else
      let k := 128 - pa % 128
      let a := home s pa
      if diverted s d a then
        let p := holdPut s d kind ring iseq a (bs.take k)
        if p.2 then devWriteF p.1 d kind ring iseq (pa + k) (bs.drop k) true f
        else
          let x := holdX s d
          let s := setHoldX s d { x with stalled := x.stalled ++ [(ring, iseq, pa, bs)] }
          (if ring < 2048 then setRD (fset s (Reg.RING_STATUS d ring) 0 2 2) (Reg.RING_STATUS d ring) 8 Rsn.HOST_ABSENT 0xAC else s, true)
      else devWriteF (memWriteAt (touchSkt s a) a (bs.take k)) d kind ring iseq (pa + k) (bs.drop k) held f

/-- A write by the units of die `d` for item `iseq` of ring `ring`. A range that meets no diverted home is written as
it stands. -/
def devWrite (s : State) (d kind ring iseq pa : Nat) (bs : List Byte) : State × Bool :=
  if 0x030000000000 ≤ pa then (memWrite s pa bs, false)
  else devWriteF s d kind ring iseq pa bs false (bs.length / 128 + 2)

/-! ### Completion records -/

/-- The 32 bytes of a completion record (09 R236). `kind` 1 ACCEPT, 2 REFUSE, 3 COMPLETE. -/
def crecBytes (tag seq kind scope phase reason detail flags time aux : Nat) : List Byte :=
  leBytes 8 tag ++ leBytes 4 seq ++ leBytes 1 (kind + scope * 16 + phase * 128) ++ leBytes 1 reason ++
  leBytes 1 detail ++ leBytes 1 flags ++ leBytes 8 time ++ leBytes 8 aux

/-- The interrupt of a record under RING_CFG.NOTIFY (09 R231): 1 every COMPLETE; 2 COMPLETE of items with
FLAGS.NOTIFY; 3 every record. -/
def ringNotify (s : State) (d r kind : Nat) (want : Bool) : State :=
  let n := fget s (Reg.RING_CFG d r) 14 2
  if n = 3 ∨ (n = 1 ∧ kind = 3) ∨ (n = 2 ∧ kind = 3 ∧ want) then
    sendMsi s (fget s (Reg.RING_MSI_ADDR_LO d r) 2 30 * 4 + fget s (Reg.RING_MSI_ADDR_HI d r) 0 20 * 0x100000000)
      (rd s (Reg.RING_MSI_DATA d r)).toNat
  else s

/-- A record written to the next completion entry (09 R236-R238): PHASE 1 on even passes. A COMPLETE record bound for a
diverted home goes to the record section of the holding area (15 R378). A page that does not translate, or that the ring may not write, takes no bytes
(log entry 7). -/
def putCrec (s : State) (d r tag seq kind scope reason detail flags time aux : Nat) (want : Bool) : State :=
  let n := fget s (Reg.RING_CQ_TAIL d r) 0 17
  let e := cqEntries s d r
  let bs := crecBytes tag seq kind scope (if n / e % 2 = 0 then 1 else 0) reason detail flags time aux
  let va := cqBase s d r + 32 * (n % e)
  let t := lookup s d 3 (ringAsid s d r) va
  let s := t.2
  let s := match t.1 with
    | .ok x =>
      let pa := x.pa + (va - x.va)
      if (leafCheck s (ringPriv s d r) 3 x pa 32).isSome then s
      else if diverted s d (home s pa) then
        if !bit s (Reg.GLB_ATTACH_CTRL d) 0 then s
        else
        let k := fget s (Reg.GLB_HOLD_RECORDS d) 0 18
        let s := memWrite s (holdBase s d + 0x3800000 + 64 * (k % 131072))
          (bs ++ leBytes 8 (home s pa) ++ leBytes 2 r ++ List.replicate 22 0)
        holdState (fset s (Reg.GLB_HOLD_RECORDS d) 0 18 (k + 1)) d
      else memWrite (touchSkt s pa) pa bs
    | _ => s
  let s := fset s (Reg.RING_CQ_TAIL d r) 0 17 ((n + 1) % (2 * e))
  let s := emit s .record [d, r, kind, reason, detail, seq] bs
  ringNotify s d r kind want

/-! ### Journals (19 R474-R475) -/

/-- Journal `j` of die `d` beside its registers. -/
def journal (s : State) (d j : Nat) : Journal := tget jrnlDef s.journals (d * 4 + j)
/-- Its new contents. -/
def setJournal (s : State) (d j : Nat) (x : Journal) : State :=
  s.withJournals (tset jrnlDef s.journals (d * 4 + j) x)
/-- The enabled journal of an address space. -/
def jrnlOf (s : State) (d asid : Nat) : Option Nat :=
  (List.range 4).find? (fun j => bit s (Reg.SEAL_JRNL_CTRL d j) 0 && fget s (Reg.SEAL_JRNL_CTRL d j) 16 16 == asid)
/-- Entries of a journal ring, and how many are unread. -/
def jrnlCap (s : State) (d j : Nat) : Nat := 2 ^ fget s (Reg.SEAL_JRNL_CTRL d j) 1 5
/-- Unread entries. -/
def jrnlUsed (s : State) (d j : Nat) : Nat :=
  let m := 2 * jrnlCap s d j
  (fget s (Reg.SEAL_JRNL_TAIL d j) 0 21 + m - fget s (Reg.SEAL_JRNL_HEAD d j) 0 21 % m) % m
/-- Room for the entries of the ASID's items: a full journal makes them wait (19 R474). -/
def jrnlRoom (s : State) (d asid : Nat) : Bool :=
  match jrnlOf s d asid with
  | some j => decide (jrnlUsed s d j + (s.items.filter (fun i => i.die == d && i.asid == asid)).length < jrnlCap s d j)
  | none => true

/-- H0 of a journal (19 R474): SHA-384 of "STVJRNL1", JOB and the die. -/
def jrnlH0 (s : State) (d j : Nat) : List Byte :=
  sha384 ([0x53, 0x54, 0x56, 0x4A, 0x52, 0x4E, 0x4C, 0x31] ++ leBytes 4 (rd s (Reg.SEAL_JRNL_JOB_LO d j)).toNat ++
    leBytes 4 (rd s (Reg.SEAL_JRNL_JOB_HI d j)).toNat ++ leBytes 1 d)

/-- The journal entry of an item that ends with these codes and completion FLAGS, written before its COMPLETE record (19 R475). -/
def journalItem (s : State) (it : Item) (reason detail flags : Nat) : State :=
  match jrnlOf s it.die it.asid with
  | none => s
  | some j =>
    let x := journal s it.die j
    let noTag := it.desc.take 8 ++ List.replicate 8 0 ++ it.desc.drop 16
    let k := match it.jrnl with
      | some (1, dg, keys) => (1, dg, sha384 (keys ++ leBytes 1 flags))
      | some k => k
      | none => (8, sha384 noTag, [])
    let step := if it.opcode = 0x02 then leNat ((it.desc.drop 0x20).take 8)
      else if it.opcode = 0x06 ∨ (0x29 ≤ it.opcode ∧ it.opcode ≤ 0x2B) then leNat ((it.param.drop 0x10).take 8) else 0
    let e := leBytes 8 (x.num + 1) ++ leBytes 1 k.1 ++ leBytes 1 reason ++ leBytes 1 detail ++ leBytes 1 it.opcode ++
      leBytes 2 it.ring ++ leBytes 2 0 ++ leBytes 4 it.seq ++ leBytes 4 0 ++ leBytes 8 step ++
      (k.2.1 ++ List.replicate 48 0).take 48 ++ (k.2.2 ++ List.replicate 48 0).take 48
    let h := if x.num = 0 then jrnlH0 s it.die j else x.hash
    let t := fget s (Reg.SEAL_JRNL_TAIL it.die j) 0 21
    let base := fget s (Reg.SEAL_JRNL_BASE_LO it.die j) 12 20 * 4096 +
      fget s (Reg.SEAL_JRNL_BASE_HI it.die j) 0 20 * 0x100000000
    let s := memWrite s (base + 128 * (t % jrnlCap s it.die j)) e
    let s := fset s (Reg.SEAL_JRNL_TAIL it.die j) 0 21 ((t + 1) % (2 * jrnlCap s it.die j))
    setJournal s it.die j { x with
      hash := sha384 (h ++ e), num := x.num + 1
      sealNum := if k.1 = 7 ∧ k.2.1 ≠ [] then x.num + 1 else x.sealNum
      sealDigest := if k.1 = 7 ∧ k.2.1 ≠ [] then k.2.1 else x.sealDigest }

/-! ### The ledger -/

/-- Ledger of a die beside its registers. -/
def ledgerX (s : State) (d : Nat) : LedgerX := tget ledgerDef s.ledger d
/-- Its new contents. -/
def setLedgerX (s : State) (d : Nat) (x : LedgerX) : State := s.withLedger (tset ledgerDef s.ledger d x)
/-- The budget of Course `c` or the quota is exhausted for the period: its sequencer issues nothing (18 R449). -/
def courseStalled (s : State) (d c : Nat) : Bool := (ledgerX s d).stalled.any (fun b => b == c || b == 20)
/-- The budget of a stack's Bay or the quota is exhausted: its interface and its Footing take no new request. -/
def bayStalled (s : State) (h : Nat) : Bool := (ledgerX s (h / 3)).stalled.any (fun b => b == 16 + h % 3 || b == 20)
/-- Ledger period of die `d` now (18 R438). -/
def period (s : State) (d : Nat) : Nat := ctl s d / 131250
/-- Index in `pendB` of LDG_MODULE. -/
def pendModule : Nat := 21
/-- The value in effect of a ledger register that holds `v`: the one before the period's first write to it (18 R454). -/
def inEffect (x : LedgerX) (i v : Nat) : Nat :=
  match x.pendB.find? (fun p => p.1 == i) with
  | some p => p.2
  | none => v
/-- A register of the ledger that holds `v` is written: `v` stays in effect until the boundary. -/
def LedgerX.hold (x : LedgerX) (i v : Nat) : LedgerX :=
  if x.pendB.any (fun p => p.1 == i) then x else { x with pendB := x.pendB ++ [(i, v)] }
/-- Budget `i` of die `d` in effect, µJ. -/
def effBudget (s : State) (d i : Nat) : Nat := inEffect (ledgerX s d) i (fget s (Reg.LDG_BUDGET d i) 0 24)
/-- The word of LDG_MODULE in effect. -/
def effModule (s : State) : Nat := inEffect (ledgerX s (cornerstone s)) pendModule (rd s Reg.LDG_MODULE).toNat
/-- d of budget `i` in 64ths, as fine as the sensors read (18 R448, R455). -/
def derate64 (s : State) (d i : Nat) : Nat := (((ledgerX s d).derated.find? (fun p => p.1 == i)).map (·.2)).getD 64
/-- Commit limit of budget `i` in µJ: 0.9 B d rounded down, the quota's also times d_in = min(1, 96 V / WATTS) in MARGIN;
0 while the ledger is closed (18 R440, R448, R455; 20 R483). -/
def commitLimit (s : State) (d i : Nat) : Nat :=
  let b := effBudget s d i
  let k := derate64 s d i
  let w := effModule s % 8192
  if !bit s (Reg.LDG_CTRL d) 0 then 0
  else if i = 20 ∧ fget s Reg.GLB_MOD_STATUS 13 2 = 2 then
    min (9 * b * k / 640) (9 * b * k * 96 * s.modx.vPrev / (640 * 100 * w))
  else 9 * b * k / 640

/-- Commitments of die `d` against budget `i` in a period: accepted items, completed items whose share has not lapsed
(18 R447), and the standing commitment of KS_ALLOT / 2 on the platform (R439). -/
def committed (s : State) (d i p : Nat) : Nat :=
  let f : List Charge → Nat := fun cs => ((cs.filter (fun c => c.budget == 32 * d + i && c.period == p)).map (·.uj)).sum
  (s.items.map (fun it => f it.charges)).sum + f (ledgerX s d).kept +
    (if i = 19 then effModule s / 65536 % 1024 * 125 else 0)

/-- A part of an item's energy: its budget, coefficient row of R441, count. A budget below 32 is a register index of the ring's die; 32 + h
is the Bay infrastructure of stack `h` of another die (01 R46). -/
abbrev Part := Nat × Nat × Nat
/-- Die and register index of a part's budget, for an item of die `d`. -/
def budgetAt (d b : Nat) : Nat × Nat := if b < 32 then (d, b) else ((b - 32) / 3, 16 + (b - 32) % 3)
/-- A part's budget for the Bay of column group `b` of die `u` (01 R46; 18 R439). -/
def bayBudget (d u b : Nat) : Nat := if u = d then 16 + b else 32 + 3 * u + b

/-- Energy of a part in units of 2^-26 fJ at the budget's correction temperature and scale `k` (18 R442). -/
def partRaw (s : State) (d k : Nat) (p : Part) : Nat :=
  let c := s.cfg.coefs.getD p.2.1 (0, 0)
  let e := budgetAt d p.1
  let t := min 125 (max 25 (fget s (Reg.LDG_TEMP e.1 e.2) 0 8))
  p.2.2 * c.1 * (65536 + c.2 * t - c.2 * 85) * k

/-- Budgets that parts are charged to. -/
def budgetsIn (ps : List Part) : List Nat := (ps.map (·.1)).eraseDups
/-- µJ that parts charge to budget `b` over `cyc` of their `dur` cycles: the sum over the quantities, rounded up (09 R243, 18 R442). -/
def partUj (s : State) (d k b : Nat) (ps : List Part) (cyc dur : Nat) : Nat :=
  ceilDiv (((ps.filter (fun p => p.1 == b)).map (partRaw s d k)).sum * cyc) (65536 * 1024 * 1000000000 * max 1 dur)

/-- Cycles of `[t, t + dur)` that fall in a period. -/
def cycIn (t dur p : Nat) : Nat := min (t + max 1 dur) ((p + 1) * 131250) - max t (p * 131250)

/-- The charges of an item's parts over a window of die `d`'s counter, each also charged to the quota of its budget's die (18 R442); a
budget of another die takes the window as an offset from now in that die's periods. -/
def chargesOf (s : State) (d : Nat) (ps : List Part) (t dur : Nat) : List Charge :=
  (budgetsIn ps).flatMap (fun b =>
    let e := budgetAt d b
    let t := ctl s e.1 + (t - ctl s d)
    (List.range ((t + max 1 dur - 1) / 131250 - t / 131250 + 1)).flatMap (fun j =>
      let p := t / 131250 + j
      let u := partUj s d (fget s (Reg.LDG_SCALE e.1 e.2) 0 12) b ps (cycIn t dur p) dur
      [⟨32 * e.1 + e.2, p, u⟩, ⟨32 * e.1 + 20, p, u⟩]))

/-- Index under R243 of a register index (18 R439). -/
def budgetCode (i : Nat) : Nat := if i < 16 then i else if i < 19 then 0x40 + (i - 16) else if i = 19 then 0x80 else 0xC0

/-- The charges would take budget `i` of die `d` past its commit limit in some period (09 R243). -/
def overLimit (s : State) (cs : List Charge) (d i : Nat) : Bool :=
  let mine := cs.filter (fun c => c.budget == 32 * d + i)
  mine.any (fun c => decide (commitLimit s d i < committed s d i c.period +
    ((mine.filter (fun e => e.period == c.period)).map (·.uj)).sum))
/-- The lowest budget index that the charges would take past its commit limit in some period (09 R243); a budget of another die is
reported by the index it has there (log entry 31). -/
def energyFit (s : State) (cs : List Charge) : Option Nat :=
  ((List.range 21).find? (fun i => (List.range 4).any (fun d => overLimit s cs d i))).map budgetCode

/-! ### The calendar (09 R240-R241) -/

/-- A reservable resource, as a number: Block occupancy, stack interface, stack total, Hod engine, mesh link, socket,
joint direction, port half direction. -/
def resBlock (d n : Nat) : Nat := d * 288 + n
/-- HBM stack, Ashlar interface. -/
def resHbm (h : Nat) : Nat := 2000 + h
/-- HBM stack, total. -/
def resTot (h : Nat) : Nat := 2100 + h
/-- DDR5 socket. -/
def resSock (n : Nat) : Nat := 2200 + n
/-- Joint `j` of unit `u`, direction 0 out 1 in. -/
def resJoint (u j dir : Nat) : Nat := 2300 + (u * 4 + j) * 2 + dir
/-- Half of port `n` of die `d`, direction 0 transmit 1 receive. -/
def resPort (d n half dir : Nat) : Nat := 2400 + ((d * 2 + n) * 2 + half) * 2 + dir
/-- Hod engine. -/
def resHod (d n : Nat) : Nat := 3000 + d * 288 + n
/-- Checkpoint engine of die `d` (17 R410). -/
def resCkp (d : Nat) : Nat := 9000 + d
/-- Mesh link `l` of die `d`. -/
def resMesh (d l : Nat) : Nat := 10000 + d * 4096 + l

/-- The unit that owns a resource. -/
def resOwner (r : Nat) : Nat :=
  if r < 2000 then r / 288 else if r < 2100 then (r - 2000) / 3 else if r < 2200 then (r - 2100) / 3
  else if r < 2300 then 4 + (r - 2200) / 3 else if r < 2400 then (r - 2300) / 8 else if r < 3000 then (r - 2400) / 8
  else if r < 9000 then (r - 3000) / 288 else if r < 10000 then r - 9000 else (r - 10000) / 4096

/-- Active pseudo-channels of a stack. -/
def activePc (s : State) (h : Nat) : Nat :=
  ((List.range 64).filter (fun i => fget s (Reg.FTG_PC_STATE (8 + h) (i / 16)) (2 * (i % 16)) 2 == 0)).length

/-- Bond bulk capacity s(w) (09 R240 row 7). -/
def bulkCap (w : Nat) : Nat := 4096 * w / 24 / 16 * 16
/-- The next trained width below `w` (12 R304): the widths are 24, 20, 16, 12 and 8. -/
def nextWidth (w : Nat) : Nat := if w > 20 then 20 else if w > 16 then 16 else if w > 12 then 12 else 8

/-- Rows of R240 as codes: 1 Block, 2-3 stack, 4-6 path, 7 Bond, 8 port. -/
def resRow (r : Nat) : Nat :=
  if r < 2000 then 1 else if r < 2100 then 2 else if r < 2200 then 3 else if r < 2300 then 6 else if r < 2400 then 7
  else if r < 3000 then 8 else if r < 10000 then 4 else 5

/-- A stack serves: its Footing and Bay are ON and it is not FAULTED nor being recovered. -/
def stackUp (s : State) (h : Nat) : Bool :=
  isOn s (dFooting h) && isOn s (dBay (h / 3) (h % 3)) && !outOf s (h / 3) &&
  decide (fget s (Reg.FTG_HBM_STATUS (8 + h)) 4 2 ≠ 2) && !recovering s (.footing h) && !recovering s (.bay (h / 3) (h % 3))

/-- Capacity of a resource now, in bytes per CK_ARITH cycle; occupancy is 1 (09 R240). `share` is what resident plans'
runs already hold of a mesh link (04 R117). -/
def resCap (s : State) (share : Nat → Nat) (r : Nat) : Nat :=
  if r < 2000 then 1
  else if r < 2100 then (if stackUp s (r - 2000) then 2304 * activePc s (r - 2000) / 64 else 0)
  else if r < 2200 then (if stackUp s (r - 2100) then 4608 * activePc s (r - 2100) / 64 else 0)
  else if r < 2300 then (if sktState s (r - 2200) = 1 ∨ sktState s (r - 2200) = 2 then 120 else 0)
  else if r < 2400 then
    let u := (r - 2300) / 8
    let j := (r - 2300) / 2 % 4
    if outOf s u ∨ fget s (Reg.BND_STATUS u j) 0 3 ≠ 4 then 0 else bulkCap (nextWidth (fget s (Reg.BND_STATUS u j) 3 5))
  else if r < 3000 then
    let d := (r - 2400) / 8
    let n := (r - 2400) / 4 % 2
    let hf := (r - 2400) / 2 % 2
    if fget s (Reg.NET_PORT_STATUS d n) (2 * hf) 2 ≠ 2 then 0
    else if bit s (Reg.NET_PORT_CFG d n) 1 then 44 else 88
  else if r < 9000 then 512
  else if r < 10000 then 256
  else 512 - share r

/-- Rate that accepted items hold of a resource in a slot of its owner's calendar. -/
def resUsed (s : State) (r slot : Nat) : Nat :=
  (s.items.map (fun it => ((it.resv.filter (fun v => v.res == r && v.slot == slot)).map (·.rate)).sum)).sum

/-- Bytes per cycle that a standing reserve of port `n` of die `d` takes: TX_RESERVE at bit 8, RX_RESERVE at bit 16, once per half. -/
def portReserve (s : State) (d n lo : Nat) : Nat :=
  let a := Reg.NET_PORT_CFG d n
  if bit s a 0 then 4 * fget s a lo 5 * (if bit s a 1 then 2 else 1) else 0

/-- Standing reserves (13 R336), in bytes per cycle: on a port half its own; on the memory path of the die (each of its stacks) and its Bay
ports' links, those of both ports (DEDUCED, log entry 44). -/
def standing (s : State) (r : Nat) : Nat :=
  let sum : Nat → Nat → Nat := fun d lo => portReserve s d 0 lo + portReserve s d 1 lo
  if 2400 ≤ r ∧ r < 3000 then
    let d := (r - 2400) / 8
    let n := (r - 2400) / 4 % 2
    if bit s (Reg.NET_PORT_CFG d n) 0 then
      4 * fget s (Reg.NET_PORT_CFG d n) (if (r - 2400) % 2 = 0 then 8 else 16) 5 else 0
  else if 2000 ≤ r ∧ r < 2200 then
    let d := (r - 2000) % 100 / 3
    sum d 8 + sum d 16
  else if 10000 ≤ r then
    let l := (r - 10000) % 4096
    if 108 ≤ l then 0
    else if l % 6 = 4 then sum ((r - 10000) / 4096) 8
    else if l % 6 = 5 then sum ((r - 10000) / 4096) 16
    else 0
  else 0

/-- The slots a window of the ring die's counter touches, in the calendar of the resource's owner: another unit's
calendar takes the window as an offset from now, widened by 512 cycles at each end (09 R241). -/
def slotsOf (s : State) (d r t dur : Nat) : List Nat :=
  let o := resOwner r
  let a := if o = d then t else ctl s o + (t - ctl s d) - 512
  let b := if o = d then t + max 1 dur - 1 else ctl s o + (t - ctl s d) + dur + 511
  (List.range (b / 8750 - a / 8750 + 1)).map (fun i => a / 8750 + i)

/-- What an item asks of the calendar when it starts at a given cycle. `res` are (resource, rate) in the row order of R240;
`obj` is the choice the device makes with it (the EXEC of a MOVE). -/
structure Shape where
  dur : Nat
  allow : Nat
  res : List (Nat × Nat)
  parts : List Part
  uses : List Nat
  obj : Nat

/-- What an item asks of the calendar: its shape at each start, its earliest start (the latest bound of what it waits on), and
what resident plans' runs hold of each mesh link. -/
structure Want where
  after : Nat
  form : State → Nat → Shape
  share : Nat → Nat

/-- Reservations of a start at `t`. -/
def resvOf (s : State) (d : Nat) (w : Shape) (t : Nat) : List Resv :=
  w.res.flatMap (fun p => (slotsOf s d p.1 t w.dur).map (fun k => ⟨p.1, k, p.2⟩))

/-- The first resource that a start at `t` does not fit (09 R241), as reason and detail. -/
def fits (s : State) (d : Nat) (share : Nat → Nat) (w : Shape) (t : Nat) : Chk :=
  match w.res.find? (fun p => (slotsOf s d p.1 t w.dur).any (fun k =>
      decide (resCap s share p.1 < resUsed s p.1 k + standing s p.1 + p.2))) with
  | some p =>
    some (Rsn.NOT_SCHEDULABLE, match resRow p.1 with
      | 1 => 0x9D | 2 => 0x9E | 3 => 0x9E | 7 => 0xA0 | 8 => 0xA1 | _ => 0x9F)
  | none => (energyFit s (chargesOf s d w.parts t w.dur)).map (fun b => (Rsn.ENERGY, b))

/-- The search of 09 R241 from start `t`, `n` tries left: the start and the shape with which it fits, or the refusal. `dl` is the
limit, `ov` the detail when only the limit fails. -/
def searchF (s : State) (d : Nat) (w : Want) (dl ov : Nat) (first : Chk) (t : Nat) (head : Bool) :
    Nat → (Nat × Shape) ⊕ (Nat × Nat)
  | 0 => .inr (first.getD (Rsn.NOT_SCHEDULABLE, ov))
  | n + 1 =>
    let w' := w.form s t
    let why := fits s d w.share w' t
    let first := if head then why else first
    if why = none then
      if dl < t + w'.dur + w'.allow then .inr (first.getD (Rsn.NOT_SCHEDULABLE, ov)) else .inl (t, w')
    else searchF s d w dl ov first ((t / 8750 + 1) * 8750) false n

/-! ### The end of an item -/

/-- The accepted item of a ring with a SEQ. -/
def findItem (s : State) (d r q : Nat) : Option Item := s.items.find? (fun i => i.die == d && i.ring == r && i.seq == q)
/-- The item replaced by its new value. -/
def putItem (s : State) (it : Item) : State :=
  s.withItems (s.items.map (fun i => if i.die = it.die ∧ i.ring = it.ring ∧ i.seq = it.seq then it else i))

/-- What an item reports: a fate decided by a fault; LATE with the cause it met when it ends past its bound, or LATE 0xA8
when it has held writes (09 R247, 15 R379); else the given codes. -/
def finalCodes (s : State) (it : Item) (reason detail : Nat) : Nat × Nat :=
  match it.fate with
  | some c => c
  | none =>
    if reason ≠ 0 then (reason, detail)
    else if it.held then (Rsn.LATE, 0xA8)
    else if it.late ≠ 0 ∧ it.bound < ctl s it.die then (Rsn.LATE, it.late)
    else (reason, detail)

/-- Extents held by accepted items and registered regions of a die (10 R263). -/
def extUsed (s : State) (d : Nat) : Nat :=
  ((s.items.filter (fun i => i.die == d)).map (fun i => i.extents.length)).sum +
  ((s.netRegs.filter (fun g => g.die == d)).map (fun g => g.extents.length)).sum

/-- EXT_FREE of XLT_STATUS (10 R273). -/
def extReg (s : State) (d : Nat) : State := fset s (Reg.XLT_STATUS d) 16 16 (min 0xFFFF (65536 - extUsed s d))

/-- A command of stack `h`'s Footing that an item of its own carries: a FOOTING, or a VERIFY, which runs a HASH (17 R425). -/
def onFooting (i : Item) : Bool := i.opcode == 6 || i.opcode == 0x33

/-- OUTSTANDING of CKP_STATUS (17 R433): the die's checkpoint items accepted and not complete. -/
def ckpCount (s : State) (d : Nat) : State :=
  fset s (Reg.CKP_STATUS d) 8 8 (min 255 (s.items.filter (fun i => i.die == d && decide (0x30 ≤ i.opcode ∧ i.opcode ≤ 0x34))).length)

/-- Virtual ranges that an item ended in the course of its work has written up to an unknown point: the destination of a MOVE (09 R249), the
outputs of a Footing command (07 R183, R184), BASE of a BED or UNBED (17 R418). -/
def openOut (it : Item) : List (Nat × Nat) :=
  let o := moveOps it.desc
  if it.opcode = 1 then (List.range o.rows).map (fun i => (o.dst + i * o.dstr, o.rb))
  else if onFooting it ∧ pOp it.param ≠ 0x40 then ((cmdRegs it.param).filter (fun r => r.role ≠ 0)).map (fun r => (r.va, r.len))
  else if it.opcode = 0x31 then [(dfld it.desc 0x18 8, 4096 * dfld it.desc 0x28 4)]
  else if it.opcode = 0x32 then [(dfld it.desc 0x18 8, 4096 * dfld it.param 0x18 4)]
  else []

/-- Those ranges take free bytes (log entry 1): nothing says how far the writing came. Control windows and memory of an absent Keystone
keep what they hold. -/
def loseOut (s : State) (it : Item) : State :=
  (openOut it).foldl (fun s r => (extPieces it.extents r.1 r.2).foldl (fun s p =>
    let f := takeFree s
    match place s p.1 with
    | .ctrl _ _ => s
    | _ => if rangeAway s it.die p.1 p.2 then s else memWrite f.2 p.1 (leBytes p.2 f.1)) s) s

/-- Commands of a stack. -/
def stackItems (s : State) (h : Nat) : List Item := s.items.filter (fun i => onFooting i && i.obj / 8 == h)
/-- Items whose work orders with a stack's commands: those commands, and the chains of STACK (14 R349). -/
def stackUsers (s : State) (h : Nat) : List Item :=
  s.items.filter (fun i => (onFooting i && i.obj / 8 == h) || (decide (0x29 ≤ i.opcode ∧ i.opcode ≤ 0x2B) && dfld i.desc 0x15 1 == h))
/-- An item whose start has come waits for an earlier-admitted one of its stack that has not completed (07 R181). -/
def cmdWaits (s : State) (h : Nat) (it : Item) : Bool :=
  decide (it.start ≤ ctl s (h / 3)) &&
  ((stackUsers s h).takeWhile (fun i => ¬ (i.ring = it.ring ∧ i.seq = it.seq))).any (fun a => cmdHazard a (stackPieces it false) (stackPieces it true))

/-- A row repair or the copy of a retirement runs on a stack: a running command may be held by it (06 R161, R163). -/
def stackHolds (s : State) (h : Nat) : Bool := (stackX s h).cur.isSome || (stackX s h).ret.any (·.copying)

/-- FTG_ENGINE_STATUS of stack `h` follows its commands (07 R206): RUNNING where one has started, WAITING where the oldest waits under R181, and
how many are queued. Whether a repair or a copy holds a running command at this moment is open: RUNNING or WAITING by a free value (log entry
171). -/
def ftgStatus (s : State) (h : Nat) : State :=
  let mine := stackItems s h
  let a := Reg.FTG_ENGINE_STATUS (8 + h)
  (List.range 5).foldl (fun s e =>
    let es := mine.filter (fun i => i.obj % 8 == e)
    if es.any (·.started) then
      (if stackHolds s h then (let f := takeFree s; fset f.2 a (2 * e) 2 (1 + f.1 % 2)) else fset s a (2 * e) 2 1)
    else fset s a (2 * e) 2 (if (es.head?).any (cmdWaits s h) then 2 else 0))
    (fset s a 16 8 ((mine.filter (fun i => !i.started)).length))
/-- The same of the three stacks of a die. -/
def ftgStatuses (s : State) (d : Nat) : State := (List.range 3).foldl (fun s b => ftgStatus s (3 * d + b)) s

/-- Registered regions gone, and with them what invalidations of their unit wait for (10 R269). -/
def dropRegs (s : State) (p : NetReg → Bool) : State :=
  let gone := (s.netRegs.filter p).map (fun g => (g.die, g.key))
  (List.range 4).foldl (fun s u =>
    let x := xunit s u
    if x.inv.isEmpty then s
    else setXunit s u { x with inv := x.inv.map (fun i => { i with regions := i.regions.filter (fun k => !gone.contains k) }) })
    (s.withNetRegs (s.netRegs.filter (fun g => !p g)))

/-- An item leaves: its reservations, extents and commitments are released (the current period's energy share lapses
at the boundary, 18 R447), and RING_OUTSTANDING falls. -/
def dropItem (s : State) (it : Item) : State :=
  let s := (List.range 4).foldl (fun s d =>
    let x := ledgerX s d
    setLedgerX s d { x with
      kept := x.kept ++ it.charges.filter (fun c => c.budget / 32 == d && c.period == period s d)
      winP := (x.winP.zipIdx).map (fun p => p.1 + ((it.pred.filter (fun q => q.1 == 32 * d + p.2)).map (·.2)).sum) }) s
  let s := s.withItems (s.items.filter (fun i => ¬ (i.die = it.die ∧ i.ring = it.ring ∧ i.seq = it.seq)))
  let s := dropRegs (s.withChains (s.chains.filter (fun c => ¬ (c.die = it.die ∧ c.ring = it.ring ∧ c.seq = it.seq))))
    (fun g => g.die == it.die && g.owner == some (it.ring, it.seq))
  let s := if onFooting it then ftgStatus s (it.obj / 8) else s
  let s := if 0x30 ≤ it.opcode then ckpCount s it.die else s
  extReg (fset s (Reg.RING_OUTSTANDING it.die it.ring) 0 17 (fget s (Reg.RING_OUTSTANDING it.die it.ring) 0 17 - 1)) it.die

/-- A collective item of a group has ended (14 R345, R353): the group counts it and keeps its bound, and is in ERROR when it ended with a
fault reason (00 R16, class 11; DEDUCED, log entry 122) or with detail 0xF3. -/
def groupEnd (s : State) (it : Item) (reason detail : Nat) : State :=
  if 0x29 ≤ it.opcode ∧ it.opcode ≤ 0x2C then
    s.withGroups (s.groups.map (fun g => if g.die = it.die ∧ g.num = it.obj then
      { g with st := if 0xC0 ≤ reason ∨ detail = 0xF3 then 3 else g.st, count := g.count + 1, last := it.bound } else g))
  else s

/-- SCOPE of an item: 0 PACKAGE 1 LOCAL 2 GLOBAL (09 R233). -/
def Item.scope (it : Item) : Nat := it.flags / 2 % 4
/-- Physical ranges that an item may have written: a MOVE's destination, else what its extents cover. -/
def writtenExts (it : Item) : List (Nat × Nat) :=
  if it.opcode = 0x01 then
    let o := moveOps it.desc
    extPieces it.extents o.dst ((o.rows - 1) * o.dstr + o.rb)
  else it.extents.map (fun e => (e.pa, e.len))
/-- What GLOBAL adds before the COMPLETE record (11 R293, R294): a purge that names the written extents goes to every network engine and
root port, whose read-ahead buffers drop their lines. No read request is in service between two commands, so they answer at once (log entry
167). -/
def globalPurge (s : State) (it : Item) : State :=
  (writtenExts it).foldl (fun s p => emit (purgeRange s (home s p.1 / 128) ((p.1 % 128 + p.2 - 1) / 128)) .mgt [9, p.1, p.2, it.die] []) s

/-- An item ends: journal entry, COMPLETE record, release (09 R239 step 7, R247; 19 R474); a RUN in progress ends its contexts
and reports its numerics first (08 R219). No record is written when the ring's own die is out of service (R247). An item that still has writes stalled on a full data log ends once they are held, or at its bound (15 R380). -/
def endItem (s : State) (it : Item) (reason detail : Nat) : State :=
  let h := holdX s it.die
  let mine : (Nat × Nat × Nat × List Byte) → Bool := fun w => w.1 == it.ring && w.2.1 == it.seq
  if reason = 0 ∧ h.stalled.any mine then
    setHoldX s it.die { h with ending := h.ending.filter (· ≠ (it.ring, it.seq)) ++ [(it.ring, it.seq)] }
  else
  let s := if h.stalled.any mine ∨ h.ending.contains (it.ring, it.seq) then
      setHoldX s it.die { h with stalled := h.stalled.filter (fun w => !mine w), ending := h.ending.filter (· ≠ (it.ring, it.seq)) }
    else s
  if outOf s it.die then s.withItems (s.items.filter (fun i => ¬ (i.die = it.die ∧ i.ring = it.ring ∧ i.seq = it.seq)))
  else
    let run := if it.opcode = 0x02 ∧ it.started then stopRun s it.die it.obj else (s, it.cflags)
    let s := run.1
    let c := finalCodes s it reason detail
    let s := journalItem s it c.1 c.2 run.2
    let s := if it.started ∧ it.phase = 0 ∧ c.1 ≠ 0 ∧ c.1 ≠ Rsn.LATE then loseOut s it else s
    let s := if it.scope = 2 ∧ it.started then globalPurge s it else s
    let s := putCrec s it.die it.ring it.tag it.seq 3 it.scope c.1 c.2 run.2 (ctl s it.die) it.caux
      (it.flags / 8 % 2 == 1)
    dropItem (groupEnd s it c.1 c.2) it

end Sys2Proof.Machine
end

