-- ==== Sys2Proof/Machine/Ladder.lean ====
section
/-! DEFINITION. Containment and the ladder (16 R394-R402): what is contained at once in each domain, how a recovery is
made, queued and escalated, and how a fault event is handled; with the Block fence of 03 R104 and the loss of a die. -/

namespace Sys2Proof.Machine

/-! ### The Block map -/

/-- STATE of a Block: 0 ALLOC 1 SPARE 2 FENCED 3 BAD 4 CLEARING (03 R74). -/
def blkState (s : State) (d n : Nat) : Nat := fget s (Reg.BLK_STATE d n) 0 3
/-- A Block is reachable: its Course and Bay are ON and contained by no recovery (03 R75, 01 R42). -/
def siteLive (s : State) (d n : Nat) : Bool :=
  isOn s (dCourse d (n / 18)) && isOn s (dBay d (n % 18 / 6)) && !recovering s (.course d (n / 18)) &&
  !recovering s (.bay d (n % 18 / 6))
/-- The Footing of stack `h` is faulted: FAULTED, or contained by a recovery (01 R45). -/
def footingHit (s : State) (h : Nat) : Bool := stackFaulted s h || recovering s (.footing h)
/-- Place in `sitesOut` of Block `n` of die `d`. -/
def siteKey (d n : Nat) : Nat := (d * 16 + n / 18) * 3 + n % 18 / 6
/-- A Block is in service: reachable, and no event that touched its site still stands (01 R48). -/
def siteUp (s : State) (d n : Nat) : Bool :=
  siteLive s d n && !(s.sitesOut.contains (siteKey d n) && footingHit s (3 * d + n % 18 / 6))

/-- Sites of die `d` out of service now: those whose Course or Bay is, and those that were and whose Footing is faulted (01 R48). -/
def sitesDown (s : State) (d : Nat) : List Nat :=
  (List.range 48).filterMap (fun i =>
    let n := i / 3 * 18 + i % 3 * 6
    if siteUp s d n then none else some (siteKey d n))

/-- Counts of GLB_DIE_IDENT recomputed (01 R38, R42), with the sites out of service (R48). -/
def recount (s : State) (d : Nat) : State :=
  let s := s.withSitesOut (s.sitesOut.filter (fun k => k / 48 ≠ d) ++ sitesDown s d)
  let c : Nat → Nat := fun v => ((List.range 288).filter (fun n => blkState s d n == v && siteUp s d n)).length
  fset (fset s (Reg.GLB_DIE_IDENT d) 17 6 (c 1)) (Reg.GLB_DIE_IDENT d) 23 9 (c 0)

/-- A change of the Block map: the register, the Cornerstone's copy, and a HEALTH store (01 R26). -/
def mapChange (s : State) (d n v : Nat) : State :=
  let s := fset s (Reg.BLK_STATE d n) 0 3 v
  let h := { s.health with map := tset (fun _ => 7) s.health.map (d * 288 + n) v }
  requestStore (s.withHealth h) (.health h)

/-- The spare that a fence in a Course moves into the allocatable set: the lowest SPARE Block (01 R26, 03 R104 do not say which; DESIGN
CHOICE, log entry 154). -/
def spareOf (s : State) (d c : Nat) : Option Nat :=
  (List.range 18).map (fun x => c * 18 + x) |>.find? (fun n => blkState s d n == 1)

/-! ### Ending what uses a unit (09 R247) -/

/-- Items satisfying `p` hold a cause of R247 with its LATE detail, the first one met. -/
def lateItems (s : State) (p : Item → Bool) (late : Nat) : State :=
  s.withItems (s.items.map (fun i => if p i && i.late == 0 then { i with late := late } else i))

/-- Items satisfying `p` that have started end with these codes; those not started keep the cause's LATE detail and end
under R247 when they finish. -/
def hitItems (s : State) (p : Item → Bool) (reason detail late : Nat) : State :=
  lateItems ((s.items.filter (fun i => p i && i.started)).foldl (fun s i => endItem s i reason detail) s) p late

/-- A context's run stopped: RUNNING or WAITING becomes HALTED with these codes and its operations are abandoned
(03 R104, 08 R224). -/
def haltCtx (s : State) (d n c reason detail : Nat) : State :=
  if inRun s d n c then
    setCtxState (setRD (dropCapture (dropOps s d n c) d n c) (Reg.BLK_CTX_STATUS d n c) 8 reason detail) d n c 5
  else s

/-- Every context of a Block stopped. -/
def haltBlock (s : State) (d n reason detail : Nat) : State :=
  (List.range 4).foldl (fun s c => haltCtx s d n c reason detail) s

/-- A fence (03 R104): no effect on a FENCED, CLEARING or BAD Block. With reason 0 (a fence written to BLK_CTRL.FENCE) the
runs it ends carry FENCED 0x21. -/
def fenceBlock (s : State) (d n reason detail : Nat) : State :=
  if 2 ≤ blkState s d n then s
  else
    let alloc := blkState s d n == 0
    let cr := if reason = 0 then Rsn.FENCED else reason
    let cd := if reason = 0 then 0x21 else detail
    let s := haltBlock s d n cr cd
    let s := (s.items.filter (fun i => i.started && i.resv.any (fun v => v.res == resBlock d n))).foldl
      (fun s i => endItem s i cr cd) s
    let s := mapChange s d n 2
    let s := fset (setRD s (Reg.BLK_STATE d n) 8 reason detail) (Reg.BLK_CTRL d n) 0 1 1
    let s := match spareOf s d (n / 18) with
      | some m => if alloc then mapChange s d m 0 else s
      | none => s
    recount s d

/-! ### Homes -/

/-- The home agent of a home address: 0-11 HBM, 12 + socket (01 R39). -/
def homeOf (s : State) (a : Nat) : Nat :=
  if 0x100000000000 ≤ a then (a - 0x100000000000) / 0x2000000000 else 12 + socketOf s a

/-- A home serves (11 R292): an HBM home with its Bay and Footing serving, a DDR5 home with its Keystone in service and
its socket ONLINE or EVACUATING. -/
def homeUp (s : State) (h : Nat) : Bool :=
  if h < 12 then stackUp s h
  else !outOf s (4 + (h - 12) / 3) && isOn s (dUncore ((h - 12) / 3)) && decide (hostState s ((h - 12) / 3) ≠ 2) &&
    (sktState s (h - 12) == 1 || sktState s (h - 12) == 2) && !recovering s (.socket (h - 12))

/-- Home of a line. -/
def lineHome (s : State) (l : Nat) : Nat := homeOf s (l * 128)
/-- The first address of each unit of a line marked poisoned (11 R276). -/
def poisonLine (s : State) (l : Nat) : State :=
  s.withPoison ((List.range 4).foldl (fun p i => kins (l * 128 + 32 * i) p) s.poison)

/-- QUEUED of a home (11 R297). -/
def queuedAt (s : State) (h : Nat) : State := fset s (homeReg h) 8 8 (holdAt 255 ((s.waitq.filter (fun r => r.home == h)).length))
/-- Coherence message codes of this model: 0-4 PROBE_SHARE, YIELD, DROP, COPY, FLUSH; 5 a request refused with DIE_ABSENT 0xC4; 6 data
with POISON 0xC2; 7 data or a grant; 8 an acknowledgement; 9 an atomic's old value; 10 a request refused with FENCED 0x66, 11 with CFG_RANGE
0x60, 12 with CFG_RANGE 0x61. The sender is a home's number, or 64 + an agent that sends the data straight to the requester. 16 a request, 17 a snoop
response without data, 18 one with data, 19 a write-back: these go from 64 + an agent to the home whose number stands last, and only where their
units differ. -/
def cohMsg (s : State) (code line frm dst : Nat) (data : List Byte) : State := emit s .coherence [code, line, frm, dst] data
/-- Why a home that does not serve refuses: its socket is not serving while its Keystone is (06 R170), else it is absent (11 R292). -/
def homeCode (s : State) (h : Nat) : Nat :=
  if 12 ≤ h ∧ !outOf s (4 + (h - 12) / 3) ∧ isOn s (dUncore ((h - 12) / 3)) ∧ sktState s (h - 12) ≠ 1 ∧ sktState s (h - 12) ≠ 2 then 10 else 5
/-- The reason and detail of a message code that refuses. -/
def codeWhy (code : Nat) : Nat × Nat :=
  if code = 10 then (Rsn.FENCED, 0x66) else if code = 11 then (Rsn.CFG_RANGE, 0x60) else if code = 12 then (Rsn.CFG_RANGE, 0x61)
  else (Rsn.DIE_ABSENT, 0xC4)

/-- A PCIe AtomicOp: at its home it is an ATOM_HOME of requester 48 or 49 whose completion the root port sends (11 R287, R288). -/
def Req.pcie (r : Req) : Bool := r.kind == 7 && decide (48 ≤ r.a ∧ r.a < 50 ∧ 4096 ≤ r.tn)
/-- A request refused at its home; an AtomicOp completes with Unsupported Request and a record of kind XLT (10 R264). -/
def refuseReq (s : State) (r : Req) (code : Nat) : State :=
  let s := cohMsg s code r.line r.home r.a []
  if r.pcie then
    let k := r.a - 48
    recordAt (emit s .pcie [k, 1] []) ⟨4 + k, (codeWhy code).1, (codeWhy code).2, 7, 8, 4 + k, r.data, .keystone k⟩ 7 0 0
  else s

/-- The unit a caching agent belongs to. -/
def agentUnit (a : Nat) : Nat :=
  if a < 24 then 4 + a / 12 else if a < 28 then a - 24 else if a < 40 then (a - 28) / 3 else if a < 44 then a - 40
  else if a < 48 then a - 44 else if a < 50 then a - 44 else (a - 50) / 3
/-- The unit of a home: HBM homes 0-11, DDR5 homes 12-17 (11 R276). -/
def homeUnit (h : Nat) : Nat := if h < 12 then h / 3 else 4 + (h - 12) / 3
/-- A message from an agent to a home of another unit. -/
def toHome (s : State) (code line a h : Nat) (data : List Byte) : State :=
  if agentUnit a = homeUnit h then s else cohMsg s code line (64 + a) h data
/-- DATA of a HOME record (16 R386). -/
def homeData (agent lines pa : Nat) : List Byte := leBytes 1 agent ++ List.replicate 3 0 ++ leBytes 4 lines ++ leBytes 8 pa
/-- A home is absent: STATE 0. -/
def homeAbsent (s : State) (h : Nat) : Bool := fget s (homeReg h) 0 2 == 0
/-- An orphan dropped: its line is named by a record POISON 0xC5 and poisoned when its home returns (11 R292). -/
def orphanDrop (s : State) (a l : Nat) : State :=
  let h := lineHome s l
  recordAt (s.withNamed (kins l s.named)) ⟨agentUnit a, Rsn.POISON, 0xC5, 7, 12, h, homeData a 1 (l * 128),
    if h < 12 then .bay (h / 3) (h % 3) else .socket (h - 12)⟩ 7 0 0
/-- The copies that satisfy `hit` leave their agents: modified ones are written back, and one whose home is absent is dropped as an orphan
(11 R292). -/
def evictAll (s : State) (hit : Copy → Bool) : State :=
  let os := s.copies.filter (fun c => hit c && c.st == 3 && homeAbsent s (lineHome s c.line))
  let s := os.foldl (fun s c => orphanDrop s c.agent c.line) s
  writeBackAll (s.withCopies (s.copies.filter (fun c => !os.contains c))) hit

/-- A home stops serving (11 R292, R296): its waiting requests are refused, every S and E copy of its lines is
dropped, its directory is gone; modified data that was on its way is kept as an orphan's. -/
def homeLost (s : State) (h : Nat) : State :=
  let rs := (s.txns.filter (fun t => t.home == h)).filterMap (·.req) ++ s.waitq.filter (fun r => r.home == h)
  let s := rs.foldl (fun s r => refuseReq s r (homeCode s h)) s
  let late := (s.txns.filter (fun t => t.home == h && t.dat.isSome)).map (fun t => Copy.mk 0 t.line 3 (t.dat.getD [])) ++
    s.resps.filter (fun c => c.st == 3 && lineHome s c.line == h)
  (s.withCopies (s.copies.filter (fun c => lineHome s c.line ≠ h || c.st == 3))
      |>.withDir (s.dir.filter (fun e => e.home ≠ h))
      |>.withTxns (s.txns.filter (fun t => t.home ≠ h))
      |>.withWaitq (s.waitq.filter (fun r => r.home ≠ h))
      |>.withResps (s.resps.filter (fun c => lineHome s c.line ≠ h))
      |>.withWbs (s.wbs ++ late)
      |>.withReclaims (s.reclaims.filter (fun r => r.1 ≠ h)))

/-- A home returns with an empty directory: the holders of orphans write them back, and it poisons the lines ORPHAN_DROP records named
(11 R292). -/
def homeReturn (s : State) (h : Nat) : State :=
  let s := writeBackAll s (fun c => lineHome s c.line == h)
  let mine := s.named.filter (fun l => lineHome s l == h)
  mine.foldl poisonLine (s.withNamed (s.named.filter (fun l => lineHome s l ≠ h)))

/-- Register of a home at an offset of its block (11 R297). -/
def deadReg (h a : Nat) : Nat × Nat := (homeReg h + (if a < 32 then 4 else 8), a % 32)
/-- An agent is marked dead at a home. -/
def isDead (s : State) (h a : Nat) : Bool := a < 40 && bit s (deadReg h a).1 (deadReg h a).2
/-- Its mark set or cleared. -/
def setDead (s : State) (h a v : Nat) : State := fset s (deadReg h a).1 (deadReg h a).2 1 v
/-- A caching agent runs with its caches empty: its unit in service, its KCORE over, no copy held (11 R290). -/
def agentFree (s : State) (a : Nat) : Bool :=
  (if a < 24 then !outOf s (4 + a / 12) && hostState s (a / 12) != 2 && !(tget natDef s.l2busy (a / 12)).testBit (a % 12)
    else if a < 28 then !outOf s (a - 24) else !outOf s ((a - 28) / 3) && isOn s (dBay ((a - 28) / 3) ((a - 28) % 3))) &&
  !s.copies.any (fun c => c.agent == a) && !s.reclaims.any (fun r => r.2.1 == a)

/-- A home in service has taken the notice of an agent's death, or has nothing of it to reclaim (11 R290). -/
def homeKnows (s : State) (h a : Nat) : Bool :=
  homeAbsent s h || isDead s h a ||
  !(s.dir.any (fun e => e.home == h && (e.excl == a + 1 || e.pres.contains a)) || s.txns.any (fun t => t.home == h && t.wait.contains a))

/-- The marks of agents that answer again cleared, once every home has finished its scan (11 R290). -/
def agentsBack (s : State) : State :=
  (List.range 40).foldl (fun s a =>
    if agentFree s a && (List.range 18).all (fun h => homeKnows s h a) then (List.range 18).foldl (fun s h => if isDead s h a then setDead s h a 0 else s) s else s) s

/-- The Bay cache of an agent number serves: its die in service, its Bay ON and not contained (11 R292). -/
def bayCacheUp (s : State) (a : Nat) : Bool :=
  let d := (a - 28) / 3
  let b := (a - 28) % 3
  !outOf s d && isOn s (dBay d b) && !recovering s (.bay d b)

/-- The homes' STATE follows their service, and the copies of a Bay cache that stopped serving are dropped (11 R292). -/
def homesChanged (s : State) : State :=
  let s := s.withCopies (s.copies.filter (fun c => c.agent < 28 || bayCacheUp s c.agent))
  (List.range 18).foldl (fun s h =>
    let a := homeReg h
    if homeUp s h then (if fget s a 0 2 = 0 then dirUse (fset (homeReturn s h) a 0 2 1) h else s)
    else if fget s a 0 2 = 0 && !(s.txns.any (fun t => t.home == h) || s.dir.any (fun e => e.home == h)) then
      s.withCopies (s.copies.filter (fun c => lineHome s c.line ≠ h || c.st == 3))
    else dirUse (queuedAt (fset (homeLost s h) a 0 2 0) h) h) s

/-! ### Loss of units -/

/-- MGT message codes of this model: 1 ABSENT, 2 DEAD, 3 package request, 4 package grant, 5 sensor report, 6 REJOIN,
7 ADMIT_DIE, 8 FAREWELL, 9 purge (address, length, the unit that asks), 10 probe answer. -/
def mgt (s : State) (code a b : Nat) : State := emit s .mgt [code, a, b] []

/-- Dies in service, ascending, but one. -/
def otherDies (s : State) (d : Nat) : List Nat := (List.range 4).filter (fun p => p ≠ d && !outOf s p)

/-- The Plinth moves when the Cornerstone's die leaves service (19 R468): the lowest POS in service takes over; queued reset
requests are refused with DIE_ABSENT 0xC7, an image update ends with the same codes and its slot stays WRITING (R479);
the new Cornerstone's records take their SEQ from its own counter. -/
def movePlinth (s : State) (d : Nat) : State :=
  if cornerstone s ≠ d then s
  else match otherDies s d with
    | [] => s
    | p :: _ =>
      let s := fset s Reg.GLB_BOOT_STATUS 3 3 p
      let s := s.resetQ.foldl (fun s q => match q.win with
        | some w => setRD (fset s (Reg.GLB_RESET_CTRL w) 31 1 0) (Reg.GLB_RESET_CTRL w) 8 Rsn.DIE_ABSENT 0xC7
        | none => emit s .errorResponse [Rsn.DIE_ABSENT, 0xC7] []) s
      let s := s.withResetQ []
      match s.update with
      | some _ => setRD (fset (fset (s.withUpdate none) Reg.GLB_IMG_CTRL 31 1 0) Reg.GLB_IMG_CTRL 2 3 5)
          Reg.GLB_IMG_CTRL 8 Rsn.DIE_ABSENT 0xC7
      | none => s

/-- Both halves of both ports of a die DOWN (13 R340, 17 R428). -/
def portsDown (s : State) (d : Nat) : State :=
  (List.range 2).foldl (fun s n => fset (fset s (Reg.NET_PORT_STATUS d n) 0 2 0) (Reg.NET_PORT_STATUS d n) 2 2 0) s

/-- Collective items on other dies of this module whose group has the lost die as a member (14 R355): DIE_ABSENT 0xAB, and each such group
in ERROR. A group is the same on two dies when its number and MEMBERSHIP are. -/
def groupsLost (s : State) (d : Nat) : State :=
  let gone := (s.groups.filter (fun g => g.die == d)).map (fun g => (g.num, (g.recd.drop 0x18).take 8))
  let hit : Group → Bool := fun g => g.die != d && gone.contains (g.num, (g.recd.drop 0x18).take 8)
  let s := s.items.foldl (fun s i =>
    if decide (0x29 ≤ i.opcode ∧ i.opcode ≤ 0x2C) && s.groups.any (fun g => hit g && g.die == i.die && g.num == i.obj) then
      endItem s i Rsn.DIE_ABSENT 0xAB else s) s
  (s.withGroups (s.groups.map (fun g => if hit g then { g with st := 3 } else g)))

/-- Held entries of a die that leaves service are lost, and the Cornerstone says how many the die's last attach record counts (15 R381). -/
def loseHeld (s : State) (d : Nat) : State :=
  if !holdsAny s d then s
  else
    let s := fset (fset s (Reg.GLB_HOLD_USED d) 0 26 0) (Reg.GLB_HOLD_RECORDS d) 0 18 0
    recordAt s ⟨cornerstone s, Rsn.HOST_ABSENT, 0x8D, 7, 14, d,
      List.replicate 4 0 ++ leBytes 4 (memNat s (attachBase s d + 0x38) 4) ++ leBytes 4 (memNat s (attachBase s d + 0x3C) 4), .ashlar d⟩ 7 0 0

/-- An Ashlar die leaves service (12 R316, 09 R247): its rings' items get no record, items elsewhere that reach it meet
LATE 0xA7 or DIE_ABSENT 0xAB, those that only pass through it go on by another route (12 R316, R317), its homes are absent, ABSENT and DEAD notices go out; its recoveries and package
requests but its own at L3 are withdrawn (16 R402). -/
def dieOut (s : State) (d : Nat) : State :=
  let s := (s.items.filter (fun i => i.die == d && i.started && onFooting i)).foldl loseOut s
  let s := loseHeld (movePlinth (s.withAbsent (kins d s.absent)) d) d
  let s := groupsLost (portsDown (ftgStatuses (s.withItems (s.items.filter (fun i => i.die ≠ d))) d) d) d
  let s := s.withRecov (s.recov.filter (fun r => r.owner ≠ d ∨ r.level = 3))
      |>.withPkgQ (s.pkgQ.filter (fun q => q.1 ≠ d || s.recov.any (fun r => r.owner == d && r.num == q.2 && r.level == 3)))
  let s := hitItems s (fun i => i.uses.any (fun u => decide (u / 24 = d ∧ u < 96 ∧ u % 24 < 20) ||
    decide (108 ≤ u ∧ u < 120 ∧ (u - 108) / 3 = d))) Rsn.DIE_ABSENT 0xAB 0xA7
  let s := lateItems s (fun i => i.uses.any (fun u => decide (u / 24 = d ∧ u < 96))) 0xA7
  homesChanged (mgt (mgt s 1 d 0) 2 (24 + d) 0)

/-- Host states of both Keystones stand in every die's GLB_ATTACH_CTRL (15 R373); the attach record is marked for
rewriting at once (R374). -/
def setHost (s : State) (k v : Nat) : State :=
  (List.range 4).foldl (fun s d =>
    let s := fset s (Reg.GLB_ATTACH_CTRL d) (24 + 3 * k) 3 v
    let x := tget hostxDef s.hostx d
    (s.withHostx (tset hostxDef s.hostx d { x with
        dirty := true
        detachedAt := if v = 0 then 0 else if x.detachedAt = 0 then ctl s d else x.detachedAt }))) s

/-- The module enters L4 (16 R394, R397): a MODULE record ABORTED 0x4D from the Cornerstone, FAULT_N asserted, every
accepted item ended with ABORTED 0x4D, SPARE_READY low. Admission stops while `l4` holds. -/
def enterL4 (s : State) : State :=
  if s.modx.l4 then s
  else
    let s := s.withModx { s.modx with l4 := true, faultN := true }
    let s := fset (fset s Reg.GLB_MOD_STATUS 8 1 1) Reg.GLB_MOD_STATUS 11 1 0
    let s := recordAt s ⟨cornerstone s, Rsn.ABORTED, 0x4D, 4, 13, 0, [], .module⟩ 4 0 0
    let s := (List.range 4).foldl portsDown s
    s.items.foldl (fun s i => endItem s i Rsn.ABORTED 0x4D) s

/-! ### Domains of the ladder -/

/-- The level of a domain (16 R394). -/
def Dom.level : Dom → Nat
  | .block _ _ => 1
  | .ashlar _ | .keystone _ => 3
  | .module => 4
  | _ => 2

/-- "Escalates to" (16 R394). -/
def Dom.up : Dom → Option Dom
  | .block d n => some (.course d (n / 18))
  | .course d _ => some (.ashlar d)
  | .bay d _ => some (.ashlar d)
  | .footing h => some (.ashlar (h / 3))
  | .socket n => some (.keystone (n / 3))
  | .cores k => some (.keystone k)
  | .ashlar _ | .keystone _ => some .module
  | .joint _ _ | .port _ | .module => none

/-- Nesting of 16 R398: `a` is `b` or lies in it. -/
def Dom.inside (a b : Dom) : Bool :=
  a == b || match a, b with
  | .block d n, .course d' c => d == d' && n / 18 == c
  | .block d _, .ashlar d' => d == d'
  | .course d _, .ashlar d' => d == d'
  | .bay d _, .ashlar d' => d == d'
  | .footing h, .ashlar d' => h / 3 == d'
  | .footing h, .bay d b => h / 3 == d && h % 3 == b
  | .socket n, .keystone k => n / 3 == k
  | .cores k, .keystone k' => k == k'
  | _, .module => true
  | _, _ => false

/-- The next domain that has the level, from a source's own domain outwards (16 R396). -/
def climb : Nat → Dom → Nat → Dom
  | 0, d, _ => d
  | f + 1, d, l => if l ≤ d.level then d else match d.up with | some u => climb f u l | none => d

/-- The fault unit that keeps a domain's recovery: that of the domain's die or Keystone (16 R395, R400). -/
def Dom.owner (s : State) : Dom → Nat
  | .block d _ | .course d _ | .bay d _ => d
  | .footing h => h / 3
  | .joint u _ => u
  | .port n => n / 2
  | .socket n => 4 + n / 3
  | .cores k | .keystone k => 4 + k
  | .ashlar d => d
  | .module => cornerstone s

/-- Slots of 16 R394: die, package. -/
def Dom.slots : Dom → Bool × Bool
  | .course _ _ | .bay _ _ | .footing _ => (true, true)
  | .socket _ | .cores _ | .ashlar _ | .keystone _ => (false, true)
  | _ => (false, false)

/-- Kind and source of a domain in records of kind RECOVERY (16 R386): domain kind byte and its source word. -/
def Dom.src : Dom → Nat × Nat
  | .block d n => (0, d + 8 * n)
  | .course d c => (1, d + 8 * c)
  | .bay d b => (2, d + 8 * b)
  | .footing h => (3, h)
  | .socket n => (4, n)
  | .joint u j => (5, u + 8 * j)
  | .port n => (6, n)
  | .cores k => (11, 4 + k)
  | .keystone k => (11, 4 + k + 8 * 31)
  | .ashlar d => (14, d)
  | .module => (13, 0)

/-- SPARE_READY (17 R427; 20 R497): every Ashlar die in service is STANDBY and has no recovery; low at L4. -/
def spareReg (s : State) : State :=
  let ds := (List.range 4).filter (fun d => !outOf s d)
  let ok := !s.modx.l4 && !ds.isEmpty && ds.all (fun d => fget s (Reg.CKP_STATUS d) 0 2 == 1 && fget s (Reg.FLT_RECOVERY d) 0 2 == 0)
  fset s Reg.GLB_MOD_STATUS 11 1 (if ok then 1 else 0)

/-- FLT_RECOVERY of die `o` follows the recoveries it keeps; PKG_ACTIVE is valid on the Cornerstone's die (16 R404). -/
def recovReg (s : State) (o : Nat) : State :=
  let c := Reg.FLT_RECOVERY (cornerstone s)
  let pkg := (s.recov.filter (·.pkgSlot)).length
  if o < 4 then
    let mine := s.recov.filter (fun r => r.owner == o)
    let s := fset s (Reg.FLT_RECOVERY o) 0 2 ((mine.filter (·.dieSlot)).length)
    let s := fset s (Reg.FLT_RECOVERY o) 2 6 (holdAt 63 (mine.filter (fun r => !r.running)).length)
    spareReg (fset s c 8 3 pkg)
  else spareReg (fset s c 8 3 pkg)

/-- Every queued recovery of a die takes a free die slot in SEQ order, and asks for its package slot (16 R400). -/
def takeSlots (s : State) (o : Nat) : State :=
  let s := s.recov.foldl (fun s r =>
    if r.owner = o ∧ r.dom.slots.1 ∧ !r.dieSlot then
      (if (s.recov.filter (fun q => q.owner == o && q.dieSlot)).length < 2 then
        s.withRecov (s.recov.map (fun q => if q.owner = o ∧ q.num = r.num then { q with dieSlot := true } else q))
      else s.withRecov (s.recov.map (fun q => if q.owner = o ∧ q.num = r.num then { q with waited := true } else q)))
    else s) s
  let s := s.recov.foldl (fun s r =>
    if r.owner = o ∧ r.dom.slots.2 ∧ !r.pkgSlot ∧ !r.pkgAsked ∧ (r.dieSlot ∨ !r.dom.slots.1) then
      mgt (s.withRecov (s.recov.map (fun q => if q.owner = o ∧ q.num = r.num then { q with pkgAsked := true } else q)))
        3 o r.num
    else s) s
  recovReg s o

/-- Orphans of Keystone `k`'s homes that Mortar complexes hold go to their dies' holding areas as kind 2 (11 R292, 15 R378); one that
finds no room stays in its cache. -/
def holdOrphans (s : State) (k : Nat) : State :=
  s.copies.foldl (fun s c =>
    if 24 ≤ c.agent ∧ c.agent < 28 ∧ c.st = 3 ∧ 12 + 3 * k ≤ lineHome s c.line ∧ lineHome s c.line < 15 + 3 * k then
      let p := holdPut s (c.agent - 24) 2 0xFFFF 0 (c.line * 128) c.data
      if p.2 then p.1.withCopies (p.1.copies.filter (fun x => x ≠ c)) else s
    else s) s

/-- Sockets of a Keystone that takes a KFULL (06 R172): EVACUATING returns to ONLINE, TRAINING and CLEARING to OFFLINE. -/
def kfullSockets (s : State) (k : Nat) : State :=
  (List.range 3).foldl (fun s i =>
    let a := Reg.GLB_SKT_STATUS (4 + k) i
    let v := fget s a 0 3
    let s := fset s (Reg.GLB_SKT_CTRL (4 + k) i) 31 1 0
    if v = 2 then fset s a 0 3 1 else if v = 4 ∨ v = 5 then fset (fset s a 0 3 3) a 3 1 1 else s) s

/-- Where the harts of Keystone `k` start: the first byte of its boot store (19 R466). -/
def hartStart (k : Nat) : Nat := 0xF00046000000 + k * 0x10000000
/-- The cores of Keystone `k` are held in reset. -/
def hartsHeld (s : State) (k : Nat) : State := s.withHarts (tdel k s.harts)
/-- The cores of Keystone `k` are released (19 R465 step 9, R466). -/
def hartsStart (s : State) (k : Nat) : State := s.withHarts (tset natDef s.harts k (hartStart k))
/-- The boot store of Keystone `k` is loaded with KBOOT from the Plinth's own store (19 R465 step 9, R466). -/
def loadBoot (s : State) (k : Nat) : State :=
  s.withBootStore (tset bootDef s.bootStore k ((tget storeDef s.privStore (cornerstone s)).getD 2 []))

/-- A KFULL begins (15 R376 steps 1-4): the Keystone is ABSENT in every record, its clusters write back what has a home, DEAD goes out
for them, its homes are absent, its domains are reset and with them its boot store. -/
def beginKfull (s : State) (k : Nat) : State :=
  let s := hartsHeld (s.withBootStore (tdel k s.bootStore)) k
  let s := evictAll (setHost s k 2) (fun c => decide (12 * k ≤ c.agent ∧ c.agent < 12 * k + 12))
  let s := s.withAbsent (kins (4 + k) s.absent)
  let s := (List.range 4).foldl (fun s d => setHoldX s d { holdX s d with away := kins k (holdX s d).away }) s
  let s := s.withModx { s.modx with perst := s.modx.perst.set k true }
  let s := (List.range 12).foldl (fun s i => mgt s 2 (12 * k + i) 0) s
  let s := (List.range 6).foldl (fun s i => setPd s (96 + 6 * k + i) 0) s
  homesChanged (kfullSockets (holdOrphans s k) k)

/-- A power request completes (01 R43): LAST_REASON of its GLB_PD_CTRL, or the COMPLETE record of its item. -/
def pwrDone (s : State) (r : PwrReq) (reason detail : Nat) : State :=
  match r.org with
  | .ctrl u => fset (fset s (Reg.GLB_PD_CTRL u) 31 1 0) (Reg.GLB_PD_CTRL u) 16 8 reason
  | .item d g q => match findItem s d g q with
    | some it => endItem s it reason detail
    | none => s
  | .fault _ _ => s

/-- A transition of a contained domain in progress is abandoned with the fault's reason (01 R43). -/
def abandonPwr (s : State) (p : Nat → Bool) (reason detail : Nat) : State :=
  (List.range 6).foldl (fun s q =>
    let x := tget seqDef s.seqs q
    match x.cur with
    | some r => if p r.dom then pwrDone (s.withSeqs (tset seqDef s.seqs q { x with cur := none })) r reason detail else s
    | none => s) s

/-- The power domains a containment domain holds. -/
def Dom.pds : Dom → Nat → Bool
  | .course d c, n => n == dCourse d c
  | .bay d b, n => n == dBay d b
  | .footing h, n => n == dFooting h
  | .joint u j, n => u < 4 && n == dJoint u j
  | .cores k, n => decide (96 + 6 * k ≤ n ∧ n < 100 + 6 * k)
  | .ashlar d, n => decide (24 * d ≤ n ∧ n < 24 * d + 24 ∨ 108 + 3 * d ≤ n ∧ n < 111 + 3 * d)
  | .keystone k, n => decide (96 + 6 * k ≤ n ∧ n < 102 + 6 * k)
  | .module, _ => true
  | .block _ _, _ => false
  | .socket _, _ => false
  | .port _, _ => false

/-- A joint among the units an item uses. -/
def jointUse (u j : Nat) : Nat := if u < 4 then dJoint u j else 300 + u * 4 + j

/-- Containment at once (16 R394), with the fault's codes. A joint's is RETRAIN: what its items sent is replayed, so they go on and
finish, LATE 0xA6 when that is past the bound (09 R247; 12 R314). -/
def contain (s : State) (dom : Dom) (reason detail : Nat) : State :=
  let s := abandonPwr s dom.pds reason detail
  match dom with
  | .block d n => fenceBlock s d n reason detail
  | .course d c =>
    let s := (List.range 18).foldl (fun s x => haltBlock s d (c * 18 + x) reason detail) s
    recount (hitItems s (fun i => i.uses.contains (dCourse d c)) reason detail 0xA6) d
  | .bay d b =>
    let s := setXunit s d { xunit s d with cache := (xunit s d).cache.filter (fun e => e.bay ≠ b) }
    recount (homesChanged (hitItems s (fun i => i.uses.contains (dBay d b)) reason detail 0xA6)) d
  | .footing h => recount (homesChanged (hitItems s (fun i => i.uses.contains (dFooting h)) reason detail 0xA6)) (h / 3)
  | .socket n => homesChanged (hitItems s (fun i => i.uses.contains (200 + n)) reason detail 0xA6)
  | .cores k => setHost s k 1
  | .joint u j => lateItems s (fun i => i.uses.contains (jointUse u j)) 0xA6
  | .port n => hitItems s (fun i => i.uses.contains (400 + n)) reason detail 0xA6
  | .ashlar d => dieOut s d
  | .keystone k => beginKfull s k
  | .module => enterL4 s

/-- More dies out of service at once than L4_DIES allows, or both Keystones (16 R397). -/
def l4Due (s : State) : Bool :=
  let c := cornerstone s
  let lim := if bit s (Reg.FLT_CTRL c) 0 then fget s (Reg.FLT_CTRL c) 2 2 else 2
  decide (lim ≤ (s.absent.filter (· < 4)).length) || decide (2 ≤ (s.absent.filter (4 ≤ ·)).length)

/-- The recovering domain that an event's domain lies in, if any (16 R398). -/
def recovHit (s : State) (d : Dom) : Option Recovery := s.recov.find? (fun r => d.inside r.dom)

/-- A recovery made for a domain, inheriting slots of the ones it replaces (16 R395, R398). -/
def newRecovery (s : State) (dom : Dom) (o q reason detail : Nat) (die pkg cold : Bool) : State × Nat :=
  let n := tget natDef s.recNum o + 1
  let s := s.withRecNum (tset natDef s.recNum o n)
  let r : Recovery := ⟨o, n, dom, dom.level, q, ctl s o, 0, die && dom.slots.1, pkg && dom.slots.2, pkg, false, false, cold,
    reason, detail⟩
  ((s.withRecov (s.recov ++ [r])), n)

/-- Failure kind of a domain for the S2 paths (17 R431). -/
def Dom.s2Kind : Dom → Option Nat
  | .block _ _ => some 0
  | .course _ _ => some 1
  | .bay _ _ | .footing _ => some 2
  | .ashlar _ => some 3
  | .cores _ | .keystone _ => some 4
  | .joint _ _ | .port _ => some 5
  | .module => some 6
  | .socket _ => none

/-- The path notice of 17 R431: with S2_COMPAT on the die the record went to, an informational record of kind MODULE by the Cornerstone with
the failure kind, the path, the RECOVERY number and the ORIGIN. -/
def s2Notice (s : State) (e : Ev) (dom : Dom) (level recovery : Nat) : State :=
  let d := recDie s e.origin
  match dom.s2Kind with
  | none => s
  | some k =>
    let path := fget s (Reg.CKP_S2_PATH d) (4 * k) 4
    if level = 0 ∨ level = 7 ∨ ¬ bit s (Reg.CKP_CTRL d) 3 ∨ path = 0 then s
    else recordAt s ⟨cornerstone s, Rsn.DONE, 0x2D, 7, 13, 0,
      leBytes 1 k ++ leBytes 1 path ++ leBytes 2 0 ++ leBytes 4 recovery ++ leBytes 1 e.origin, .module⟩ 7 0 0

/-- A fault event with its ladder (16 R395-R402). CONSEQUENT events, and every event at L4, are recorded and take no
action (R397, R399). A fault in a recovering domain raises it one level with ESCALATED; a wider fault abandons the
narrower recoveries it contains; L4 follows from R397. -/
def raise (s : State) (e : Ev) (conseq : Bool) : State :=
  let lp := evLevel s e
  let pol := if lp.2 then 32 else 0
  if conseq then s2Notice (recordAt s e lp.1 (pol + 8) 0) e (climb 4 e.dom lp.1) lp.1 0
  else if s.modx.l4 ∨ lp.1 = 7 ∨ lp.1 = 0 then s2Notice (recordAt s e lp.1 pol 0) e (climb 4 e.dom lp.1) lp.1 0
  else
    let dom0 := climb 4 e.dom lp.1
    let hit := recovHit s dom0
    let dom := match hit with
      | some r => r.dom.up.getD r.dom
      | none => dom0
    let esc := if hit.isSome then 4 else 0
    let s := if hit.isSome then fset s (Reg.FLT_FLAGS (recDie s e.origin)) 3 1 1 else s
    let olds := s.recov.filter (fun r => r.dom.inside dom)
    let o := dom.owner s
    let s := s.withRecov (s.recov.filter (fun r => !(r.dom.inside dom)))
        |>.withPkgQ (s.pkgQ.filter (fun q =>
      !(olds.any (fun r => r.owner == q.1 && r.num == q.2))))
    let cold := policyOf s (recDie s e.origin) e.detail / 8 % 2 == 1
    let p := if dom.slots.2 then newRecovery s dom o (nextSeq s e.origin) e.reason e.detail
        (olds.any (fun r => r.dieSlot && r.owner == o)) (olds.any (·.pkgSlot)) cold
      else (s, 0)
    let s := s2Notice (recordAt p.1 e dom.level (pol + esc) p.2) e dom dom.level p.2
    let s := contain s dom e.reason e.detail
    let s := takeSlots s o
    let s := olds.foldl (fun s r => if r.owner = o then s else takeSlots s r.owner) s
    if l4Due s then enterL4 s else s

/-- The domain of 16 R394 that a record's kind and source name (R386), in which a posted policy acts when it raises the record (R396). -/
def kindDom (kind source : Nat) : Dom :=
  let u := source % 8
  let i := source / 8
  match kind with
  | 0 => .block u i
  | 1 => .course u i
  | 2 => .bay u i
  | 3 => .footing source
  | 4 => .socket source
  | 5 => .joint u i
  | 6 => .port u
  | 12 => if source < 12 then .bay (source / 3) (source % 3) else .socket (source - 12)
  | 13 => .module
  | 11 => if i = 31 then .keystone (u - 4) else .cores (u - 4)
  | _ => if u < 4 then .ashlar u else .keystone (u - 4)

/-- An informational event. -/
def note (s : State) (origin reason detail kind source : Nat) (data : List Byte) : State :=
  raise s ⟨origin, reason, detail, 7, kind, source, data, kindDom kind source⟩ false

end Sys2Proof.Machine
end

