-- ==== Sys2Proof/Machine/Faults.lean ====
section
/-! DEFINITION. The commands of the fault units (16): routing and policy, fault rings, overflow drains, flag clears and
the recoveries of the ladder. -/

namespace Sys2Proof.Machine

/-- An entry of the posted policy table is legal: MIN_LEVEL 0-4 or 7, reserved bits 0 (16 R396, R404). -/
def policyLegal (e : Nat) : Bool := (decide (e % 8 ≤ 4) || e % 8 == 7) && decide (e < 16)

/-- Address of the posted policy table. -/
def policyBase (s : State) (d : Nat) : Nat :=
  fget s (Reg.FLT_POLICY_BASE_LO d) 12 20 * 4096 + fget s (Reg.FLT_POLICY_BASE_HI d) 0 20 * 0x100000000

/-- Entries of the posted table as they stand in memory. -/
def policyEntries (s : State) (d : Nat) : List Nat := (List.range 256).map (fun i => memNat s (policyBase s d + 4 * i) 4)

/-- The checks of FLT_CTRL.ENABLE (16 R404). -/
def fltChecks (s : State) (d : Nat) : Chk :=
  let a := Reg.FLT_CTRL d
  firstFail [
    (mortarOn s d, Rsn.STATE, 0x94),
    (!bit s a 1 || decide (policyBase s d % 4096 = 0), Rsn.CFG_ALIGN, 0x4E),
    (!bit s a 1 || (inOwnStack s d (policyBase s d) 1024 && (policyEntries s d).all policyLegal), Rsn.CFG_RANGE, 0x4E),
    (decide (2 ≤ fget s a 2 2), Rsn.CFG_RANGE, 0x4E)]

/-- FLT_ENABLE (16 R404): the RWL fields of the word, the checks, the copy of the policy table. -/
def execFltEnable (d : Die) (v : W32) (s : State) : Out := viaWin s d fun s =>
  let s := rwlIn s (Reg.FLT_CTRL d) 0xE v
  let c := fltChecks s d
  let s := finishEnable s (Reg.FLT_CTRL d) 8 c
  .next (if c = none ∧ bit s (Reg.FLT_CTRL d) 1 then
      s.withPolicy ((policyEntries s d).zipIdx.foldl (fun t p => tset policyDef t (d * 256 + p.2) p.1) s.policy)
    else s)

/-- FLT_DISABLE (16 R404): refused while a recovery of the die is active or queued. -/
def execFltDisable (d : Die) (s : State) : Out := viaWin s d fun s =>
  let a := Reg.FLT_CTRL d
  .next (if s.recov.any (fun r => r.owner == d.val) then setRD s a 8 Rsn.STATE 0x4F else setRD (fset s a 0 1 0) a 8 0 0)

/-- Waiting FATAL records written while entries are free (16 R392). -/
def flushFatal (s : State) (d r : Nat) : Nat → State
  | 0 => s
  | n + 1 =>
    let f := fring s d r
    match f.waiting with
    | x :: xs =>
      if bit s (Reg.FLT_RING_CTRL d r) 0 && decide (0 < fringFree s d r) then
        flushFatal (fringPut (setFring s d r { f with waiting := xs }) d r x) d r n
      else s
    | [] => s

/-- FLT_RING_ENABLE (16 R404). The codes of a failed check stay until the next failed or refused write. -/
def execFltRingEnable (d : Die) (r : Fin 16) (v : W32) (s : State) : Out := viaWin s d fun s =>
  let a := Reg.FLT_RING_CTRL d r
  let s := rwlIn s a 0x2 v
  let b := fringBase s d r
  .next (onChk s a 8 (firstFail [
    (decide (b % 0x40000 = 0), Rsn.CFG_ALIGN, 0x4E),
    (inOwnStack s d b 0x40000, Rsn.CFG_RANGE, 0x4E),
    ((List.range 16).all (fun q => q == r.val || !bit s (Reg.FLT_RING_CTRL d q) 0 ||
      !overlap b 0x40000 (fringBase s d q) 0x40000), Rsn.CFG_CONFLICT, 0x4E)]) fun s =>
    flushFatal (fset s a 0 1 1) d r (fring s d r).waiting.length)

/-- FLT_HEAD_WRITE (16 R404): a HEAD that would pass TAIL, or move back, is ignored with STATE 0x4F; freed entries go to
waiting FATAL records first (R392). -/
def execFltHeadWrite (d : Die) (r : Fin 16) (v : BitVec 13) (s : State) : Out := viaWin s d fun s =>
  let h := fget s (Reg.FLT_RING_HEAD d r) 0 13
  let t := fget s (Reg.FLT_RING_TAIL d r) 0 13
  if (v.toNat + 8192 - h) % 8192 ≤ (t + 8192 - h) % 8192 then
    let s := fset s (Reg.FLT_RING_HEAD d r) 0 13 v.toNat
    .next (flushFatal s d r (fring s d r).waiting.length)
  else .next (setRD s (Reg.FLT_RING_CTRL d r) 8 Rsn.STATE 0x4F)

/-- One overflow entry drained as far as free entries allow (16 R391): its first record, then, with a count of 2 or
more, its last, COALESCED, with the count and DONE replaced by DONE_COALESCED (21 R511). Answers the entry left, if any. -/
def drainEntry (s : State) (d r : Nat) (e : OvfEntry) : State × Option OvfEntry :=
  let ok : State → Bool := fun s => decide (16 < fringFree s d r)
  let p : State × Bool := if e.half then (s, true) else if ok s then (fringPut s d r e.first, true) else (s, false)
  if !p.2 then (p.1, some e)
  else if e.count < 2 then (p.1, none)
  else if ok p.1 then
    let rs := if e.last.reason = 0 then Rsn.DONE_COALESCED else e.last.reason
    (fringPut p.1 d r { e.last with flags := e.last.flags ||| 2, count := e.count, reason := rs }, none)
  else (p.1, some { e with half := true })

/-- Overflow entries drained in the order they were taken, until one does not fit. -/
def drainAll (s : State) (d r : Nat) : List OvfEntry → State × List OvfEntry
  | [] => (s, [])
  | e :: es =>
    match drainEntry s d r e with
    | (s', none) => drainAll s' d r es
    | (s', some e') => (s', e' :: es)

/-- OVERFLOW_DRAIN (16 R391): with more than 16 entries free, the entries are written in order; after the last, one
informational OVERFLOW record of kind RECOVERY, and direct writing resumes. -/
def execOverflowDrain (d : Die) (r : Fin 16) (s : State) : Out :=
  let f := fring s d r
  if f.ovf.isEmpty || !bit s (Reg.FLT_RING_CTRL d r) 0 || decide (fringFree s d r ≤ 16) || !f.waiting.isEmpty then .next s
  else
    let keys := if fget s (Reg.FLT_RING_OVF d r) 9 1 = 1 then f.keys else f.ovf.length
    let p := drainAll (setFring s d r { f with keys := keys }) d r f.ovf
    let s := setFring p.1 d r { fring p.1 d r with ovf := p.2 }
    if p.2.isEmpty then
      let g := fring s d r
      let s := setFring s d r ⟨[], g.waiting, 0, 0, 0, 0⟩
      let s := fset (fringOvfReg s d r) (Reg.FLT_RING_OVF d r) 9 1 0
      .next (recordCount s ⟨d, Rsn.OVERFLOW, 0x43, 7, 15, d,
        leBytes 8 g.loSeq ++ leBytes 8 g.hiSeq ++ leBytes 2 keys ++ leBytes 1 r, .module⟩ g.total)
    else .next (fset (fringOvfReg s d r) (Reg.FLT_RING_OVF d r) 9 1 1)

/-- A W1C write (16 R403) to the flags `mask` of a register: the bits named and held are cleared, except those hardware
sets in the same cycle (`same`), which read 1. Answers the register and whether a collision counts. -/
def w1c (w : W32) (mask v same : W32) : W32 × Bool :=
  ((w &&& ~~~(v &&& mask)) ||| (same &&& mask), (w &&& v &&& same &&& mask) != 0 || (v &&& same &&& mask) != 0)

/-- FLT_FLAGS_CLEAR (16 R403): COLLIDE counts a collision. -/
def execFltFlagsClear (d : Die) (v : W32) (same : BitVec 4) (s : State) : Out := viaWin s d fun s =>
  let a := Reg.FLT_FLAGS d
  let p := w1c (rd s a) 0xF v (same.zeroExtend 32)
  let s := wr s a p.1
  .next (if p.2 then holdAdd s a 24 8 1 else s)

/-! ### Recoveries -/

/-- A recovery by its owner and number. -/
def recovOf (s : State) (u n : Nat) : Option Recovery := s.recov.find? (fun r => r.owner == u && r.num == n)
/-- One recovery changed. -/
def putRecov (s : State) (u n : Nat) (f : Recovery → Recovery) : State :=
  s.withRecov (s.recov.map (fun r => if r.owner = u ∧ r.num = n then f r else r))

/-- Package slots granted to waiting requests, in the order they came, while fewer than four are in use (16 R400). -/
def grantPkg (s : State) : Nat → State
  | 0 => s
  | f + 1 =>
    match s.pkgQ with
    | [] => s
    | q :: qs =>
      if (s.recov.filter (·.pkgSlot)).length < 4 then
        let s := putRecov (s.withPkgQ qs) q.1 q.2 (fun r => { r with pkgSlot := true })
        grantPkg (mgt s 4 q.1 q.2) f
      else s

/-- PKG_SLOT_REQUEST (16 R400): granted, or queued at the Cornerstone. -/
def execPkgSlotRequest (u : Unit6) (num : Nat) (s : State) : Out :=
  match recovOf s u num with
  | none => .next s
  | some r =>
    if r.pkgSlot ∨ s.pkgQ.contains (u.val, num) then .next s
    else
      let full := decide (4 ≤ (s.recov.filter (·.pkgSlot)).length)
      let s := s.withPkgQ (s.pkgQ ++ [(u.val, num)])
      let s := if full then putRecov s u num (fun r => { r with waited := true }) else s
      .next (recovReg (grantPkg s s.pkgQ.length) u)

/-- A power request of a recovery queued at the sequencer of its die (16 R395 step 4, 01 R43). -/
def queuePwr (s : State) (q : Nat) (rs : List PwrReq) : State :=
  let x := tget seqDef s.seqs q
  (s.withSeqs (tset seqDef s.seqs q { x with queue := x.queue ++ rs }))

/-- The recovery action of a domain begins (16 R394): a Course is powered OFF and ON; a socket's channels retrain; the
resets of the other domains are requested at the Cornerstone (15 R369). -/
def startAction (s : State) (r : Recovery) : State :=
  match r.dom with
  | .course d c => queuePwr s d [⟨dCourse d c, false, .fault r.owner r.num⟩, ⟨dCourse d c, true, .fault r.owner r.num⟩]
  | .socket n => fset s (Reg.GLB_SKT_STATUS (4 + n / 3) (n % 3)) 0 4 4
  | .cores k => s.withResetQ (s.resetQ ++ [⟨none, 2, 4 + k⟩])
  | .ashlar d => s.withResetQ (s.resetQ ++ [⟨none, if r.cold then 5 else 4, d⟩])
  | _ => s

/-- RECOVERY_SLOT_GRANT (16 R395 steps 3-4): a recovery that holds every slot it takes starts its action. -/
def execRecoverySlotGrant (u : Unit6) (num : Nat) (s : State) : Out :=
  match recovOf s u num with
  | none => .next s
  | some r =>
    if r.running ∨ (r.dom.slots.1 ∧ !r.dieSlot) ∨ (r.dom.slots.2 ∧ !r.pkgSlot) then .next s
    else
      let s := putRecov s u num (fun r => { r with running := true, start := ctl s u })
      .next (recovReg (startAction s r) u)

/-- DATA of a RECOVERY record (16 R386). -/
def recovData (s : State) (r : Recovery) : List Byte :=
  let k := r.dom.src
  leBytes 1 k.1 ++ List.replicate 3 0 ++ leBytes 4 k.2 ++ leBytes 8 r.start ++
  leBytes 8 (if r.running then r.start - r.raised else ctl s r.owner - r.raised)

/-- The domain's own figures recomputed when it returns. -/
def figures (s : State) (r : Recovery) : State :=
  let s := homesChanged s
  match r.dom with
  | .course d _ | .bay d _ => recount s d
  | .footing h => recount s (h / 3)
  | _ => s

/-- RECOVERY_ACTION_DONE (16 R395 steps 5-6): verified, the domain returns with an informational DONE 0x4C record and its
slots go to the next; not verified, it is a fault in the domain that escalates it (R398). -/
def execRecoveryActionDone (u : Unit6) (num : Nat) (ok : Bool) (s : State) : Out :=
  match recovOf s u num with
  | none => .next s
  | some r =>
    let k := r.dom.src
    if !r.running then .next s
    else if ok then
      let s := s.withRecov (s.recov.filter (fun q => ¬ (q.owner = u.val ∧ q.num = num)))
      let s := recordAt s ⟨u, Rsn.DONE, 0x4C, 7, 15, if u.val < 4 then u else cornerstone s, recovData s r, r.dom⟩ 7
        (if r.waited then 16 else 0) num
      let s := if u.val < 4 then wrapAdd s (Reg.FLT_RECOVERY u) 16 16 1 else s
      let s := match r.dom with
        | .socket n => fset s (Reg.GLB_SKT_STATUS (4 + n / 3) (n % 3)) 0 4 1
        | _ => s
      let s := grantPkg (takeSlots (figures s r) u) 64
      .next (recovReg s u)
    else .next (raise s ⟨u, r.reason, r.detail, r.dom.level, k.1, k.2, [], r.dom⟩ false)

/-- A recovery that cannot meet its limit: LATE 0x4B, a fault in its domain, which escalates it (16 R394). -/
def recovLate (s : State) (u : Nat) (r : Recovery) : State :=
  raise s ⟨u, Rsn.LATE, 0x4B, r.dom.level, r.dom.src.1, r.dom.src.2, [], r.dom⟩ false

/-- RECOVERY_TIMEOUT (16 R394). -/
def execRecoveryTimeout (u : Unit6) (num : Nat) (s : State) : Out :=
  match recovOf s u num with
  | none => .next s
  | some r => .next (recovLate s u r)

/-- A fault of a unit of this domain is CONSEQUENT (16 R399): its power domain is OFF or WAKING, or its unit is out of service. -/
def unitHeld (s : State) : Dom → Bool
  | .course d c => outOf s d || decide (pd s (dCourse d c) < 2)
  | .bay d b => outOf s d || decide (pd s (dBay d b) < 2)
  | .footing h => outOf s (h / 3) || decide (pd s (dFooting h) < 2)
  | .keystone k => outOf s (4 + k) || decide (pd s (dUncore k) < 2)
  | .ashlar d => outOf s d
  | _ => false

/-- UNCORRECTABLE_STATE_ERROR (16 R396, R405): `t` 0 Course `j` of die `i`, 1 Bay `j` of die `i`, 2 Footing `i`, 3 Mortar of
die `i`, 4 uncore or I/O of Keystone `i`; a fault raised at its floor. An index outside the target's range is no event. -/
def execUncorrectableStateError (t : Fin 5) (i : Fin 12) (j : Fin 16) (s : State) : Out :=
  match t.val with
  | 0 => if i.val < 4 then .next (raise s ⟨i, Rsn.ECC_UNCORR, 0x44, 2, 1, i + 8 * j, [], .course i j⟩ (unitHeld s (.course i j))) else .refused .illFormed
  | 1 => if i.val < 4 ∧ j.val < 3 then
      .next (raise s ⟨i, Rsn.ECC_UNCORR, 0x45, 2, 2, i + 8 * j, [], .bay i j⟩ (unitHeld s (.bay i j))) else .refused .illFormed
  | 2 => .next (raise s ⟨i / 3, Rsn.ECC_UNCORR, 0x46, 2, 3, i, [], .footing i⟩ (unitHeld s (.footing i)))
  | 3 => if i.val < 4 then .next (raise s ⟨i, Rsn.ECC_UNCORR, 0x47, 3, 10, i, [], .ashlar i⟩ (unitHeld s (.ashlar i))) else .refused .illFormed
  | _ => if i.val < 2 then
      .next (raise s ⟨4 + i, Rsn.ECC_UNCORR, 0x48, 3, 11, 4 + i + 8 * 31, [], .keystone i⟩ (unitHeld s (.keystone i))) else .refused .illFormed

end Sys2Proof.Machine
end

