-- ==== Sys2Proof/Machine/Flit.lean ====
section
/-! DEFINITION. Flits of a Bond joint and the transmitter that fills them (12 R300-R303, R305, R310-R313). -/

namespace Sys2Proof.Machine

/-- A joint end beside its registers. -/
def bondX (s : State) (u j : Nat) : BondX := tget bondDef s.bondx (u * 4 + j)
/-- Its new value. -/
def setBondX (s : State) (u j : Nat) (x : BondX) : State := s.withBondx (tset bondDef s.bondx (u * 4 + j) x)
/-- The width a joint end holds. -/
def bndWidth (s : State) (u j : Nat) : Nat := fget s (Reg.BND_STATUS u j) 3 5

/-! ### Messages in slots (12 R303) -/

/-- Slots of the next message that `m` gives: its header and its payload, of a BLK payload at most fourteen slots and at least one. -/
def TxMsg.slots (m : TxMsg) : Nat :=
  let n := (m.len + 15) / 16
  1 + (if m.cls = 4 then max 1 (min 14 n) else n)
/-- What is left to send after that message: the rest of a BLK payload. -/
def TxMsg.rest (m : TxMsg) : List TxMsg :=
  if m.cls = 4 ∧ 224 < m.len then [{ m with len := m.len - 224, data := m.data.drop 224 }] else []
/-- The message's slots as bytes: class, length, destination, source and transaction number in bits 24:0 of the header, the opcode and address in
places that the spec leaves open, then the payload padded to whole slots; `seed` picks the open bits. -/
def TxMsg.bytes (m : TxMsg) (seed : Nat) : List Byte :=
  let n := m.slots
  let head := m.cls + n * 8 + m.dst * 128 + m.src * 1024 + m.tn % 4096 * 8192 + Config.msgRest seed * 2 ^ 25
  let size := 16 * (n - 1)
  let pay := if m.data.isEmpty then (List.range (min size m.len)).map (fun i => Config.msgByte (seed * 256 + i)) else m.data.take size
  leBytes 16 head ++ pay ++ List.replicate (size - pay.length) 0

/-- A joint whose credits are split into two virtual channels: J1 and J2 of an Ashlar die (12 R311). -/
def twoChannels (u j : Nat) : Bool := decide (u < 4 ∧ (j = 1 ∨ j = 2))
/-- Slots of a class that a channel of a joint end has out. -/
def BondX.spent (x : BondX) (c : Nat) (ch : Bool) : Nat :=
  if ch then x.vc2.getD c 0 else fullCred.getD c 0 - x.cred.getD c 0 - x.vc2.getD c 0
/-- Credits for all the slots of a message (12 R311). -/
def BondX.credit (x : BondX) (two : Bool) (m : TxMsg) : Bool :=
  if two then decide (x.spent m.cls m.ch + m.slots ≤ fullCred.getD m.cls 0 / 2) else decide (m.slots ≤ x.cred.getD m.cls 0)
/-- The credits of a message spent. -/
def BondX.spend (x : BondX) (two : Bool) (m : TxMsg) : BondX :=
  { x with
    cred := x.cred.set m.cls (x.cred.getD m.cls 0 - m.slots)
    vc2 := if two && m.ch then x.vc2.set m.cls (x.vc2.getD m.cls 0 + m.slots) else x.vc2 }
/-- Credits returned by the partner; the header names no channel, and they go to the first channel until it has none out (log entry 175). -/
def BondX.refund (x : BondX) (c n : Nat) : BondX :=
  let one := x.spent c false
  { x with
    cred := x.cred.set c (min (fullCred.getD c 0) (x.cred.getD c 0 + n))
    vc2 := x.vc2.set c (x.vc2.getD c 0 - (n - one)) }

/-- The oldest message of the queue that `p` admits and no older one of its class and destination precedes (12 R312), with the queue before and
after it. -/
def pickMsg (p : TxMsg → Bool) : List TxMsg → List TxMsg → Option (List TxMsg × TxMsg × List TxMsg)
  | _, [] => none
  | prev, m :: q =>
    if p m && !prev.any (fun o => o.cls == m.cls && o.dst == m.dst) then some (prev, m, q) else pickMsg p (prev ++ [m]) q

/-- Whether a message is in a term of the order of 12 R312: 0 MGT, 1 BLK within its reserved rate, 2 RSP and DAT, 3 SNP, 4 REQ, 5 BLK beyond it. -/
def inTerm (x : BondX) (w : Nat) (mgtSent : Bool) (m : TxMsg) : Nat → Bool
  | 0 => m.cls == 5 && !mgtSent
  | 1 => m.cls == 4 && decide (40 * w * m.slots ≤ x.tok)
  | 2 => m.cls == 2 || m.cls == 3
  | 3 => m.cls == 1
  | 4 => m.cls == 0
  | _ => m.cls == 4

/-- The message a transmitter takes next, in the order of 12 R312, and the end after it. -/
def nextMsg (x : BondX) (two : Bool) (w : Nat) (mgtSent : Bool) : Option (TxMsg × BondX) :=
  (List.range 6).findSome? (fun t =>
    (pickMsg (fun m => inTerm x w mgtSent m t && x.credit two m) [] x.txq).map (fun r =>
      let x := { x.spend two r.2.1 with txq := r.1 ++ r.2.1.rest ++ r.2.2 }
      (r.2.1, if t = 1 then { x with tok := x.tok - 40 * w * r.2.1.slots } else x)))

/-- The slots of a flit filled: the end, the bytes so far, FIRST so far, whether an MGT slot is used. -/
def fillSlots (two : Bool) (w seed : Nat) : Nat → BondX → List Byte → Nat → Bool → BondX × List Byte × Nat
  | 0, x, b, f, _ => (x, b, f)
  | n + 1, x, b, f, g =>
    if 240 ≤ b.length then (x, b, f)
    else match nextMsg x two w g with
      | none => (x, b, f)
      | some (m, y) =>
        let bs := m.bytes (seed * 16 + b.length / 16)
        let room := 240 - b.length
        fillSlots two w seed n { y with cont := bs.drop room } (b ++ bs.take room) (if f = 15 then b.length / 16 else f) (g || m.cls == 5)

/-! ### Flits (12 R302) -/

/-- CRC-64 of a flit. -/
def flitCrc (f : List Byte) : Nat := (crcMsb (0x42F0E1EBA9EA3693 : BitVec 64) (BitVec.allOnes 64) (f.take 248)).toNat
/-- A header field. -/
def flitFld (f : List Byte) (lo n : Nat) : Nat := leNat (f.take 8) / 2 ^ lo % 2 ^ n

/-- The epoch a flit carries: that held, before an own SWITCH still ahead the one before it (12 R310). -/
def txEpoch (s : State) (u j seq : Nat) : Nat :=
  let e := fget s (Reg.BND_STATUS u j) 8 8
  match (bondX s u j).txSw with
  | some w => if (seq + 65536 - w) % 65536 < 32768 then e else (e + 255) % 256
  | none => e

/-- The class whose credits the next flit returns, in turn among those with credits to return, and how many (12 R311); 7 and 0 for none. -/
def BondX.giveBack (x : BondX) : Nat × Nat :=
  match ((List.range 6).map (fun i => (x.turn + i) % 6)).find? (fun c => x.owe.getD c 0 != 0) with
  | some c => (c, min 4095 (x.owe.getD c 0))
  | none => (7, 0)

/-- The 256 bytes of a flit: SEQ, ACK of the last flit received in order, NAK, IDLE, EPOCH, FIRST, credits, FAREWELL, slots and CRC. -/
def flitBytes (s : State) (u j : Nat) (idle farewell : Bool) (x : TxFlit) : List Byte :=
  let y := bondX s u j
  let c := y.giveBack
  let head := x.seq + (y.expect + 65535) % 65536 * 2 ^ 16 + (if y.nak then 2 ^ 32 else 0) + (if idle then 2 ^ 33 else 0) +
    txEpoch s u j x.seq * 2 ^ 34 + x.first * 2 ^ 42 + c.1 * 2 ^ 46 + c.2 * 2 ^ 49 + (if farewell then 2 ^ 61 else 0)
  let f := leBytes 8 head ++ x.body ++ List.replicate (240 - x.body.length) 0
  f ++ leBytes 8 (flitCrc f)

/-- A flit leaves on the next logical group: from the own SWITCH on the groups are those of the new width, from group 0 (12 R300, R310). What it
returned and said is done with. `kind` 3 a flit, 4 an IDLE flit, 5 a flit sent again. -/
def sendFlit (s : State) (u j kind : Nat) (farewell : Bool) (f : TxFlit) : State :=
  let x := bondX s u j
  let past := x.txSw.any (fun w => decide ((f.seq + 65536 - w) % 65536 < 32768))
  let x := if past then { x with txSw := none, txW := bndWidth s u j, txG := 0 } else x
  let s := setBondX s u j x
  let c := x.giveBack
  let bs := flitBytes s u j (kind == 4) farewell f
  emit (setBondX s u j { x with
    nak := false
    owe := if c.1 < 6 then x.owe.set c.1 (x.owe.getD c.1 0 - c.2) else x.owe
    turn := if c.1 < 6 then (c.1 + 1) % 6 else x.turn
    txG := (x.txG + 1) % max 1 x.txW }) .flit [u, j, kind, f.seq, x.txG] bs

/-- An IDLE flit: the number the next flit will take, and no slots (12 R302). -/
def sendIdle (s : State) (u j : Nat) (farewell : Bool) : State := sendFlit s u j 4 farewell ⟨(bondX s u j).next, 15, []⟩

/-- FAREWELL on every ACTIVE joint of a unit that enters a reset (12 R315). -/
def farewell (s : State) (u : Nat) : State :=
  (List.range 3).foldl (fun s j => if fget s (Reg.BND_STATUS u j) 0 3 = 4 then sendIdle s u j true else s) s

/-- Most flits a replay buffer holds (12 R313). -/
def replayMax : Nat := 2048

/-- One flit time of an ACTIVE end whose joint has `rate` bytes a cycle reserved for BLK: a flit to send again; an IDLE flit while the replay buffer
is full or nothing waits; else a flit of the message begun and of the messages that wait. The reserved rate gives 3/40 of a slot in each flit per byte
and group: fifteen slots times rate over payload rate, with the header slot of every fourteen (12 R301, R312). -/
def flitTime (s : State) (u j rate : Nat) : State :=
  let x := bondX s u j
  let w := max 1 (bndWidth s u j)
  let x := { x with tok := min (1200 * w) (x.tok + 3 * rate) }
  let s := setBondX s u j x
  match x.again with
  | f :: fs => sendFlit (setBondX s u j { x with again := fs }) u j 5 false f
  | [] =>
    if replayMax ≤ x.replay.length then sendIdle s u j false
    else
      let start := x.cont.take 240
      let r := fillSlots (twoChannels u j) w (((u * 4 + j) * 65536 + x.next)) 15 { x with cont := x.cont.drop 240 } start 15 false
      if r.2.1.isEmpty then sendIdle s u j false
      else
        let f : TxFlit := ⟨x.next, r.2.2, r.2.1⟩
        sendFlit (setBondX s u j { r.1 with next := (x.next + 1) % 65536, replay := x.replay ++ [f] }) u j 3 false f

end Sys2Proof.Machine
end

