-- ==== Sys2Proof/Machine/Resets.lean ====
section
/-! DEFINITION. The resets (15 R369-R376, R515; 21 R504), the boot sequence (19 R463-R467), the position check (01 R37), and
loss and return of a root PLL (18 R436). -/

namespace Sys2Proof.Machine

/-- Registers, counters and latches whose row satisfies `p` (unit, row) return to their reset values. -/
def clearRegs (s : State) (p : Nat → RegRow → Bool) : State :=
  let keep : Nat → Bool := fun a => match regAt a with
    | some (u, r, _) => !p u r
    | none => true
  (s.withRegs (tfilter keep s.regs)
      |>.withWide (tfilter keep s.wide)
      |>.withLatch (tfilter keep s.latch))

/-- What production test gave a Block site: 1 allocatable, 2 spare, anything else bad (01 R25, 19 R461). -/
def gradeOf (s : State) (d n : Nat) : Nat := tget (fun k => Config.mapCode (k % 288)) s.cfg.map (d * 288 + n)

/-- STATE of a Block under the current Block map (01 R26). -/
def mapState (s : State) (d n : Nat) : Nat :=
  let m := gradeOf s d n
  let v := tget (fun _ => 7) s.health.map (d * 288 + n)
  if v = 7 then (if m = 1 then 0 else if m = 2 then 1 else 3) else v

/-- STATE of the Blocks of die `d` as they were: no reset but a cold one alters it; a BLOCK reset in progress is abandoned to FENCED, and
a Block that its Course was clearing on its way to ON is as the map has it (03 R74, R102, R105). -/
def keepBlkState (old s : State) (d : Nat) : State :=
  (List.range 288).foldl (fun s n =>
    let v := blkState old d n
    let v := if v = 4 then (if tget natDef old.btest (d * 288 + n) = 0 then mapState old d n else 2) else v
    if blkState s d n = v then s else
      let s := fset s (Reg.BLK_STATE d n) 0 3 v
      if v = 2 then fset s (Reg.BLK_CTRL d n) 0 1 1 else s) s

/-- STATE of the Blocks of die `d` from the current Block map (01 R26, 03 R74), and its count of Blocks that passed test (01 R38). -/
def loadBlkMap (s : State) (d : Nat) : State :=
  let good := ((List.range 288).filter (fun n => gradeOf s d n == 1 || gradeOf s d n == 2)).length
  (List.range 288).foldl (fun s n =>
    let v := mapState s d n
    let s := if blkState s d n = v then s else fset s (Reg.BLK_STATE d n) 0 3 v
    if v = 2 then fset s (Reg.BLK_CTRL d n) 0 1 1 else s) (fset s (Reg.GLB_DIE_IDENT d) 8 9 good)

/-- State without registers that a reset of die `d` discards (10 R272, 15 R515): its items, rings, translation unit, journals,
ledger figures, fault rings, policy copy, holding area and recoveries but its own at L3. -/
def clearDieX (s : State) (d : Nat) : State :=
  (ftgStatuses (s.withItems (s.items.filter (fun i => i.die ≠ d))) d)
      |>.withRingx (tfilter (fun k => k / 2048 ≠ d) s.ringx)
      |>.withServed (tdel d s.served)
      |>.withXlt (tdel d s.xlt)
      |>.withJournals (tfilter (fun k => k / 4 ≠ d) s.journals)
      |>.withLedger (tdel d s.ledger)
      |>.withFring (tfilter (fun k => k / 16 ≠ d) s.fring)
      |>.withPolicy (tfilter (fun k => k / 256 ≠ d) s.policy)
      |>.withHold (tset holdDef s.hold d { holdDef 0 with away := (List.range 2).filter (fun k => hostState s k == 2 || hostState s k == 3) })
      |>.withHostx (tdel d s.hostx)
      |>.withRecov (s.recov.filter (fun r => r.owner ≠ d ∨ r.level = 3))
      |>.withCtxx (tfilter (fun k => k / 1152 ≠ d) s.ctxx)
      |>.withBtest (tfilter (fun k => k / 288 ≠ d) s.btest)
      |>.withPlans (s.plans.filter (fun p => p.die ≠ d))
      |>.withPlumb (tdel d s.plumb)
      |>.withBondx (tfilter (fun k => k / 4 ≠ d) s.bondx)
      |>.withNetRegs (s.netRegs.filter (fun g => g.die ≠ d))
      |>.withFlows (tfilter (fun k => k / 65536 ≠ d) s.flows)
      |>.withRxbuf (tfilter (fun k => k / 2 ≠ d) s.rxbuf)
      |>.withGroups (s.groups.filter (fun g => g.die ≠ d))
      |>.withChains (s.chains.filter (fun c => c.die ≠ d))
      |>.withRahead (tfilter (fun k => k / 2 ≠ d) s.rahead)
      |>.withPred (tfilter (fun k => k / 256 ≠ 24 + d) s.pred)
      |>.withCopies (s.copies.filter (fun c => c.agent ≠ 24 + d && (c.agent < 28 || (c.agent - 28) / 3 ≠ d)))

/-- Requests of a sequencer discarded without completion (01 R43): BUSY falls in each GLB_PD_CTRL that passed one (R44). -/
def dropPwr (s : State) (q : Nat) : State :=
  let x := tget seqDef s.seqs q
  (x.cur.toList ++ x.queue).foldl (fun s r => match r.org with
    | .ctrl u => fset s (Reg.GLB_PD_CTRL u) 31 1 0
    | _ => s) (s.withSeqs (tset seqDef s.seqs q ⟨[], none⟩))

/-- Domains a die holds after boot or after its return: Mortar, J0-J2, the Bays and the Courses ON, J3 OFF; every Course
wakes with the clearing of 03 R102 (15 R515). -/
def dieDomains (s : State) (d : Nat) : State :=
  let s := (List.range 16).foldl (fun s c => setPd s (dCourse d c) 2) s
  let s := (List.range 3).foldl (fun s b => setPd s (dBay d b) 2) s
  let s := (List.range 3).foldl (fun s j => setPd s (dJoint d j) 2) s
  let s := setPd (setPd s (dMortar d) 2) (dJoint d 3) 0
  recount (memLose s (spadAddr d 0 0) (spadAddr d 0 0x4000000000)) d

/-- Bond ends of unit `u` that are connected: J0-J2 of an Ashlar die, KA, KB, KX (01 R34). -/
def bondEnable (s : State) (u : Nat) : State :=
  (List.range 3).foldl (fun s j => fset (fset s (Reg.BND_CTRL u j) 0 1 1) (Reg.BND_STATUS u j) 0 3 1) s

/-- Footings of die `d` powered ON and enabled (19 R465 step 7). -/
def footingsOn (s : State) (d : Nat) : State :=
  (List.range 3).foldl (fun s b => fset (setPd s (dFooting (3 * d + b)) 2) (Reg.FTG_CTRL (8 + 3 * d + b)) 0 1 1) s

/-- Ledger budgets written, and the ledger and fault units enabled (19 R465 step 9, 15 R515). -/
def dieEnables (s : State) (d : Nat) (budgets : List Nat) : State :=
  let s := (budgets.zipIdx).foldl (fun s p => fset s (Reg.LDG_BUDGET d p.2) 0 24 p.1) s
  bondEnable (fset (fset s (Reg.LDG_CTRL d) 0 1 1) (Reg.FLT_CTRL d) 0 1 1) d

/-- Budgets of a die as its registers hold them. -/
def budgetsOf (s : State) (d : Nat) : List Nat := (List.range 21).map (fun i => fget s (Reg.LDG_BUDGET d i) 0 24)

/-- CONFIG values of a die: MAC addresses (19 R462 record 3). -/
def applyMacs (s : State) (d : Nat) : State :=
  (List.range 2).foldl (fun s n =>
    let m := s.cfg.macs.getD (2 * d + n) 0
    wr (wr s (Reg.NET_PORT_MAC_LO d n) (BitVec.ofNat 32 m)) (Reg.NET_PORT_MAC_HI d n) (BitVec.ofNat 32 (m / 2 ^ 32 % 65536))) s

/-- A die rebuilt to its boot state (15 R515), with the host states that the Cornerstone holds (R373): `cold` when its Footings and stacks were reset. -/
def rebuildDie (s : State) (d : Nat) (budgets : List Nat) (cold : Bool) : State :=
  let c := cornerstone s
  let s := fset s (Reg.GLB_ATTACH_CTRL d) 24 6 (fget s (Reg.GLB_ATTACH_CTRL c) 24 6)
  let s := s.withPrivStore (tset storeDef s.privStore d (tget storeDef s.privStore c))
  let s := applyMacs (dieDomains s d) d
  let s := if cold then (List.range 3).foldl (fun s b => applyPcs s (3 * d + b) false) s else s
  let s := if cold then footingsOn s d else s
  dieEnables s d budgets

/-- Registers of die `d`'s window that a DIE_WARM resets: groups A and B and GLB_PD_CTRL (21 R504, 01 R43); the registers
with one home in window 0 belong to the module and stay. -/
def warmRow (d : Nat) (u : Nat) (r : RegRow) : Bool :=
  u == d && !sharedOff r.base && (r.grp == .a || r.grp == .b || r.name == "GLB_PD_CTRL")

/-- Registers a DIE_COLD resets: those of DIE_WARM, groups D and P of the window, and groups F and P of its Footings. -/
def coldRow (d : Nat) (u : Nat) (r : RegRow) : Bool :=
  warmRow d u r || (u == d && !sharedOff r.base && (r.grp == .d || r.grp == .p)) ||
  (decide (8 + 3 * d ≤ u ∧ u < 11 + 3 * d) && (r.grp == .f || r.grp == .p))

/-- The request at the head of the Cornerstone's queue, if it is of this type and target, leaves it; its register shows
DONE and is no longer BUSY (15 R369, R383). -/
def resetServed (s : State) (typ : Nat) (tgt : Nat → Bool) : State :=
  match s.resetQ with
  | q :: qs =>
    if q.typ = typ ∧ tgt q.target then
      let s := s.withResetQ qs
      match q.win with
      | some w => setRD (fset s (Reg.GLB_RESET_CTRL w) 31 1 0) (Reg.GLB_RESET_CTRL w) 8 0 0
      | none => s
    else s
  | [] => s

/-- DIE_WARM (15 R515, 12 R315-R316): the die leaves service with FAREWELL, is reset with its HBM kept, and is rebuilt to its
boot state; it waits for its root PLL (18 R436). It serves again when it is admitted (12 R318). -/
def dieWarm (s : State) (d : Nat) : State :=
  if s.pllOff.contains d then
    if s.resetQ.contains ⟨none, 4, d⟩ then s else s.withResetQ (⟨none, 4, d⟩ :: s.resetQ)
  else
    let s := resetServed s 4 (· == d)
    let s := if outOf s d then s else dieOut (farewell (mgt s 8 d 0) d) d
    let b := budgetsOf s d
    let s' := clearDieX (dropPwr (clearRegs s (warmRow d)) d) d
    spareReg (rebuildDie (keepBlkState s s' d) d b false)

/-- The bumps that a die samples: its POS, and the Keystone and port they name (01 R30, R38). -/
def samplePos (s : State) (d : Nat) (p : Fin 4) : State :=
  fset (fset s (Reg.GLB_DIE_IDENT d) 0 2 p) (Reg.GLB_DIE_IDENT d) 4 2 (p / 2 + p % 2 * 2)

/-- DIE_COLD (15 R515): as DIE_WARM, with the Footings reset, the stacks lost and zeroed, POS sampled again from the same bumps (01 R30;
DEDUCED, log entry 155) and the Blocks in the state the current map gives them. -/
def dieCold (s : State) (d : Nat) : State :=
  let p := Fin.ofNat 4 (fget s (Reg.GLB_DIE_IDENT d) 0 2)
  let s := resetServed s 5 (· == d)
  let s := if outOf s d then s else dieOut (farewell (mgt s 8 d 0) d) d
  let b := budgetsOf s d
  let s := clearDieX (dropPwr (samplePos (clearRegs s (coldRow d)) d p) d) d
  let s := (List.range 3).foldl (fun s i => stackLost s (3 * d + i)) s
  spareReg (rebuildDie (loadBlkMap s d) d b true)

/-- DIE_WARM of a die. -/
def execDieWarm (d : Die) (s : State) : Out := .next (dieWarm s d)
/-- DIE_COLD of a die. -/
def execDieCold (d : Die) (s : State) : Out := .next (dieCold s d)

/-- MODULE_COLD (19 R465): everything but the flash and the management rail's own registers returns to reset; the boot
sequence starts from step 1. The store keeps its charge, which its controller measures again (18 R450). -/
def moduleCold (s : State) : State :=
  let keep : Nat → Bool := fun a => match regAt a with
    | some (_, r, _) => r.grp == .h
    | none => false
  let m := s.modx
  let t : State := State.reset.withRegs (tfilter keep s.regs)
      |>.withSent s.sent
      |>.withFresh s.fresh
      |>.withTxSeen s.sent.length
      |>.withPending s.pending
      |>.withFlash s.flash
      |>.withStackx ((List.range 12).foldl (fun t h => tset stackDef t h { stackDef 0 with used := (stackX s h).used }) [])
      |>.withModx { m with pkgRails := m.rail, coldDue := false, l4 := false, faultN := false, tripN := false, perst := [false, false], warm := false, refLost := [] }
  fset (fset t Reg.GLB_MOD_STATUS 8 1 0) Reg.GLB_MOD_STATUS 10 2 0

/-- MODULE_COLD. -/
def execModuleCold (s : State) : Out := .next (moduleCold s)

/-- MODULE_WARM (19 R467): every die and Footing reset with the memories in self-refresh; registers of groups A, B, E and G
return to reset; the boot sequence follows without zeroing. -/
def moduleWarm (s : State) : State :=
  let s := resetServed s 1 (fun _ => true)
  let p : Nat → RegRow → Bool := fun _ r => r.grp == .a || r.grp == .b || r.grp == .e || r.grp == .g
  let t := clearRegs s p
  let t := (List.range 4).foldl (fun t d => keepBlkState s (clearDieX (dropPwr t d) d) d) t
  let t := dropPwr (dropPwr t 4) 5
  (t.withCopies []
      |>.withHarts []
      |>.withBootStore []
      |>.withRegq []
      |>.withDir []
      |>.withRecov []
      |>.withPkgQ []
      |>.withResetQ []
      |>.withUpdate none
      |>.withXlt []
      |>.withHold []
      |>.withL2busy []
      |>.withTxns []
      |>.withWaitq []
      |>.withResps []
      |>.withWbs []
      |>.withAnswers []
      |>.withReclaims []
      |>.withNamed []
      |>.withPred []
      |>.withRahead []
      |>.withBondx []
      |>.withRejoins []
      |>.withWdog []
      |>.withModx { t.modx with warm := true })

/-- MODULE_WARM. -/
def execModuleWarm (s : State) : Out := .next (moduleWarm s)

/-- Steps 5-6 of a KCORE once every cluster has written back (15 R371): the cores restart; the host stays DETACHED; its
link is DOWN; PERST releases with the cores (20 R487). A recovery of the cores ends by its own command. -/
def kcoreFinish (s : State) (k : Nat) : State :=
  let s := fset (hartsStart s k) (Reg.GLB_HOST_WDOG_STATUS (4 + k)) 0 1 0
  (s.withL2busy (tset natDef s.l2busy k 0)
      |>.withWdog (tdel k s.wdog)
      |>.withModx { s.modx with perst := s.modx.perst.set k false })

/-- KCORE of one Keystone (15 R371): DETACHED in every record, M lines of its L2s written back but for the clusters in
`slow`, which the reclaim of L2_WRITEBACK_TIMEOUT ends; its root port hot-reset; its watchdog disarmed (R370). -/
def kcoreOne (s : State) (k slow : Nat) : State :=
  if hostState s k = 2 then s
  else
    let s := setHost (hartsHeld s k) k 1
    let s := evictAll s (fun c => decide (12 * k ≤ c.agent ∧ c.agent < 12 * k + 12) && !slow.testBit (c.agent - 12 * k))
    let s := s.withModx { s.modx with perst := s.modx.perst.set k true }
    if slow % 4096 = 0 then kcoreFinish s k else s.withL2busy (tset natDef s.l2busy k (slow % 4096))

/-- KCORE (15 R371) of the Keystones in `ks`; `slow` marks the clusters (12 for K0, 12 for K1) not done writing back. -/
def execKcore (ks : BitVec 2) (slow : BitVec 24) (s : State) : Out :=
  let s := resetServed s 2 (fun t => (t == 4 && ks == 1) || (t == 5 && ks == 2) || (t == 6 && ks == 3))
  let s := if ks.getLsbD 0 then kcoreOne s 0 (slow.toNat % 4096) else s
  .next (if ks.getLsbD 1 then kcoreOne s 1 (slow.toNat / 4096) else s)

/-- A cluster reclaimed: DEAD for it to every home (11 R290, R292). -/
def execL2WritebackTimeout (k : Key) (cl : Fin 12) (s : State) : Out :=
  let m := tget natDef s.l2busy k
  if !m.testBit cl then .next s
  else
    let s := mgt (s.withL2busy (tset natDef s.l2busy k (m - 2 ^ cl.val))) 2 (12 * k + cl) 0
    .next (if tget natDef s.l2busy k = 0 then kcoreFinish s k else s)

/-- What a KFULL resets of a Keystone beside its domains (15 R383): its registers of reset group E and what stands behind them. -/
def kfullReset (s : State) (k : Nat) : State :=
  let s := clearRegs (dropPwr s (4 + k)) (fun u r => u == 4 + k && r.grp == .e)
  (s.withWdog (tdel k s.wdog)
      |>.withXlt (tset xltDef s.xlt (4 + k) (xltDef 0))
      |>.withBondx (tfilter (fun i => i / 4 ≠ 4 + k) s.bondx)
      |>.withRahead (tdel (8 + k) s.rahead)
      |>.withPred (tfilter (fun i => i / 256 / 12 ≠ k || decide (24 ≤ i / 256)) s.pred))

/-- KFULL (15 R376): steps 1 to 4, and its six domains reset; the registers of its reset group E return to reset; a KCORE
in progress is taken over (R382). A Keystone already in a KFULL keeps it. -/
def execKfull (k : Key) (s : State) : Out :=
  let s := resetServed s 3 (fun t => t == 4 + k.val || t == 6)
  if hostState s k = 2 then .next s
  else
    let s := beginKfull (s.withL2busy (tset natDef s.l2busy k 0)) k
    let s := kfullReset s k
    .next (if l4Due s then enterL4 s else s)

/-- KEYSTONE_RETURNED (15 R376 steps 5-6): the DDR5 channels are trained, the domains ON, the homes up with empty
directories, the host RETURNED and its cores released. -/
def execKeystoneReturned (k : Key) (s : State) : Out :=
  if hostState s k ≠ 2 then .next s
  else
    let s := (List.range 6).foldl (fun s i => setPd s (96 + 6 * k + i) 2) (kfullReset s k)
    let s := s.withAbsent (s.absent.filter (· ≠ 4 + k.val))
        |>.withModx { s.modx with perst := s.modx.perst.set k false }
    .next (agentsBack (homesChanged (bondEnable (setHost (hartsStart (loadBoot s k) k) k 3) (4 + k))))

/-! ### Reset requests (15 R369, R383) -/

/-- What refuses a reset request of a TYPE and TARGET: one outside the table, with CFG_RANGE 0x8A; a KCORE or KFULL of a Keystone
in a KFULL, with STATE 0x85 (15 R369, R383). -/
def resetChk (s : State) (typ target : Nat) : Chk :=
  let inKfull := (decide (target = 4 ∨ target = 6) && hostState s 0 == 2) ||
    (decide (target = 5 ∨ target = 6) && hostState s 1 == 2)
  let okTarget := if typ = 1 then decide (target ≤ 6) else if typ ≤ 3 then decide (4 ≤ target ∧ target ≤ 6) else decide (target < 4)
  firstFail [
    (decide (1 ≤ typ ∧ typ ≤ 5) && okTarget, Rsn.CFG_RANGE, 0x8A),
    (!(decide (typ = 2 ∨ typ = 3) && inKfull), Rsn.STATE, 0x85)]

/-- GLB_RESET_CTRL TYPE and TARGET written in the window of die `d`: refused while BUSY, or by `resetChk`; else queued. -/
def resetReq (s : State) (d typ target : Nat) : State :=
  let a := Reg.GLB_RESET_CTRL d
  if bit s a 31 then setRD s a 8 Rsn.STATE 0x85
  else match resetChk s typ target with
    | some (r, e) => setRD s a 8 r e
    | none => fset (s.withResetQ (s.resetQ ++ [⟨some d, typ, target⟩])) a 31 1 1

/-- TYPE 1. -/
def execResetReqModuleWarm (d : Die) (target : BitVec 3) (s : State) : Out := viaWin s d fun s => .next (resetReq s d 1 target.toNat)
/-- TYPE 2. -/
def execResetReqKcore (d : Die) (target : BitVec 3) (s : State) : Out := viaWin s d fun s => .next (resetReq s d 2 target.toNat)
/-- TYPE 3. -/
def execResetReqKfull (d : Die) (target : BitVec 3) (s : State) : Out := viaWin s d fun s => .next (resetReq s d 3 target.toNat)
/-- TYPE 4. -/
def execResetReqDieWarm (d : Die) (target : BitVec 3) (s : State) : Out := viaWin s d fun s => .next (resetReq s d 4 target.toNat)
/-- TYPE 5. -/
def execResetReqDieCold (d : Die) (target : BitVec 3) (s : State) : Out := viaWin s d fun s => .next (resetReq s d 5 target.toNat)

/-! ### Boot -/

/-- POS of each die as its register holds it. -/
def heldPos (s : State) : List (Fin 4) := (List.range 4).map (fun d => Fin.ofNat 4 (fget s (Reg.GLB_DIE_IDENT d) 0 2))

/-- The Cornerstone elected (19 R464): the lowest POS among the dies that passed their self-test and whose POS no other
die reported; a die that failed its self-test is out of service. `pos` is what the dies read from their bumps on leaving MODULE_COLD; at a
warm boot they report the POS they hold (01 R30). -/
def execRomElection (pass : BitVec 4) (pos : List (Fin 4)) (s : State) : Out :=
  if fget s Reg.GLB_BOOT_STATUS 6 4 ≠ 1 then .next s
  else
    let pos := if s.modx.warm then heldPos s else pos
    let ok := (pos.zipIdx).filter (fun p => pass.getLsbD p.2 && !outOf s p.2 && (pos.filter (· == p.1)).length == 1)
    let bad := (List.range 4).filter (fun d => !pass.getLsbD d)
    let s := (pos.take 4).zipIdx.foldl (fun s p => samplePos s p.2 p.1) (s.withAbsent (bad.foldl (fun l d => kins d l) s.absent))
    match sortNat (ok.map (fun p => p.1.val)) with
    | p :: _ => .next (fset s Reg.GLB_BOOT_STATUS 3 3 p)
    | [] => .next s

/-- An image is current (19 R461). -/
def imgCurrent (s : State) (i : Img) : Bool := decide (max (s.flash.counters.getD 0 0) Config.svnFloor ≤ i.svn)
/-- A slot passes R463. -/
def slotPasses (s : State) (x : Slot) : Bool :=
  x.state == 0x3F && x.recDigest == x.img.digest && x.img.authentic && x.img.wellFormed && imgCurrent s x.img
/-- Codes with which a VALID slot that fails is recorded. -/
def slotFault (s : State) (x : Slot) : Nat × Nat :=
  if !x.img.wellFormed then (Rsn.BAD_DESC, 0xCA)
  else if x.recDigest != x.img.digest || !x.img.authentic then (Rsn.SEAL_MISMATCH, 0xC8)
  else if !imgCurrent s x.img then (Rsn.CFG_CONFLICT, 0xC9) else (0, 0)

/-- VALID slots in descending SEQUENCE, with their index. -/
def slotOrder (s : State) : List (Slot × Nat) :=
  sortBy (fun a b => decide (b.1.sequence ≤ a.1.sequence)) ((s.flash.slots.zipIdx).filter (fun p => p.1.state == 0x3F))

/-- A FATAL record of the boot, without action (19 R463). -/
def bootFatal (s : State) (reason detail : Nat) : State :=
  recordAt s ⟨cornerstone s, reason, detail, 4, 13, 0, [], .module⟩ 4 0 0

/-- The end of boot without an image or past a limit: FAULT_N, and the module stays in reset until MODULE_COLD. -/
def bootStop (s : State) : State := fset (s.withModx { s.modx with faultN := true, l4 := true }) Reg.GLB_MOD_STATUS 8 1 1

/-- The booted slot. -/
def bootedSlot (s : State) : Slot := s.flash.slots.getD (fget s Reg.GLB_BOOT_STATUS 0 1) emptySlot

/-- A measurement register's 48 bytes (19 R473). -/
def setMeas (s : State) (m : Nat) (bs : List Byte) : State :=
  (List.range 12).foldl (fun s w => wr s (Reg.SEAL_MEAS m w) (BitVec.ofNat 32 (leNat ((bs.drop (4 * w)).take 4)))) s
/-- The 48 bytes a measurement register holds. -/
def meas (s : State) (m : Nat) : List Byte := (List.range 12).flatMap (fun w => leBytes 4 (rd s (Reg.SEAL_MEAS m w)).toNat)

/-- The 32-byte state block (19 R473 index 6). -/
def stateBlock (s : State) : List Byte :=
  leBytes 1 (fget s Reg.GLB_BOOT_STATUS 0 1) ++ leBytes 1 (fget s Reg.GLB_BOOT_STATUS 1 1) ++ leBytes 2 0 ++
  leBytes 4 (bootedSlot s).img.svn ++ (List.range 4).flatMap (fun i => leBytes 4 (s.flash.counters.getD i 0)) ++
  leBytes 1 Config.svnFloor ++ leBytes 1 Config.debugLock ++ leBytes 6 0

/-- GLB_CNT registers and measurement 6 follow the counters. -/
def countersChanged (s : State) : State :=
  let s := (List.range 4).foldl (fun s i => fset s (Reg.GLB_CNT i) 0 20 (s.flash.counters.getD i 0)) s
  setMeas s 6 (sha384 (stateBlock s))

/-- Units of `good` that fail their part of a step leave service (19 R465). -/
def bootGood (s : State) (good : BitVec 20) (us : List Nat) : State :=
  let bad := us.filter (fun u => !good.getLsbD u)
  let s := s.withAbsent ((bad.filter (· < 6)).foldl (fun l u => kins u l) s.absent)
  if l4Due s then enterL4 s else s

/-- A capacity a CAMM2 module may have (06 R167). -/
def cammCap (c : Nat) : Bool := c == 64 || c == 128 || c == 256 || c == 512

/-- Populations of 06 R168, of modules that R167 allows. -/
def popLegal (caps : List Nat) : Bool :=
  let fit := (List.range 6).filter (fun n => caps.getD n 0 ≠ 0)
  (fit == [0, 3] || fit == [0, 1, 3, 4] || fit == [0, 1, 2, 3, 4, 5]) && fit.all (fun n => caps.getD n 0 == caps.getD 0 0) && cammCap (caps.getD 0 0)

/-- Steps 2 to 4 (19 R464, R465): a die of `us` that failed its part leaves service; if it was the Cornerstone's, the sequence restarts from
step 2 without it, else the step goes on. -/
def bootDies (s : State) (good : BitVec 20) (us : List Nat) (go : State → State) : State :=
  let s' := bootGood s good us
  if good.getLsbD (cornerstone s) || s'.modx.l4 then go s' else fset s' Reg.GLB_BOOT_STATUS 6 4 1

/-- Step `n` of R465 carried out. -/
def bootStep (s : State) (n : Nat) (good : BitVec 20) (caps : List (BitVec 10)) : State :=
  let done : State → State := fun s => fset s Reg.GLB_BOOT_STATUS 6 4 n
  match n with
  | 1 => done (fset (s.withPllOff ((List.range 6).filter (fun u => !good.getLsbD u))) Reg.GLB_MOD_STATUS 7 1 1)
  | 2 => bootDies s good [0, 1, 2, 3] done
  | 3 => bootDies s good [cornerstone s] (fun s =>
    match (slotOrder s).find? (fun p => slotPasses s p.1) with
    | some p =>
      let bad := (slotOrder s).takeWhile (fun q => !slotPasses s q.1)
      let s := bad.foldl (fun s q => bootFatal s (slotFault s q.1).1 (slotFault s q.1).2) s
      let s := fset (fset s Reg.GLB_BOOT_STATUS 0 1 p.2) Reg.GLB_BOOT_STATUS 1 1 (if bad.isEmpty then 0 else 1)
      done s
    | none =>
      let s := (slotOrder s).foldl (fun s q => bootFatal s (slotFault s q.1).1 (slotFault s q.1).2) s
      bootStop (bootFatal s Rsn.SEAL_MISMATCH 0xCF))
  | 4 => bootDies s good [0, 1, 2, 3] (fun s =>
    let i := (bootedSlot s).img
    let s := (List.range 4).foldl (fun s d => if outOf s d then s else s.withPrivStore (tset storeDef s.privStore d (i.comps.take 3))) s
    let s := setMeas (setMeas s 0 Config.romDigest) 1 i.digest
    done ((List.range 4).foldl (fun s k => setMeas s (2 + k) (i.comps.getD k [])) s))
  | 5 =>
    let c := (bootedSlot s).img.cfg
    let s := s.withCfg c |>.withHealth (if s.modx.warm then s.health else s.flash.health)
    let s := wr s Reg.LDG_MODULE (BitVec.ofNat 32 (c.watts + c.ksAllot * 65536))
    let s := (List.range 4).foldl (fun s i => fset s (Reg.HUP_COST i) 0 16 (c.costs.getD i 0)) s
    let s := (List.range 4).foldl (fun s d => applyMacs (loadBlkMap s d) d) s
    let s := (List.range 12).foldl (fun s h => applyPcs s h s.modx.warm) s
    let s := countersChanged s
    done (if s.modx.warm then s else requestStore s (.counter 2))
  | 6 =>
    let s := (List.range 4).foldl (fun s d => if outOf s d then s else bondEnable (dieDomains s d) d) s
    let s := (List.range 2).foldl (fun s k => bondEnable (setPd s (dKio k) 2) (4 + k)) s
    done s
  | 7 =>
    let s := (List.range 12).foldl (fun s h =>
      if good.getLsbD (8 + h) && !outOf s (h / 3) then
        let s := fset (setPd s (dFooting h) 2) (Reg.FTG_CTRL (8 + h)) 0 1 1
        if s.modx.warm then s else loseStack s h
      else s) s
    done (homesChanged s)
  | 8 =>
    let cs := caps.map (·.toNat)
    if !s.modx.warm && !popLegal cs then bootStop (bootFatal s Rsn.CFG_CONFLICT 0x67)
    else
      let s := bootGood s good [4, 5]
      let s := (List.range 2).foldl (fun s k => if outOf s (4 + k) then s else setPd s (dUncore k) 2) s
      let s := if s.modx.warm then s else (List.range 6).foldl (fun s m =>
        let a := Reg.GLB_SKT_STATUS (4 + m / 3) (m % 3)
        if cs.getD m 0 = 0 then fset s a 0 3 0 else fset (fset s a 4 10 (cs.getD m 0)) a 0 3 1) s
      done (homesChanged (if s.modx.warm then s else memLose s 0 0x030000000000))
  | _ =>
    let s := (List.range 4).foldl (fun s d => if outOf s d then s else dieEnables s d (s.cfg.budgets.getD d [])) s
    let s := (List.range 8).foldl (fun s i => if outOf s (4 + i / 4) then s else setPd s (dCores (i / 4) (i % 4)) 2) s
    let s := (List.range 2).foldl (fun s k => if outOf s (4 + k) then s else hartsStart (loadBoot s k) k) s
    let s := (List.range 2).foldl (fun s k => if outOf s (4 + k) then s else setHost s k 0) s
    done (fset s Reg.GLB_BOOT_STATUS 2 1 1)

/-- BOOT_STEP_DONE (19 R465): the step after STEP ends; `good` are the units that passed their part of it, `caps` the
sockets' capacities in GiB that step 8 reads. Needs power good. -/
def execBootStepDone (good : BitVec 20) (caps : List (BitVec 10)) (s : State) : Out :=
  let n := fget s Reg.GLB_BOOT_STATUS 6 4 + 1
  if !s.modx.powerGood || s.modx.inReset || s.modx.faultN || decide (9 < n) then .next s else .next (bootStep s n good caps)

/-- BOOT_STEP_TIMEOUT (19 R465): ABORTED 0xCC, L4, and the consequences of R463. -/
def execBootStepTimeout (s : State) : Out :=
  if fget s Reg.GLB_BOOT_STATUS 6 4 = 9 then .next s
  else .next (bootStop (raise s ⟨cornerstone s, Rsn.ABORTED, 0xCC, 4, 13, 0, [], .module⟩ false))

/-- Positions that the trained partners of a die imply (01 R37): its clockwise neighbour's, its counter-clockwise neighbour's and its
Keystone port's. -/
def posVotes (j1 j2 kp : Option (Fin 4)) : List Nat :=
  (j1.map (fun q => (q.val + 3) % 4)).toList ++ (j2.map (fun q => (q.val + 1) % 4)).toList ++ (kp.map (·.val)).toList

/-- A die that stays in DIE_COLD with its HBM4 interfaces unpowered (01 R37): its registers and state as the reset leaves them, its Bays,
Courses, joints and Footings OFF, its stacks lost; POS as it was read. -/
def holdDie (s : State) (d : Nat) : State :=
  let p := Fin.ofNat 4 (fget s (Reg.GLB_DIE_IDENT d) 0 2)
  let s := clearDieX (dropPwr (samplePos (clearRegs s (coldRow d)) d p) d) d
  homesChanged (recount ((List.range 3).foldl (fun s i => stackLost s (3 * d + i)) s) d)

/-- POSITION_CHECK (01 R37): `j1`, `j2` the positions that trained partners report, `kp` what the Keystone port implies. The
die enters service iff more than half of the trained partners imply the POS it read; else it is held with POS_CHECK 2 or 3, and the
Cornerstone records DIE_ABSENT 0x49 of kind DIE with the POS read and the outcome. -/
def execPositionCheck (d : Die) (j1 j2 kp : Option (Fin 4)) (s : State) : Out :=
  if fget s (Reg.GLB_DIE_IDENT d) 2 2 ≠ 0 then .next s
  else
    let v := posVotes j1 j2 kp
    let p := fget s (Reg.GLB_DIE_IDENT d) 0 2
    let o := if v.isEmpty then 3 else 2
    let agree := (v.filter (· == p)).length
    if v.length < 2 * agree then .next (fset s (Reg.GLB_DIE_IDENT d) 2 2 1)
    else
      let s := fset (holdDie (s.withAbsent (kins d s.absent)) d) (Reg.GLB_DIE_IDENT d) 2 2 o
      let s := recordAt s ⟨cornerstone s, Rsn.DIE_ABSENT, 0x49, 3, 14, d, leBytes 1 p ++ leBytes 1 o, .ashlar d⟩ 3 0 0
      .next (if l4Due s then enterL4 s else s)

/-! ### Root PLLs and the reference (18 R436) -/

/-- PLL_UNLOCK: the die's clocks stop, it leaves service with DIE_ABSENT 0x0B at L3, recorded by the Cornerstone. -/
def execPllUnlock (u : Unit6) (s : State) : Out :=
  if s.pllOff.contains u then .next s
  else
    let s := s.withPllOff (kins u s.pllOff)
    let o := if cornerstone s = u.val then (otherDies s u).headD (cornerstone s) else cornerstone s
    .next (raise s (if u.val < 4 then ⟨o, Rsn.DIE_ABSENT, 0x0B, 3, 14, u, [], .ashlar u⟩
      else ⟨o, Rsn.DIE_ABSENT, 0x0B, 3, 11, u + 8 * 31, [], .keystone (u - 4)⟩) false)

/-- PLL_LOCK: the counter resumes, and a DIE_WARM that waits for the lock proceeds. -/
def execPllLock (u : Unit6) (s : State) : Out :=
  let s := s.withPllOff (s.pllOff.filter (· ≠ u.val))
  .next (if s.resetQ.contains ⟨none, 4, u⟩ then dieWarm s u else s)

/-- REFCLK_LOSS: a die reports the loss; when every Ashlar die has, ABORTED 0x0C and L4. -/
def execRefclkLoss (d : Die) (s : State) : Out :=
  let s := fset (s.withModx { s.modx with refLost := kins d s.modx.refLost }) Reg.GLB_MOD_STATUS 7 1 0
  .next (if s.modx.refLost.length = 4 then raise s ⟨cornerstone s, Rsn.ABORTED, 0x0C, 4, 13, 0, [], .module⟩ false else s)

end Sys2Proof.Machine
end

