-- ==== Sys2Proof/Machine/Retire.lean ====
section
/-! DEFINITION. Errors that reads of memory meet, the rows they mark for repair and the retirement of pseudo-channels
(06 R159, R160, R162-R165). -/

namespace Sys2Proof.Machine

/-! ### Retirement (06 R162-R165) -/

/-- DATA of a STACK record (16 R386). -/
def stackData (a : Nat) (r : Nat × Nat × Nat) : List Byte := leBytes 8 a ++ leBytes 1 r.1 ++ leBytes 1 r.2.1 ++ leBytes 4 r.2.2

/-- A reserve is free for one more retirement (06 R163, R164). -/
def reserveFree (s : State) (h : Nat) : Bool :=
  let a := Reg.FTG_HBM_STATUS (8 + h)
  let x := stackX s h
  decide (fget s a 2 2 + (if x.ret.isSome then 1 else 0) + x.queue.length < fget s a 0 2)

/-- A retirement of this pseudo-channel is in progress or waits. -/
def retiringPc (s : State) (h pc : Nat) : Bool :=
  let x := stackX s h
  x.ret.any (fun r => r.pc == pc) || x.queue.any (fun r => r.pc == pc)

/-- Step 1 of R163: the pseudo-channel RETIRING, repairs due on it abandoned (R165), the RETIRING state requested of the health record. -/
def retireBegin (s : State) (h : Nat) (r : Retire) : State :=
  let s := fset (setPc s h r.pc 1) (Reg.FTG_HBM_STATUS (8 + h)) 4 8 (1 + 4 * r.pc)
  let s := fset s (Reg.FTG_RETIRE_PROGRESS (8 + h)) 0 23 0
  let x := stackX s h
  let before := if r.forced then [] else s.items.map (fun i => (i.die, i.ring, i.seq))
  healthPc (setStackX s h { x with
    ret := some { r with copying := false, before := before }, due := x.due.filter (fun d => d.1 ≠ r.pc) }) h r.pc 1

/-- A retirement begins, or waits for the one in progress (06 R165). -/
def retireAsk (s : State) (h : Nat) (r : Retire) : State :=
  let x := stackX s h
  if x.ret.isNone && x.queue.isEmpty then retireBegin s h r else setStackX s h { x with queue := x.queue ++ [r] }

/-- The event of a forced retirement: a fault at L2 on the Footing (06 R162, 16 R396). -/
def forcedEv (h a : Nat) (row : Nat × Nat × Nat) : Ev := ⟨h / 3, Rsn.ECC_UNCORR, 0x69, 2, 3, h, stackData a row, .footing h⟩

/-- Every command of a stack, running or queued, ends with these codes (07 R183). -/
def endCommands (s : State) (h reason detail : Nat) : State := (stackItems s h).foldl (fun s i => endItem s i reason detail) s

/-- A forced retirement with every reserve used: the stack is FAULTED, its commands end with the fault's codes (07 R183), it is contained as its Footing and without a recovery (06 R164, 16
R398). -/
def stackFault (s : State) (h : Nat) (e : Ev) : State :=
  let s := endCommands s h e.reason e.detail
  contain (recordAt (fset s (Reg.FTG_HBM_STATUS (8 + h)) 4 2 2) e 2 0 0) (.footing h) e.reason e.detail

/-- A pseudo-channel that no further error retires: retired, its forced retirement under way or waiting, or its stack FAULTED. -/
def retireSettled (s : State) (h pc : Nat) : Bool :=
  let x := stackX s h
  stackFaulted s h || pcState s h pc == 2 || (x.ret.toList ++ x.queue).any (fun r => r.pc == pc && r.forced)

/-- A forced retirement (06 R162): it overrides a planned one of the same pseudo-channel. -/
def forceRetire (s : State) (h a : Nat) (row : Nat × Nat × Nat) : State :=
  let pc := row.1
  let e := forcedEv h a row
  if retireSettled s h pc then s
  else if retiringPc s h pc then
    let x := stackX s h
    let f : Retire → Retire := fun r => if r.pc = pc then { r with forced := true } else r
    raise (setStackX s h { x with ret := x.ret.map f, queue := x.queue.map f }) e false
  else if reserveFree s h then raise (retireAsk s h ⟨pc, true, false, false, []⟩) e false
  else stackFault s h e

/-- An automatic planned trigger (06 R162, R164). -/
def autoRetire (s : State) (h pc : Nat) : State :=
  if stackFaulted s h || pcState s h pc != 0 || retiringPc s h pc then s
  else if reserveFree s h then retireAsk s h ⟨pc, false, false, false, []⟩
  else note s (h / 3) Rsn.NOT_SCHEDULABLE 0x62 3 h (stackData 0 (pc, 0, 0))

/-- A row that needs a repair is marked PENDING (06 R160 step 1), abandoned on a RETIRING pseudo-channel (R165); in a bank whose four
repairs are used it triggers a planned retirement (R162). -/
def markDue (s : State) (h : Nat) (row : Nat × Nat × Nat) : State :=
  let x := stackX s h
  if pcState s h row.1 = 1 ∨ x.due.contains row ∨ x.cur = some row then s
  else if 4 ≤ tget natDef x.used (row.1 * 64 + row.2.1) then autoRetire s h row.1
  else setStackX s h { x with due := x.due ++ [row] }

/-! ### Errors met by reads (06 R159, R167) -/

/-- An HBM read corrects an error in the unit at per-stack address `a`: counted and recorded, and its row noted, once for the repair of R160
and once for the hour of R162. -/
def hbmCorrected (s : State) (h a : Nat) : State :=
  let row := rowOf s h (a - hbmAddr h 0)
  let now := period s (h / 3)
  let s := holdAdd s (Reg.FTG_HBM_STATUS (8 + h)) 16 16 1
  let s := raise s ⟨h / 3, Rsn.DONE, 0x6C, 0, 3, h, stackData a row, .footing h⟩ false
  let x := stackX s h
  let at' : Nat × Nat × Nat × Nat → Bool := fun c => (c.1, c.2.1, c.2.2.1) == row
  let first := x.seen.find? at'
  let ces := x.ces.filter (fun c => !at' c && decide (now < c.2.2.2 + 14400000)) ++ [(row.1, row.2.1, row.2.2, now)]
  let s := setStackX s h { x with ces := ces, seen := if first.isSome then x.seen else x.seen ++ [(row.1, row.2.1, row.2.2, now)] }
  let s := if first.any (fun c => c.2.2.2 != now) then markDue s h row else s
  if 64 < (ces.filter (fun c => c.1 == row.1)).length then autoRetire s h row.1 else s

/-- An uncorrectable HBM read of the unit at per-stack address `a`: the unit is written back poisoned, its row repaired, and four banks of
a pseudo-channel in one ledger period force its retirement. -/
def hbmUncorrectable (s : State) (h a : Nat) : State :=
  let row := rowOf s h (a - hbmAddr h 0)
  let now := period s (h / 3)
  let s := setPoison s a
  let x := stackX s h
  let ues := x.ues.filter (fun u => u.2.2 == now && u != (row.1, row.2.1, now)) ++ [(row.1, row.2.1, now)]
  let s := setStackX s h { x with ues := ues }
  markDue (if 4 ≤ (ues.filter (fun u => u.1 == row.1)).length ∧ !retireSettled s h row.1 then forceRetire s h a row
    else note s (h / 3) Rsn.ECC_UNCORR 0x69 3 h (stackData a row)) h row

/-- An error met by a read of the unit at a home address: `ue` when uncorrectable. A corrected one stays in the stored bits and is met by every
later read until they are written anew (06 R159). A DDR5 byte's channel is bit 8 of its module offset (06 R169). -/
def memError (s : State) (a : Nat) (ue : Bool) : State :=
  if 0x100000000000 ≤ a ∧ a < 0x118000000000 then
    let h := (a - 0x100000000000) / 0x2000000000
    if ue then hbmUncorrectable s h a else hbmCorrected (s.withFlips (kins (poisonUnit a) s.flips)) h a
  else if a < 0x030000000000 ∧ ue then
    let n := socketOf s a
    note (setPoison s a) (4 + n / 3) Rsn.ECC_UNCORR 0x6A 4 n (leBytes 8 a ++ leBytes 1 (a / 256 % 2))
  else s

/-- An error code of a line or granule read: 0 none, 1 to `n` unit corrected, above `n` unit uncorrectable. -/
def lineError (s : State) (a n code : Nat) : State :=
  if code = 0 then s else if code ≤ n then memError s (a + 32 * (code - 1)) false else memError s (a + 32 * (code - 1 - n)) true

/-- The Footing of a stack works: its domain ON, the stack not FAULTED. -/
def footingUp (s : State) (h : Nat) : Bool := isOn s (dFooting h) && !stackFaulted s h
/-- Its engines run: neither it nor its Bay is contained (16 R394). -/
def enginesUp (s : State) (h : Nat) : Bool := footingUp s h && !recovering s (.footing h) && !recovering s (.bay (h / 3) (h % 3))

/-- Units of a home range of a stack that hold an error that reads correct. -/
def weakUnits (s : State) (a n : Nat) : List Nat := s.flips.filter (fun u => decide (u < 0xE00000000000 ∧ u < a + n ∧ a < u + 32))
/-- A read of a home range meets the errors that its units hold: each is corrected and counted again (06 R159). -/
def readErrors (s : State) (a n : Nat) : State :=
  (weakUnits s a n).foldl (fun s u => hbmCorrected s ((u - 0x100000000000) / 0x2000000000) u) s
/-- The units of a home range written anew by a scrub: a corrected error is gone (06 R159). -/
def rewritten (s : State) (a n : Nat) : State := s.withFlips (s.flips.filter (fun u => !(weakUnits s a n).contains u))
/-- The units of a stack's rows that satisfy `p` lie on other cells now: the errors of the old ones are gone (06 R159, R160, R163). -/
def newCells (s : State) (h : Nat) (p : Nat × Nat × Nat → Bool) : State :=
  s.withFlips (s.flips.filter (fun u => !(decide (hbmAddr h 0 ≤ u ∧ u < hbmAddr (h + 1) 0) && p (rowOf s h (u - hbmAddr h 0)))))

/-- A stack's contents are lost with its Footing's power; a planned retirement that becomes RETIRED thereby is recorded with DONE 0x6E
(06 R162, R163). -/
def stackOff (s : State) (h : Nat) : State :=
  let r := (stackX s h).ret.filter (fun r => !r.forced)
  let s := stackLost s h
  match r with
  | some r => raise s ⟨h / 3, Rsn.DONE, 0x6E, 0, 3, h, stackData 0 (r.pc, 0, 0), .footing h⟩ false
  | none => s

end Sys2Proof.Machine
end

