-- ==== Sys2Proof/Machine/Hbm.lean ====
section
/-! DEFINITION. The commands of repair and retirement in the HBM stacks, and the service of a DDR5 socket (06 R159-R173). -/

namespace Sys2Proof.Machine

/-! ### Row repair (06 R160, R161) -/

/-- ROW_REPAIR_START (steps 1-3): at most one per stack in any 64 ledger periods. -/
def execRowRepairStart (h : Stack) (pc : Fin 64) (bank : Fin 64) (row : Nat) (s : State) : Out :=
  let x := stackX s h
  let k := (pc.val, bank.val, row)
  let open64 := x.last.all (fun p => decide (p + 64 ≤ period s (h / 3)))
  if !footingUp s h || x.cur.isSome || !x.due.contains k || !open64 then .next s
  else
    let i := pc.val * 64 + bank.val
    let rest := x.due.filter (· ≠ k)
    if 4 ≤ tget natDef x.used i then .next (autoRetire (setStackX s h { x with due := rest }) h pc)
    else .next (ftgStatus (setStackX s h { x with
      due := rest, cur := some k, used := tset natDef x.used i (tget natDef x.used i + 1), last := some (period s (h / 3)) }) h)

/-- ROW_REPAIR_DONE (steps 4-5): DONE 0x6D at L0. -/
def execRowRepairDone (h : Stack) (s : State) : Out :=
  let x := stackX s h
  match x.cur with
  | none => .next s
  | some k =>
    let s := setStackX s h { x with cur := none, seen := x.seen.filter (fun c => (c.1, c.2.1, c.2.2.1) != k) }
    let s := ftgStatus (newCells s h (· == k)) h
    .next (raise s ⟨h / 3, Rsn.DONE, 0x6D, 0, 3, h, stackData 0 k, .footing h⟩ false)

/-! ### Requests and the copy -/

/-- RETIRE_REQUEST (06 R164, R166): a write while BUSY has no side effect; other refusals show in LAST_REASON. A request that names a
pseudo-channel an automatic trigger already queued is that one retirement (R165). -/
def execRetireRequest (h : Stack) (pc : Fin 64) (s : State) : Out := viaWin s (8 + h) fun s =>
  let a := Reg.FTG_RETIRE_CTRL (8 + h)
  if bit s a 31 then .next (emit s .refusal [Rsn.STATE, 0x68] [])
  else
    let s := fset s a 0 6 pc
    let last : State → Nat → State := fun s r => fset s a 16 8 r
    if pcState s h pc ≠ 0 then .next (emit (last s Rsn.STATE) .refusal [Rsn.STATE, 0x68] [])
    else if stackFaulted s h then .next (emit (last s Rsn.STATE) .refusal [Rsn.STATE, 0x7C] [])
    else if retiringPc s h pc then
      let x := stackX s h
      .next (fset (setStackX s h { x with queue := x.queue.map (fun r => if r.pc = pc.val then { r with reg := true } else r) }) a 31 1 1)
    else if reserveFree s h then .next (fset (retireAsk s h ⟨pc, false, true, false, []⟩) a 31 1 1)
    else .next (emit (last s Rsn.NOT_SCHEDULABLE) .refusal [Rsn.NOT_SCHEDULABLE, 0x62] [])

/-- Granules a retirement copies: its own local indexes, and those an earlier one put into its reserve rows (06 R163). -/
def copyCount (s : State) (h pc : Nat) : Nat :=
  let n := localCount (fget s (Reg.FTG_HBM_STATUS (8 + h)) 0 2)
  match (stackX s h).order with
  | r :: _ => n + countMod n 63 ((survivors [r] 0).idxOf pc)
  | [] => n

/-- RETIRE_COPY_START (06 R163 step 2): a planned copy waits until every item admitted before step 1 has completed. How far the copy is when it
is looked at is open, from nothing to all (log entry 151). -/
def execRetireCopyStart (h : Stack) (s : State) : Out :=
  let x := stackX s h
  match x.ret with
  | some r =>
    if footingUp s h && !outOf s (h / 3) && (r.forced || r.before.all (fun k => (findItem s k.1 k.2.1 k.2.2).isNone)) then
      let f := takeFree s
      .next (ftgStatus (fset (setStackX f.2 h { x with ret := some { r with copying := true } }) (Reg.FTG_RETIRE_PROGRESS (8 + h)) 0 23
        (f.1 % (copyCount s h r.pc + 1))) h)
    else .next s
  | none => .next s

/-- RETIRE_DONE (06 R163 steps 3-5, R162): RETIRED; a planned one is recorded with DONE 0x6E at L0; the next queued one begins. -/
def execRetireDone (h : Stack) (s : State) : Out :=
  match (stackX s h).ret with
  | some r =>
    if !r.copying || outOf s (h / 3) || !footingUp s h then .next s
    else
      let s := fset s (Reg.FTG_RETIRE_PROGRESS (8 + h)) 0 23 (copyCount s h r.pc)
      let s := ftgStatus (retirePc (newCells s h (fun w => w.1 == r.pc)) h r.pc) h
      let a := Reg.FTG_RETIRE_CTRL (8 + h)
      let s := if r.reg then fset (fset s a 16 8 0) a 31 1 0 else s
      let s := if r.forced then s
        else raise s ⟨h / 3, Rsn.DONE, 0x6E, 0, 3, h, stackData 0 (r.pc, 0, 0), .footing h⟩ false
      let x := stackX s h
      match x.queue with
      | q :: qs => .next (retireBegin (setStackX s h { x with queue := qs }) h q)
      | [] => .next s
  | none => .next s

/-- HBM_LANE_FAULT (06 R162): a lane fault beyond the interface's repair forces the pseudo-channel's retirement. -/
def execHbmLaneFault (h : Stack) (pc : Fin 64) (s : State) : Out :=
  if isOn s (dFooting h) then .next (forceRetire s h 0 (pc, 0, 0)) else .next s

/-! ### Sockets (06 R170-R173) -/

/-- GLB_SKT_CTRL of a socket. -/
def sktCtrl (n : Nat) : Nat := Reg.GLB_SKT_CTRL (4 + n / 3) (n % 3)
/-- A socket's new STATE and SAFE. -/
def setSkt (s : State) (n v : Nat) (safe : Bool) : State :=
  let a := Reg.GLB_SKT_STATUS (4 + n / 3) (n % 3)
  homesChanged (fset (fset s a 0 3 v) a 3 1 (if safe then 1 else 0))
/-- A write of ACTION: refused without any effect while BUSY; `f` decides on the present state, none refuses with STATE 0x64. -/
def sktAction (s : State) (n : Nat) (f : Nat → Option State) : Out := viaWin s (4 + n / 3) fun s =>
  if bit s (sktCtrl n) 31 then .next (emit s .refusal [Rsn.STATE, 0x64] [])
  else match f (sktState s n) with
    | some t => .next t
    | none => .next (setRD s (sktCtrl n) 8 Rsn.STATE 0x64)

/-- SKT_EVACUATE: of an ONLINE socket while every other is ONLINE or EMPTY. -/
def execSktEvacuate (n : Socket) (s : State) : Out :=
  sktAction s n (fun v =>
    let alone := (List.range 6).all (fun m => m == n.val || decide (sktState s m ≤ 1))
    if v = 1 ∧ alone then some (setRD (setSkt s n 2 false) (sktCtrl n) 8 0 0) else none)

/-- R171: no directory entry, no transaction outstanding, no access in the last 1,048,576 cycles. -/
def sktIdle (s : State) (n : Nat) : Bool :=
  let t := tget natDef s.sktLast n
  !s.dir.any (fun e => e.home == 12 + n) && !s.txns.any (fun t => t.home == 12 + n) && !s.waitq.any (fun r => r.home == 12 + n) &&
  decide (t = 0 ∨ t + 1048576 ≤ ctl s (4 + n / 3) + 1)

/-- SKT_OFFLINE: checked under R171; then the channels stop (step 4 of R172). -/
def execSktOffline (n : Socket) (s : State) : Out :=
  sktAction s n (fun v =>
    if v ≠ 2 then none
    else if sktIdle s n then some (fset (setRD s (sktCtrl n) 8 0 0) (sktCtrl n) 31 1 1)
    else some (setRD s (sktCtrl n) 8 Rsn.STATE 0x63))

/-- SKT_ONLINE: an EVACUATING socket is ONLINE at once; an OFFLINE or FAILED one trains. -/
def execSktOnline (n : Socket) (s : State) : Out :=
  sktAction s n (fun v =>
    if v = 2 then some (setRD (setSkt s n 1 false) (sktCtrl n) 8 0 0)
    else if v = 3 ∨ v = 6 then some (fset (setRD (setSkt s n 4 false) (sktCtrl n) 8 0 0) (sktCtrl n) 31 1 1)
    else none)

/-- SKT_STOP_DONE: OFFLINE with SAFE 1. -/
def execSktStopDone (n : Socket) (s : State) : Out :=
  if bit s (sktCtrl n) 31 && sktState s n == 2 then .next (fset (setSkt s n 3 true) (sktCtrl n) 31 1 0) else .next s

/-- SKT_TRAIN_DONE (06 R172): `ok` false is a failure of training or of clearing, FAILED with LINK_FAIL 0x6B at L2 on the socket (16 R396);
a module of another capacity returns the socket to OFFLINE with CFG_CONFLICT 0x65. -/
def execSktTrainDone (n : Socket) (ok : Bool) (cap : BitVec 10) (s : State) : Out :=
  let v := sktState s n
  let a := sktCtrl n
  if !bit s a 31 || (v != 4 && (v != 5 || ok)) then .next s
  else if !ok then
    let s := fset (setRD (setSkt s n 6 true) a 8 Rsn.LINK_FAIL 0x6B) a 31 1 0
    .next (raise s ⟨4 + n / 3, Rsn.LINK_FAIL, 0x6B, 2, 4, n, [], .socket n⟩ false)
  else
    let t := fset s (Reg.GLB_SKT_STATUS (4 + n / 3) (n % 3)) 4 10 cap.toNat
    if !cammCap cap.toNat || bootCap s != cap.toNat then .next (fset (setRD (setSkt t n 3 true) a 8 Rsn.CFG_CONFLICT 0x65) a 31 1 0)
    else .next (setSkt t n 5 false)

/-- SKT_CLEAR_DONE (06 R170): the module holds zeros, and the socket is ONLINE. -/
def execSktClearDone (n : Socket) (s : State) : Out :=
  if sktState s n ≠ 5 then .next s
  else
    let other : Nat → Bool := fun a => decide (0x030000000000 ≤ a) || socketOf s a != n.val
    let s := s.withMem (s.mem.filter (fun c => other c.1)) |>.withPoison (s.poison.filter other)
    .next (fset (setRD (setSkt s n 1 false) (sktCtrl n) 8 0 0) (sktCtrl n) 31 1 0)

end Sys2Proof.Machine
end

