-- ==== Sys2Proof/Machine/Flags.lean ====
section
/-! DEFINITION. The exception flags of 02 R69 as a mask, in the layout of the flag registers. -/

namespace Sys2Proof.Machine

/-- Invalid operation. -/
def fNV : Nat := 1
/-- Division by zero. -/
def fDZ : Nat := 2
/-- Overflow. -/
def fOF : Nat := 4
/-- Underflow: tiny and inexact (02 R52). -/
def fUF : Nat := 8
/-- Inexact. -/
def fNX : Nat := 16
/-- A narrow element saturated (02 R62). -/
def fSAT : Nat := 32
/-- A NaN group was written (02 R62). -/
def fNANGRP : Nat := 64

/-- A flag when a condition holds. -/
def flagIf (b : Bool) (f : Nat) : Nat := if b then f else 0

end Sys2Proof.Machine
end

