-- ==== Sys2Proof/Machine/Operands.lean ====
section
/-! DEFINITION. Number formats and conversion (02): the IEEE 754 binary formats, GF16, A20, the narrow formats and their
scale groups; the one rounding of R51, the exceptions of R52 and the NaN rules of R53; every arithmetic operation and
conversion the device provides, each on bit patterns and answering the result's bits with its flags. -/

namespace Sys2Proof.Machine

/-- A binary format with an implicit leading one: widths of the exponent and fraction fields and the bias. `oneNaN`
formats (GF16, A20) hold one NaN and signal nothing when a NaN is read (02 R55). -/
structure Fmt where
  eb : Nat
  fb : Nat
  bias : Nat
  oneNaN : Bool
  deriving DecidableEq, Repr

/-- binary32. -/
def b32 : Fmt := ⟨8, 23, 127, false⟩
/-- binary16. -/
def b16 : Fmt := ⟨5, 10, 15, false⟩
/-- binary64. -/
def b64 : Fmt := ⟨11, 52, 1023, false⟩
/-- GF16 (02 R54). -/
def gf16 : Fmt := ⟨7, 8, 63, true⟩
/-- A20 (03 R81). -/
def a20 : Fmt := ⟨6, 13, 31, true⟩

/-- Width in bits. -/
def Fmt.bits (f : Fmt) : Nat := 1 + f.eb + f.fb
/-- Magnitude bits of infinity. -/
def Fmt.inf (f : Fmt) : Nat := (2 ^ f.eb - 1) * 2 ^ f.fb
/-- Weight of the sign bit. -/
def Fmt.sgn (f : Fmt) : Nat := 2 ^ (f.eb + f.fb)
/-- The default NaN (02 R53): GF16's is its one NaN. -/
def Fmt.nan (f : Fmt) : Nat := f.inf + 2 ^ (f.fb - 1)
/-- Smallest exponent of a normal number. -/
def Fmt.emin (f : Fmt) : Int := 1 - f.bias

/-- A value: a finite one is `(-1)^neg * m * 2^e`. -/
inductive FV where
  | nan
  | inf (neg : Bool)
  | num (neg : Bool) (m : Nat) (e : Int)
  deriving DecidableEq, Repr

/-- What a pattern means. -/
def Fmt.dec (f : Fmt) (x : Nat) : FV :=
  let neg := x / f.sgn % 2 == 1
  let mag := x % f.sgn
  if f.inf < mag then .nan
  else if mag = f.inf then .inf neg
  else
    let e := mag / 2 ^ f.fb
    let fr := mag % 2 ^ f.fb
    if e = 0 then .num neg fr (f.emin - f.fb) else .num neg (2 ^ f.fb + fr) (f.emin - f.fb + (e - 1 : Nat))

/-- A pattern is a NaN. -/
def Fmt.isNaN (f : Fmt) (x : Nat) : Bool := decide (f.inf < x % f.sgn)
/-- A pattern is a signalling NaN (02 R53). -/
def Fmt.isSig (f : Fmt) (x : Nat) : Bool := f.isNaN x && !f.oneNaN && decide (x / 2 ^ (f.fb - 1) % 2 = 0)
/-- A NaN with its quiet bit set; GF16 and A20 hold one NaN. -/
def Fmt.quiet (f : Fmt) (x : Nat) : Nat :=
  if f.oneNaN then f.nan else if x / 2 ^ (f.fb - 1) % 2 = 0 then x + 2 ^ (f.fb - 1) else x

/-- Number of bits of a number. -/
def bitLen (n : Nat) : Nat := if n = 0 then 0 else Nat.log2 n + 1

/-- `m` shifted right by `k`, rounded to nearest with ties to even (02 R51); `st` says that the value exceeds `m` by less than
one unit. Answers the quotient and whether it is inexact. -/
def rneShift (m k : Nat) (st : Bool) : Nat × Bool :=
  if k = 0 then (m, st)
  else
    let q := m / 2 ^ k
    let r := m % 2 ^ k
    let h := 2 ^ (k - 1)
    let up := decide (h < r) || (decide (r = h) && (st || decide (q % 2 = 1)))
    (if up then q + 1 else q, decide (r ≠ 0) || st)

/-- The quantum exponent of a format at a positive value `m * 2^e`. -/
def Fmt.qexp (f : Fmt) (m : Nat) (e : Int) : Int := max (e + bitLen m - 1) f.emin - f.fb

/-- A finite nonzero value rounded once into a format (02 R51, R52): magnitude bits and flags. -/
def Fmt.roundMag (f : Fmt) (m : Nat) (e : Int) (st : Bool) : Nat × Nat :=
  let q := f.qexp m e
  let r := if q ≤ e then (m * 2 ^ (e - q).toNat, st) else rneShift m (q - e).toNat st
  let mag := (q + f.fb - f.emin).toNat * 2 ^ f.fb + r.1
  let u := e + bitLen m - 1 - f.fb
  let t := if u ≤ e then m * 2 ^ (e - u).toNat else (rneShift m (u - e).toNat st).1
  let tiny := decide (e + bitLen m - 1 < f.emin) && !(decide (e + bitLen m = f.emin) && decide (t = 2 ^ (f.fb + 1)))
  if f.inf ≤ mag then (f.inf, fOF ||| fNX)
  else (mag, flagIf r.2 fNX ||| flagIf (r.2 && tiny) fUF)

/-- A value rounded into a format: bits and flags. Zero keeps its sign. -/
def Fmt.enc (f : Fmt) (v : FV) : Nat × Nat :=
  match v with
  | .nan => (f.nan, 0)
  | .inf n => (f.inf + (if n then f.sgn else 0), 0)
  | .num n m e =>
    let r := if m = 0 then (0, 0) else f.roundMag m e false
    (r.1 + (if n then f.sgn else 0), r.2)

/-! ### Exact arithmetic on finite values -/

/-- An exact dyadic number `m * 2^e`. -/
structure Dy where
  m : Int
  e : Int
  deriving DecidableEq, Repr

/-- Sum. -/
def Dy.add (a b : Dy) : Dy :=
  if a.e ≤ b.e then ⟨a.m + b.m * 2 ^ (b.e - a.e).toNat, a.e⟩ else ⟨a.m * 2 ^ (a.e - b.e).toNat + b.m, b.e⟩
/-- Product. -/
def Dy.mul (a b : Dy) : Dy := ⟨a.m * b.m, a.e + b.e⟩
/-- Opposite. -/
def Dy.neg (a : Dy) : Dy := ⟨-a.m, a.e⟩
/-- Times a power of two. -/
def Dy.shl (a : Dy) (k : Int) : Dy := ⟨a.m, a.e + k⟩
/-- Absolute value. -/
def Dy.abs (a : Dy) : Dy := ⟨a.m.natAbs, a.e⟩
/-- Order. -/
def Dy.lt (a b : Dy) : Bool := decide ((a.add b.neg).m < 0)
/-- Order. -/
def Dy.le (a b : Dy) : Bool := decide ((a.add b.neg).m ≤ 0)
/-- Zero. -/
def Dy.zero : Dy := ⟨0, 0⟩
/-- A natural number. -/
def Dy.nat (n : Nat) : Dy := ⟨n, 0⟩
/-- The value as a signed number; zero takes the given sign. -/
def Dy.fv (a : Dy) (zneg : Bool) : FV := .num (if a.m = 0 then zneg else decide (a.m < 0)) a.m.natAbs a.e
/-- A finite value. -/
def FV.dy : FV → Dy
  | .num n m e => ⟨if n then -(m : Int) else m, e⟩
  | _ => .zero
/-- The sign. -/
def FV.neg : FV → Bool
  | .num n _ _ => n
  | .inf n => n
  | .nan => false
/-- A zero. -/
def FV.isZero : FV → Bool
  | .num _ m _ => m == 0
  | _ => false
/-- An infinity. -/
def FV.isInf : FV → Bool
  | .inf _ => true
  | _ => false

/-! ### IEEE 754 operations (02 R50-R53) -/

/-- Bits and flags. -/
abbrev FR := Nat × Nat

/-- The first NaN operand quieted, with invalid for a signalling one (02 R53). -/
def Fmt.nanOf (f : Fmt) (xs : List Nat) : Option FR :=
  (xs.find? f.isNaN).map (fun x => (f.quiet x, flagIf (xs.any f.isSig) fNV))

/-- An invalid operation without a NaN operand. -/
def Fmt.invalid (f : Fmt) : FR := (f.nan, fNV)

/-- Exact sum of two values that are not NaN, rounded once. -/
def Fmt.sumV (f : Fmt) (a b : FV) : FR :=
  match a, b with
  | .inf n, .inf k => if n = k then f.enc (.inf n) else f.invalid
  | .inf n, _ => f.enc (.inf n)
  | _, .inf n => f.enc (.inf n)
  | _, _ => f.enc ((a.dy.add b.dy).fv (a.neg && b.neg))

/-- Addition. -/
def Fmt.add (f : Fmt) (x y : Nat) : FR := (f.nanOf [x, y]).getD (f.sumV (f.dec x) (f.dec y))
/-- The pattern with its sign reversed. -/
def Fmt.negate (f : Fmt) (x : Nat) : Nat := if x / f.sgn % 2 = 1 then x - f.sgn else x + f.sgn
/-- Subtraction. -/
def Fmt.sub (f : Fmt) (x y : Nat) : FR := (f.nanOf [x, y]).getD (f.sumV (f.dec x) (f.dec (f.negate y)))

/-- Exact product of two values that are not NaN; none for 0 times infinity. -/
def mulV (a b : FV) : Option FV :=
  let n := a.neg != b.neg
  if a.isInf || b.isInf then (if a.isZero || b.isZero then none else some (.inf n))
  else some ((a.dy.mul b.dy).fv n)

/-- Multiplication. -/
def Fmt.mul (f : Fmt) (x y : Nat) : FR :=
  (f.nanOf [x, y]).getD (match mulV (f.dec x) (f.dec y) with
    | some v => f.enc v
    | none => f.invalid)

/-- fusedMultiplyAdd; 0 times infinity signals invalid even with a quiet NaN addend, which is then the result (02 R53). -/
def Fmt.fma (f : Fmt) (x y z : Nat) : FR :=
  let p := mulV (f.dec x) (f.dec y)
  match f.nanOf [x, y, z] with
  | some r => if !f.isNaN x && !f.isNaN y && p.isNone then (r.1, r.2 ||| fNV) else r
  | none => match p with
    | none => f.invalid
    | some v => f.sumV v (f.dec z)

/-- Division, rounded once. -/
def Fmt.div (f : Fmt) (x y : Nat) : FR :=
  (f.nanOf [x, y]).getD (
    let a := f.dec x
    let b := f.dec y
    let n := a.neg != b.neg
    if a.isInf then (if b.isInf then f.invalid else f.enc (.inf n))
    else if b.isInf then f.enc (.num n 0 0)
    else if b.isZero then (if a.isZero then f.invalid else ((f.enc (.inf n)).1, fDZ))
    else if a.isZero then f.enc (.num n 0 0)
    else
      let ma := a.dy.m.natAbs
      let mb := b.dy.m.natAbs
      let k := f.fb + 3 + bitLen mb
      let q := ma * 2 ^ k / mb
      let r := f.roundMag q (a.dy.e - b.dy.e - k) (decide (ma * 2 ^ k % mb ≠ 0))
      (r.1 + (if n then f.sgn else 0), r.2))

/-- Integer square root, from bit `k - 1` down. -/
def isqrtF (n : Nat) : Nat → Nat → Nat
  | 0, r => r
  | k + 1, r => let t := r + 2 ^ k; isqrtF n k (if t * t ≤ n then t else r)
/-- Integer square root. -/
def isqrt (n : Nat) : Nat := isqrtF n (bitLen n / 2 + 1) 0

/-- squareRoot, rounded once. -/
def Fmt.sqrt (f : Fmt) (x : Nat) : FR :=
  (f.nanOf [x]).getD (
    match f.dec x with
    | .num n m e =>
      if m = 0 then (x, 0)
      else if n then f.invalid
      else
        let k := 2 * (f.fb + 3) + (if (e - 2 * (f.fb + 3 : Nat)) % 2 = 0 then 0 else 1)
        let v := m * 2 ^ k
        let r := isqrt v
        f.roundMag r ((e - k) / 2) (decide (r * r ≠ v))
    | .inf n => if n then f.invalid else (x, 0)
    | .nan => f.invalid)

/-- Order of two values that are not NaN: less than. -/
def ltV (a b : FV) : Bool :=
  match a, b with
  | .inf n, .inf k => n && !k
  | .inf n, _ => n
  | _, .inf k => !k
  | _, _ => a.dy.lt b.dy

/-- Equality of two values that are not NaN. -/
def eqV (a b : FV) : Bool := !ltV a b && !ltV b a

/-- minimum (`mx` false) or maximum (IEEE 754-2019): NaNs propagate; -0 is less than +0. -/
def Fmt.minMax (f : Fmt) (mx : Bool) (x y : Nat) : FR :=
  (f.nanOf [x, y]).getD (
    let a := f.dec x
    let b := f.dec y
    let less := ltV a b || (eqV a b && a.neg && !b.neg)
    (if less != mx then x else y, 0))

/-- minimumNumber or maximumNumber: a number wins over a NaN; a signalling NaN signals invalid. -/
def Fmt.minMaxNum (f : Fmt) (mx : Bool) (x y : Nat) : FR :=
  let fl := flagIf (f.isSig x || f.isSig y) fNV
  if f.isNaN x && f.isNaN y then (f.quiet x, fl)
  else if f.isNaN x then (y, fl)
  else if f.isNaN y then (x, fl)
  else f.minMax mx x y

/-- compareQuietEqual. -/
def Fmt.cmpEq (f : Fmt) (x y : Nat) : Bool × Nat :=
  if f.isNaN x || f.isNaN y then (false, flagIf (f.isSig x || f.isSig y) fNV) else (eqV (f.dec x) (f.dec y), 0)
/-- compareSignalingLess. -/
def Fmt.cmpLt (f : Fmt) (x y : Nat) : Bool × Nat :=
  if f.isNaN x || f.isNaN y then (false, fNV) else (ltV (f.dec x) (f.dec y), 0)
/-- compareSignalingLessEqual. -/
def Fmt.cmpLe (f : Fmt) (x y : Nat) : Bool × Nat :=
  if f.isNaN x || f.isNaN y then (false, fNV) else (!ltV (f.dec y) (f.dec x), 0)

/-! ### Conversion (02 R60-R63) -/

/-- convertFormat: a NaN keeps the most significant payload bits that fit; one-NaN formats give and read the default
(02 R53, R55). -/
def convFmt (g f : Fmt) (x : Nat) : FR :=
  if g.isNaN x then
    if g.oneNaN || f.oneNaN then (f.nan, flagIf (g.isSig x) fNV)
    else
      let q := g.quiet x
      let pay := q % 2 ^ g.fb
      let pay := if g.fb ≤ f.fb then pay * 2 ^ (f.fb - g.fb) else pay / 2 ^ (g.fb - f.fb)
      (f.inf + pay + (if q / g.sgn % 2 = 1 then f.sgn else 0), flagIf (g.isSig x) fNV)
  else f.enc (g.dec x)

/-- An integer converted to binary32, rounded once. -/
def intToB32 (v : Int) : FR := b32.enc ((⟨v, 0⟩ : Dy).fv false)

/-- convertToIntegerTiesToEven into `[lo, hi]`: the nearest representable integer when out of range and 0 for a NaN, with
invalid (02 R63). A result in range signals nothing, inexact or not (02 R50: IEEE 754-2019, 5.8). -/
def toInt (f : Fmt) (x : Nat) (lo hi : Int) : Int × Nat :=
  match f.dec x with
  | .nan => (0, fNV)
  | .inf n => (if n then lo else hi, fNV)
  | .num n m e =>
    let r := if 0 ≤ e then (m * 2 ^ e.toNat, false) else rneShift m (-e).toNat false
    let v : Int := if n then -(r.1 : Int) else r.1
    if v < lo then (lo, fNV) else if hi < v then (hi, fNV) else (v, 0)

/-! ### Dithered conversion (02 R65-R68) -/

/-- The dither of element `e` under key `k` and step `st` (02 R67). -/
def dither (k st e : Nat) : Nat :=
  let w : Nat → W32 := fun n => BitVec.ofNat 32 n
  let o := philox (w (e / 8)) (w (e / 2 ^ 35)) (w st) (w (st / 2 ^ 32)) (w k) (w (k / 2 ^ 32)) 10
  let x := (o.getD (e % 8 / 2) 0).toNat
  if e % 2 = 1 then x / 65536 else x % 65536

/-- The dithered choice between the grid magnitudes `a` and `a + 1` (in units of `2^q`) that bracket `m * 2^e`: up exactly
when F + r exceeds 65,536, an even `a + 1` on a tie. Answers the magnitude in units and whether it is inexact. -/
def ditherUnits (m : Nat) (e q : Int) (r : Nat) : Nat × Bool :=
  if q ≤ e then (m * 2 ^ (e - q).toNat, false)
  else
    let k := (q - e).toNat
    let a := m / 2 ^ k
    let rem := m % 2 ^ k
    if rem = 0 then (a, false)
    else
      let lhs := rem * 65536 + r * 2 ^ k
      let up := decide (65536 * 2 ^ k < lhs) || (decide (lhs = 65536 * 2 ^ k) && decide (a % 2 = 1))
      (if up then a + 1 else a, true)

/-- A dithered conversion of a value into binary16 or GF16; an infinity or NaN is not dithered (02 R65). -/
def Fmt.encDither (f : Fmt) (v : FV) (r : Nat) : FR :=
  match v with
  | .num n m e =>
    if m = 0 then f.enc v
    else
      let q := min (f.qexp m e) ((2 ^ f.eb - 2 : Nat) - f.bias - f.fb : Int)
      let u := ditherUnits m e q r
      let mag := (q + f.fb - f.emin).toNat * 2 ^ f.fb + u.1
      let tiny := (f.roundMag m e false).2 &&& fUF ≠ 0
      let sg := if n then f.sgn else 0
      if f.inf ≤ mag then (f.inf + sg, fOF ||| fNX)
      else (mag + sg, flagIf u.2 fNX ||| flagIf (u.2 && tiny) fUF)
  | _ => f.enc v

/-! ### Narrow formats and scale groups (02 R56-R62) -/

/-- A narrow format: exponent and fraction widths and bias. -/
structure NFmt where
  eb : Nat
  fb : Nat
  bias : Nat
  deriving DecidableEq, Repr

/-- GF8a. -/
def gf8a : NFmt := ⟨4, 3, 7⟩
/-- GF8b. -/
def gf8b : NFmt := ⟨5, 2, 15⟩
/-- GF6. -/
def gf6 : NFmt := ⟨3, 2, 3⟩
/-- GF4. -/
def gf4 : NFmt := ⟨2, 1, 1⟩

/-- Width in bits. -/
def NFmt.bits (f : NFmt) : Nat := 1 + f.eb + f.fb
/-- The format of a configuration code (08 R211): 1 GF8a, 2 GF8b, 3 GF6, 4 GF4. -/
def nfmtOf (c : Nat) : NFmt := if c = 1 then gf8a else if c = 2 then gf8b else if c = 3 then gf6 else gf4
/-- Largest magnitude code. -/
def NFmt.top (f : NFmt) : Nat := 2 ^ (f.eb + f.fb) - 1

/-- Element value of a pattern (02 R56): every pattern is a number. -/
def NFmt.dec (f : NFmt) (x : Nat) : FV :=
  let n := x / 2 ^ (f.eb + f.fb) % 2 == 1
  let e := x / 2 ^ f.fb % 2 ^ f.eb
  let fr := x % 2 ^ f.fb
  if e = 0 then .num n fr (1 - f.bias - f.fb) else .num n (2 ^ f.fb + fr) (e - f.bias - f.fb : Int)

/-- Largest element value. -/
def NFmt.vmax (f : NFmt) : Dy := (f.dec f.top).dy

/-- An element decoded into binary32 with scale exponent `e` (02 R57, R61): bits and flags. -/
def NFmt.toB32 (f : NFmt) (x e : Nat) : FR :=
  if e = 255 then (b32.nan, 0)
  else match f.dec x with
    | .num n m k => b32.enc (.num n m (k + e - 127))
    | v => b32.enc v

/-- The exact value of a grouped element (02 R57). -/
def NFmt.val (f : NFmt) (x e : Nat) : FV :=
  if e = 255 then .nan
  else match f.dec x with
    | .num n m k => .num n m (k + e - 127)
    | v => v

/-- A binary32 value that is not a NaN into a narrow element with scale exponent `e` (02 R62), dithered by `r` when given: the
code, whether it saturated, and the flags. Inexact is signalled when |y| is not on the grid, underflow when it is tiny as well
(02 R52, applied to y). -/
def NFmt.ofFV (f : NFmt) (v : FV) (e : Nat) (r : Option Nat) : Nat × Bool × Nat :=
  let sg : Bool → Nat := fun n => if n then 2 ^ (f.eb + f.fb) else 0
  match v with
  | .nan => (0, false, 0)
  | .inf n => (f.top + sg n, true, 0)
  | .num n m k =>
    if m = 0 then (sg n, false, 0)
    else
      let y : Dy := ⟨m, k + 127 - e⟩
      if f.vmax.lt y then (f.top + sg n, true, 0)
      else
        let emin : Int := 1 - f.bias
        let q := max (y.e + bitLen m - 1) emin - f.fb
        let u := match r with
          | some d => ditherUnits m y.e q d
          | none => if q ≤ y.e then (m * 2 ^ (y.e - q).toNat, false) else rneShift m (q - y.e).toNat false
        let mag := (q + f.fb - emin).toNat * 2 ^ f.fb + u.1
        let w := y.e + bitLen m - 1 - f.fb
        let t := if w ≤ y.e then m * 2 ^ (y.e - w).toNat else (rneShift m (w - y.e).toNat false).1
        let tiny := decide (y.e + bitLen m - 1 < emin) && !(decide (y.e + bitLen m = emin) && decide (t = 2 ^ (f.fb + 1)))
        (min f.top mag + sg n, false, flagIf u.2 fNX ||| flagIf (u.2 && tiny) fUF)

/-- The absmax scale exponent of a group whose largest finite magnitude is `a` (08 R209): 127 plus the smallest n with
a ≤ Vmax 2^n, clamped to 0-254; 127 for 0. The flag says it was clamped. -/
def absmaxE (f : NFmt) (a : Dy) : Nat × Bool :=
  if a.m = 0 then (127, false)
  else
    let n0 : Int := (a.e + bitLen a.m.natAbs) - (f.vmax.e + bitLen f.vmax.m.natAbs)
    let n := if a.le (f.vmax.shl n0) then n0 else n0 + 1
    let e := 127 + n
    if e < 0 then (0, true) else if 254 < e then (254, true) else (e.toNat, false)

/-- Elements `i` of a group of a packed narrow array (02 R58): bits `w * i` on of the little-endian bytes. -/
def packed (bs : List Byte) (w i : Nat) : Nat := leNat ((bs.drop (w * i / 8)).take 2) / 2 ^ (w * i % 8) % 2 ^ w

/-- The bytes of packed elements of `w` bits, lowest first. -/
def packBits (w : Nat) (xs : List Nat) : List Byte :=
  leBytes ((w * xs.length + 7) / 8) (xs.reverse.foldl (fun a x => a * 2 ^ w + x % 2 ^ w) 0)

end Sys2Proof.Machine
end

