-- ==== Sys2Proof/Machine/Block.lean ====
section
/-! DEFINITION. The Block (03): who may touch its scratchpad, the region registers, the halt of a context by its own master,
fencing and BLOCK reset, the enable of a context, and the accesses from outside. -/

namespace Sys2Proof.Machine

/-! ### Region checks (03 R99-R101) -/

/-- Every word from `w0` to `w1` is granted right `bitNo` (29 RD, 30 WR, 31 AL) by some region of a set; the first word that is
not, otherwise none. -/
def firstDenied (s : State) (rgns : List Nat) (bitNo w0 w1 : Nat) : Option Nat :=
  (List.range (w1 + 1 - w0)).map (w0 + ·) |>.find? (fun w =>
    !rgns.any (fun a => bit s a bitNo && decide (fget s a 0 13 ≤ w ∧ w ≤ fget s a 16 13)))

/-- Regions of a master of a context, or the EXT regions for an access from outside (master 4). -/
def rgnSet (d n m c : Nat) : List Nat :=
  if m = 4 then (List.range 4).map (Reg.BLK_RGN_EXT d n) else (List.range 2).map (Reg.BLK_RGN d n c m)

/-- Kind of an access: 0 read, 1 normal write, 2 set-alias write, 3 clear-alias write. -/
abbrev AccKind := Nat

/-- The check of an access to bytes `off` to `off + len - 1` of a Block's window: refused with these codes at a word
(03 R89, R99). -/
def accCheck (s : State) (d n m c : Nat) (k : AccKind) (off len : Nat) : Option (Nat × Nat × Nat) :=
  let w0 := off / 256
  let w1 := (off + len - 1) / 256
  if 6143 < w1 then some (Rsn.CFG_RANGE, 0x04, max w0 6144)
  else
    let b := if k = 0 then 29 else if k = 1 then 30 else 31
    (firstDenied s (rgnSet d n m c) b w0 w1).map (fun w => (Rsn.RIGHTS, if k = 0 then 0x01 else if k = 1 then 0x02 else 0x03, w))

/-- The first refusal after BLK_VIOL is cleared is recorded in it (03 R101). -/
def recordViol (s : State) (d n m c : Nat) (k : AccKind) (detail word : Nat) : State :=
  let a := Reg.BLK_VIOL d n
  if bit s a 31 then s
  else
    let s := fset (fset (fset s a 0 13 word) a 13 3 m) a 16 2 (if m = 4 then 0 else c)
    let s := fset (fset s a 18 1 (if k = 0 then 0 else 1)) a 19 1 (if 2 ≤ k then 1 else 0)
    fset (fset s a 20 8 detail) a 31 1 1

/-! ### A run stopped by its own Block (03 R76, 04 R128) -/

/-- The RUN item in progress of a plan. -/
def runItem (s : State) (d h : Nat) : Option Item :=
  s.items.find? (fun i => i.die == d && i.opcode == 0x02 && i.obj == h && i.started)

/-- A context halted by a fault or a violation: HALTED with its codes, and the run ends with them. -/
def halt (s : State) (d n c reason detail : Nat) : State :=
  let h := (ctxX s d n c).plan
  let live := inRun s d n c
  let s := haltCtx s d n c reason detail
  match runItem s d h with
  | some it => if live then endItem s it reason detail else s
  | none => s

/-- SOURCE and DATA of a BLOCK record (16 R386). -/
def blockData (s : State) (d n c word : Nat) : List Byte :=
  let x := ctxX s d n c
  leBytes 2 x.plan ++ leBytes 2 x.lb ++ leBytes 4 (match planOf s d x.plan with | some p => p.runNo | none => 0) ++
  leBytes 2 word ++ leBytes 1 c

/-- A double-bit error met by a context's own master (03 R91): it halts with ECC_UNCORR 0x20, and the fault, of floor L1, fences
the Block (16 R396). -/
def eccHalt (s : State) (d n c word : Nat) : State :=
  let data := blockData s d n c word
  let s := halt s d n c Rsn.ECC_UNCORR 0x20
  raise s ⟨d, Rsn.ECC_UNCORR, 0x20, 1, 0, d + 8 * n, data, .block d n⟩ false

/-- An access by a context's own master refused: recorded, and the context halts with the same reason (03 R101). -/
def denyOwn (s : State) (d n m c : Nat) (k : AccKind) (r : Nat × Nat × Nat) : State :=
  halt (recordViol s d n m c k r.2.1 r.2.2) d n c r.1 r.2.1

/-- The outcome of a master's access: done with these bytes, or the context stopped. -/
inductive Got where
  | ok (s : State) (bs : List Byte)
  | stop (s : State)

/-- Bytes of a Block's scratchpad. -/
def spadBytes (s : State) (d n off len : Nat) : List Byte := rdBytes s.mem (spadAddr d n off) len

/-- A read corrects single-bit errors and counts them (03 R91): one for each lane it meets, holding at the counter's largest value. -/
def countCe (s : State) (d n off len : Nat) : State :=
  let lo := spadAddr d n off
  let k := (s.flips.filter (fun u => decide (u < lo + len ∧ lo < u + 8))).length
  if k = 0 then s else holdAdd s (Reg.BLK_STATE d n) 24 8 k

/-- A read by a context's own master (03 R91, R95, R99). -/
def ownRead (s : State) (d n m c off len : Nat) : Got :=
  match accCheck s d n m c 0 off len with
  | some r => .stop (denyOwn s d n m c 0 r)
  | none =>
    let s := countCe s d n off len
    if poisonedAt s (spadAddr d n off) len then .stop (eccHalt s d n c (off / 256))
    else .ok s (spadBytes s d n off len)

/-- The bytes an alias or normal write leaves (03 R96). -/
def aliasMix (k : AccKind) (old new : List Byte) : List Byte :=
  if k = 2 then old.zipWith (· ||| ·) new else if k = 3 then old.zipWith (fun o x => o &&& ~~~x) new else new

/-- A write by a context's own master. -/
def ownWrite (s : State) (d n m c : Nat) (k : AccKind) (off : Nat) (bs : List Byte) : Got :=
  match accCheck s d n m c k off bs.length with
  | some r => .stop (denyOwn s d n m c k r)
  | none => .ok (memWriteAt s (spadAddr d n off) (aliasMix k (spadBytes s d n off bs.length) bs)) []

/-! ### Accesses by path (03 R75, R89-R103) -/

/-- Why an access from any data path to a Block is refused by the state of the Block or its domains (03 R75, R103). Where several reasons
apply, the Course's is given before the Bay's and the Bay's before the Block's (DESIGN CHOICE, log entry 156). -/
def blockRefusal (s : State) (d n : Nat) : Chk :=
  if pd s (dCourse d (n / 18)) = 1 then some (Rsn.STATE, 0x23)
  else if pd s (dCourse d (n / 18)) ≠ 2 ∨ recovering s (.course d (n / 18)) then some (Rsn.STATE, 0x17)
  else if pd s (dBay d (n % 18 / 6)) ≠ 2 ∨ recovering s (.bay d (n % 18 / 6)) then some (Rsn.FENCED, 0x22)
  else if blkState s d n = 1 then some (Rsn.STATE, 0x16)
  else if blkState s d n = 4 then some (Rsn.STATE, 0x23)
  else if blkState s d n = 0 then none
  else some (Rsn.FENCED, 0x21)

/-- The outcome of an access by an item's units or from outside: bytes read and poison met, or the codes that refuse it. -/
inductive Touch where
  | ok (s : State) (bs : List Byte) (poison : Bool)
  | bad (s : State) (reason detail : Nat)

/-- An access that reaches a Block from outside it: refused by the state of the Block (03 R75), refused and recorded by its EXT regions
(R99, R101), or performed; a read of a double-bit error returns POISON, and the fault fences the Block (R91, 16 R396). -/
def outAccess (s : State) (d n : Nat) (k : AccKind) (off len : Nat) (bs : List Byte) : Touch :=
  match blockRefusal s d n with
  | some r => .bad s r.1 r.2
  | none =>
    match accCheck s d n 4 0 k off len with
    | some r => .bad (recordViol s d n 4 0 k r.2.1 r.2.2) r.1 r.2.1
    | none =>
      if k = 0 then
        let s := countCe s d n off len
        let got := spadBytes s d n off len
        if poisonedAt s (spadAddr d n off) len then
          .ok (raise s ⟨d, Rsn.ECC_UNCORR, 0x20, 1, 0, d + 8 * n, blockData s d n 0 (off / 256), .block d n⟩ false) got true
        else .ok s got false
      else .ok (memWriteAt s (spadAddr d n off) (aliasMix k (spadBytes s d n off len) bs)) [] false

/-- An access from outside the Block (master 4) or by a context's own master: refused, answered, or the context halted. -/
def spadAccess (s : State) (d n m c : Nat) (k : AccKind) (off len : Nat) (bs : List Byte) : State :=
  match blockRefusal s d n with
  | some r => emit s .errorResponse [r.1, r.2] []
  | none =>
    if m = 4 then
      match outAccess s d n k off len bs with
      | .bad s r t => emit s .errorResponse [r, t] []
      | .ok s got po => if po then emit s .errorResponse [Rsn.POISON, 0x20] [] else emit s .response [0, 0] got
    else if k = 0 then
      match ownRead s d n m c off len with
      | .ok s bs => emit s .response [0, 0] bs
      | .stop s => s
    else
      match ownWrite s d n m c k off bs with
      | .ok s _ => emit s .response [0, 0] []
      | .stop s => s

/-- SPAD_READ (03 R95-R101): 1 to 256 bytes through any view. -/
def execSpadRead (d : Die) (n : Blk) (m : Fin 5) (c : Ctx) (off : BitVec 21) (len : Nat) (s : State) : Out :=
  if len = 0 ∨ 256 < len then .refused .illFormed else .next (spadAccess s d n m c 0 off.toNat len [])

/-- SPAD_WRITE (03 R95). -/
def execSpadWrite (d : Die) (n : Blk) (m : Fin 5) (c : Ctx) (off : BitVec 21) (data : List Byte) (s : State) : Out :=
  if data.length = 0 ∨ 256 < data.length then .refused .illFormed
  else .next (spadAccess s d n m c 1 off.toNat data.length data)

/-- SPAD_SET_WRITE: word OR data (03 R96). -/
def execSpadSetWrite (d : Die) (n : Blk) (m : Fin 5) (c : Ctx) (off : BitVec 21) (data : List Byte) (s : State) : Out :=
  if data.length = 0 ∨ 256 < data.length then .refused .illFormed
  else .next (spadAccess s d n m c 2 off.toNat data.length data)

/-- SPAD_CLEAR_WRITE: word AND NOT data (03 R96). -/
def execSpadClearWrite (d : Die) (n : Blk) (m : Fin 5) (c : Ctx) (off : BitVec 21) (data : List Byte) (s : State) : Out :=
  if data.length = 0 ∨ 256 < data.length then .refused .illFormed
  else .next (spadAccess s d n m c 3 off.toNat data.length data)

/-! ### Fence and BLOCK reset (03 R104, R105) -/

/-- BLOCK_FENCE: 1 written to BLK_CTRL.FENCE, with no fault behind it (03 R104). -/
def execBlockFence (d : Die) (n : Blk) (s : State) : Out := viaWin s d fun s => .next (fenceBlock s d n 0 0)

/-- BLOCK_TEST (03 R105): refused with STATE 0x19 unless FENCED; else the self-test starts. A write while the self-test runs, when STATE still
reads FENCED, leaves it running and is no refusal (DESIGN CHOICE, log entry 157). -/
def execBlockTest (d : Die) (n : Blk) (s : State) : Out := viaWin s d fun s =>
  let a := Reg.BLK_CTRL d n
  if blkState s d n = 2 then
    let s := setRD s a 8 0 0
    .next (if tget natDef s.btest (d * 288 + n) = 0 then s.withBtest (tset natDef s.btest (d * 288 + n) 1) else s)
  else .next (setRD s a 8 Rsn.STATE 0x19)

/-- BLOCK_SELFTEST_DONE (03 R105): the clearing begins, whether or not the test passed; STATE reads CLEARING. -/
def execBlockSelftestDone (d : Die) (n : Blk) (pass : Bool) (s : State) : Out :=
  if tget natDef s.btest (d * 288 + n) = 1 then
    .next (fset (fset (s.withBtest (tset natDef s.btest (d * 288 + n) (if pass then 2 else 3)))
      (Reg.BLK_STATE d n) 0 3 4) (Reg.BLK_CTRL d n) 0 1 0)
  else .next s

/-- Registers of the Block's page that the clearing of R102 step 2 resets; STATE is kept. -/
def clearBlockRegs (s : State) (d n : Nat) : State :=
  let st := blkState s d n
  let lo := Reg.BLK_ID d n
  let s := s.withRegs (tfilter (fun a => ¬ (lo ≤ a ∧ a < lo + 0x1000)) s.regs)
      |>.withCtxx (tfilter (fun k => k / 4 ≠ d * 288 + n) s.ctxx)
  if blkState s d n = st then s else fset s (Reg.BLK_STATE d n) 0 3 st

/-- BLOCK_CLEAR_DONE (03 R102, R105): issuers, registers and scratchpad cleared; SPARE after a pass, BAD after a failure; either
is a change of the Block map (01 R26). A failing Block's contents are unreadable, and stand as cleared. -/
def execBlockClearDone (d : Die) (n : Blk) (s : State) : Out :=
  let t := tget natDef s.btest (d * 288 + n)
  if 2 ≤ t then
    let s := zeroSpad (clearBlockRegs (s.withBtest (tset natDef s.btest (d * 288 + n) 0)) d n) d n
    .next (recount (mapChange s d n (if t = 2 then 1 else 3)) d)
  else .next s

/-! ### Enabling a context (03 R78, R100) -/

/-- Two checked regions overlap, each granting WR or AL. -/
def wrOverlap (s : State) (a b : Nat) : Bool :=
  let w : Nat → Bool := fun x => bit s x 30 || bit s x 31
  w a && w b && decide (fget s a 0 13 ≤ fget s b 16 13 ∧ fget s b 0 13 ≤ fget s a 16 13)

/-- All eight regions of a context. -/
def ctxRgns (d n c : Nat) : List Nat := (List.range 4).flatMap (fun m => rgnSet d n m c)

/-- The enable check of R100, in order. D, as an eight-bit register, is out of range unless its two's complement value lies in
-64 to 63. -/
def ctxChecks (s : State) (d n c : Nat) : Chk :=
  let cfg := Reg.BLK_MASON_CFG d n c
  let p := fget s cfg 0 7
  let dd := fget s cfg 8 8
  firstFail [
    (blkState s d n == 0, Rsn.STATE, 0x16),
    (isOn s (dCourse d (n / 18)), Rsn.STATE, 0x17),
    (decide (ctxState s d n c ≠ 0), Rsn.CFG_MISSING, 0x15),
    (decide (4 ≤ p ∧ p ≤ 64), Rsn.CFG_RANGE, 0x10),
    (decide (dd ≤ 63 ∨ 192 ≤ dd), Rsn.CFG_RANGE, 0x11),
    ((ctxRgns d n c).all (fun a => !(bit s a 29 || bit s a 30 || bit s a 31) ||
      decide (fget s a 0 13 ≤ fget s a 16 13 ∧ fget s a 16 13 ≤ 6143)), Rsn.CFG_RANGE, 0x12),
    ((List.range 4).all (fun o => o == c || !bit s (Reg.BLK_CTX_CTRL d n o) 0 ||
      !(ctxRgns d n c).any (fun a => (ctxRgns d n o).any (wrOverlap s a))), Rsn.CFG_CONFLICT, 0x13),
    (!(rgnSet d n 3 c).any (fun a => ((List.range 3).flatMap (fun m => rgnSet d n m c)).any (wrOverlap s a)),
      Rsn.CFG_CONFLICT, 0x14)]

/-- ENABLE written 1 in a context: LOADED becomes READY when the check passes; REASON and DETAIL hold its codes. An ENABLE that
is 1 already is checked again and changes nothing else (DEDUCED, log entry 21). -/
def ctxEnable (s : State) (d n c : Nat) : State :=
  let a := Reg.BLK_CTX_STATUS d n c
  match ctxChecks s d n c with
  | some (r, t) => setRD s a 8 r t
  | none =>
    let s := setRD (fset s (Reg.BLK_CTX_CTRL d n c) 0 1 1) a 8 0 0
    if ctxState s d n c = 1 then setCtxState s d n c 2 else s

/-- CTX_ENABLE (03 R78). -/
def execCtxEnable (d : Die) (n : Blk) (c : Ctx) (s : State) : Out := viaWin s d fun s => .next (ctxEnable s d n c)

/-- CTX_DISABLE (03 R78): refused with STATE 0x18 while RUNNING or WAITING; READY or HALTED becomes LOADED. -/
def execCtxDisable (d : Die) (n : Blk) (c : Ctx) (s : State) : Out := viaWin s d fun s =>
  let a := Reg.BLK_CTX_STATUS d n c
  if inRun s d n c then .next (setRD s a 8 Rsn.STATE 0x18)
  else
    let s := fset s (Reg.BLK_CTX_CTRL d n c) 0 1 0
    .next (if ctxState s d n c = 2 ∨ ctxState s d n c = 5 then setCtxState s d n c 1 else s)

/-! ### Flags (02 R69, 03 R101, 16 R403) -/

/-- Exceptions signalled in a context, and elements saturated (02 R69). -/
def signal (s : State) (d n c fl sat : Nat) : State :=
  let a := Reg.BLK_FP_FLAGS d n c
  holdAdd (fset s a 0 7 (fget s a 0 7 ||| fl)) a 16 16 sat

/-- FP_FLAGS_CLEAR: `same` are the flags hardware sets in the same cycle, `sat` the elements that saturate in it. -/
def execFpFlagsClear (d : Die) (n : Blk) (c : Ctx) (v : W32) (same : BitVec 7) (sat : BitVec 16) (s : State) : Out := viaWin s d fun s =>
  let a := Reg.BLK_FP_FLAGS d n c
  let old := fget s a 0 7
  let cl := v.toNat % 128
  let s1 := fset s a 0 7 ((old &&& (127 - cl)) ||| same.toNat)
  let s2 := if cl.testBit 5 then fset s1 a 16 16 0 else s1
  let s3 := if same.toNat.testBit 5 then holdAdd s2 a 16 16 sat.toNat else s2
  .next (if cl &&& same.toNat ≠ 0 then holdAdd s3 (Reg.BLK_W1C_EVENTS d n) (6 * c.val) 6 1 else s3)

/-- VIOL_CLEAR: writing 1 to VALID clears the whole register; a refusal recorded in the same cycle (`same`) stands and counts
a collision. -/
def execViolClear (d : Die) (n : Blk) (v : W32) (same : Option W32) (s : State) : Out := viaWin s d fun s =>
  let a := Reg.BLK_VIOL d n
  let one := v.getLsbD 31
  match same with
  | none => .next (if one then wr s a 0 else s)
  | some r =>
    let r' := (r &&& 0x0FFF7FFF) ||| 0x80000000
    if one then .next (holdAdd (wr s a r') (Reg.BLK_W1C_EVENTS d n) 24 6 1)
    else .next (if bit s a 31 then s else wr s a r')

end Sys2Proof.Machine
end

