-- ==== Sys2Proof/Machine/Ledger.lean ====
section
/-! DEFINITION. The commands of the energy ledger (18 R439-R449, R454-R455): period and window ends, exhausted reserves,
sensor reports, trips, and writes of the budgets. -/

namespace Sys2Proof.Machine

/-- Quarter degrees of an 11-bit reading, above absolute -256 so that it is a number: reading + 1024. -/
def tq (t : BitVec 11) : Nat := (t.toInt + 1024).toNat
/-- Whole degrees rounded up of such a number, as 256 + degrees. -/
def tdeg (q : Nat) : Nat := ceilDiv q 4

/-- A reading of a sensor register as `tq`. -/
def readT (s : State) (a : Nat) : Nat := tq (BitVec.ofNat 11 (fget s a 0 11))

/-- Own logic sensors of die `d` that enter budget `i` (18 R443). -/
def budgetSensors (i : Nat) : List Nat :=
  if i < 16 then (List.range 3).map (fun b => 3 * (i / 2) + b)
  else if i < 19 then (List.range 8).map (fun k => 3 * k + (i - 16))
  else List.range 24

/-- Highest neighbour reading that faces one of the sensors: an east sensor faces the clockwise neighbour's south ones, a
south sensor the counter-clockwise neighbour's east ones (18 R443). `nbr` holds (source die, `tq`) pairs. -/
def nbrReads (s : State) (d : Nat) (is : List Nat) : List Nat :=
  let x := (ledgerX s d).nbr
  let from1 : Nat → List Nat := fun p => (x.filter (fun e => e.1 == p && !outOf s p)).map (·.2)
  (if is.any (fun i => sensorEdge i == 1) then from1 ((d + 1) % 4) else []) ++
  (if is.any (fun i => sensorEdge i == 2) then from1 ((d + 3) % 4) else [])

/-- Highest of the logic readings that enter budget `i`. -/
def logicMax (s : State) (d i : Nat) : Nat :=
  let is := budgetSensors i
  ((is.map (fun j => readT s (Reg.GLB_TEMP d j))) ++ nbrReads s d is).foldl max 0

/-- Reading of the stack sensor that enters a Bay's budget. -/
def stackT (s : State) (d i : Nat) : Option Nat :=
  if 16 ≤ i ∧ i < 19 then some (readT s (Reg.FTG_TEMP (8 + 3 * d + (i - 16)))) else none

/-- d_s in 64ths for a reading and a LIMIT in °C (18 R448). -/
def derateOf (q lim : Nat) : Nat := 64 - (q - 4 * (256 + lim))

/-- Correction temperature of budget `i` in whole degrees rounded up, 25 to 125 (18 R442, R443). -/
def corrTemp (s : State) (d i : Nat) : Nat :=
  min 125 (max 25 (tdeg (max (logicMax s d i) ((stackT s d i).getD 0)) - 256))

/-- LDG_TEMP of a die shows its own sensors' latest readings (18 R443). -/
def showTemps (s : State) (d : Nat) : State :=
  (List.range 21).foldl (fun s i => fset s (Reg.LDG_TEMP d i) 0 8 (corrTemp s d i)) s

/-- Correction temperature and derating of budget `i`; LDG_TEMP shows d in sixteenths rounded down (log entry 9); the first derated period writes the
informational 0x0A record and sets the DERATED flags (18 R443, R448). -/
def budgetTemp (s : State) (d i : Nat) : State :=
  let lm := logicMax s d i
  let st := stackT s d i
  let k := min (derateOf lm (s.cfg.limits.getD 0 100)) ((st.map (fun q => derateOf q (s.cfg.limits.getD 2 95))).getD 64)
  let s := fset (fset s (Reg.LDG_TEMP d i) 0 8 (corrTemp s d i)) (Reg.LDG_TEMP d i) 8 5 (k / 4)
  let x := ledgerX s d
  let rest := x.derated.filter (fun p => p.1 ≠ i)
  if k = 64 then setLedgerX s d { x with derated := rest }
  else if x.derated.any (fun p => p.1 == i) then setLedgerX s d { x with derated := (i, k) :: rest }
  else
    let s := modEvent (setLedgerX s d { x with derated := (i, k) :: rest }) 3
    if i < 16 then note s d Rsn.NOT_SCHEDULABLE 0x0A 1 (d + 8 * i) []
    else if i < 19 then note s d Rsn.NOT_SCHEDULABLE 0x0A 2 (d + 8 * (i - 16)) []
    else note s d Rsn.NOT_SCHEDULABLE 0x0A 10 d []

/-- k_b of R445 from the window's metered draw and prediction: ceil(1024 * 17 M / (16 Pd)), 256 to 2048. -/
def scaleOf (m p : Nat) : Nat := if p = 0 then 2048 else min 2048 (max 256 (ceilDiv (1024 * 17 * m) (16 * p)))

/-- A budget's k_b recomputed (18 R445); with no draw and no prediction R445's quotient says nothing, and k_b is free within 256 to 2048 (log
entry 177). -/
def recal (s : State) (d i : Nat) : State :=
  let x := ledgerX s d
  if x.winM.getD i 0 = 0 ∧ x.winP.getD i 0 = 0 then
    let f := takeFree s
    fset f.2 (Reg.LDG_SCALE d i) 0 12 (256 + f.1 % 1793)
  else fset s (Reg.LDG_SCALE d i) 0 12 (scaleOf (x.winM.getD i 0) (x.winP.getD i 0))
/-- The same at the end of an at-load window, which sets CAL (18 R455). -/
def recalLoad (s : State) (d i : Nat) : State := fset (recal s d i) (Reg.LDG_SCALE d i) 12 1 1

/-- Budgets written take effect at the boundary (18 R454, R455). -/
def applyPending (s : State) (d : Nat) : State := setLedgerX s d { ledgerX s d with pendB := [] }

/-- Contexts of a Course that waited for ENERGY run again. -/
def wakeEnergy (s : State) (d c : Nat) : State :=
  (List.range 72).foldl (fun s i =>
    let a := Reg.BLK_CTX_STATUS d (c * 18 + i / 4) (i % 4)
    if fget s a 0 3 = 4 ∧ fget s a 24 4 = 4 then fset (fset s a 0 3 3) a 24 4 0 else s) s

/-- Courses a stalled budget stops (18 R449). -/
def stallCourses (b : Nat) : List Nat := if b < 16 then [b] else if b = 20 then List.range 16 else []

/-- GLB_MOD_INPUT shows the input voltage in 10 mV; its current, which no command carries, is free (20 R497; log entry 178). -/
def inputRead (s : State) (v : Nat) : State :=
  let f := takeFree s
  fset (fset f.2 Reg.GLB_MOD_INPUT 0 16 v) Reg.GLB_MOD_INPUT 16 16 (f.1 % 65536)

/-- What a die tells a ring neighbour at the end of a period (18 R443): for each sensor whose nearest edge faces it (`edge`), its number and the
highest reading it took, the last or the one it held before. -/
def edgeReport (s : State) (d n edge : Nat) (temps : List (BitVec 11)) : State :=
  if outOf s d || outOf s n then s
  else emit s .mgt [5, d, n] (((List.range 24).filter (fun i => sensorEdge i == edge)).flatMap (fun i =>
    let old := BitVec.ofNat 11 (fget s (Reg.GLB_TEMP d i) 0 11)
    let new := temps.getD i old
    leBytes 1 i ++ leBytes 2 (if tq new < tq old then old else new).toNat))
/-- East sensors face the clockwise neighbour, south sensors the counter-clockwise one. -/
def edgeReports (s : State) (d : Nat) (temps : List (BitVec 11)) : State :=
  edgeReport (edgeReport s d ((d + 1) % 4) 1 temps) d ((d + 3) % 4) 2 temps

/-- LEDGER_PERIOD_END (18 R447, R448, R449, R452; 20 R483): the die's counter stands at the boundary (log entry 8). `draw`
is each budget's metered µJ of the period, `temps` and `ftg` the readings of its sensors and of its three stacks, `v`
the lowest input of the period in 10 mV. -/
def execLedgerPeriodEnd (d : Die) (draw : List Nat) (temps ftg : List (BitVec 11)) (v : BitVec 16) (s : State) : Out :=
  let a := Reg.GLB_CTL_COUNT_LO d
  let s := wrW s a (BitVec.ofNat 64 ((ctl s d / 131250 + 1) * 131250))
  let s := (List.range 21).foldl (fun s i => fset s (Reg.LDG_METER d i) 0 24 (holdAt 0xFFFFFF (draw.getD i 0))) s
  let x := ledgerX s d
  let stalled := x.stalled
  let s := setLedgerX s d { x with
    winM := (x.winM.zipIdx).map (fun p => p.1 + draw.getD p.2 0)
    kept := x.kept.filter (fun c => decide (period s d ≤ c.period))
    nbr := x.nbrNext, nbrNext := [], stalled := [] }
  let s := edgeReports s d temps
  let s := ((temps.take 24).zipIdx).foldl (fun s p => fset s (Reg.GLB_TEMP d p.2) 0 11 p.1.toNat) s
  let s := ((ftg.take 3).zipIdx).foldl (fun s p => fset s (Reg.FTG_TEMP (8 + 3 * d + p.2)) 0 11 p.1.toNat) s
  let s := stalled.foldl (fun s b => (stallCourses b).foldl (fun s c => wakeEnergy s d c) (recal s d b)) s
  let s := (List.range 21).foldl (fun s i => budgetTemp s d i) s
  let s := fset s (Reg.LDG_STATUS d) 1 1 (if stalled.isEmpty then 0 else 1)
  let s := fset s (Reg.LDG_STATUS d) 2 1
    (if (List.range 21).any (fun i => decide (fget s (Reg.LDG_TEMP d i) 8 5 < 16)) then 1 else 0)
  let s := applyPending s d
  .next (if cornerstone s = d.val then
      (inputRead s v.toNat).withModx { s.modx with vPrev := min s.modx.vNow v.toNat, vNow := 65535 }
          |>.withHup { s.hup with queue := s.hup.queue ++ s.hup.retry, retry := [] }
    else s)

/-- RECAL_WINDOW_END (18 R445): each budget whose metered draw averaged at least half of it is recalibrated; the window's
sums start again; WINDOWS counts. -/
def execRecalWindowEnd (d : Die) (s : State) : Out :=
  let x := ledgerX s d
  let s := (List.range 21).foldl (fun s i =>
    if 32 * effBudget s d i ≤ x.winM.getD i 0 then recalLoad s d i else s) s
  let s := setLedgerX s d { ledgerX s d with winM := List.replicate 21 0, winP := List.replicate 21 0 }
  let s := wrapAdd s (Reg.LDG_STATUS d) 16 16 1
  .next (fset s (Reg.LDG_STATUS d) 0 1 (if (List.range 21).all (fun i => bit s (Reg.LDG_SCALE d i) 12) then 1 else 0))

/-- RESERVE_EXHAUSTED (18 R449): the domain stalls until the boundary; the first time in a period writes the informational
LATE 0x09; the contexts of a stalled Course wait for ENERGY, and items that then miss their bound carry 0xA9. -/
def execReserveExhausted (d : Die) (b : Fin 21) (s : State) : Out :=
  let x := ledgerX s d
  if x.stalled.contains b then .next s
  else
    let s := setLedgerX s d { x with stalled := b :: x.stalled }
    let s := (stallCourses b).foldl (fun s c =>
      (List.range 72).foldl (fun s i =>
        let a := Reg.BLK_CTX_STATUS d (c * 18 + i / 4) (i % 4)
        if fget s a 0 3 = 3 then fset (fset s a 0 3 4) a 24 4 4 else s) s) s
    let dom : Item → Bool := fun i => i.die == d.val &&
      (b.val == 20 || b.val == 19 || (b.val < 16 && i.uses.contains (dCourse d b)) ||
        (decide (16 ≤ b.val) && i.uses.contains (dBay d (b - 16))))
    let s := s.withItems (s.items.map (fun i => if dom i && i.late == 0 then { i with late := 0xA9 } else i))
    .next (if b.val < 16 then note s d Rsn.LATE 0x09 1 (d + 8 * b) []
      else if b.val < 19 then note s d Rsn.LATE 0x09 2 (d + 8 * (b - 16)) [] else note s d Rsn.LATE 0x09 10 d [])

/-- SENSOR_REPORT (18 R443): a ring neighbour's highest edge readings, for the next period. Only sensors whose nearest edge
faces this die count. -/
def execSensorReport (d src : Die) (reads : List (Fin 24 × BitVec 11)) (s : State) : Out :=
  let edge := if src.val = (d.val + 1) % 4 then 2 else if src.val = (d.val + 3) % 4 then 1 else 9
  if outOf s src then .next s
  else
    let x := ledgerX s d
    let new := (reads.filter (fun r => sensorEdge r.1 == edge)).map (fun r => (src.val, tq r.2))
    .next (setLedgerX s d { x with nbrNext := x.nbrNext ++ new })

/-- THERMAL_TRIP (18 R448): a reading of sensor `i` of unit `u` enters its register; at or above TRIP of its kind it is a
module-level cause: ABORTED 0x0D at L4 and THERM_TRIP_N driven. -/
def execThermalTrip (u : Fin 20) (i : Fin 24) (t : BitVec 11) (s : State) : Out :=
  let a := if u.val < 8 then Reg.GLB_TEMP u i else Reg.FTG_TEMP u
  let trip := if u.val < 8 then s.cfg.limits.getD 1 115 else s.cfg.limits.getD 3 105
  let s := if (4 ≤ u.val ∧ u.val < 8 ∧ 8 ≤ i.val) ∨ u.val = 6 ∨ u.val = 7 then s
    else if u.val < 4 then showTemps (fset s a 0 11 t.toNat) u
    else if u.val < 8 then fset s a 0 11 t.toNat else showTemps (fset s a 0 11 t.toNat) ((u - 8) / 3)
  if tq t < 4 * (256 + trip) then .next s
  else
    let s := fset (s.withModx { s.modx with tripN := true }) Reg.GLB_MOD_STATUS 10 1 1
    .next (raise s ⟨cornerstone s, Rsn.ABORTED, 0x0D, 4, 13, 0, [], .module⟩ false)

/-! ### Writes -/

/-- The sum of R440 holds for the given quotas and LDG_MODULE word. -/
def quotaSum (quotas : List Nat) (m : Nat) : Bool :=
  decide (quotas.sum + 2 * (m / 65536 % 1024) * 250 ≤ m % 8192 * 250)
/-- WATTS and KS_ALLOT in range (18 R455). -/
def moduleRange (m : Nat) : Bool := decide (2000 ≤ m % 8192 ∧ m % 8192 ≤ 4800 ∧ m / 65536 % 1024 ≤ 1000)

/-- LDG_ENABLE (18 R455). -/
def execLdgEnable (d : Die) (s : State) : Out := viaWin s d fun s =>
  let m := (rd s Reg.LDG_MODULE).toNat
  .next (finishEnable s (Reg.LDG_CTRL d) 8 (firstFail [
    (mortarOn s d, Rsn.STATE, 0x94),
    (moduleRange m, Rsn.CFG_RANGE, 0x06),
    (cornerstone s ≠ d.val || quotaSum ((List.range 4).map (fun p => fget s (Reg.LDG_BUDGET p 20) 0 24)) m,
      Rsn.CFG_CONFLICT, 0x07)]))

/-- LDG_DISABLE (18 R455): refused while commitments exist. -/
def execLdgDisable (d : Die) (s : State) : Out := viaWin s d fun s =>
  let a := Reg.LDG_CTRL d
  let live := s.items.any (fun i => i.charges.any (fun c => c.budget / 32 == d.val && decide (0 < c.uj))) ||
    (ledgerX s d).kept.any (fun c => decide (0 < c.uj))
  .next (if live then setRD s a 8 Rsn.STATE 0x08 else setRD (fset s a 0 1 0) a 8 0 0)

/-- Codes that refuse a write of LDG_MODULE. -/
def moduleChk (s : State) (m : Nat) : Chk :=
  firstFail [(moduleRange m, Rsn.CFG_RANGE, 0x06),
    (quotaSum ((List.range 4).map (fun p => fget s (Reg.LDG_BUDGET p 20) 0 24)) m, Rsn.CFG_CONFLICT, 0x07)]

/-- LDG_MODULE takes `m`, in effect from the next boundary of the Cornerstone's die (00 R13; 18 R454). -/
def setModule (s : State) (m : Nat) : State :=
  let c := cornerstone s
  wr (setLedgerX s c ((ledgerX s c).hold pendModule (rd s Reg.LDG_MODULE).toNat)) Reg.LDG_MODULE (BitVec.ofNat 32 m)

/-- A write of LDG_MODULE, or its refusal. -/
def moduleWrite (s : State) (m : Nat) : State :=
  let c := cornerstone s
  let m := m % 8192 + m / 65536 % 1024 * 65536
  match moduleChk s m with
  | some (r, e) => setRD s (Reg.LDG_CTRL c) 8 r e
  | none => setRD (setModule s m) (Reg.LDG_CTRL c) 8 0 0

/-- LDG_MODULE_WRITE (18 R455). -/
def execLdgModuleWrite (v : W32) (s : State) : Out := .next (moduleWrite s v.toNat)

/-- Periods in which something is committed on a die. -/
def chargedPeriods (s : State) (d : Nat) : List Nat :=
  s.items.flatMap (fun i => (i.charges.filter (fun c => c.budget / 32 == d)).map (·.period)) ++
  (ledgerX s d).kept.map (·.period) ++ [period s d]

/-- LDG_BUDGET_WRITE (00 R13; 18 R454, R455): the register takes the budget, in effect from the next boundary; CFG_CONFLICT 0x07 when it breaks R440, STATE 0x08 when
it falls below what is committed in the current period or a later one. -/
def execLdgBudgetWrite (d : Die) (i : Fin 21) (v : W32) (s : State) : Out := viaWin s d fun s =>
  let b := v.toNat % 0x1000000
  let qs := (List.range 4).map (fun p => if p = d.val then b else fget s (Reg.LDG_BUDGET p 20) 0 24)
  match firstFail [
    (i.val ≠ 20 || quotaSum qs (rd s Reg.LDG_MODULE).toNat, Rsn.CFG_CONFLICT, 0x07),
    ((chargedPeriods s d).all (fun p => decide (p < period s d) || decide (committed s d i p ≤ b)), Rsn.STATE, 0x08)] with
  | some (r, e) => .next (setRD s (Reg.LDG_CTRL d) 8 r e)
  | none =>
    let a := Reg.LDG_BUDGET d i
    .next (setRD (fset (setLedgerX s d ((ledgerX s d).hold i (fget s a 0 24))) a 0 24 b) (Reg.LDG_CTRL d) 8 0 0)

end Sys2Proof.Machine
end

