-- ==== Sys2Proof/Machine/Image.lean ====
section
/-! DEFINITION. The Plinth image in memory and in flash (19 R460-R462, R469-R471), persistent stores (18 R450-R453), and the
commands of the hold-up store, the live update, the counters and the measurement registers. -/

namespace Sys2Proof.Machine

/-! ### Parsing an image -/

/-- `n` bytes of a list from an offset. -/
def sub (bs : List Byte) (o n : Nat) : List Byte := (bs.drop o).take n
/-- A little-endian field of a list. -/
def fld (bs : List Byte) (o n : Nat) : Nat := leNat (sub bs o n)

/-- The records of a CONFIG component: ID and value, or none when one does not fit (19 R462). `fuel` bounds them. -/
def cfgRecords (bs : List Byte) : Nat → Option (List (Nat × List Byte))
  | 0 => none
  | f + 1 =>
    if bs.isEmpty then some []
    else if bs.length < 4 then none
    else
      let n := fld bs 2 2
      let k := roundUp (4 + n) 8
      if bs.length < 4 + n then none
      else (cfgRecords (bs.drop k) f).map (fun rs => (fld bs 0 2, sub bs 4 n) :: rs)

/-- Byte lengths of the CONFIG values (19 R462): 4 dies of 288 two-bit codes, and so on. -/
def cfgLen (id : Nat) : Nat :=
  match id with
  | 1 => 288 | 2 => 12 | 3 => 48 | 4 => 4 + 4 * 84 | 5 => 112 | 6 => 4 | 7 => 8 | 8 => 4 | _ => 0

/-- CONFIG parsed: every ID below 0x8000 is one of 1-8, each exactly once, each of its length, each field in range. -/
def parseCfg (bs : List Byte) : Option ImgCfg :=
  match cfgRecords bs (bs.length + 1) with
  | none => none
  | some rs =>
    let known := rs.filter (fun r => decide (r.1 < 0x8000))
    let g : Nat → List Byte := fun i => ((known.find? (fun r => r.1 == i)).map (·.2)).getD []
    if !((List.range 8).all (fun i => (known.filter (fun r => r.1 == i + 1)).length == 1)) || decide (known.length ≠ 8) ||
        known.any (fun r => decide (r.2.length ≠ cfgLen r.1)) then none
    else
      let code : Nat → Nat := fun k => fld (g 1) (k / 4) 1 / 4 ^ (k % 4) % 4
      let res := (List.range 12).map (fun i => fld (g 2) i 1)
      if (List.range 1152).any (fun k => code k == 3) || res.any (fun k => decide (2 < k)) then none
      else some {
        map := (List.range 1152).foldl (fun t k => tset (fun k => Config.mapCode (k % 288)) t k (code k)) []
        reserve := res
        macs := (List.range 8).map (fun i => leNat ((sub (g 3) (6 * i) 6).reverse))
        watts := fld (g 4) 0 2
        ksAllot := fld (g 4) 2 2
        budgets := (List.range 4).map (fun d => (List.range 21).map (fun i => fld (g 4) (4 + 84 * d + 4 * i) 4))
        coefs := (List.range 14).map (fun i => (fld (g 5) (8 * i) 4, fld (g 5) (8 * i + 4) 2))
        limits := (List.range 4).map (fun i => fld (g 6) i 1)
        costs := (List.range 4).map (fun i => fld (g 7) (2 * i) 2)
        pen := fld (g 8) 0 4 }

/-- Type limits of components in bytes (19 R460). -/
def compMax (t : Nat) : Nat := if t = 1 then 0x800000 else if t = 2 then 0x100000 else if t = 3 then 0x400000 else 0x100000

/-- The component of a type: offset, length, digest (19 R460). -/
def compOf (bs : List Byte) (t : Nat) : Option (Nat × Nat × List Byte) :=
  (((List.range 4).map (fun i => sub bs (0x100 + 64 * i) 64)).find? (fun e => fld e 0 2 == t)).map
    (fun e => (fld e 4 4, fld e 8 4, sub e 16 48))

/-- A header and component table as R460 lays them down, for `n` bytes in all. -/
def headerOk (bs : List Byte) (n : Nat) : Bool :=
  fld bs 0 8 == 0x3147414D49565453 && fld bs 8 2 == 1 && fld bs 0xA 2 == 4 &&
  decide (4096 ≤ fld bs 0xC 4 ∧ fld bs 0xC 4 ≤ 130023424 ∧ fld bs 0xC 4 % 4096 = 0 ∧ fld bs 0xC 4 ≤ n) &&
  fld bs 0x14 4 == 0 && fld bs 0x20 224 == 0 && fld bs 0x200 2560 == 0 && fld bs 0xC61 31 == 0 && fld bs 0xCE0 800 == 0 &&
  (List.range 4).all (fun t => match compOf bs (t + 1) with
    | none => false
    | some (o, l, _) => decide (o % 4096 = 0 ∧ 4096 ≤ o ∧ o + l ≤ fld bs 0xC 4 ∧ l ≤ compMax (t + 1))) &&
  (List.range 4).all (fun i => fld bs (0x100 + 64 * i + 2) 2 == 0 && fld bs (0x100 + 64 * i + 12) 4 == 0)

/-- What an image's bytes decode to: its digest, its authenticity (19 R461) and its CONFIG. -/
def parseImg (bs : List Byte) : Img :=
  let dg := sha384 (sub bs 0 0xC00)
  let comp : Nat → List Byte := fun t => match compOf bs t with
    | some (o, l, _) => sub bs o l
    | none => []
  let want : Nat → List Byte := fun t => match compOf bs t with
    | some (_, _, g) => g
    | none => []
  let cfg := parseCfg (comp 4)
  { digest := dg
    svn := fld bs 0x10 4
    comps := (List.range 4).map (fun i => want (i + 1))
    cfg := cfg.getD shippedCfg
    authentic := sha384 (sub bs 0xC00 97) == Config.keyHash &&
      Config.ecdsaValid (sub bs 0xC00 97) dg (sub bs 0xC80 96) &&
      (List.range 4).all (fun i => sha384 (comp (i + 1)) == want (i + 1))
    wellFormed := headerOk bs bs.length && cfg.isSome }

/-! ### The update (19 R469-R470) -/

/-- GLB_IMG_CTRL shows an action refused. -/
def imgRefuse (s : State) (r d : Nat) : State := setRD s Reg.GLB_IMG_CTRL 8 r d
/-- An update that ends in failure: STATE FAILED, BUSY 0; the target keeps its state. -/
def imgFail (s : State) (r d : Nat) : State :=
  let keep : StoreWork → Bool := fun w => match w with | .image _ => false | _ => true
  let s := s.withUpdate none
      |>.withHup { s.hup with queue := s.hup.queue.filter keep, retry := s.hup.retry.filter keep }
  setRD (fset (fset s Reg.GLB_IMG_CTRL 31 1 0) Reg.GLB_IMG_CTRL 2 3 5) Reg.GLB_IMG_CTRL 8 r d

/-- Source of an update. -/
def imgSrc (s : State) : Nat := fget s Reg.GLB_IMG_SRC_LO 12 20 * 4096 + fget s Reg.GLB_IMG_SRC_HI 0 20 * 0x100000000

/-- The store is HOLDING. -/
def holding (s : State) : Bool := fget s Reg.HUP_STATUS 0 2 == 2

/-- IMG_UPDATE (19 R469 step 1, R470): VERIFYING, BUSY; refused while busy or HOLDING, and for a LEN or SRC out of range. -/
def execImgUpdate (s : State) : Out :=
  let len := (rd s Reg.GLB_IMG_LEN).toNat
  match firstFail [
    (!bit s Reg.GLB_IMG_CTRL 31 && s.update.isNone && !holding s, Rsn.STATE, 0xCB),
    (decide (4096 ≤ len ∧ len ≤ 130023424), Rsn.CFG_RANGE, 0xCD),
    (decide (imgSrc s % 4096 = 0), Rsn.CFG_RANGE, 0xCD)] with
  | some (r, d) => .next (imgRefuse s r d)
  | none =>
    let t := 1 - fget s Reg.GLB_BOOT_STATUS 0 1
    let s := s.withUpdate (some ⟨t, imgSrc s, len, shippedImg, []⟩)
    let s := fset (fset (fset s Reg.GLB_IMG_CTRL 31 1 1) Reg.GLB_IMG_CTRL 2 3 1) Reg.GLB_IMG_PROGRESS 0 11 0
    .next (setRD s Reg.GLB_IMG_CTRL 8 0 0)

/-- IMG_CHECK_DONE (19 R469 steps 2-3): the image in memory is checked under R460, R461 and R462; it is refused, or the erase
of the target's record is requested. -/
def execImgCheckDone (s : State) : Out :=
  match s.update with
  | none => .next s
  | some u =>
    if fget s Reg.GLB_IMG_CTRL 2 3 ≠ 1 then .next s
    else
      let s := cleanPa s u.src u.len
      let i := parseImg (memRead s u.src u.len)
      match firstFail [
        (i.wellFormed, Rsn.BAD_DESC, 0xCA),
        (i.authentic, Rsn.SEAL_MISMATCH, 0xC8),
        (imgCurrent s i, Rsn.CFG_CONFLICT, 0xC9)] with
      | some (r, d) => .next (imgFail s r d)
      | none =>
        let s := s.withUpdate (some { u with img := i })
        .next (requestStore (fset s Reg.GLB_IMG_CTRL 2 3 2) (.image 0))

/-- A slot changed. -/
def setSlot (s : State) (t : Nat) (f : Slot → Slot) : State :=
  s.withFlash { s.flash with slots := (s.flash.slots.zipIdx).map (fun p => if p.2 = t then f p.1 else p.1) }

/-- An IMAGE store completes (19 R469): the record erased and WRITING programmed; a block written from memory; or the final
programming, with the COUNTER store of counter 1. -/
def imageStored (s : State) (step : Nat) : State :=
  match s.update with
  | none => s
  | some u =>
    if step = 0 then
      requestStore (setSlot s u.target (fun x => { x with state := 0x7F, recDigest := [] })) (.image 1)
    else if step = 10000 then
      let other := (s.flash.slots.getD (1 - u.target) emptySlot).sequence
      let s := setSlot s u.target (fun _ => ⟨other + 1, 0x3F, u.img.digest, u.img⟩)
      let s := fset (fset (s.withUpdate none) Reg.GLB_IMG_CTRL 31 1 0) Reg.GLB_IMG_CTRL 2 3 4
      requestStore (setRD s Reg.GLB_IMG_CTRL 8 0 0) (.counter 1)
    else
      let o := (step - 1) * 65536
      let s := cleanPa s (u.src + o) (min 65536 (u.len - o))
      let bs := memRead s (u.src + o) (min 65536 (u.len - o))
      let s := s.withUpdate (some { u with written := u.written ++ bs })
      let s := fset s Reg.GLB_IMG_PROGRESS 0 11 step
      if u.len ≤ o + 65536 then fset s Reg.GLB_IMG_CTRL 2 3 3 else requestStore s (.image (step + 1))

/-- IMG_READBACK_DONE (19 R469 steps 5-6): the written slot is checked under R461; the final programming is requested, or the
update fails with SEAL_MISMATCH 0xC8. -/
def execImgReadbackDone (s : State) : Out :=
  match s.update with
  | none => .next s
  | some u =>
    if fget s Reg.GLB_IMG_CTRL 2 3 ≠ 3 then .next s
    else
      let i := parseImg u.written
      if i.wellFormed && i.authentic && i.digest == u.img.digest then
        .next (requestStore (s.withUpdate (some { u with img := i })) (.image 10000))
      else .next (imgFail s Rsn.SEAL_MISMATCH 0xC8)

/-! ### Counters and measurements -/

/-- IMG_RAISE_SVN (19 R471): one COUNTER store per unit, toward the booted SVN; refused with STATE 0xCB. -/
def execImgRaiseSvn (s : State) : Out :=
  let v := (bootedSlot s).img.svn
  let c := s.flash.counters.getD 0 0
  if bit s Reg.GLB_IMG_CTRL 31 || s.update.isSome || decide (v ≤ c) then .next (imgRefuse s Rsn.STATE 0xCB)
  else
    let s := (List.range (v - c)).foldl (fun s _ => requestStore s (.counter 0)) s
    .next (setRD (fset s Reg.GLB_IMG_CTRL 31 1 1) Reg.GLB_IMG_CTRL 8 0 0)

/-- CNT_INC (19 R471): a COUNTER store of counter 3. -/
def execCntInc (s : State) : Out := .next (requestStore s (.counter 3))

/-- SEAL_EXTEND (19 R473, R480): with GO (bit 4), register INDEX 8-15 becomes SHA-384 of itself and V; any other index is
refused with CFG_RANGE 0xCD, which the write's requester sees. -/
def execSealExtend (v : W32) (s : State) : Out :=
  let i := getBits v 0 4
  if getBits v 4 1 = 0 then .next s
  else if i < 8 then .next (emit s .refusal [Rsn.CFG_RANGE, 0xCD] [])
  else .next (setMeas s i (sha384 (meas s i ++ (List.range 12).flatMap (fun w => leBytes 4 (rd s (Reg.SEAL_EXT_DATA w)).toNat))))

/-! ### Hold-up (18 R450-R453) -/

/-- Class code of a store (18 R451). -/
def StoreWork.cls : StoreWork → Nat
  | .counter _ => 0 | .log _ _ => 1 | .health _ => 2 | .image _ => 3

/-- Usable energy as the controller measures it. -/
def setUsable (s : State) (u : BitVec 16) : State := fset s Reg.HUP_STATUS 8 16 u.toNat

/-- The next store: LOG, COUNTER, HEALTH, IMAGE, and arrival order within a class (18 R452). -/
def nextStore (q : List StoreWork) : Option StoreWork :=
  ([1, 0, 2, 3] : List Nat).findSome? (fun c => q.find? (fun w => w.cls == c))

/-- HOLDUP_READY (18 R450): CHARGING becomes READY at the largest class cost plus 20,000 mJ. -/
def execHoldupReady (u : BitVec 16) (s : State) : Out :=
  let s := setUsable s u
  let m := ((List.range 4).map (fun c => fget s (Reg.HUP_COST c) 0 16)).foldl max 0
  .next (if fget s Reg.HUP_STATUS 0 2 = 0 ∧ m + 20000 ≤ u.toNat then fset s Reg.HUP_STATUS 0 2 1 else s)

/-- The management rail goes off when, in HOLDING, nothing is queued or the energy is below 20,120 mJ (18 R453 step 5): pins
high-impedance, I3C address and endpoint lost. -/
def railOff (s : State) : State :=
  s.withModx { s.modx with rail := false, pkgRails := false, powerGood := false, faultN := false, tripN := false, i3c := none, eid := none }
      |>.withHup ⟨[], none, []⟩

/-- Step 5 of R453; and with MOD_EN low, the rail goes off once the store in progress and the non-image stores have ended
(20 R492). -/
def railCheck (s : State) : State :=
  let low := !bit s Reg.GLB_MOD_STATUS 6 && s.hup.queue.all (fun w => w.cls == 3)
  if s.hup.cur.isNone && ((holding s && (s.hup.queue.isEmpty || decide (fget s Reg.HUP_STATUS 8 16 < 20120))) || low)
  then railOff s else s

/-- PERSISTENT_STORE_START (18 R452): the next queued store starts when the usable energy is at least its cost plus 20,000 mJ,
and no IMAGE store in HOLDING; else it is refused with HOLDUP_LOW 0x0F and kept for the retry of the next period. -/
def execPersistentStoreStart (u : BitVec 16) (s : State) : Out :=
  let s := setUsable s u
  match s.hup.cur, nextStore s.hup.queue with
  | none, some w =>
    if !s.modx.rail then .next s
    else
      let q := s.hup.queue.erase w
      let c := w.cls
      let s := fset s Reg.HUP_LAST 0 2 c
      if fget s (Reg.HUP_COST c) 0 16 + 20000 ≤ u.toNat ∧ ¬ (c = 3 ∧ holding s) then
        let s := s.withHup { s.hup with queue := q, cur := some w }
        .next (wrapAdd (setRD (fset s Reg.HUP_STATUS 2 1 1) Reg.HUP_LAST 8 0 0) Reg.HUP_COUNT 0 16 1)
      else
        let s := s.withHup { s.hup with queue := q, retry := s.hup.retry ++ [w] }
        .next (railCheck (holdAdd (setRD s Reg.HUP_LAST 8 Rsn.HOLDUP_LOW 0x0F) Reg.HUP_COUNT 16 16 1))
  | _, _ => .next (railCheck s)

/-- What a store leaves in the flash (18 R451, 16 R393, 19 R471). -/
def stored (s : State) : StoreWork → State
  | .counter i =>
    let c := s.flash.counters.getD i 0
    let s := countersChanged (s.withFlash { s.flash with counters := s.flash.counters.set i (holdAt 524288 (c + 1)) })
    if i = 0 ∧ !(s.hup.queue ++ s.hup.retry).contains (.counter 0) then fset s Reg.GLB_IMG_CTRL 31 1 0 else s
  | .log d i =>
    let bs := (List.range 16).flatMap (fun k => leBytes 4 (rd s (Reg.FLT_LOG d i k)).toNat)
    let s := s.withFlash { s.flash with archive := s.flash.archive ++ [bs] }
    fset s (Reg.FLT_LOG_STATUS d) 8 7 (fget s (Reg.FLT_LOG_STATUS d) 8 7 - 1)
  | .health h => s.withFlash { s.flash with health := h }
  | .image n => imageStored s n

/-- MODULE_COLD begins; while MOD_RESET_N is low power is not good (20 R489, R491). -/
def coldNow (s : State) : State :=
  let s := moduleCold s
  if s.modx.inReset then s.withModx { s.modx with powerGood := false } else s

/-- PERSISTENT_STORE_DONE (18 R452): the store completes whatever the energy. -/
def execPersistentStoreDone (u : BitVec 16) (s : State) : Out :=
  let s := setUsable s u
  match s.hup.cur with
  | none => .next s
  | some w =>
    let s := stored (fset (s.withHup { s.hup with cur := none }) Reg.HUP_STATUS 2 1 0) w
    .next (railCheck (if s.modx.coldDue then coldNow s else s))

end Sys2Proof.Machine
end

