-- ==== Sys2Proof/Machine/Module.lean ====
section
/-! DEFINITION. The module's own pins and input (20 R483-R492, R496-R498; 18 R453): power-up and power-down, MOD_RESET_N, the
input bands, the hardware thermal trip and the coolant. -/

namespace Sys2Proof.Machine

/-- Every one of the 120 domains OFF: HBM, DDR5 and scratchpad contents are lost, requests and copies with them
(18 R453 step 3). -/
def allOff (s : State) : State :=
  let s := (List.range 120).foldl (fun s n => setPd s n 0) s
  homesChanged (s.withMem []
      |>.withPoison []
      |>.withCopies []
      |>.withDir []
      |>.withSeqs []
      |>.withL2busy []
      |>.withHarts []
      |>.withBootStore []
      |>.withPrivStore [])

/-- Condition Running of R487. -/
def running (s : State) : Bool := s.modx.rail && !s.modx.inReset && decide (2 ≤ fget s Reg.GLB_BOOT_STATUS 6 4)

/-- The PCIE_REFCLK outputs of MC-A and MC-B give 100 MHz from REFCLK_IN while Running; in every other condition both legs of each are at 0 V
(20 R485, R487). -/
def refclkOut (s : State) : Bool := running s

/-- The output pins of the module (20 R487). -/
inductive OutPin where
  | faultN
  | alertN
  | thermTripN
  | spareReady
  | perstN (k : Fin 2)
  | ledPwrN
  | ledFaultN
  | ledLocN
  | modPrsntN
  deriving DecidableEq, Repr

/-- The level a board with the resistors of 20 R487 reads on an output pin of a fitted module, true for high; a LED is lit while its pin is
low. Outside Running every pin but MOD_PRSNT_N stands at its resistor's level. -/
def pinHigh (s : State) : OutPin → Bool
  | .faultN => !(running s && s.modx.faultN)
  | .alertN => !(running s && rd s Reg.GLB_MOD_EVENTS != 0)
  | .thermTripN => !(running s && s.modx.tripN)
  | .spareReady => running s && bit s Reg.GLB_MOD_STATUS 11
  | .perstN k => running s && !s.modx.perst.getD k false
  | .ledPwrN => !running s
  | .ledFaultN => !(running s && (s.modx.faultN || s.modx.tripN))
  | .ledLocN => !(running s && bit s Reg.GLB_MOD_STATUS 12)
  | .modPrsntN => false

/-- A module-level cause from the Cornerstone (16 R397). -/
def moduleCause (s : State) (reason detail : Nat) : State :=
  raise s ⟨cornerstone s, reason, detail, 4, 13, 0, [], .module⟩ false

/-- Input voltage in 10 mV as monitored; the period's lowest is kept for R483. -/
def setInput (s : State) (v : Nat) : State :=
  (inputRead s v).withModx { s.modx with vNow := min s.modx.vNow v }

/-- POWER_UP (20 R491): with the input NORMAL and MOD_EN high the management rail comes up: its registers return to reset,
MOD_SLOT_ID is sampled, the package rails follow; the store starts to charge. -/
def execPowerUp (slot : BitVec 6) (s : State) : Out :=
  if s.modx.rail then .next s
  else
    let s := s.withModx { s.modx with rail := true, faultN := false, tripN := false, i3c := none, eid := none }
    let s := moduleCold s
    let s := clearRegs s (fun _ r => r.grp == .h)
    let s := fset (fset s Reg.GLB_MOD_STATUS 0 6 slot.toNat) Reg.GLB_MOD_STATUS 6 1 1
    .next (s.withHup ⟨[], none, []⟩
        |>.withModx { s.modx with pkgRails := true, powerGood := false, switch := true, vPrev := 6000, vNow := 65535, marginTold := false })

/-- POWER_GOOD (20 R491 step 4): rails up, MOD_RESET_N high and the reference within R490. -/
def execPowerGood (s : State) : Out :=
  if s.modx.rail && s.modx.pkgRails && !s.modx.inReset then
    .next (fset (s.withModx { s.modx with powerGood := true }) Reg.GLB_MOD_STATUS 7 1 1)
  else .next s

/-- MOD_EN_FALL (20 R492): with the input NORMAL or MARGIN: ABORTED 0xFE, L4, every domain OFF, an image update ended, the queued
LOG, COUNTER and HEALTH stores completed, then the rail off. With the input LOW or HIGH those bands govern. -/
def execModEnFall (s : State) : Out :=
  if !s.modx.rail || !bit s Reg.GLB_MOD_STATUS 6 then .next s
  else
    let b := fget s Reg.GLB_MOD_STATUS 13 2
    let s := fset s Reg.GLB_MOD_STATUS 6 1 0
    if b = 1 ∨ b = 2 then
      let s := allOff (moduleCause s Rsn.ABORTED 0xFE)
      let s := if s.update.isSome then imgFail s Rsn.ABORTED 0xFE else s
      .next (railCheck s)
    else .next s

/-- MOD_RESET_ASSERT (20 R489, R496): MOD_RESET_N low for `ns` nanoseconds. From 10 µs MODULE_COLD is requested, which waits for a
persistent store in progress; below 1 µs the pulse is ignored; between the two the spec says neither (log entry 5). -/
def execModResetAssert (ns : Nat) (s : State) : Out :=
  if ns < 1000 ∨ (ns < 10000 ∧ Config.pulseSeen ns = false) then .next s
  else
    let s := s.withModx { s.modx with inReset := true }
    if !s.modx.rail then .next s
    else if s.hup.cur.isSome then .next (s.withModx { s.modx with coldDue := true })
    else .next (coldNow s)

/-- MOD_RESET_RELEASE: power-up returns to step 4 (20 R491). -/
def execModResetRelease (s : State) : Out := .next (s.withModx { s.modx with inReset := false })

/-- A band entered. -/
def setBand (s : State) (b : Nat) : State := fset s Reg.GLB_MOD_STATUS 13 2 b

/-- The store is HOLDING (18 R450). -/
def setHolding (s : State) : State := fset s Reg.HUP_STATUS 0 2 2

/-- INPUT_HIGH (20 R483): ABORTED 0xF9, the input switch opens, the store is HOLDING, and steps 3 to 5 of 18 R453 follow; during
HOLDING it is only recorded (R496). -/
def execInputHigh (v : BitVec 16) (s : State) : Out :=
  if v.toNat ≤ 6600 ∨ !s.modx.rail then .next s
  else
    let s := moduleCause (setBand (setInput s v.toNat) 3) Rsn.ABORTED 0xF9
    if holding s then .next s
    else .next (railCheck (allOff (setHolding (s.withModx { s.modx with switch := false }))))

/-- INPUT_MARGIN (20 R483, R497): quotas are derated from the next period; its first period writes an informational record. -/
def execInputMargin (v : BitVec 16) (s : State) : Out :=
  if 5000 ≤ v.toNat ∨ v.toNat < 4600 ∨ !s.modx.rail then .next s
  else
    let s := modEvent (setBand (setInput s v.toNat) 2) 1
    if s.modx.marginTold then .next s
    else .next (note (s.withModx { s.modx with marginTold := true }) (cornerstone s) Rsn.NOT_SCHEDULABLE 0xFA 13 0 [])

/-- INPUT_NORMAL (20 R483). -/
def execInputNormal (v : BitVec 16) (s : State) : Out :=
  if 6600 < v.toNat ∨ v.toNat < 5000 ∨ !s.modx.rail then .next s
  else
    let s := setBand (setInput s v.toNat) 1
    .next (s.withModx { s.modx with marginTold := false })

/-- INPUT_LOW (18 R453): HOLDING, ABORTED 0x0E at L4, every domain OFF, an image update ended with HOLDUP_LOW 0x0F (19 R479). -/
def execInputLow (v : BitVec 16) (s : State) : Out :=
  if 4600 ≤ v.toNat ∨ !s.modx.rail then .next s
  else
    let s := setHolding (setBand (setInput s v.toNat) 0)
    let s := allOff (moduleCause s Rsn.ABORTED 0x0E)
    let s := if s.update.isSome then imgFail s Rsn.HOLDUP_LOW 0x0F else s
    .next (railCheck s)

/-- HW_THERM_TRIP (20 R488): the package regulators go off, THERM_TRIP_N is driven low while Running, and the module is at L4. -/
def execHwThermTrip (s : State) : Out :=
  if !s.modx.rail then .next s
  else
    let s := if running s then fset (s.withModx { s.modx with tripN := true }) Reg.GLB_MOD_STATUS 10 1 1 else s
    .next (allOff (enterL4 (s.withModx { s.modx with pkgRails := false, powerGood := false })))

/-- COOLANT_WARM (20 R498): the inlet temperature; above 45 °C its event flag and an informational record. -/
def execCoolantWarm (t : BitVec 11) (s : State) : Out :=
  if !s.modx.rail then .next s
  else
    let s := fset s Reg.GLB_MOD_COOLANT 0 11 t.toNat
    if t.toInt ≤ 180 then .next s else .next (note (modEvent s 2) (cornerstone s) Rsn.NOT_SCHEDULABLE 0xFD 13 0 [])

end Sys2Proof.Machine
end

