-- ==== Sys2Proof/Machine/Power.lean ====
section
/-! DEFINITION. The power domains (01 R39-R44, 03 R102): requests from a control window, the queues of the six power sequencers,
and the ends of transitions. -/

namespace Sys2Proof.Machine

/-- Sequencer that takes a domain: the die's, or 4 + k of a Keystone. -/
def seqOf (n : Nat) : Nat := if n < 96 then n / 24 else if n < 108 then 4 + (n - 96) / 6 else (n - 108) / 3

/-- J3 of some die. -/
def isJ3 (n : Nat) : Bool := decide (n < 96) && n % 24 == 23

/-- The domains a window names (01 R43). -/
def winTakes (u n : Nat) : Bool :=
  decide (n < 120) && !isJ3 n &&
  (if u < 4 then seqOf n == u else if u < 6 then seqOf n == u && decide (96 ≤ n) else n == 108 + (u - 8))

/-- An accepted item uses a power domain, or holds a standing port reserve of it (09 R248). -/
def committedTo (s : State) (n : Nat) : Bool :=
  s.items.any (fun i => i.uses.contains n) ||
  (n < 96 && n % 24 == 19 && (List.range 2).any (fun p =>
    bit s (Reg.NET_PORT_CFG (n / 24) p) 0 && decide (fget s (Reg.NET_PORT_CFG (n / 24) p) 8 5 + fget s (Reg.NET_PORT_CFG (n / 24) p) 16 5 ≠ 0)))

/-- A request through GLB_PD_CTRL of window `u` (01 R43, R44): BUSY refuses it and alters nothing; a domain the window does not
name completes it with CFG_RANGE; else it is queued. -/
def pdRequest (s : State) (u dom : Nat) (on : Bool) : State :=
  let a := Reg.GLB_PD_CTRL u
  if bit s a 31 then emit s .refusal [Rsn.STATE, 0] []
  else
    let s := fset s a 0 7 dom
    if !winTakes u dom then fset s a 16 8 Rsn.CFG_RANGE
    else
      let q := seqOf dom
      let x := tget seqDef s.seqs q
      fset (s.withSeqs (tset seqDef s.seqs q { x with queue := x.queue ++ [⟨dom, on, .ctrl u⟩] })) a 31 1 1

/-- PD_REQUEST_ON: ACTION 1. Windows 6 and 7 do not exist. -/
def execPdRequestOn (u : Fin 20) (dom : BitVec 7) (s : State) : Out := viaWin s u fun s =>
  if u.val = 6 ∨ u.val = 7 then .refused .illFormed else .next (pdRequest s u dom.toNat true)
/-- PD_REQUEST_OFF: ACTION 2. -/
def execPdRequestOff (u : Fin 20) (dom : BitVec 7) (s : State) : Out := viaWin s u fun s =>
  if u.val = 6 ∨ u.val = 7 then .refused .illFormed else .next (pdRequest s u dom.toNat false)

/-- The condition of R42 on a transition that starts now. -/
def transOk (s : State) (n : Nat) (on : Bool) : Bool :=
  if n < 96 then
    let p := n / 24
    let i := n % 24
    if i < 16 then !on || mortarOn s p
    else if i < 19 then (if on then mortarOn s p else pd s (dFooting (3 * p + (i - 16))) == 0)
    else if i = 19 then
      on || (decide (cornerstone s ≠ p) && (List.range 16).all (fun c => pd s (dCourse p c) == 0) &&
        (List.range 3).all (fun b => pd s (dBay p b) == 0 && pd s (dJoint p b) == 0))
    else if i = 23 then false
    else on || outOf s p || recovering s (.ashlar p) || fget s (Reg.BND_STATUS p (i - 20)) 0 3 == 6
  else if n < 108 then
    let k := (n - 96) / 6
    let g := (n - 96) % 6
    if g < 4 then !on || isOn s (dUncore k)
    else if g = 4 then on || (List.range 4).all (fun g => pd s (dCores k g) == 0)
    else true
  else !on || isOn s (dBay ((n - 108) / 3) ((n - 108) % 3))

/-- A Course that wakes: its ALLOC and SPARE Blocks read CLEARING, their issuers and registers are reset (03 R102 steps 1-2). -/
def courseWake (s : State) (d c : Nat) : State :=
  (List.range 18).foldl (fun s i =>
    let n := c * 18 + i
    if blkState s d n ≤ 1 then fset (clearBlockRegs s d n) (Reg.BLK_STATE d n) 0 3 4 else s) s

/-- A Course leaves ON or wakes: a BLOCK reset in it is abandoned, and its Block stays FENCED (03 R105). -/
def dropTests (s : State) (d c : Nat) : State :=
  (List.range 18).foldl (fun s i =>
    let n := c * 18 + i
    if tget natDef s.btest (d * 288 + n) = 0 then s
    else
      let s := s.withBtest (tset natDef s.btest (d * 288 + n) 0)
      if blkState s d n = 4 then fset (fset s (Reg.BLK_STATE d n) 0 3 2) (Reg.BLK_CTRL d n) 0 1 1 else s) s

/-- A Footing domain that leaves OFF resets its window's registers (07 R206, 06 R166), but for the current health record. -/
def footingWake (s : State) (h : Nat) : State := applyPcs (clearRegs s (fun u r => u == 8 + h && r.grp == .f)) h false

/-- A request that breaks R42 at the head of its queue is refused with STATE; one of a recovery is that recovery's LATE (01 R43; 16 R394,
R402). -/
def pwrRefuse (s : State) (r : PwrReq) : State :=
  match r.org with
  | .fault u num => match recovOf s u num with
    | some q => recovLate s u q
    | none => s
  | _ => pwrDone s r Rsn.STATE 0

/-- PD_QUEUE_HEAD (01 R43; 07 R183 for a Footing that goes OFF): the request at the head of an idle sequencer's queue: refused under R42 or R248, complete at once, or
carried out, the domain WAKING or QUIESCING. -/
def execPdQueueHead (q : Unit6) (s : State) : Out :=
  let x := tget seqDef s.seqs q
  match x.cur, x.queue with
  | none, r :: rs =>
    let s' := s.withSeqs (tset seqDef s.seqs q { x with queue := rs })
    let fromCtrl := match r.org with | .ctrl _ => true | _ => false
    if !transOk s r.dom r.on then .next (pwrRefuse s' r)
    else if !r.on && fromCtrl && committedTo s r.dom then .next (pwrDone s' r Rsn.STATE 0xAA)
    else if pd s r.dom = (if r.on then 2 else 0) then .next (pwrDone s' r 0 0)
    else
      let s := s.withSeqs (tset seqDef s.seqs q { queue := rs, cur := some r })
      let s := setPd s r.dom (if r.on then 1 else 3)
      let n := r.dom
      let course := n < 96 && decide (n % 24 < 16)
      let s := if course then dropTests s (n / 24) (n % 24) else s
      let s := if course && !r.on then dropCourseCapture s (n / 24) (n % 24) else s
      let s := if course && r.on then courseWake s (n / 24) (n % 24) else s
      let s := if 108 ≤ n then (if r.on then footingWake s (n - 108) else endCommands s (n - 108) Rsn.ABORTED 0x7B) else s
      let s := if n < 96 then recount s (n / 24) else s
      .next (homesChanged s)
  | _, _ => .next s

/-- The sequencer's transition of a domain ends: its request completes. -/
def transEnd (s : State) (n : Nat) : State :=
  let q := seqOf n
  let x := tget seqDef s.seqs q
  match x.cur with
  | some r =>
    if r.dom = n then
      let s := s.withSeqs (tset seqDef s.seqs q { x with cur := none })
      pwrDone (if r.dom < 96 then recount (homesChanged s) (r.dom / 24) else homesChanged s) r 0 0
    else s
  | none => s

/-- DOMAIN_WAKE_DONE: a WAKING domain is ON. A Course's cleared Blocks return to ALLOC or SPARE in the same cycle, their
scratchpads zeroed (03 R102 steps 3-5); a joint whose ENABLE is 1 trains (12 R304). -/
def execDomainWakeDone (dom : Fin 120) (s : State) : Out :=
  let n := dom.val
  if pd s n ≠ 1 then .next s
  else
    let s := if n < 96 ∧ n % 24 < 16 then
        (List.range 18).foldl (fun s i =>
          let b := (n % 24) * 18 + i
          if blkState s (n / 24) b = 4 ∧ tget natDef s.btest (n / 24 * 288 + b) = 0 then
            fset (zeroSpad s (n / 24) b) (Reg.BLK_STATE (n / 24) b) 0 3 (mapState s (n / 24) b)
          else s) s
      else if n < 96 ∧ 20 ≤ n % 24 ∧ bit s (Reg.BND_CTRL (n / 24) (n % 24 - 20)) 0 then
        fset s (Reg.BND_STATUS (n / 24) (n % 24 - 20)) 0 3 1
      else s
    .next (transEnd (setPd s n 2) n)

/-- DOMAIN_OFF_DONE: a QUIESCING domain is OFF; a Footing's stack loses its contents (01 R41), and a FAULTED one is recorded with POISON
0x4A (16 R405); a joint's end is OFF (12 R304). -/
def execDomainOffDone (dom : Fin 120) (s : State) : Out :=
  let n := dom.val
  if pd s n ≠ 3 then .next s
  else
    let s := if n < 96 ∧ 20 ≤ n % 24 then fset s (Reg.BND_STATUS (n / 24) (n % 24 - 20)) 0 8 0
      else if n < 108 then s
      else if stackFaulted s (n - 108) then
        note (stackOff s (n - 108)) ((n - 108) / 3) Rsn.POISON 0x4A 3 (n - 108) []
      else stackOff s (n - 108)
    .next (transEnd (setPd s n 0) n)

end Sys2Proof.Machine
end

