-- ==== Sys2Proof/Machine/Coh.lean ====
section
/-! DEFINITION. Coherence (11 R275-R298): requests at the homes, snoops and write-backs, the directory, atomics and their predictor, the
loss of agents, and SCOPE.G. A request is served at once when no other agent must be asked; else it stands as a transaction until the last
response. -/

namespace Sys2Proof.Machine

/-! ### Homes -/

/-- A line of the one physical space: striped addresses converted before the lookup (11 R275). -/
def canonLine (s : State) (l : Nat) : Nat := home s (l * 128) / 128
/-- A line that has a home. -/
def homed (s : State) (l : Nat) : Bool :=
  match place s (l * 128) with
  | .ddr a => decide (a + 128 ≤ ddrSize s)
  | .hbm h o => decide (o + 128 ≤ stackSize s h)
  | _ => false
/-- What refuses a request for a line outside the populated parts: the home of its stack, any HBM home past the striped view, any DDR5 home
past the DDR5 range (06 R155, R157, R169). -/
def rangeCode (s : State) (h l : Nat) : Option Nat :=
  match place s (l * 128) with
  | .ddr a => if 12 ≤ h ∧ ddrSize s < a + 128 then some 12 else none
  | .hbm g o => if g = h ∧ stackSize s g < o + 128 then some 11 else none
  | .beyond => if h < 12 then some 11 else none
  | _ => none

/-- The directory entry of a line. -/
def dirOf (s : State) (l : Nat) : Option DirEnt := s.dir.find? (fun e => e.line == l)
/-- An entry written: a new one is the youngest; one without holders leaves. -/
def setDirEnt (s : State) (e : DirEnt) : State :=
  let d := if s.dir.any (fun x => x.line == e.line) then s.dir.map (fun x => if x.line = e.line then e else x) else s.dir ++ [e]
  dirUse (s.withDir (d.filter (fun x => x.line ≠ e.line || x.excl ≠ 0 || !x.pres.isEmpty))) e.home
/-- A line UNCACHED. -/
def dropDir (s : State) (h l : Nat) : State := dirUse (s.withDir (s.dir.filter (fun x => x.line ≠ l))) h
/-- An agent's copy. -/
def copyOf (s : State) (a l : Nat) : Option Copy := s.copies.find? (fun c => c.agent == a && c.line == l)
/-- An agent's copy gone. -/
def dropCopy (s : State) (a l : Nat) : State := s.withCopies (s.copies.filter (fun c => ¬ (c.agent = a ∧ c.line = l)))
/-- Lines a Bay cache holds: 4 MiB (11 R277). -/
def bayLines : Nat := 32768
/-- An agent's copy. A full Bay cache drops its oldest line, as an agent may drop a copy in S without a message (11 R278). -/
def putCopy (s : State) (c : Copy) : State :=
  let cs := (dropCopy s c.agent c.line).copies
  let full := decide (28 ≤ c.agent) && decide (bayLines ≤ (cs.filter (fun x => x.agent == c.agent)).length)
  (s.withCopies ((if full then cs.eraseP (fun x => x.agent == c.agent) else cs) ++ [c]))
/-- A line in memory. -/
def lineMem (s : State) (l : Nat) : List Byte := rdBytes s.mem (l * 128) 128
/-- A line written back to memory; poison stays with its units. -/
def lineBack (s : State) (l : Nat) (d : List Byte) : State := s.withMem (wrBytes s.mem (l * 128) d)

/-! ### Answers (12 R316) -/

/-- A message to a requester, kept with its transaction number (numbers of 4,096 on are the model's own and are not kept). `fwd` is the
owner that sends the data straight to the requester (11 R284). A PCIe AtomicOp's completion goes out with it: Completer Abort for POISON
(log entry 42). -/
def answer (s : State) (r : Req) (code : Nat) (data : List Byte) (fwd : Option Nat) : State :=
  let now := ctl s (homeUnit r.home)
  let s := if r.tn < 4096 then s.withAnswers (s.answers.filter (fun x => decide (now ≤ x.time + 4096) &&
      !(x.home == r.home && x.a == r.a && x.tn == r.tn)) ++ [⟨r.home, r.a, r.tn, now, code, r.line, data⟩]) else s
  let s := cohMsg s code r.line (match fwd with | some o => 64 + o | none => r.home) r.a data
  if r.pcie then emit s .pcie [r.a - 48, if code = 6 then 2 else 0] data else s

/-- Some unit of a line carries a poison mark, or its stack is FAULTED. -/
def linePoisoned (s : State) (l : Nat) : Bool :=
  s.poison.any (fun u => u / 128 == l) || (decide (0x100000000000 ≤ l * 128) && stackFaulted s (lineHome s l))

/-- Data of the line to a requester: POISON with 0xC2 when one of its units is poisoned (11 R276, R298). -/
def answerData (s : State) (r : Req) (d : List Byte) (fwd : Option Nat) : State :=
  if linePoisoned s r.line then answer s r 6 [] none else answer s r 7 d fwd

/-! ### Atomics (11 R287-R289) -/

/-- Index of the predictor counter of a physical address. -/
def predKey (a pa : Nat) : Nat := a * 256 + ((pa / 128) ^^^ (pa / 32768)) % 256
/-- A predictor counter moved, saturating at 0 and 3. -/
def predMove (s : State) (a pa : Nat) (up down : Bool) : State :=
  let k := predKey a pa
  let v := tget predDef s.pred k
  (s.withPred (tset predDef s.pred k (if up then min 3 (v + 1) else if down then v - 1 else v)))
/-- An atomic of an agent counted in COH_ATOM_COUNT: bit 0 near, bit 16 far. -/
def atomCount (s : State) (a lo : Nat) : State := if a < 28 then wrapAdd s (Reg.COH_ATOM_COUNT (agentUnit a)) lo 16 1 else s

/-- An atomic's operand lies in a poisoned unit of a stored line. -/
def operandPoisoned (s : State) (r : Req) : Bool :=
  s.poison.any (fun u => decide (u < r.line * 128 + r.off + r.size ∧ r.line * 128 + r.off < u + 32)) ||
  (decide (0x100000000000 ≤ r.line * 128) && stackFaulted s (lineHome s r.line))

/-- An atomic performed in the requester's cache, on the line it holds with this data: the line is left in M and the old value answered; a
poisoned unit answers POISON and is not written (log entry 40). -/
def atomFar (s : State) (r : Req) (d : List Byte) : State :=
  let s := atomCount s r.a 16
  if operandPoisoned s r then cohMsg s 6 r.line r.home r.a []
  else cohMsg (putCopy s ⟨r.a, r.line, 3, r.after false d⟩) 9 r.line (64 + r.a) r.a (leBytes r.size (r.old d))

/-! ### Transactions (11 R284) -/

/-- The snoops a request needs: code, agents (11 R284). ATOM_HOME recalls the requester's own copy too; a request already performed needs
none. -/
def snoopsOf (s : State) (r : Req) : Nat × List Nat :=
  match dirOf s r.line with
  | none => (0, [])
  | some e =>
    let others := (if e.excl = 0 then e.pres else [e.excl - 1]).filter (fun a => a ≠ r.a || r.kind == 7)
    if r.done.isSome then (0, [])
    else if e.excl = 0 then
      (if r.kind = 0 ∨ r.kind = 3 ∨ r.kind = 4 then (0, []) else (2, others))
    else (if r.kind = 0 then 0 else if r.kind = 3 then 3 else if r.kind = 4 then 4 else if r.kind = 5 then 2 else 1, others)

/-- A line written at its home by a request: the units it covers lose their poison (11 R286); stored errors of the line are written anew. -/
def putLine (s : State) (r : Req) : State :=
  let a := r.line * 128
  (lineBack s r.line (r.after false (lineMem s r.line))
      |>.withPoison (s.poison.filter (fun u => ¬ (u / 128 = r.line ∧ r.covers (u % 128 / 32) = true)))
      |>.withFlips (if r.kind = 5 then clearFlips s.flips a 128 else s.flips))

/-- The predictor after a near atomic (11 R289), and its count. -/
def nearDone (s : State) (r : Req) (took : Bool) : State :=
  let s := atomCount s r.a 0
  if r.a < 28 then predMove s r.a (r.line * 128 + r.off) took (!took) else s

/-- The end of a request at its home: `dat` modified data an owner gave up, `took` whether another agent's copy was found, `fwd` the owner
that sends the data straight to the requester (11 R284, R288, R289). No grant goes to an agent marked dead (R290). A request whose effect was
taken before a later access answers what it found then, and holds nothing. -/
def finishReq (s : State) (r : Req) (dat : Option (List Byte)) (took : Bool) (fwd : Option Nat) : State :=
  let gone := isDead s r.home r.a
  match r.done with
  | some (code, data) =>
    let s := dropDir s r.home r.line
    let pa := r.line * 128 + r.off
    if r.kind = 8 then cohMsg (predMove (atomCount s r.a 16) r.a pa took false) code r.line (64 + r.a) r.a data
    else
      let s := if r.kind = 7 then nearDone s r took else s
      if gone then s else answer s r code data none
  | none =>
    let s := match dat with
      | some d => if r.kind = 5 then s else if (r.kind = 1 ∨ r.kind = 2 ∨ r.kind = 8 ∨ r.kind = 3) ∧ !gone then s else lineBack s r.line d
      | none => s
    let d := dat.getD (lineMem s r.line)
    if r.kind = 0 then
      let old := match dirOf s r.line with | some e => if e.excl = 0 then e.pres else (if took then [e.excl - 1] else []) | none => []
      let old := if gone then old else kins r.a old
      let s := setDirEnt s ⟨r.home, r.line, 0, old⟩
      if gone then s else answerData (putCopy s ⟨r.a, r.line, 1, d⟩) r d fwd
    else if r.kind = 1 ∨ r.kind = 2 ∨ r.kind = 8 then
      if gone then dropDir s r.home r.line
      else
        let held := r.kind == 2 && (copyOf s r.a r.line).isSome
        let s := setDirEnt s ⟨r.home, r.line, r.a + 1, []⟩
        let s := putCopy s ⟨r.a, r.line, if dat.isSome then 3 else 2, d⟩
        if r.kind = 8 then
          predMove (atomFar s r d) r.a (r.line * 128 + r.off) took false
        else if held then answer s r 7 [] none else answerData s r d fwd
    else if r.kind = 3 ∨ r.kind = 4 then answerData s r d fwd
    else if r.kind = 5 then
      answer (dropDir (putLine (s.withCopies (s.copies.filter (fun c => c.line ≠ r.line))) r) r.home r.line) r 8 [] none
    else if r.kind = 6 then answer (putLine (dropDir s r.home r.line) r) r 8 [] none
    else
      let s := nearDone (dropDir s r.home r.line) r took
      if operandPoisoned s r then answer s r 6 [] none
      else
        let old := r.old (lineMem s r.line)
        answer (lineBack s r.line (r.after false (lineMem s r.line))) r 9 (leBytes r.size old) none

/-- A line has a transaction. -/
def lineBusy (s : State) (l : Nat) : Bool := s.txns.any (fun t => t.line == l)
/-- A request waits at its home. -/
def waitReq (s : State) (r : Req) : State := queuedAt (s.withWaitq (s.waitq ++ [r])) r.home
/-- Probes sent for a transaction. -/
def sendProbes (s : State) (t : Txn) : State :=
  t.wait.foldl (fun s a => cohMsg s t.probe t.line t.home a []) (s.withTxns (s.txns ++ [t]))

/-- Entries one directory set holds (11 R278). -/
def dirWays : Nat := 16
/-- Sets of a home's directory: 524,288 entries of an HBM home, 1,048,576 of a DDR5 home (11 R278). -/
def dirSets (h : Nat) : Nat := if h < 12 then 32768 else 65536
/-- Entries of the set a line falls in. -/
def dirSetOf (s : State) (h l : Nat) : List DirEnt :=
  s.dir.filter (fun e => e.home == h && Config.dirSet h e.line % dirSets h == Config.dirSet h l % dirSets h)

/-- A request that needs a new entry in a full set: the oldest entry not BUSY is evicted, counted, and the request waits (11 R279). -/
def evictFor (s : State) (r : Req) : State :=
  let es := dirSetOf s r.home r.line
  let s := waitReq s r
  if es.any (fun e => s.txns.any (fun t => t.line == e.line && t.req.isNone)) then s
  else match es.find? (fun e => !lineBusy s e.line) with
    | none => s
    | some e =>
      let s := wr s (homeReg r.home + 0x10) (rd s (homeReg r.home + 0x10) + 1)
      sendProbes s ⟨r.home, e.line, none, if e.excl = 0 then 2 else 1, if e.excl = 0 then e.pres else [e.excl - 1], none, false, none⟩

/-- The errors a request's read of its line meets (06 R159): that of its operand, and those its units hold. -/
def readLine (s : State) (r : Req) : State :=
  let a := r.line * 128
  let now := if r.ecc = 0 then a + 128 else a + 32 * ((r.ecc - 1) % 4)
  let s := (weakUnits s a 128).foldl (fun s u => if u = now then s else hbmCorrected s ((u - 0x100000000000) / 0x2000000000) u) s
  lineError s a 4 r.ecc

/-- A request begun at a line that is not BUSY: memory errors its read meets, then its snoops or its end. -/
def startReq (s : State) (r : Req) : State :=
  if r.done.isSome then finishReq s r none false none
  else
    let new := (r.kind ≤ 2 ∨ r.kind = 8) && (dirOf s r.line).isNone
    if new && decide (dirWays ≤ (dirSetOf s r.home r.line).length) then evictFor s r
    else
      let s := if r.kind = 5 then s else readLine s r
      let p := snoopsOf s r
      if p.2.isEmpty then finishReq s r none false none else sendProbes s ⟨r.home, r.line, some r, p.1, p.2, none, false, none⟩

/-- A request arrives at a home (06 R170; 11 R280, R290, R292; 12 R316). -/
def atHome (s : State) (r : Req) : State :=
  let now := ctl s (homeUnit r.home)
  if (rangeCode s r.home r.line).isSome then refuseReq s r ((rangeCode s r.home r.line).getD 0)
  else if lineHome s r.line ≠ r.home ∨ !homed s r.line then s
  else if homeAbsent s r.home then refuseReq s r (homeCode s r.home)
  else if isDead s r.home r.a then s
  else
    let s := toHome (touchSkt s (r.line * 128)) 16 r.line r.a r.home []
    let same : Req → Bool := fun q => q.home == r.home && q.a == r.a && q.tn == r.tn && decide (r.tn < 4096)
    match s.answers.find? (fun x => x.home == r.home && x.a == r.a && x.tn == r.tn && decide (now ≤ x.time + 4096 ∧ r.tn < 4096)) with
    | some x => cohMsg s x.code x.line x.home x.a x.data
    | none =>
      if s.waitq.any same || s.txns.any (fun t => t.req.any same) then s
      else if lineBusy s r.line || s.waitq.any (fun q => q.line == r.line) then waitReq s r
      else startReq s r

/-- A request without payload. -/
def plainReq (s : State) (home line a tn kind ecc : Nat) : Req := ⟨home, canonLine s line, a, kind, tn, 0, [], 0, 0, 0, 0, 0, ecc, none⟩
/-- An agent holds a line in E or M: it reads and writes its own copy and asks nobody (11 R278). -/
def owns (s : State) (a line : Nat) : Bool := (copyOf s a (canonLine s line)).any (fun c => decide (2 ≤ c.st))

/-- FETCH_SHARED: a caching agent reads. -/
def execFetchShared (home : Fin 18) (line : Nat) (a : Fin 64) (tn : BitVec 12) (ecc : Fin 9) (s : State) : Out :=
  .next (if a.val < 40 && !owns s a line then atHome s (plainReq s home line a tn.toNat 0 ecc) else s)
/-- FETCH_OWNED: a Bay cache never holds a line in E or M (11 R277). -/
def execFetchOwned (home : Fin 18) (line : Nat) (a : Fin 64) (tn : BitVec 12) (ecc : Fin 9) (s : State) : Out :=
  .next (if a.val < 28 && !owns s a line then atHome s (plainReq s home line a tn.toNat 1 ecc) else s)
/-- OWN_HELD: granted without data while the requester still holds its copy. -/
def execOwnHeld (home : Fin 18) (line : Nat) (a : Fin 64) (tn : BitVec 12) (ecc : Fin 9) (s : State) : Out :=
  .next (if a.val < 28 && !owns s a line then atHome s (plainReq s home line a tn.toNat 2 ecc) else s)
/-- A requester that reaches a home: a Footing reaches that of its own stack only (11 R277). -/
def reaching (h a : Nat) : Bool := decide (a < 50 ∨ a = 50 + h)
/-- A requester that keeps no copies (11 R277). -/
def nonCaching (h a : Nat) : Bool := decide (40 ≤ a ∧ a < 62) && reaching h a
/-- FETCH_COPY: a non-caching requester reads. -/
def execFetchCopy (home : Fin 18) (line : Nat) (a : Fin 64) (tn : BitVec 12) (ecc : Fin 9) (s : State) : Out :=
  .next (if nonCaching home a then atHome s (plainReq s home line a tn.toNat 3 ecc) else s)
/-- FETCH_CLEAN: a privileged reader (11 R285). -/
def execFetchClean (home : Fin 18) (line : Nat) (a : Fin 64) (tn : BitVec 12) (ecc : Fin 9) (s : State) : Out :=
  .next (if a.val < 62 && reaching home a then atHome s (plainReq s home line a tn.toNat 4 ecc) else s)
/-- PUT_LINE: all 128 bytes. -/
def execPutLine (home : Fin 18) (line : Nat) (a : Fin 64) (tn : BitVec 12) (data : List Byte) (s : State) : Out :=
  if data.length ≠ 128 then .refused .illFormed
  else .next (if nonCaching home a then atHome s { plainReq s home line a tn.toNat 5 0 with data := data } else s)
/-- PUT_BYTES: the enabled bytes. -/
def execPutBytes (home : Fin 18) (line : Nat) (a : Fin 64) (tn : BitVec 12) (en : BitVec 128) (data : List Byte) (ecc : Fin 9)
    (s : State) : Out :=
  if data.length ≠ 128 then .refused .illFormed
  else .next (if nonCaching home a then atHome s { plainReq s home line a tn.toNat 6 ecc with data := data, en := en.toNat } else s)

/-- The request of an atomic of `4 * (size + 1)` bytes at a physical address. -/
def atomReq (s : State) (h a pa tn kind op size x y ecc : Nat) : Req :=
  let pa := home s pa
  ⟨h, pa / 128, a, kind, tn, 0, [], pa % 128, op, 4 * (size + 1), x, y, ecc, none⟩

/-- An atomic's operand is aligned and in the ranges of 11 R287. -/
def atomOk (s : State) (pa size : Nat) : Bool := decide (pa % (4 * (size + 1)) = 0) && homed s (pa / 128)

/-- ATOM_HOME: near, at memory. -/
def execAtomHome (home : Fin 18) (addr : Nat) (a : Fin 64) (tn : BitVec 12) (op : Fin 10) (size : Fin 2) (x : W64) (y : W64) (ecc : Fin 9)
    (s : State) : Out :=
  .next (if atomOk s addr size && decide (a.val < 62) && reaching home a then atHome s (atomReq s home a addr tn.toNat 7 op size x.toNat y.toNat ecc)
    else s)

/-- An atomic of a core of agent `a` (11 R287-R289): the core's own exception on a bad target; else near or far. -/
def atomIssue (s : State) (a addr size op x y : Nat) : State :=
  if 28 ≤ a then s
  else if !atomOk s addr size then emit s .accessFault [0] []
  else
    let pa := home s addr
    let h := lineHome s (pa / 128)
    let mode := fget s (Reg.COH_ATOM_CTRL (agentUnit a)) 0 2
    let near := if mode = 0 then decide (2 ≤ tget predDef s.pred (predKey a pa)) else mode == 1
    if near then atHome s (atomReq s h a addr 4096 7 op size x y 0)
    else match copyOf s a (pa / 128) with
      | some c =>
        if 2 ≤ c.st then predMove (atomFar s (atomReq s h a addr 4096 8 op size x y 0) c.data) a pa false true
        else atHome s (atomReq s h a addr 4096 8 op size x y 0)
      | none => atHome s (atomReq s h a addr 4096 8 op size x y 0)

/-- ATOM_ADD. -/
def execAtomAdd (a : Fin 40) (addr : Nat) (size : Fin 2) (x : W64) (s : State) : Out := .next (atomIssue s a addr size 0 x.toNat 0)
/-- ATOM_SMIN. -/
def execAtomSmin (a : Fin 40) (addr : Nat) (size : Fin 2) (x : W64) (s : State) : Out := .next (atomIssue s a addr size 1 x.toNat 0)
/-- ATOM_SMAX. -/
def execAtomSmax (a : Fin 40) (addr : Nat) (size : Fin 2) (x : W64) (s : State) : Out := .next (atomIssue s a addr size 2 x.toNat 0)
/-- ATOM_UMIN. -/
def execAtomUmin (a : Fin 40) (addr : Nat) (size : Fin 2) (x : W64) (s : State) : Out := .next (atomIssue s a addr size 3 x.toNat 0)
/-- ATOM_UMAX. -/
def execAtomUmax (a : Fin 40) (addr : Nat) (size : Fin 2) (x : W64) (s : State) : Out := .next (atomIssue s a addr size 4 x.toNat 0)
/-- ATOM_SWAP. -/
def execAtomSwap (a : Fin 40) (addr : Nat) (size : Fin 2) (x : W64) (s : State) : Out := .next (atomIssue s a addr size 5 x.toNat 0)
/-- ATOM_CAS: operand 2 where the old value equals operand 1. -/
def execAtomCas (a : Fin 40) (addr : Nat) (size : Fin 2) (cmp : W64) (x : W64) (s : State) : Out :=
  .next (atomIssue s a addr size 6 cmp.toNat x.toNat)
/-- ATOM_AND. -/
def execAtomAnd (a : Fin 40) (addr : Nat) (size : Fin 2) (x : W64) (s : State) : Out := .next (atomIssue s a addr size 7 x.toNat 0)
/-- ATOM_OR. -/
def execAtomOr (a : Fin 40) (addr : Nat) (size : Fin 2) (x : W64) (s : State) : Out := .next (atomIssue s a addr size 8 x.toNat 0)
/-- ATOM_XOR. -/
def execAtomXor (a : Fin 40) (addr : Nat) (size : Fin 2) (x : W64) (s : State) : Out := .next (atomIssue s a addr size 9 x.toNat 0)

/-- ATOM_MODE_WRITE (11 R297): 3 is refused with CFG_RANGE 0xC6. -/
def execAtomModeWrite (u : Unit6) (v : W32) (s : State) : Out := viaWin s u fun s =>
  let a := Reg.COH_ATOM_CTRL u
  if getBits v 0 2 = 3 then .next (emit (fset s a 8 8 Rsn.CFG_RANGE) .refusal [Rsn.CFG_RANGE, 0xC6] [])
  else .next (fset (fset s a 0 2 (getBits v 0 2)) a 8 8 0)

/-! ### Snoops -/

/-- An agent has not answered the probe of a transaction. -/
def unanswered (s : State) (a : Nat) (t : Txn) : Bool := t.wait.contains a && !s.resps.any (fun c => c.agent == a && c.line == t.line)
/-- An agent has a snoop of this code outstanding for a line, and it is the oldest that its home sent it: SNP messages of one pair arrive in
the order they were sent (11 R281). -/
def snooped (s : State) (a l code : Nat) : Bool :=
  match s.txns.find? (fun t => t.line == l && t.probe == code && unanswered s a t) with
  | none => false
  | some t => (s.txns.find? (fun u => u.home == t.home && unanswered s a u)) == some t

/-- An agent answers a snoop (11 R284, R296): `keep` the state its copy keeps, 0 for none. A modified copy's data goes along unless it is
wholly overwritten. -/
def snoopAnswer (s : State) (a line code keep : Nat) : State :=
  let l := canonLine s line
  if !snooped s a l code then s
  else
    let reply : Nat → List Byte → Copy := fun st d => ⟨a, l, st, d⟩
    match copyOf s a l with
    | none => toHome (s.withResps (s.resps ++ [reply 0 []])) 17 l a (lineHome s l) []
    | some c =>
      let r := if c.st = 3 ∧ code ≠ 2 then reply 3 c.data else if c.st = 2 ∧ code ≠ 2 then reply 1 c.data else reply 2 []
      let k := if code = 3 then c.st else min c.st keep
      let s := if k = 0 then dropCopy s a l else putCopy s { c with st := k }
      toHome (s.withResps (s.resps ++ [r])) (if r.data.isEmpty then 17 else 18) l a (lineHome s l) r.data

/-- PROBE_SHARE: the owner keeps the line in S. -/
def execProbeShare (a : Fin 40) (line : Nat) (req : Fin 64) (s : State) : Out := let _ := req; .next (snoopAnswer s a line 0 1)
/-- PROBE_YIELD: the owner gives the line up. -/
def execProbeYield (a : Fin 40) (line : Nat) (req : Fin 64) (s : State) : Out := let _ := req; .next (snoopAnswer s a line 1 0)
/-- PROBE_DROP: the copy is dropped. -/
def execProbeDrop (a : Fin 40) (line : Nat) (req : Fin 64) (s : State) : Out := let _ := req; .next (snoopAnswer s a line 2 0)
/-- PROBE_COPY: the owner sends a copy and keeps its state. -/
def execProbeCopy (a : Fin 40) (line : Nat) (req : Fin 64) (s : State) : Out := let _ := req; .next (snoopAnswer s a line 3 3)
/-- PROBE_FLUSH: the owner writes back and keeps the line in E. -/
def execProbeFlush (a : Fin 40) (line : Nat) (req : Fin 64) (s : State) : Out := let _ := req; .next (snoopAnswer s a line 4 2)

/-- A transaction whose last response is in ends (11 R279, R284): an eviction writes back and frees the entry. -/
def closeTxn (s : State) (t : Txn) : State :=
  let s := s.withTxns (s.txns.filter (fun x => x.line ≠ t.line))
  match t.req with
  | some r => finishReq s r t.dat t.took t.fwd
  | none => dropDir (match t.dat with | some d => lineBack s t.line d | none => s) t.home t.line

/-- A transaction with a new value: it ends when nothing is awaited. -/
def putTxn (s : State) (t : Txn) : State :=
  if t.wait.isEmpty then closeTxn s t
  else s.withTxns (s.txns.map (fun x => if x.line = t.line then t else x))

/-- A response that reaches its home is taken into its transaction: an owner's data goes straight to a requester that reads
(11 R284). The requester's own copy is no other agent's. -/
def takeResp (t : Txn) (c : Copy) : Txn :=
  { t with
    wait := t.wait.filter (· ≠ c.agent)
    dat := if c.st = 3 then some c.data else t.dat
    took := t.took || (c.st != 0 && !t.req.any (fun r => r.a == c.agent))
    fwd := if c.data ≠ [] ∧ t.probe ≠ 4 then some c.agent else t.fwd }

/-- An agent's responses in flight to a home, in the order they were sent. -/
def respsOf (s : State) (h a : Nat) : List Copy := s.resps.filter (fun c => c.agent == a && lineHome s c.line == h)

/-- SNOOP_RESPONSE: a response reaches its home, the oldest of its class first (11 R281). -/
def execSnoopResponse (home : Fin 18) (line : Nat) (a : Fin 40) (s : State) : Out :=
  let l := canonLine s line
  match s.txns.find? (fun t => t.home == home.val && t.line == l && t.wait.contains a.val),
      (respsOf s home a).find? (fun c => c.line == l) with
  | some t, some c =>
    if (respsOf s home a).find? (fun x => x.data.isEmpty == c.data.isEmpty) ≠ some c then .next s
    else .next (putTxn (s.withResps (s.resps.filter (fun x => ¬ (x.agent = a.val ∧ x.line = l)))) (takeResp t c))
  | _, _ => .next s

/-- WRITE_BACK (11 R284, R292, R296): an M copy evicted. It crosses a snoop as that snoop's data; at an absent home it is an orphan dropped,
with POISON 0xC5. Behind an earlier DAT message of the agent to that home it has not been sent (11 R281). -/
def execWriteBack (home : Fin 18) (line : Nat) (a : Fin 40) (s : State) : Out :=
  let l := canonLine s line
  if lineHome s l ≠ home.val then .next s
  else match copyOf s a l with
    | some c =>
      if c.st ≠ 3 ∨ (respsOf s home a).any (fun c => !c.data.isEmpty) then .next s
      else
        let s := toHome (dropCopy s a l) 19 l a home c.data
        if homeAbsent s home then .next (orphanDrop s a l)
        else if isDead s home a then .next s
        else match s.txns.find? (fun t => t.line == l && t.wait.contains a.val) with
          | some t => .next (putTxn s { t with dat := some c.data, took := t.took || !t.req.any (fun r => r.a == a.val) })
          | none =>
            let s := lineBack s l c.data
            .next (match dirOf s l with | some e => if e.excl = a.val + 1 then dropDir s home l else s | none => s)
    | none =>
      match s.wbs.find? (fun c => c.line == l) with
      | some c =>
        if homeAbsent s home then .next s
        else .next ((lineBack s l c.data).withWbs (s.wbs.filter (fun x => x ≠ c)))
      | none => .next s

/-- HOME_QUEUE_SERVE (11 R280): the oldest request that waits for a line no longer BUSY. -/
def execHomeQueueServe (home : Fin 18) (line : Nat) (s : State) : Out :=
  let l := canonLine s line
  if lineBusy s l then .next s
  else match s.waitq.find? (fun r => r.home == home.val && r.line == l) with
    | none => .next s
    | some r => .next (startReq (queuedAt (s.withWaitq (s.waitq.erase r)) home) r)

/-! ### Loss of an agent (11 R290) -/

/-- A line reclaimed from a dead owner: poisoned and UNCACHED. -/
def reclaimLine (s : State) (h l : Nat) : State := poisonLine (dropDir s h l) l

/-- DEAD_NOTICE: steps 1-5; the scan's result stands at once. A line whose data the agent wrote back before the notice is not poisoned (R296). -/
def execDeadNotice (home : Fin 18) (a : Fin 40) (s : State) : Out :=
  if homeAbsent s home then .next s
  else
    let h := home.val
    let mine := s.wbs.filter (fun c => c.agent == a.val && lineHome s c.line == h)
    let s := mine.foldl (fun s c => lineBack s c.line c.data) (s.withWbs (s.wbs.filter (fun c => !mine.contains c)))
    let s := fset (setDead s h a 1) (homeReg h) 0 2 2
    let came : Nat → Bool := fun l => s.txns.any (fun t => t.line == l && t.dat.isSome)
    let owned := (s.dir.filter (fun e => e.home == h && e.excl == a.val + 1 && !came e.line)).map (·.line)
    let s := owned.foldl (fun s l => reclaimLine s h l) s
    let s := s.withCopies (s.copies.filter (fun c => ¬ (c.agent = a.val ∧ lineHome s c.line = h)))
        |>.withResps (s.resps.filter (fun c => ¬ (c.agent = a.val ∧ lineHome s c.line = h)))
        |>.withWaitq (s.waitq.filter (fun r => ¬ (r.home = h ∧ r.a = a.val)))
        |>.withDir ((s.dir.map (fun e => if e.home = h then { e with pres := e.pres.filter (· ≠ a.val) } else e)).filter
        (fun e => e.excl ≠ 0 || !e.pres.isEmpty))
    let s := queuedAt (dirUse s h) h
    let s := s.txns.foldl (fun s t => if t.home = h ∧ t.wait.contains a.val then putTxn s { t with wait := t.wait.filter (· ≠ a.val) } else s) s
    .next (s.withReclaims (s.reclaims ++ [(h, a.val, owned.length)]))

/-- RECLAIM_DONE (step 6): COH_RECLAIM, a record POISON 0xC3, and STATE ACTIVE. -/
def execReclaimDone (home : Fin 18) (s : State) : Out :=
  match s.reclaims.find? (fun r => r.1 == home.val) with
  | none => .next s
  | some r =>
    let s := s.withReclaims (s.reclaims.erase r)
    let ra := homeReg home + 12
    let s := fset (fset s ra 0 6 r.2.1) ra 8 24 (holdAt 0xFFFFFF r.2.2)
    let s := note s (homeUnit home) Rsn.POISON 0xC3 12 home (homeData r.2.1 r.2.2 0)
    .next (agentsBack (if s.reclaims.any (fun q => q.1 == home.val) then s else fset s (homeReg home) 0 2 1))

/-! ### Read-ahead and SCOPE.G (11 R291, R294; 15 R364) -/

/-- READAHEAD_PURGE: an engine or port drops the lines of a range and answers. -/
def execReadaheadPurge (e : Fin 10) (line : Nat) (len : Nat) (s : State) : Out :=
  let s := if len = 0 then s else purgeOne s e line ((len - 1) / 128)
  .next (emit s .mgt [10, e, line] [])

/-- SCOPE_G: M lines of the range are written back and kept in E, and every read-ahead buffer is purged; a range outside memory raises a store
access fault and purges nothing; a larger length is illegal (15 R364). The range is a physical one (log entry 41). -/
def execScopeG (a : Fin 40) (addr : Nat) (len : Nat) (s : State) : Out :=
  if 24 ≤ a.val then .next s
  else if 2 ^ 32 < len then .next (emit s .accessFault [2] [])
  else if len = 0 then .next s
  else if !(List.range ((addr % 4096 + len - 1) / 4096 + 1)).all (fun i => homed s ((addr / 4096 + i) * 32)) then .next (emit s .accessFault [0] [])
  else
    let ls := (List.range ((addr % 128 + len - 1) / 128 + 1)).map (fun i => canonLine s (addr / 128 + i))
    let s := ls.foldl (fun s l => match copyOf s a l with
      | some c => if c.st = 3 ∧ fget s (homeReg (lineHome s l)) 0 2 ≠ 0 then putCopy (lineBack s l c.data) { c with st := 2 } else s
      | none => s) s
    let s := (List.range 10).foldl (fun s e => s.withRahead (tset raheadDef s.rahead e ((tget raheadDef s.rahead e).filter (fun x => !ls.contains x)))) s
    .next (emit s .mgt [9, addr, len, agentUnit a] [])

end Sys2Proof.Machine
end

