-- ==== Sys2Proof/Machine/Plan.lean ====
section
/-! DEFINITION. What a plan image says (04 R108-R120): its sections, run and Hod entries, issuer words, the lintels of 05 R136-R139
and their tags, and the parameter slots its descriptors reach. -/

namespace Sys2Proof.Machine

/-! ### Header and sections (04 R109) -/

/-- Offset and entry count of a section: 0 PROG, 1 RUNS, 2 HODS, 3 BINDS. -/
def Plan.sec (p : Plan) (k : Nat) : Nat × Nat := (p.num (0xA0 + 8 * k) 4, p.num (0xA4 + 8 * k) 4)
/-- Courses, Blocks per Course, Bays of the class. -/
def Plan.cls (p : Plan) : Nat × Nat × Nat :=
  let c := p.num 0x0C 4
  (c % 32, c / 32 % 32, c / 1024 % 4)
/-- Number of logical Blocks. -/
def Plan.nBlk (p : Plan) : Nat := p.cls.1 * p.cls.2.1

/-- Logical Bay of a logical Block (04 R111). -/
def Plan.lbay (p : Plan) (l : Nat) : Nat := l % max 1 p.cls.2.1 / max 1 (p.cls.2.1 / max 1 p.cls.2.2)

/-- A program entry (04 R110): offset of its fields. -/
def Plan.prog (p : Plan) (i : Nat) : Nat := (p.sec 0).1 + 48 * i
/-- The program entry of logical Block `l`. -/
def Plan.progOf (p : Plan) (l : Nat) : Nat := p.prog l
/-- Words of the issuer program of logical Block `l`. -/
def Plan.words (p : Plan) (l : Nat) : List Nat :=
  let e := p.progOf l
  let bs := (p.img.drop (p.num (e + 4) 4)).take (p.num (e + 8) 4)
  (List.range (bs.length / 8)).map (fun i => leNat ((bs.drop (8 * i)).take 8))

/-- An endpoint of a run (04 R115): kind 0 logical Block, 1 Bay port; index. -/
abbrev Endp := Nat × Nat
/-- An endpoint word. -/
def endp (w : Nat) : Endp := (w / 16384, w % 16384)

/-- A run (04 R115). -/
structure RunEnt where
  src : Endp
  dst : Nat
  kind : Nat
  share : Nat
  ndst : Nat
  start : Nat
  stop : Nat
  deriving DecidableEq, Repr

/-- Run `i` of a plan. -/
def Plan.run (p : Plan) (i : Nat) : RunEnt :=
  let o := (p.sec 1).1 + 16 * i
  ⟨endp (p.num o 2), p.num (o + 2) 2, p.num (o + 4) 1, p.num (o + 5) 1, p.num (o + 6) 2, p.num (o + 8) 4,
    if p.num (o + 12) 4 = 0 then p.cycles else p.num (o + 12) 4⟩

/-- Entry `k` of the BINDS section, a destination endpoint of two bytes (log entry 24). -/
def Plan.bind (p : Plan) (k : Nat) : Endp := endp (p.num ((p.sec 3).1 + 2 * k) 2)

/-- Destinations of a run. -/
def Plan.dsts (p : Plan) (r : RunEnt) : List Endp :=
  if r.kind = 1 then (List.range r.ndst).map (fun k => p.bind (r.dst + k)) else [endp r.dst]

/-- A Hod descriptor (04 R120). -/
structure HodDesc where
  src : Nat
  dst : Nat
  rowBytes : Nat
  rows : Nat
  sstr : Nat
  dstr : Nat
  run : Nat
  sig : Nat
  flags : Nat
  deriving DecidableEq, Repr

/-- Descriptor `i` of a plan. -/
def Plan.hod (p : Plan) (i : Nat) : HodDesc :=
  let o := (p.sec 2).1 + 48 * i
  ⟨p.num o 8, p.num (o + 8) 8, p.num (o + 16) 4, p.num (o + 20) 4, p.num (o + 24) 4, p.num (o + 28) 4,
    p.num (o + 32) 2, p.num (o + 34) 1, p.num (o + 35) 1⟩

/-- Kind of an operand: 0 local bank, 1 parameter slot, 2 the run's destination Block. -/
def opKind (x : Nat) : Nat := x / 2 ^ 60
/-- Parameter slot of an operand. -/
def opSlot (x : Nat) : Nat := x / 2 ^ 54 % 64
/-- Byte offset of an operand. -/
def opOff (x : Nat) : Nat := if opKind x = 1 then x % 2 ^ 48 else x % 2 ^ 60

/-- ZC64 encode. -/
def HodDesc.enc (h : HodDesc) : Bool := h.flags.testBit 0
/-- ZC64 decode. -/
def HodDesc.dec (h : HodDesc) : Bool := h.flags.testBit 1
/-- Completes on write acknowledgement. -/
def HodDesc.ack (h : HodDesc) : Bool := h.flags.testBit 2
/-- A lintel descriptor (05 R136). -/
def HodDesc.lintel (h : HodDesc) : Bool := h.flags.testBit 3
/-- SIGNAL enabled. -/
def HodDesc.sigOn (h : HodDesc) : Bool := h.sig.testBit 7
/-- Counter signalled. -/
def HodDesc.sigCtr (h : HodDesc) : Nat := h.sig % 16

/-- Worst-case bytes of a compressed row (05 R149). -/
def zcWorst (n : Nat) : Nat := 8 + 9 * n / 8
/-- Bytes a row takes at its source and at its destination, at most. -/
def HodDesc.sideBytes (h : HodDesc) : Nat × Nat :=
  (if h.dec then zcWorst h.rowBytes else h.rowBytes, if h.enc then zcWorst h.rowBytes else h.rowBytes)

/-- Every descriptor of a plan with its index. -/
def Plan.hodList (p : Plan) : List (Nat × HodDesc) := (List.range (p.sec 2).2).map (fun i => (i, p.hod i))

/-! ### Instruction words (04 R118) -/

/-- Bits `lo` to `lo + n - 1` of a word. -/
def wbits (w lo n : Nat) : Nat := w / 2 ^ lo % 2 ^ n
/-- Opcode. -/
def iOp (w : Nat) : Nat := wbits w 58 6
/-- Counter that the operation increments; 15 names none. -/
def iCtr (w : Nat) : Nat := wbits w 54 4

/-- A program issues descriptor `i`. -/
def issues (ws : List Nat) (i : Nat) : Bool := ws.any (fun w => iOp w == 4 && wbits w 0 12 == i)

/-- The logical Block that owns a descriptor: the source Block of its run, else the Block whose program issues it
(04 R120; log entry 23). -/
def Plan.owner (p : Plan) (i : Nat) : Option Nat :=
  let h := p.hod i
  if h.run < (p.sec 1).2 ∧ (p.run h.run).src.1 = 0 then some (p.run h.run).src.2
  else (List.range p.nBlk).find? (fun l => issues (p.words l) i)

/-! ### Lintels (05 R136-R139) -/

/-- The consumer's logical Block of a lintel descriptor. -/
def Plan.consumer (p : Plan) (h : HodDesc) : Nat := (endp (p.run h.run).dst).2

/-- Lintel descriptors that name a logical Block, in ascending order of counter: index and descriptor. -/
def Plan.lintelsInto (p : Plan) (l : Nat) : List (Nat × HodDesc) :=
  sortBy (fun a b => decide (a.2.sigCtr ≤ b.2.sigCtr)) (p.hodList.filter (fun x => x.2.lintel && p.consumer x.2 == l))

/-- First tag of each lintel into a Block, in that order: (descriptor index, first tag). -/
def tagStarts (depth : Nat) : Nat → List (Nat × HodDesc) → List (Nat × Nat)
  | _, [] => []
  | t, x :: xs => (x.1, t) :: tagStarts depth (t + depth * x.2.rows) xs

/-- The lintel, slot and row that own a tag of a Block (05 R139): descriptor index, slot, row. -/
def Plan.tagOwner (p : Plan) (l tag : Nat) : Option (Nat × Nat × Nat) :=
  let ls := p.lintelsInto l
  (tagStarts p.depth 0 ls).findSome? (fun x =>
    let h := p.hod x.1
    if x.2 ≤ tag ∧ tag < x.2 + p.depth * h.rows then
      some (x.1, (tag - x.2) / max 1 h.rows, (tag - x.2) % max 1 h.rows) else none)

/-- The first tag of a lintel in its consumer. -/
def Plan.firstTag (p : Plan) (i : Nat) : Nat :=
  ((tagStarts p.depth 0 (p.lintelsInto (p.consumer (p.hod i)))).find? (fun x => x.1 == i)).elim 0 (·.2)

/-- The logical Block placed on a physical Block, with its context. -/
def Plan.at (p : Plan) (n : Nat) : Option (Nat × Nat) :=
  (p.place.zipIdx.find? (fun x => x.1.1 == n)).map (fun x => (x.2, x.1.2))

/-- Physical Block and context of a logical Block. -/
def Plan.phys (p : Plan) (l : Nat) : Nat × Nat := p.place.getD l (0, 0)

/-! ### Parameter slots (10 R261) -/

/-- The bytes of slot `k` that one operand reaches: (lowest offset, end). -/
def reach (x rows stride bytes : Nat) : Nat × Nat := (opOff x, opOff x + (rows - 1) * stride + bytes)

/-- What the descriptors of a plan reach through a slot: lowest offset, end and rights (1 read, 3 written). -/
def Plan.slotReach (p : Plan) (k : Nat) : Option (Nat × Nat × Nat) :=
  let xs := p.hodList.flatMap (fun x =>
    let h := x.2
    (if opKind h.src = 1 ∧ opSlot h.src = k then [(reach h.src h.rows h.sstr h.sideBytes.1, 1)] else []) ++
    (if opKind h.dst = 1 ∧ opSlot h.dst = k then [(reach h.dst h.rows h.dstr h.sideBytes.2, 3)] else []))
  match xs with
  | [] => none
  | y :: ys => some (ys.foldl (fun a b => (min a.1 b.1.1, max a.2.1 b.1.2, a.2.2 ||| b.2)) (y.1.1, y.1.2, y.2))

/-- Address bound to a slot: BINDINGS entries are 16 bytes, address then Scree key (09 R234). -/
def slotAddr (it : Item) (k : Nat) : Nat := leNat ((it.param.drop (16 * k)).take 8)
/-- Scree key bound to a slot. -/
def slotKey (it : Item) (k : Nat) : Nat := leNat ((it.param.drop (16 * k + 8)).take 8)

/-! ### ZC64 (05 R148-R150) -/

/-- The record of one 64-byte group. -/
def zcGroup (g : List Byte) : List Byte :=
  let nz := g.filter (· ≠ 0)
  let mask := ((g.zipIdx).map (fun p => if p.1 = 0 then 0 else 2 ^ p.2)).sum
  leBytes 8 mask ++ nz ++ List.replicate (roundUp nz.length 8 - nz.length) 0

/-- A row encoded: header and records. -/
def zcEncode (row : List Byte) : List Byte :=
  let rs := (List.range (row.length / 64)).flatMap (fun i => zcGroup ((row.drop (64 * i)).take 64))
  leBytes 4 rs.length ++ List.replicate 4 0 ++ rs

/-- A group's bytes put back under its mask: byte `i` on. -/
def zcSpread (mask : Nat) : Nat → Nat → List Byte → List Byte
  | 0, _, _ => []
  | n + 1, i, bs =>
    if mask.testBit i then bs.headD 0 :: zcSpread mask n (i + 1) (bs.drop 1) else 0 :: zcSpread mask n (i + 1) bs

/-- Records of `n` groups decoded: the bytes, or none when they do not sum to the length or a padding byte is not zero. A
non-zero byte stored as 0x00 decodes as it stands. -/
def zcGroups : Nat → List Byte → Option (List Byte)
  | 0, bs => if bs.isEmpty then some [] else none
  | n + 1, bs =>
    if bs.length < 8 then none
    else
      let mask := leNat (bs.take 8)
      let k := ((List.range 64).filter mask.testBit).length
      let len := roundUp k 8
      let body := bs.drop 8
      if body.length < len then none
      else if ((body.take len).drop k).any (· ≠ 0) then none
      else (zcGroups n (body.drop len)).map (zcSpread mask 64 0 (body.take k) ++ ·)

/-- A compressed row checked and decoded to `n` bytes (05 R150). -/
def zcDecode (bs : List Byte) (n : Nat) : Option (List Byte) :=
  let l := leNat (bs.take 4)
  if zcWorst n < 8 + l ∨ leNat ((bs.drop 4).take 4) ≠ 0 then none else zcGroups (n / 64) ((bs.drop 8).take l)

end Sys2Proof.Machine
end

