-- ==== Sys2Proof/Machine/Regw.lean ====
section
/-! DEFINITION. Plain register accesses (00 R13-R15; 21 R500-R503, R513): a write to fields with no behaviour of their own, and the
latch of a LO and HI pair. -/

namespace Sys2Proof.Machine

/-- One aligned 4-byte write (00 R13, R14): RW bits take the value; RWL bits do while every governing ENABLE is 0; a 1 clears a
W1C bit. Fields with an effect of their own are left to `regStore`; every other bit is untouched. Clearing SAT clears SAT_COUNT
(02 R69), clearing VALID the whole of BLK_VIOL (03 R101), and ALERT_N rises with the last flag of GLB_MOD_EVENTS (20 R487), and entry
numbers start from 0 when GLB_HOLD_BASE is written (15 R377). -/
def regWrite4 (s : State) (a : Nat) (v : W32) : State :=
  let a := canonReg a
  match regAt a with
  | none => s
  | some (u, r, is) =>
    if 8 ≤ u ∧ pd s (dFooting (u - 8)) = 0 then s
    else
      let locked := (govAddrs u r is).any (fun g => bit s g 0)
      let m := BitVec.ofNat 32 (r.rw + (if locked then 0 else r.rwl))
      let c := BitVec.ofNat 32 r.w1c
      let s := wr s a (((rd s a &&& ~~~m) ||| (v &&& m)) &&& ~~~(v &&& c))
      if (r.name == "FTG_FP_FLAGS" || r.name == "BLK_FP_FLAGS_n") && v.getLsbD 5 then fset s a 16 16 0
      else if r.name == "BLK_VIOL" && v.getLsbD 31 then wr s a 0
      else if r.name == "GLB_MOD_EVENTS" && fget s a 0 4 == 0 then fset s Reg.GLB_MOD_STATUS 9 1 0
      else if r.name == "GLB_HOLD_BASE_LO" || r.name == "GLB_HOLD_BASE_HI" then
        (if locked then s else setHoldX s u { holdX s u with seq := 0 })
      else s

/-- A refused access: a core takes an access fault, a PCIe request completes with Unsupported Request (21 R501, R503). -/
def accFault (s : State) (pcie : Bool) : State := emit s .accessFault [if pcie then 1 else 0] []

/-- The live 64-bit value of a LO and HI pair, if the address is its LO register: LDG_PERIOD is computed from the counter
(18 R455), the others are counters of their own. -/
def livePair (s : State) (a : Nat) : Option W64 :=
  match regAt a with
  | some (u, r, _) =>
    if r.name == "LDG_PERIOD_LO" then some (BitVec.ofNat 64 (period s u))
    else if r.name == "GLB_CTL_COUNT_LO" || r.name == "FLT_SEQ_LO" || r.name == "CKP_POINT_STEP_LO" ||
        r.name == "CRS_IDLE_LO_c_k" || r.name == "CRS_IDLE_LO_16_k" then
      some (rdW s a)
    else none
  | none => none

/-- The HI register of a pair whose LO latches it (21 R513). -/
def latchedHi (name : String) : Bool :=
  name == "LDG_PERIOD_HI" || name == "GLB_CTL_COUNT_HI" || name == "FLT_SEQ_HI" || name == "CKP_POINT_STEP_HI" ||
  name == "CRS_IDLE_HI_c_k" || name == "CRS_IDLE_HI_16_k"

/-- One aligned 4-byte read (00 R13, R15; 21 R500, R503, R513): a LO register gives its live value and loads the latch, a HI register of such a
pair gives the latch; while a Footing's domain is OFF only GLB_PD_STATE_LO and FTG_TEMP of its window are served. -/
def regRead (s : State) (a : Nat) : State × W32 :=
  let a := canonReg a
  match regAt a with
  | none => (s, 0)
  | some (u, r, _) =>
    if 8 ≤ u ∧ pd s (dFooting (u - 8)) = 0 ∧ r.name ≠ "GLB_PD_STATE_LO" ∧ r.name ≠ "FTG_TEMP" then (s, 0)
    else match livePair s a with
      | some w => (s.withLatch (tset latchDef s.latch a ((w >>> 32).setWidth 32)), w.setWidth 32)
      | none => (s, if latchedHi r.name then tget latchDef s.latch (a - 4) else rd s a)

/-- Reads of consecutive words. -/
def regReads (s : State) (a : Nat) : Nat → State × List Byte
  | 0 => (s, [])
  | n + 1 =>
    let w := regRead s a
    let r := regReads w.1 (a + 4) n
    (r.1, leBytes 4 w.2.toNat ++ r.2)

/-- The Keystone and offset of an address in a boot store: 4 MiB at 0x0600_0000 of a Keystone's window (19 R466). -/
def bootAt (u o : Nat) : Option (Nat × Nat) :=
  if (u = 4 ∨ u = 5) ∧ 0x06000000 ≤ o ∧ o < 0x06400000 then some (u - 4, o - 0x06000000) else none
/-- Bytes of a boot store: KBOOT as the Plinth loaded it. Only the Plinth writes it. -/
def bootBytes (s : State) (k o n : Nat) : List Byte := (List.range n).map (fun i => Config.imageByte (tget bootDef s.bootStore k) (o + i))

/-- Bytes read from a control window. -/
def winRead (s : State) (u o n : Nat) : State × List Byte :=
  match bootAt u o with
  | some p => (s, bootBytes s p.1 p.2 n)
  | none => regReads s (winBase u + o) (n / 4)

/-- LO_READ_LATCH (21 R513): a read of LO returns bits [31:0] of the live value and loads the pair's one latch with the upper
bits. -/
def execLoReadLatch (a : BitVec 52) (s : State) : Out :=
  match winOf a.toNat with
  | none => .next (accFault s false)
  | some (u, _, _) =>
    if winGone s u then .next (accFault s false)
    else match livePair s a.toNat with
      | some w =>
        let s := s.withLatch (tset latchDef s.latch a.toNat ((w >>> 32).setWidth 32))
        .next (emit s .readValue [a.toNat, (w.setWidth 32).toNat] [])
      | none => .next s

end Sys2Proof.Machine
end

