-- ==== Sys2Proof/Machine/Rings.lean ====
section
/-! DEFINITION. Rings and admission (09 R228-R250, 10 R265-R268): doorbells, the ring enable, and the one path every item takes
from its descriptor to its ACCEPT or REFUSE record. -/

namespace Sys2Proof.Machine

/-! ### Status and doorbells -/

/-- STATE of a ring: 0 DISABLED 1 ACTIVE 2 PAUSED (09 R231). -/
def ringState (s : State) (d r : Nat) : Nat := fget s (Reg.RING_STATUS d r) 0 2
/-- REASON and DETAIL of a ring. -/
def ringCodes (s : State) (d r reason detail : Nat) : State := setRD s (Reg.RING_STATUS d r) 8 reason detail
/-- A ring paused with its codes. -/
def pauseRing (s : State) (d r reason detail : Nat) : State :=
  ringCodes (fset s (Reg.RING_STATUS d r) 0 2 2) d r reason detail

/-- SOURCE of records of kind RING (16 R386). -/
def ringSrc (d r : Nat) : Nat := d + 8 * r
/-- DATA of records of kind RING. -/
def ringData (seq tag opcode : Nat) : List Byte :=
  leBytes 4 seq ++ List.replicate 4 0 ++ leBytes 8 tag ++ leBytes 1 opcode

/-- A write of RING_SQ_TAIL (09 R230): a tail that implies fewer than 0 or more than 2^SQ_LOG2 entries is ignored and recorded;
entries it covers for the first time take their observation time, and entries that it no longer covers lose theirs. -/
def doorbell (s : State) (d r tail : Nat) : State :=
  let e := sqEntries s d r
  let v := tail % (2 * e)
  let now := (v + 2 * e - fget s (Reg.RING_SQ_HEAD d r) 0 17 % (2 * e)) % (2 * e)
  let x := ringX s d r
  if e < now then
    let s := ringCodes s d r Rsn.BAD_DESC 0xA5
    note s d Rsn.BAD_DESC 0xA5 7 (ringSrc d r) (ringData (rd s (Reg.RING_SEQ d r)).toNat 0 0)
  else
    let s := fset s (Reg.RING_SQ_TAIL d r) 0 17 v
    setRingX s d r { x with obs := x.obs.take now ++ List.replicate (now - x.obs.length) (ctl s d) }

/-- RING_DOORBELL. -/
def execRingDoorbell (d : Die) (r : Ring) (tail : BitVec 17) (s : State) : Out := viaWin s d fun s =>
  .next (doorbell s d r tail.toNat)

/-- The two rings of a pair as spans of virtual addresses. -/
def ringSpans (s : State) (d r : Nat) : List (Nat × Nat) :=
  [(sqBase s d r, 64 * sqEntries s d r), (cqBase s d r, 32 * cqEntries s d r)]

/-- Rings of a die with ENABLE 1 (only a ring whose registers differ from reset can be one). -/
def enabledRings (s : State) (d : Nat) : List Nat :=
  s.regs.filterMap (fun e => match regAt e.1 with
    | some (u, r, i :: _) => if u = d ∧ r.name = "RING_CFG" ∧ getBits e.2 0 1 = 1 then some i else none
    | _ => none)

/-- The checks of RING_CFG.ENABLE in the order of 09 R232; ring pairs are numbered over the package (R228). -/
def ringChecks (s : State) (d r : Nat) : Chk :=
  let l : Nat → Bool := fun x => decide (6 ≤ x ∧ x ≤ 16)
  let asid := ringAsid s d r
  let mine := ringSpans s d r
  let meets : List (Nat × Nat) → Bool := fun xs => xs.any (fun x => mine.any (fun y => overlap x.1 x.2 y.1 y.2))
  firstFail [
    (mortarOn s d && !outOf s d, Rsn.STATE, 0x94),
    (l (fget s (Reg.RING_CFG d r) 1 5) && l (fget s (Reg.RING_CFG d r) 6 5), Rsn.CFG_RANGE, 0x90),
    (decide (asid ≠ 0) && bit s (Reg.XLT_CTRL d) 0 && decide (memNat s (asidBase s d + 16 * asid) 1 % 2 = 1),
      Rsn.CFG_MISSING, 0x93),
    (decide (sqBase s d r % 4096 = 0 ∧ cqBase s d r % 4096 = 0), Rsn.CFG_ALIGN, 0x91),
    (!overlap (sqBase s d r) (64 * sqEntries s d r) (cqBase s d r) (32 * cqEntries s d r) &&
      (List.range 4).all (fun p => (enabledRings s p).all (fun q => (p == d && q == r) || ringAsid s p q != asid || !meets (ringSpans s p q))),
      Rsn.CFG_CONFLICT, 0x92)]

/-- RING_ENABLE (09 R232): the RWL fields of the word, the checks, and ACTIVE. -/
def execRingEnable (d : Die) (r : Ring) (v : W32) (s : State) : Out := viaWin s d fun s =>
  let s := rwlIn s (Reg.RING_CFG d r) 0xFFFFFFFE v
  match ringChecks s d r with
  | some (a, b) => .next (ringCodes s d r a b)
  | none =>
    let s := fset s (Reg.RING_CFG d r) 0 1 1
    .next (ringCodes (if ringState s d r = 0 then fset s (Reg.RING_STATUS d r) 0 2 1 else s) d r 0 0)

/-- PARKED of XLT_STATUS follows the parked rings (10 R273). -/
def parkedReg (s : State) (d : Nat) : State :=
  fset s (Reg.XLT_STATUS d) 0 12 ((s.ringx.filter (fun e => e.1 / 2048 == d && e.2.parked)).length)

/-- RING_DISABLE (09 R232): refused with STATE 0x95 while items are outstanding; else unadmitted entries stay in place, a parked
entry is unadmitted again (10 R272), and REASON and DETAIL stand (R231). -/
def execRingDisable (d : Die) (r : Ring) (s : State) : Out := viaWin s d fun s =>
  if fget s (Reg.RING_OUTSTANDING d r) 0 17 ≠ 0 then .next (ringCodes s d r Rsn.STATE 0x95)
  else
    let s := fset (fset s (Reg.RING_CFG d r) 0 1 0) (Reg.RING_STATUS d r) 0 2 0
    .next (parkedReg (setRingX s d r { ringX s d r with parked := false, waits := false, desc := none, denied := false }) d)

/-! ### Fault batches (10 R265-R267) -/

/-- The 32 bytes of a page-fault record. -/
def pfBytes (p : PFRec) : List Byte :=
  leBytes 8 p.va ++ leBytes 2 p.asid ++ leBytes 2 p.ring ++ leBytes 4 p.seq ++ leBytes 1 p.need ++ leBytes 1 p.level ++
  List.replicate 6 0 ++ leBytes 8 p.tag

/-- Batch slots of a die. -/
def fbSlots (s : State) (d : Nat) : Nat := 2 ^ fget s (Reg.XLT_CTRL d) 1 4
/-- Address of the record area of slot `j`. -/
def fbRec (s : State) (d j : Nat) : Nat :=
  fget s (Reg.XLT_FB_REC_LO d) 12 20 * 4096 + fget s (Reg.XLT_FB_REC_HI d) 0 20 * 0x100000000 + 8192 * j
/-- Address of the header of slot `j`. -/
def fbHdr (s : State) (d j : Nat) : Nat :=
  fget s (Reg.XLT_FB_HDR_LO d) 12 20 * 4096 + fget s (Reg.XLT_FB_HDR_HI d) 0 20 * 0x100000000 + 64 * j

/-- XLT_FB_OLDEST follows the unanswered batches. -/
def fbOldest (s : State) (d : Nat) : State :=
  wr s (Reg.XLT_FB_OLDEST d) (match (xunit s d).closed with
    | b :: _ => BitVec.ofNat 32 b.1
    | [] => rd s (Reg.XLT_FB_NEXT d))

/-- The open batch closed (10 R266, R267): records, then header, then an informational record that names BATCH. `cause` 1 FULL
2 IDLE. -/
def closeBatch (s : State) (d cause : Nat) : State :=
  let x := xunit s d
  let n := (rd s (Reg.XLT_FB_NEXT d)).toNat
  let j := n % fbSlots s d
  let s := memWrite s (fbRec s d j) (x.batch.flatMap pfBytes)
  let s := memWrite s (fbHdr s d j) (leBytes 4 n ++ leBytes 2 x.batch.length ++ leBytes 1 cause ++ leBytes 1 0 ++
    leBytes 8 x.opened ++ leBytes 8 (ctl s d) ++ List.replicate 40 0)
  let s := wr s (Reg.XLT_FB_NEXT d) (BitVec.ofNat 32 (n + 1))
  let s := fbOldest (setXunit s d { x with batch := [], opened := 0, closed := x.closed ++ [(n, x.batch)] }) d
  note s d Rsn.XLT_PENDING 0xB0 8 d (List.replicate 18 0 ++ leBytes 4 n)

/-- One page-fault record put into the open batch, unless every slot holds an unanswered one. -/
def putFault (s : State) (d : Nat) (p : PFRec) : State :=
  let x := xunit s d
  if fbSlots s d ≤ x.closed.length then s
  else
    let s := setXunit s d { x with batch := x.batch ++ [p], opened := if x.batch.isEmpty then ctl s d else x.opened }
    if 256 ≤ x.batch.length + 1 then closeBatch s d 1 else s

/-- The front entry of a ring parked (10 R265): its missing pages recorded, the ring PAUSED with XLT_PENDING 0xAD. `desc` is the descriptor
that translation resumes with; none while ring memory itself misses. -/
def park (s : State) (d r tag : Nat) (desc : Option (List Byte)) (miss : List (Nat × Nat × Nat)) : State :=
  let q := (rd s (Reg.RING_SEQ d r)).toNat
  let s := miss.foldl (fun s m => putFault s d ⟨m.1, ringAsid s d r, r, q, m.2.1, m.2.2, tag⟩) s
  let s := pauseRing s d r Rsn.XLT_PENDING 0xAD
  parkedReg (setRingX s d r { ringX s d r with parked := true, desc := desc, denied := false }) d

/-! ### The order of service (09 R244) -/

/-- The front descriptor of a ring: the one kept over a park, or as the admission unit would read it, when its page translates and no byte
of it is poison (09 R514). -/
def peekDesc (s : State) (d r : Nat) : Option (List Byte) :=
  match (ringX s d r).desc with
  | some bs => some bs
  | none =>
    let va := sqBase s d r + 64 * (fget s (Reg.RING_SQ_HEAD d r) 0 17 % sqEntries s d r)
    match (lookup s d 3 (ringAsid s d r) va).1 with
    | .ok e => if poisoned s (e.pa + (va - e.va)) 64 then none else some (memRead s (e.pa + (va - e.va)) 64)
    | _ => none

/-- DCLASS of the front entry; an entry that cannot be read counts as class 0. -/
def frontClass (s : State) (d r : Nat) : Nat := match peekDesc s d r with | some bs => dfld bs 2 1 % 8 | none => 0

/-- A ring's front entry may be served: ACTIVE, an entry waiting, and room for its REFUSE record (09 R238). -/
def canServe (s : State) (d r : Nat) : Bool :=
  ringState s d r == 1 && !(ringX s d r).obs.isEmpty && !(ringX s d r).parked &&
  decide (cqUsed s d r + fget s (Reg.RING_OUTSTANDING d r) 0 17 + 1 ≤ cqEntries s d r)

/-- The ring the admission unit serves next: lowest DCLASS, then ascending ring number after the ring last served (09 R244). A ring whose
front entry was found to wait for room or extents keeps no other waiting. -/
def nextRing (s : State) (d : Nat) : Option Nat :=
  let last := tget natDef s.served d
  let rs := (s.ringx.filter (fun e => e.1 / 2048 == d && canServe s d (e.1 % 2048) && !e.2.waits)).map (fun e =>
    let r := e.1 % 2048
    (frontClass s d r * 2048 + (r + 2047 - last) % 2048, r))
  match rs with
  | [] => none
  | x :: xs => some (xs.foldl (fun a b => if b.1 < a.1 then b else a) x).2

/-- A ring's turn: R244 serves it next, or its front entry waits and is looked at again (log entry 169). -/
def ringTurn (s : State) (d r : Nat) : Bool := nextRing s d == some r || (canServe s d r && (ringX s d r).waits)

/-- Admission runs on a die: in service, its Mortar ON, the module not at L4 (16 R397), its platform share not exhausted (18 R449). -/
def admitting (s : State) (d : Nat) : Bool := !outOf s d && mortarOn s d && !s.modx.l4 && !(ledgerX s d).stalled.contains 19

/-! ### Records of admission -/

/-- The front entry consumed: head, SEQ and observation move on. -/
def consume (s : State) (d r : Nat) : State :=
  let x := ringX s d r
  let s := setRingX s d r { x with obs := x.obs.drop 1, waits := false, desc := none, denied := false }
  let s := fset s (Reg.RING_SQ_HEAD d r) 0 17 ((fget s (Reg.RING_SQ_HEAD d r) 0 17 + 1) % (2 * sqEntries s d r))
  let s := wr s (Reg.RING_SEQ d r) (rd s (Reg.RING_SEQ d r) + 1)
  (s.withServed (tset natDef s.served d r))

/-- The front entry refused (09 R235, R236). -/
def refuseFront (s : State) (d r tag scope reason detail : Nat) : State :=
  let obs := (ringX s d r).obs.headD 0
  consume (putCrec s d r tag (rd s (Reg.RING_SEQ d r)).toNat 2 scope reason detail 0 (ctl s d) obs false) d r

/-- DATA of an XLT record (16 R386). -/
def xltData (pa va asid : Nat) : List Byte := leBytes 8 pa ++ leBytes 8 va ++ leBytes 2 asid

/-- The record of kind RING that a POISON read at admission leaves (09 R514), and the XLT record of a malformed entry
(10 R258), met at a physical and a virtual address. -/
def refusalNote (s : State) (d r tag op reason detail : Nat) (at' : Nat × Nat) : State :=
  if reason = Rsn.POISON then note s d reason detail 7 (ringSrc d r) (ringData (rd s (Reg.RING_SEQ d r)).toNat tag op)
  else if detail = 0xB2 then note s d reason detail 8 d (xltData at'.1 at'.2 (ringAsid s d r))
  else s

/-! ### Descriptors -/

/-- OPCODE. -/
def dOp (desc : List Byte) : Nat := dfld desc 0 1
/-- SCOPE: 0 PACKAGE 1 LOCAL 2 GLOBAL. -/
def dScope (desc : List Byte) : Nat := dfld desc 1 1 / 2 % 4
/-- TAG. -/
def dTag (desc : List Byte) : Nat := dfld desc 8 8
/-- Opcodes the spec defines (09 R234, 13 R335, 14 R345-R357, 17 R413-R429). -/
def definedOp (op : Nat) : Bool := decide (1 ≤ op ∧ op ≤ 8) || decide (0x20 ≤ op ∧ op ≤ 0x2E) || decide (0x30 ≤ op ∧ op ≤ 0x34)
/-- Bytes 0x10-0x3F outside the listed fields (offset, bytes) are zero. -/
def reservedZero (desc : List Byte) (fields : List (Nat × Nat)) : Bool :=
  (List.range 48).all (fun i => desc.getD (i + 16) 0 == 0 || fields.any (fun f => decide (f.1 ≤ i + 16 ∧ i + 16 < f.1 + f.2)))
/-- Width order of scopes LOCAL < PACKAGE < GLOBAL; the encoding 3 of MIN_SCOPE names none and admits none. -/
def scopeRank (x : Nat) : Nat := if x = 1 then 0 else if x = 0 then 1 else x

/-- The checks of 09 R235 in order: `fields` the operand bytes, then the opcode's own privilege, ranges, alignment and handle. -/
def descChecks (s : State) (d r : Nat) (desc : List Byte) (fields : List (Nat × Nat)) (priv range align handle : Bool) : Chk :=
  firstFail [
    (definedOp (dOp desc) && decide (dScope desc ≠ 3) && decide (dfld desc 1 1 < 32 ∧ dfld desc 2 1 < 8 ∧ dfld desc 3 1 = 0) &&
      reservedZero desc fields, Rsn.BAD_DESC, 0x96),
    (!priv || ringPriv s d r, Rsn.RIGHTS, 0x97),
    (decide (scopeRank (fget s (Reg.RING_CFG d r) 11 2) ≤ scopeRank (dScope desc)), Rsn.SCOPE, 0x98),
    (range && (dfld desc 1 1 % 2 == 0 || decide (dfld desc 4 4 ≠ 0)), Rsn.CFG_RANGE, 0x99),
    (align, Rsn.CFG_ALIGN, 0x9A),
    (handle, Rsn.STATE, 0xA2)]

/-! ### What an opcode asks of admission -/

/-- What the rules of an opcode ask for, step by step. -/
inductive Asked where
  /-- Refused with these codes. -/
  | refuse (reason detail : Nat)
  /-- Admission used a byte that returns POISON (09 R514). -/
  | poison
  /-- It waits, and the wait counts as ADMIT. -/
  | wait
  /-- Regions to translate through the caches of these Bays (3: the die's own), and what follows with their extents. -/
  | pages (bays : List Nat) (rs : List Region) (k : State → List Extent → Asked)
  /-- The same for regions whose rule gives a code of its own to a page past the populated part of its stack. -/
  | regions (past : Nat × Nat) (bays : List Nat) (rs : List Region) (k : State → List Extent → Asked)
  /-- The calendar is searched; the accepted item takes its own values. -/
  | ready (w : Want) (f : Item → Item)

/-- What the admission unit decides. -/
inductive Verdict where
  | refuse (s : State) (reason detail : Nat) (at' : Nat × Nat)
  | wait
  | park (s : State) (miss : List (Nat × Nat × Nat))
  | accept (s : State) (w : Want) (f : Item → Item) (ext : List Extent)

/-- Step 4 of 09 R239 for some regions: translated, refused, parked or made to wait for extents (10 R260-R265); then `k`. `past` are the codes of
a page past the populated part of its stack. -/
def pagesVerdict (s : State) (d r : Nat) (ext : List Extent) (past : Nat × Nat) (bays : List Nat) (rs : List Region)
    (k : State → List Extent → Verdict) : Verdict :=
  let t := xlatAll s d (bays.headD 3) (ringAsid s d r) (ringPriv s d r) rs
  let s := (bays.drop 1).foldl (fun s b => (xlatAll s d b (ringAsid s d r) (ringPriv s d r) rs).s) t.s
  match t.bad with
  | some (a, b) => let c := if (a, b) = (Rsn.CFG_RANGE, 0x60) then past else (a, b); .refuse s c.1 c.2 t.met
  | none =>
    if t.miss ≠ [] then .park s t.miss
    else
      let ext := ext ++ t.ext
      if 16384 < ext.length then .refuse s Rsn.CFG_RANGE 0xB5 (0, 0)
      else if 65536 < extUsed s d + ext.length then .wait
      else k s ext

/-- Steps 3 and 4 of 09 R239. -/
def verdict (s : State) (d r : Nat) (ext : List Extent) : Asked → Verdict
  | .refuse a b => .refuse s a b (0, 0)
  | .poison => .refuse s Rsn.POISON 0xC2 (0, 0)
  | .wait => .wait
  | .ready w f => .accept s w f ext
  | .pages bays rs k => pagesVerdict s d r ext (Rsn.CFG_RANGE, 0x60) bays rs (fun s ext => verdict s d r ext (k s ext))
  | .regions past bays rs k => pagesVerdict s d r ext past bays rs (fun s ext => verdict s d r ext (k s ext))

/-- Some byte of a virtual range under extents is poisoned. -/
def extPoisoned (s : State) (es : List Extent) (va n : Nat) : Bool := (extPieces es va n).any (fun p => poisoned s p.1 p.2)

/-- The limit of an item and the detail of a refusal for it alone (09 R242): observation plus DEADLINE, else plus the class's
HORIZON in slots, never past the calendar horizon. -/
def itemLimit (s : State) (d : Nat) (desc : List Byte) (obs : Nat) : Nat × Nat :=
  let cal := ctl s d + 61440 * 8750
  if dfld desc 1 1 % 2 = 1 then
    let l := obs + dfld desc 4 4
    if cal < l then (cal, 0x9C) else (l, 0x9B)
  else (min cal (obs + min 61440 (fget s (Reg.ADM_CLASS d (dfld desc 2 1 % 8)) 0 16) * 8750), 0x9C)

/-- Predicted energy of parts with every scale at 1, by budget and for the quota (18 R445). -/
def predOf (s : State) (d : Nat) (ps : List Part) : List (Nat × Nat) :=
  (budgetsIn ps).flatMap (fun b =>
    let e := budgetAt d b
    let u := partUj s d 1024 b ps 1 1
    [(32 * e.1 + e.2, u), (32 * e.1 + 20, u)])

/-- Step 5 of 09 R239: the search, and the ACCEPT or REFUSE record. -/
def decideItem (s : State) (d r : Nat) (desc : List Byte) (w : Want) (f : Item → Item) (ext : List Extent) : State × Bool :=
  let obs := (ringX s d r).obs.headD 0
  let seq := (rd s (Reg.RING_SEQ d r)).toNat
  let lim := itemLimit s d desc obs
  let t0 := max (ctl s d) w.after
  match searchF s d w lim.1 lim.2 none t0 true 256 with
  | .inr (a, b) => (refuseFront s d r (dTag desc) (dScope desc) a b, true)
  | .inl (t, sh) =>
    if !cqRoom s d r || decide (131072 ≤ (s.items.filter (fun i => i.die == d)).length) then
      (setRingX s d r { ringX s d r with waits := true }, false)
    else
      let moved := match fits s d w.share (w.form s t0) t0 with | some (a, _) => a == Rsn.ENERGY | none => false
      let bound := t + sh.dur + sh.allow
      let it : Item := {
        die := d, ring := r, seq := seq, tag := dTag desc, opcode := dOp desc, flags := dfld desc 1 1
        asid := ringAsid s d r, desc := desc, param := [], obs := obs, start := t, bound := bound, started := false
        uses := dMortar d :: sh.uses, extents := ext, resv := resvOf s d sh t, charges := chargesOf s d sh.parts t sh.dur
        pred := predOf s d sh.parts, late := 0, fate := none, obj := sh.obj, held := false, cflags := 0, caux := 0, jrnl := none
        eMoved := moved, phase := 0 }
      let s := s.withItems (s.items ++ [f it])
      let s := if onFooting it then ftgStatus s (sh.obj / 8) else s
      let s := if 0x30 ≤ dOp desc then ckpCount s d else s
      let s := consume (putCrec s d r (dTag desc) seq 1 (dScope desc) 0 0 0 bound obs false) d r
      let n := fget s (Reg.RING_OUTSTANDING d r) 0 17
      (extReg (fset s (Reg.RING_OUTSTANDING d r) 0 17 (n + 1)) d, true)

/-- Address of the completion entry that the front entry's first record takes. -/
def cqNext (s : State) (d r : Nat) : Nat := cqBase s d r + 32 * (fget s (Reg.RING_CQ_TAIL d r) 0 17 % cqEntries s d r)

/-- A page of ring memory lies in the memory of an absent Keystone (15 R379). -/
def ringAbsent (s : State) (d r : Nat) (va : Nat) : Bool :=
  match (lookup s d 3 (ringAsid s d r) va).1 with
  | .ok e => diverted s d (home s (e.pa + (va - e.va)))
  | _ => false

/-- A region lies in the memory of an absent Keystone, whose item is refused with HOST_ABSENT 0x87 (15 R379). -/
def extAbsent (s : State) (d : Nat) (es : List Extent) : Bool :=
  es.any (fun e => rangeAway s d e.pa e.len)

/-- The state a verdict on the front entry of a ring leaves: a REFUSE record, the wait noted, the ring parked, or the calendar's answer. -/
def settle (s : State) (d r : Nat) (desc : List Byte) : Verdict → State
  | .refuse s a b w => refuseFront (refusalNote s d r (dTag desc) (dOp desc) a b w) d r (dTag desc) (dScope desc) a b
  | .wait => setRingX s d r { ringX s d r with waits := true }
  | .park s miss => park s d r (dTag desc) (some desc) miss
  | .accept s w f ext =>
    if extAbsent s d ext then refuseFront s d r (dTag desc) (dScope desc) Rsn.HOST_ABSENT 0x87
    else (decideItem s d r desc w f ext).1

/-- The front descriptor read from its page (09 R239 step 2): refused when its page or the completion page may not be used (10 R252, R260), when
a read of them returns POISON (R514), or when it names no opcode. -/
def readFront (s : State) (d r : Nat) (e : XEntry) (va : Nat) (cq : XRes) : State ⊕ State × List Byte :=
  let pa := e.pa + (va - e.va)
  let desc := memRead s pa 64
  let cva := cqNext s d r
  let no : Nat → Nat → Nat × Nat → State := fun a b w => refuseFront (refusalNote s d r 0 0 a b w) d r 0 0 a b
  let s' := touchSkt s pa
  match leafCheck s (ringPriv s d r) 1 e pa 64, cq with
  | some (a, b), _ => .inl (no a b (pa, va))
  | none, .bad a b w => .inl (no a b (w, cva))
  | none, .missing _ => .inl s
  | none, .ok x =>
    if poisoned s pa 64 then .inl (no Rsn.POISON 0xC2 (pa, va))
    else match leafCheck s (ringPriv s d r) 3 x (x.pa + (cva - x.va)) 32 with
      | some (a, b) => .inl (refuseFront s' d r (dTag desc) (dScope desc) a b)
      | none =>
        if !definedOp (dOp desc) then .inl (refuseFront s' d r (dTag desc) (dScope desc) Rsn.BAD_DESC 0x96)
        else .inr (s', desc)

/-- The front entry of a ring as the admission unit reads it (09 R239): its descriptor with the state after the read, or after a park the one it
held (R239 step 4; log entry 168); or the state that is left when the ring is not the one R244 serves, or its entry cannot be read. -/
def frontEntry (s : State) (d r : Nat) : State ⊕ State × List Byte :=
  if !admitting s d || !ringTurn s d r then .inl s
  else
    let va := sqBase s d r + 64 * (fget s (Reg.RING_SQ_HEAD d r) 0 17 % sqEntries s d r)
    let cva := cqNext s d r
    if ringAbsent s d r va || ringAbsent s d r cva then .inl (pauseRing s d r Rsn.HOST_ABSENT 0xAC)
    else match (ringX s d r).desc with
      | some desc => .inr (s, desc)
      | none =>
        let t := lookup s d 3 (ringAsid s d r) va
        let c := lookup t.2 d 3 (ringAsid s d r) cva
        match t.1, c.1 with
        | .missing lv, _ => .inl (park t.2 d r 0 none [(va / 4096 * 4096, 9, lv)])
        | _, .missing lv => .inl (park c.2 d r 0 none [(cva / 4096 * 4096, 11, lv)])
        | .bad a b w, _ => .inl (refuseFront (refusalNote t.2 d r 0 0 a b (w, va)) d r 0 0 a b)
        | .ok e, q => readFront c.2 d r e va q

/-- The front entry of a ring admitted, refused, parked or left (09 R239): by the command whose opcode `mine` accepts; an opcode no rule
defines is refused by any. -/
def letIn (s : State) (d r : Nat) (mine : State → List Byte → Bool) (ask : State → List Byte → Asked) : Out :=
  match frontEntry s d r with
  | .inl s => .next s
  | .inr (s, desc) => .next (if mine s desc then settle s d r desc (verdict s d r [] (ask s desc)) else s)

/-! ### Resume (10 R267, R268) -/

/-- FB_BATCH_IDLE_CLOSE (10 R266): 1,050 cycles without a new record close the open batch. -/
def execFbBatchIdleClose (d : Die) (s : State) : Out :=
  .next (if (xunit s d).batch.isEmpty then s else closeBatch s d 2)

/-- A parked ring returns to ACTIVE; the driver's DENY refuses its entry with RIGHTS 0xB4 (10 R268). A ring that is disabled, or whose
front entry is another, is left as it is (R272). -/
def unpark (s : State) (d r : Nat) (deny : Bool) : State :=
  let x := ringX s d r
  if !x.parked then s
  else
    let s := fset (setRingX s d r { x with parked := false }) (Reg.RING_STATUS d r) 0 2 1
    if deny then
      let desc := (peekDesc s d r).getD (List.replicate 64 0)
      refuseFront s d r (dTag desc) (dScope desc) Rsn.RIGHTS 0xB4
    else s

/-- A batch answers the records it holds of a ring's parked entry: the entry leaves parking once no other batch holds one (10 R268). -/
def answered (s : State) (d r : Nat) (deny : Bool) : State :=
  let x := ringX s d r
  let u := xunit s d
  let q := (rd s (Reg.RING_SEQ d r)).toNat
  if (u.batch ++ u.closed.flatMap (·.2)).any (fun p => p.ring == r && p.seq == q) then setRingX s d r { x with denied := x.denied || deny }
  else unpark s d r (x.denied || deny)

/-- Rings parked without a record in any batch: they are walked again when a slot is freed (10 R267). -/
def unparkLoose (s : State) (d : Nat) : State :=
  let x := xunit s d
  let recs := (x.batch ++ x.closed.flatMap (·.2)).map (·.ring)
  s.ringx.foldl (fun (s : State) (e : Nat × RingX) =>
    if e.1 / 2048 == d && e.2.parked && !recs.contains (e.1 % 2048) then unpark s d (e.1 % 2048) false else s) s

/-- FB_RESUME (10 R268): the oldest unanswered batch alone; the RESPONSE bytes are read from its slot; every parked item all of whose
records say RETRY (0) returns to translation. -/
def execFbResume (d : Die) (v : W32) (s : State) : Out := viaWin s d fun s =>
  let x := xunit s d
  match x.closed with
  | [] => .next (emit s .refusal [Rsn.STATE, 0xB7] [])
  | (n, recs) :: rest =>
    if v.toNat ≠ n then .next (emit s .refusal [Rsn.STATE, 0xB7] [])
    else
      let j := n % fbSlots s d
      let resp := recs.zipIdx.map (fun p => (p.1.ring, p.1.seq, memNat s (fbRec s d j + 32 * p.2 + 0x12) 1 != 0))
      let rings := (recs.map (·.ring)).eraseDups
      let s := fbOldest (setXunit s d { x with closed := rest }) d
      let s := rings.foldl (fun s r =>
        let q := (rd s (Reg.RING_SEQ d r)).toNat
        if resp.any (fun p => p.1 == r && p.2.1 == q) then
          answered s d r (resp.any (fun p => p.1 == r && p.2.1 == q && p.2.2)) else s) s
      .next (parkedReg (unparkLoose s d) d)

end Sys2Proof.Machine
end

