-- ==== Sys2Proof/Machine/Route.lean ====
section
/-! DEFINITION. Where bytes travel: the Bond routes (01 R35, 12 R317), the mesh routes and what resident plans hold of them
(04 R116, R117), the resources and energy parts of a path between a die and memory (09 R240, 18 R441), and the accesses an item's
units make to memory, scratchpads and control windows. -/

namespace Sys2Proof.Machine

/-! ### Bond routes -/

/-- Joints of a unit with the unit at the other end (01 R35): J0 to the Keystone, J1 clockwise, J2 counter-clockwise; KA, KB, KX. -/
def joints (u : Nat) : List (Nat × Nat) :=
  if u < 4 then [(0, 4 + u / 2), (1, (u + 1) % 4), (2, (u + 3) % 4)]
  else [(0, 2 * (u - 4)), (1, 2 * (u - 4) + 1), (2, 9 - u)]

/-- Joint `j` of unit `u` carries traffic: ACTIVE at its end, and the unit beyond in service. -/
def jointUp (s : State) (u j v : Nat) : Bool := fget s (Reg.BND_STATUS u j) 0 3 == 4 && !outOf s v

/-- A unit is reached in at most `n` hops. -/
def reaches (s : State) : Nat → Nat → Nat → Bool
  | 0, u, v => u == v
  | n + 1, u, v => u == v || (joints u).any (fun l => jointUp s u l.1 l.2 && reaches s n l.2 v)

/-- The order in which a tie is broken (12 R317): the default route's first joint (01 R35), then J1, J2, J0, or KA, KB, KX. -/
def jointOrder (u v : Nat) : List Nat :=
  if u < 4 then (if 4 ≤ v then [0, 1, 2] else [1, 2, 0])
  else if v < 4 ∧ v / 2 ≠ u - 4 then [2, 0, 1] else [0, 1, 2]

/-- The route of `n` hops from `u` to `v`: the joints crossed, each as (unit, joint). -/
def routeF (s : State) (v : Nat) : Nat → Nat → List (Nat × Nat)
  | _, 0 => []
  | u, n + 1 =>
    if u = v then []
    else
      let next := (jointOrder u v).findSome? (fun j =>
        ((joints u).find? (fun l => l.1 == j)).bind (fun l => if jointUp s u j l.2 && reaches s n l.2 v then some l else none))
      match next with
      | some l => (u, l.1) :: routeF s v l.2 n
      | none => []

/-- The route a message takes: fewest hops over ACTIVE joints; none when the destination is not reached. -/
def route (s : State) (u v : Nat) : Option (List (Nat × Nat)) :=
  ((List.range 6).find? (fun n => reaches s n u v)).map (fun n => routeF s v u n)

/-! ### Mesh routes (04 R116, R117) -/

/-- A node of a die's mesh: Course (16 for a Bay port above C00) and column. -/
abbrev Node := Nat × Nat

/-- Number of the mesh link that leaves a node: 0 east 1 west 2 south 3 north; 4 and 5 a Bay port's inward and outward link. -/
def meshLink (c x dir : Nat) : Nat := (c * 18 + x) * 6 + dir

/-- Steps along a row from column `x` to column `y`. -/
def rowLinks (c x y : Nat) : List Nat :=
  if x ≤ y then (List.range (y - x)).map (fun i => meshLink c (x + i) 0) else (List.range (x - y)).map (fun i => meshLink c (x - i) 1)
/-- Steps along a column from Course `c` to Course `e`. -/
def colLinks (x c e : Nat) : List Nat :=
  if c ≤ e then (List.range (e - c)).map (fun i => meshLink (c + i) x 2) else (List.range (c - e)).map (fun i => meshLink (c - i) x 3)

/-- Links of the route from a node to a node: the source's row, then the destination's column; a Bay port enters and leaves at C00
of its column. -/
def meshRoute (a b : Node) : List Nat :=
  let ca := if a.1 = 16 then 0 else a.1
  let cb := if b.1 = 16 then 0 else b.1
  (if a.1 = 16 then [meshLink 0 a.2 4] else []) ++ rowLinks ca a.2 b.2 ++ colLinks b.2 ca cb ++
  (if b.1 = 16 then [meshLink 0 b.2 5] else [])

/-- Mesh node of a logical Block of a placed plan. -/
def Plan.node (p : Plan) (l : Nat) : Node := ((p.phys l).1 / 18, (p.phys l).1 % 18)
/-- Column at which traffic of a Block in column `x` leaves through the port of physical Bay `b`: its own in its own Bay. -/
def portCol (b x : Nat) : Nat := if x / 6 = b then x else 6 * b + x % 6

/-- Links from one endpoint of a placed plan to another: a logical Block, or a logical Bay's port, which traffic leaves at C00 of its
destination's column (04 R114, R116; log entry 30). -/
def Plan.links (p : Plan) (a b : Endp) : List Nat :=
  let bay : Nat → Nat := fun i => p.bays.getD i 0
  if a.1 = 0 then
    let n := p.node a.2
    if b.1 = 0 then meshRoute n (p.node b.2) else meshRoute n (16, portCol (bay b.2) n.2)
  else if b.1 = 0 then meshRoute (16, (p.node b.2).2) (p.node b.2)
  else meshRoute (16, 6 * bay a.2) (16, 6 * bay b.2)

/-- Links of a run: the union of the routes to its destinations. -/
def Plan.runLinks (p : Plan) (r : RunEnt) : List Nat := ((p.dsts r).flatMap (p.links r.src)).eraseDups

/-- The most that a plan's runs hold of a link at any cycle of a run (04 R117). -/
def Plan.peak (p : Plan) (l : Nat) : Nat :=
  let rs := ((List.range (p.sec 1).2).map p.run).filter (fun r => (p.runLinks r).contains l)
  (rs.map (fun a => ((rs.filter (fun r => decide (r.start ≤ a.start ∧ a.start < r.stop))).map (fun r => 16 * r.share)).sum)).foldl max 0

/-- What the runs of the plans resident on a die hold of a mesh link at most, in bytes per cycle (04 R117; 09 R240 row 5). A run may begin at
any cycle, so the peaks of different plans are added (DESIGN CHOICE, log entry 163). -/
def planShare (s : State) (d : Nat) (l : Nat) : Nat := ((s.plans.filter (fun p => p.die == d)).map (fun p => p.peak l)).sum

/-- Share function by resource code. -/
def meshShare (s : State) (r : Nat) : Nat := if 10000 ≤ r then planShare s ((r - 10000) / 4096) ((r - 10000) % 4096) else 0

/-- Stack `h`'s Bay port in the column nearest `x` (04 R114: each Bay has one port link in each of its six columns). -/
def stackNode (h x : Nat) : Node := (16, 6 * (h % 3) + x % 6)
/-- Node at which joint `j` meets the mesh for traffic of a Block: J1 at the east end of its row, J2 at the south end of its column,
J0 at the north edge east of the third interface (01 R22, 04 R114; DEDUCED, log entry 30). -/
def jointNode (j : Nat) (n : Node) : Node := if j = 0 then (0, 17) else if j = 1 then (n.1 % 16, 17) else (15, n.2)

/-! ### Homes a range touches -/

/-- What a physical byte lies on: 0-11 stack, 20 + socket, 30 + unit for a window of that unit, 1000 + 288 * die + Block for a scratchpad. -/
def siteOf (s : State) (a : Nat) : Nat :=
  match place s a with
  | .hbm h _ => h
  | .ddr x => 20 + socketOf s x
  | .spad d b _ _ => 1000 + 288 * d + b
  | .ctrl u _ => 30 + (if u < 8 then u else (u - 8) / 3)
  | _ => 30
/-- The unit a site belongs to. -/
def siteUnit (t : Nat) : Nat := if t < 12 then t / 3 else if t < 30 then 4 + (t - 20) / 3 else if t < 1000 then t - 30 else (t - 1000) / 288

/-- Bytes of a range on each site, page by page. -/
def sitesF (s : State) (a n : Nat) : Nat → List (Nat × Nat)
  | 0 => []
  | f + 1 =>
    if n = 0 then []
    else
      let k := if 0x100000000000 ≤ a ∧ a < 0x118000000000 then n else min n (4096 - a % 4096)
      (siteOf s a, k) :: sitesF s (a + k) (n - k) f

/-- Bytes of extents on each site, summed. -/
def sites (s : State) (es : List (Nat × Nat)) : List (Nat × Nat) :=
  let xs := es.flatMap (fun e => sitesF s e.1 e.2 (e.2 / 4096 + 2))
  (xs.map (·.1)).eraseDups.map (fun t => (t, ((xs.filter (fun x => x.1 == t)).map (·.2)).sum))

/-! ### Resources, uses and energy of a path (09 R240 rows 2-7; 18 R441) -/

/-- A path between die `d` and the sites of a range: its Bond hops, and none when a site is not reached (12 R317). -/
structure Path where
  hops : Nat
  res : List (Nat × Nat)
  parts : List Part
  uses : List Nat

/-- Resources rated at `rate`, each once. -/
def rated (rate : Nat) (rs : List Nat) : List (Nat × Nat) := rs.eraseDups.map (fun r => (r, rate))

/-- The unit beyond joint `j` of unit `u`. -/
def beyond (u j : Nat) : Nat := ((joints u).find? (fun l => l.1 == j)).elim u (·.2)
/-- The joint of unit `u` that leads to unit `v`. -/
def jointTo (u v : Nat) : Nat := ((joints u).find? (fun l => l.2 == v)).elim 0 (·.1)
/-- The units a route from `u` passes, each with the joint it is entered and left by. -/
def stops (u : Nat) (inn : Option Nat) : List (Nat × Nat) → List (Nat × Option Nat × Option Nat)
  | [] => [(u, inn, none)]
  | l :: ls => (u, inn, some l.2) :: stops (beyond u l.2) (some (jointTo (beyond u l.2) u)) ls
/-- Mesh node of a site in its own die, for traffic of column `x`. -/
def siteNode (t x : Nat) : Option Node :=
  if t < 12 then some (stackNode t x) else if 1000 ≤ t then some ((t - 1000) % 288 / 18, (t - 1000) % 18) else none
/-- Mesh links that a route holds on the Ashlar dies other than `d` (09 R240 row 5): from joint to joint, and between a joint and the site. -/
def farLinks (d u : Nat) (js : List (Nat × Nat)) (site : Option Node) : List Nat :=
  let n := site.getD (0, 0)
  (stops u none js).flatMap (fun p =>
    let a := match p.2.1 with | some j => some (jointNode j n) | none => site
    let b := match p.2.2 with | some j => some (jointNode j n) | none => site
    match a, b with
    | some a, some b => if p.1 < 4 ∧ p.1 ≠ d then (meshRoute a b).map (resMesh p.1) else []
    | _, _ => [])

/-- The uses a route makes: joints and the domains of dies beyond. -/
def routeUses (rs : List (Nat × Nat)) : List Nat := rs.map (fun j => jointUse j.1 j.2)

/-- The path of one site: `out` for bytes that leave die `d`, `node` the mesh node of the die's end (none for a
network or checkpoint engine, whose place on the mesh the spec does not give: the Bay port's link alone is held, log entry 30), `x` its column. -/
def sitePath (s : State) (d : Nat) (out : Bool) (node : Option Node) (rate : Nat) (t : Nat × Nat) : Option Path :=
  let u := siteUnit t.1
  let r := if u = d then some [] else if out then route s d u else route s u d
  match r with
  | none => none
  | some js =>
    let x := (node.map (·.2)).getD 0
    let at1 : Option Node := match js with
      | [] => siteNode t.1 x
      | j :: _ => some (jointNode (if out then j.2 else jointTo d (js.getLastD j).1) (node.getD (0, 0)))
    let links := match at1, node with
      | some a, some b => (if out then meshRoute b a else meshRoute a b).map (resMesh d)
      | some a, none => if a.1 = 16 then [resMesh d (meshLink 0 a.2 (if out then 5 else 4))] else []
      | none, _ => []
    let far := siteNode t.1 x
    let bay := match far with
      | some n => bayBudget d u (n.2 / 6)
      | none => (at1.map (fun n => 16 + n.2 / 6)).getD 16
    some {
      hops := js.length
      res := rated rate ((if t.1 < 12 then [resHbm t.1, resTot t.1] else []) ++ links ++ farLinks d (if out then d else u) js far ++
        (if 20 ≤ t.1 ∧ t.1 < 30 then [resSock (t.1 - 20)] else []) ++ js.map (fun j => resJoint j.1 j.2 0))
      parts := (if t.1 < 12 then [(bayBudget d u (t.1 % 3), 8, t.2)] else []) ++
        (if 20 ≤ t.1 ∧ t.1 < 30 then [(19, 11, t.2)] else []) ++
        (if js.isEmpty then [] else [(19, 12, t.2 * js.length)]) ++ (if out && node.isSome then [(bay, 7, t.2)] else [])
      uses := (if t.1 < 12 then [dFooting t.1, dBay (t.1 / 3) (t.1 % 3)] else []) ++
        (if 20 ≤ t.1 ∧ t.1 < 30 then [200 + (t.1 - 20)] else []) ++ (if u < 4 then [dMortar u] else []) ++ routeUses js }

/-- The resources of several paths, a resource shared by the sites of one side reserved once. -/
def mergePaths (ps : List Path) : Path :=
  ⟨(ps.map (·.hops)).foldl max 0, (ps.flatMap (·.res)).eraseDups, ps.flatMap (·.parts), (ps.flatMap (·.uses)).eraseDups⟩

/-- The paths of one side; refused when a die is out of service (09 R249) or not reached (12 R317). -/
def sidePath (s : State) (d : Nat) (out : Bool) (node : Option Node) (rate : Nat) (ts : List (Nat × Nat)) : Path ⊕ (Nat × Nat) :=
  if ts.any (fun t => outOf s (siteUnit t.1)) then .inr (Rsn.DIE_ABSENT, 0xAB)
  else if ts.any (fun t => (sitePath s d out node rate t).isNone) then .inr (Rsn.DIE_ABSENT, 0xD5)
  else .inl (mergePaths (ts.filterMap (sitePath s d out node rate)))

/-- Two sides of one transfer: a resource used by both carries both rates. -/
def addRes (a b : List (Nat × Nat)) : List (Nat × Nat) :=
  a.map (fun p => (p.1, p.2 + ((b.filter (fun q => q.1 == p.1)).map (·.2)).sum)) ++ b.filter (fun q => !a.any (fun p => p.1 == q.1))

/-- Resources in the row order of 09 R240. -/
def rowSort (rs : List (Nat × Nat)) : List (Nat × Nat) := sortBy (fun a b => decide (resRow a.1 ≤ resRow b.1)) rs

/-- Repair holds of 06 R161 for the stacks among sites, for a duration in CK_CTL cycles. -/
def holds (ts : List (Nat × Nat)) (dur : Nat) : Nat :=
  ((ts.map (·.1)).filter (· < 12)).eraseDups.length * (65536 * (1 + dur / (64 * 131250)))

/-! ### Accesses an item's units make -/

/-- A 4-byte register write by an item: posted, and taken in order (21 R502; log entry 32). -/
def ctrlStore (s : State) (u o : Nat) (v : W32) : State := s.withRegq (s.regq ++ [(winBase u + o, v)])

/-- 4-byte register writes of consecutive words. -/
def ctrlStores (s : State) (u o : Nat) : List Byte → Nat → State
  | _, 0 => s
  | bs, n + 1 => ctrlStores (ctrlStore s u o (BitVec.ofNat 32 (leNat (bs.take 4)))) u (o + 4) (bs.drop 4) n

/-- The socket of a DDR5 address does not serve while its Keystone is in service (06 R170). -/
def sktOff (s : State) (a : Nat) : Bool := homeCode s (12 + socketOf s a) == 10

/-- One piece read: `pa` and length within one page. The bytes of memory come by the FETCH_COPY that the far bulk port makes of the read
(11 R283), whose effect on the line is a read of its newest data. -/
def pieceRead (s : State) (pa n : Nat) : Touch :=
  match place s pa with
  | .spad d b o _ => outAccess s d b 0 o n []
  | .ctrl u o =>
    if winGone s u then .bad s Rsn.DIE_ABSENT 0xD5
    else let w := winRead s u o n; .ok w.1 w.2 false
  | .ddr a => if sktOff s a then .bad s Rsn.FENCED 0x66 else .ok (touchSkt s a) (memRead s pa n) (poisoned s pa n)
  | .hbm h o => .ok (readErrors s (hbmAddr h o) n) (memRead s pa n) (poisoned s pa n)
  | _ => .ok s (memRead s pa n) (poisoned s pa n)

/-- One piece written by an item's units. In memory it is a PUT_LINE or PUT_BYTES of each line (11 R283, R286). -/
def pieceWrite (s : State) (it : Item) (pa : Nat) (bs : List Byte) : Touch :=
  match place s pa with
  | .spad d b o al => outAccess s d b (al + 1) o bs.length bs
  | .ctrl u o => if winGone s u then .bad s Rsn.DIE_ABSENT 0xD5 else .ok (ctrlStores s u o bs (bs.length / 4)) [] false
  | p =>
    if (match p with | .ddr a => sktOff s a && !diverted s it.die (home s pa) | _ => false) then .bad s Rsn.FENCED 0x66
    else
    let w := devWrite s it.die 1 it.ring it.seq pa bs
    .ok (if w.2 then w.1.withItems (w.1.items.map (fun i =>
      if i.die = it.die ∧ i.ring = it.ring ∧ i.seq = it.seq then { i with held := true } else i)) else w.1) [] false

/-- A virtual range of an item as page pieces. -/
def itemPieces (es : List Extent) (va n : Nat) : List (Nat × Nat) :=
  (extPieces es va n).flatMap (fun p => pagesF p.1 p.2 (p.2 / 4096 + 2))

/-- The unit that holds a physical address, if one does. -/
def unitAt (s : State) (pa : Nat) : Option Nat :=
  match place s pa with
  | .spad d _ _ _ => some d
  | .ctrl u _ => some u
  | .ddr a => some (4 + socketOf s a / 3)
  | .hbm h _ => some (h / 3)
  | _ => none
/-- Bulk bytes between the die of an executing unit and another unit's memory (11 R282 class BLK): `out` for those that leave die `d`. -/
def bulk (s : State) (d pa n : Nat) (out : Bool) : State :=
  match unitAt s pa with
  | some u => if u = d then s else emit s .bulk (if out then [d, u, n] else [u, d, n]) []
  | none => s

/-- A virtual range read by an item. -/
def itemRead (s : State) (it : Item) (va n : Nat) : Touch :=
  (itemPieces it.extents va n).foldl (fun a p => match a with
    | .ok s bs po => match pieceRead s p.1 p.2 with
      | .ok s b2 p2 => .ok (bulk s it.die p.1 p.2 false) (bs ++ b2) (po || p2)
      | .bad s r d => .bad s r d
    | a => a) (.ok s [] false)

/-- A virtual range written by an item. -/
def itemWrite (s : State) (it : Item) (va : Nat) (bs : List Byte) : Touch :=
  match (itemPieces it.extents va bs.length).foldl (fun (a : Touch × List Byte) p => match a.1 with
    | .ok s _ _ => (match pieceWrite s it p.1 (a.2.take p.2) with
        | .ok s b q => .ok (bulk s it.die p.1 p.2 true) b q
        | r => r, a.2.drop p.2)
    | _ => a) (.ok s [] false, bs) with
  | (a, _) => a

/-- Bytes written through an item's extents; a byte that meets an absent Keystone's memory is held (15 R378), and a refused piece ends the
writing. -/
def extWrite (s : State) (it : Item) (va : Nat) (bs : List Byte) : State :=
  match itemWrite s it va bs with
  | .ok s _ _ => s
  | .bad s _ _ => s

end Sys2Proof.Machine
end

