-- ==== Sys2Proof/Machine/Items.lean ====
section
/-! DEFINITION. The plain items (09 R234-R249): MOVE, UNLOAD, ABORT, POWER and FENCE, from their descriptors to what they do when
they complete. -/

namespace Sys2Proof.Machine

/-! ### MOVE -/

/-- Rows from the region `[lo, hi)` on, in ascending order: one whose first page is the last page of those before it or the next one joins
their region, as translation is by whole pages (10 R261, R263). -/
def joinRows (base rb str need : Nat) : List Nat → Nat → Nat → List Region
  | [], lo, hi => [(lo, hi - lo, need)]
  | i :: is, lo, hi =>
    let a := base + i * str
    if a / 4096 ≤ (hi - 1) / 4096 + 1 then joinRows base rb str need is lo (max hi (a + rb))
    else (lo, hi - lo, need) :: joinRows base rb str need is a (a + rb)

/-- Regions of one side: rows that reach the same pages, or pages that follow each other, are one region. -/
def moveRegions (base rb rows str need : Nat) : List Region :=
  if rows = 1 ∨ str ≤ rb + 1 then [(base, (rows - 1) * str + rb, need)]
  else joinRows base rb str need ((List.range (rows - 1)).map (· + 1)) base (base + rb)

/-- Bytes of each site one side moves, row by row. -/
def moveSites (s : State) (es : List Extent) (base rb rows str : Nat) : List (Nat × Nat) :=
  let xs := (List.range rows).flatMap (fun i => sites s (extPieces es (base + i * str) rb))
  (xs.map (·.1)).eraseDups.map (fun t => (t, ((xs.filter (fun x => x.1 == t)).map (·.2)).sum))

/-- The Bay a device-chosen EXEC lies in: that of the source stack, else of the destination stack, when it is one of this die's
stacks; else B0. -/
def moveBay (d : Nat) (src dst : List (Nat × Nat)) : Nat :=
  match src, dst with
  | [(h, _)], _ => if h < 12 ∧ h / 3 = d then h % 3 else
      (match dst with | [(g, _)] => if g < 12 ∧ g / 3 = d then g % 3 else 0 | _ => 0)
  | _, [(g, _)] => if g < 12 ∧ g / 3 = d then g % 3 else 0
  | _, _ => 0

/-- A Block without a reservation in the window. -/
def blockFree (s : State) (d n t dur : Nat) : Bool :=
  (slotsOf s d (resBlock d n) t dur).all (fun k => resUsed s (resBlock d n) k == 0)

/-- The Block whose Hod engine a device-chosen MOVE takes: the lowest ALLOC Block of the Bay free over the window, the lowest ALLOC
Block when none is. -/
def pickExec (s : State) (d bay t dur : Nat) : Nat :=
  let cs := (List.range 288).filter (fun n => n % 18 / 6 == bay && blkState s d n == 0 && (blockRefusal s d n).isNone)
  (cs.find? (fun n => blockFree s d n t dur)).getD (cs.headD (6 * bay))

/-- What a MOVE asks of the calendar. -/
def moveAsk (s : State) (d : Nat) (o : MoveOps) (es : List Extent) : Asked :=
  let a := moveSites s es o.src o.rb o.rows o.sstr
  let b := moveSites s es o.dst o.rb o.rows o.dstr
  let ctrl := es.any (fun e => match place s e.pa with | .ctrl _ _ => true | _ => false)
  let goneWin := es.any (fun e => match place s e.pa with | .ctrl u _ => winGone s u | _ => false)
  if ctrl ∧ ¬ (o.src % 4 = 0 ∧ o.dst % 4 = 0 ∧ o.rb % 4 = 0 ∧ o.sstr % 4 = 0 ∧ o.dstr % 4 = 0) then .refuse Rsn.CFG_ALIGN 0x9A
  else if goneWin then .refuse Rsn.DIE_ABSENT 0xD5
  else match sidePath s d false (some (0, 0)) o.rate a, sidePath s d true (some (0, 0)) o.rate b with
    | .inr c, _ => .refuse c.1 c.2
    | _, .inr c => .refuse c.1 c.2
    | .inl p, .inl q =>
      let arith := ceilDiv (o.rb * o.rows) o.rate + 256 + 128 * (p.hops + q.hops)
      let dur := ceilDiv arith 2
      .ready {
        after := 0
        share := meshShare s
        form := fun s t =>
          let n := if o.exec = 0xFFFF then pickExec s d (moveBay d a b) t dur else o.exec
          let nd : Node := (n / 18, n % 18)
          let get : Path ⊕ (Nat × Nat) → Path := fun x => match x with | .inl p => p | .inr _ => ⟨0, [], [], []⟩
          let p := get (sidePath s d false (some nd) o.rate a)
          let q := get (sidePath s d true (some nd) o.rate b)
          let usable := decide (blkState s d n = 0) && (blockRefusal s d n).isNone
          { dur := dur, allow := 512 + holds (a ++ b) dur
            res := rowSort ([(resBlock d n, if usable then 1 else 2), (resHod d n, o.rate)] ++ addRes p.res q.res)
            parts := [(n / 18, 6, arith)] ++ p.parts ++ q.parts
            uses := dCourse d (n / 18) :: dBay d (n % 18 / 6) :: (p.uses ++ q.uses)
            obj := n } } id

/-- What a MOVE asks of admission. -/
def moveItemAsk (s : State) (d r : Nat) (desc : List Byte) : Asked :=
  let o := moveOps desc
  match descChecks s d r desc [(0x10, 8), (0x18, 8), (0x20, 4), (0x24, 4), (0x28, 4), (0x2C, 4), (0x30, 2), (0x32, 2)] false
    (decide (1 ≤ o.rb ∧ o.rb ≤ 16777216 ∧ 1 ≤ o.rows ∧ o.rows ≤ 65536 ∧ 16 ≤ o.rate ∧ o.rate ≤ 512) &&
      decide (o.exec < 288 ∨ o.exec = 0xFFFF)) (decide (o.rate % 16 = 0)) true with
  | some (a, b) => .refuse a b
  | none =>
    .pages [if o.exec = 0xFFFF then 3 else o.exec % 18 / 6]
      (moveRegions o.src o.rb o.rows o.sstr 1 ++ moveRegions o.dst o.rb o.rows o.dstr 3) (fun s es => moveAsk s d o es)

/-- MOVE (09 R234): opcode 0x01. -/
def execMove (d : Die) (r : Ring) (s : State) : Out :=
  letIn s d r (fun _ desc => dOp desc == 1) (fun s desc => moveItemAsk s d r desc)

/-- Poison written with the bytes it came with: every unit of memory a poisoned row wrote (06 R159). -/
def poisonPieces (s : State) (it : Item) (va n : Nat) : State :=
  (itemPieces it.extents va n).foldl (fun s p => match place s p.1 with
    | .ctrl _ _ => s
    | _ => (List.range (p.2 / 8 + 1)).foldl (fun s i => setPoison s (p.1 + min (8 * i) (p.2 - 1))) s) s

/-- The rows of a MOVE copied in ascending order: poison travels with its row, and codes stop it with the rows before it written. With
FLAGS.CLEAN its source is read through the clean-read port (07 R203; 09 R233; 11 R285). `fx` takes the register writes posted so far (21 R502). -/
def moveCopy (fx : State → State) (s : State) (it : Item) (o : MoveOps) (i : Nat) (po : Bool) : Nat → State × Nat × Nat
  | 0 => if po then (s, Rsn.POISON, 0xC2) else (s, 0, 0)
  | k + 1 =>
    match itemRead (if it.flags.testBit 4 then cleanExt s it.extents (o.src + i * o.sstr) o.rb else s) it (o.src + i * o.sstr) o.rb with
    | .bad s r d => (s, r, d)
    | .ok s bs p =>
      match itemWrite s it (o.dst + i * o.dstr) bs with
      | .bad s r d => (s, r, d)
      | .ok s _ _ => moveCopy fx (fx (if p then poisonPieces s it (o.dst + i * o.dstr) o.rb else s)) it o (i + 1) (po || p) k

/-- A MOVE completes: its bytes are copied and it ends. -/
def moveDone (fx : State → State) (s : State) (it : Item) : State :=
  let o := moveOps it.desc
  let c := moveCopy fx s it o 0 false o.rows
  match findItem c.1 it.die it.ring it.seq with
  | some i => endItem c.1 { i with phase := 1 } c.2.1 c.2.2
  | none => c.1

/-- Virtual ranges an item's units read after admission: the regions of its transfer, the slots of a RUN. Regions that rules confine to a
stack are not listed. -/
def itemReads (it : Item) : List (Nat × Nat) :=
  let f := dfld it.desc
  let o := moveOps it.desc
  match it.opcode with
  | 0x01 => (List.range o.rows).map (fun i => (o.src + i * o.sstr, o.rb))
  | 0x03 => [(f 0x10 8, 16777216), (f 0x18 8, 48)]
  | 0x20 | 0x22 => [(f 0x18 8, f 0x20 4)]
  | 0x26 => [(f 0x18 8, f 0x20 2)]
  | 0x31 => [(f 0x10 8, 4096 * f 0x28 4), (f 0x18 8, 4096 * f 0x28 4)]
  | 0x32 => [(f 0x10 8, 64 + 4616 * dfld it.param 0x18 4), (f 0x18 8, 4096 * dfld it.param 0x18 4)]
  | 0x02 | 0x30 => it.extents.map (fun e => (e.va, e.len))
  | _ => []

/-- Some read of an item meets memory of an absent Keystone and waits (15 R378). -/
def itemWaits (s : State) (it : Item) : Bool := (itemReads it).any (fun r => extAway s it.die it.extents r.1 r.2)

/-! ### Items without resources -/

/-- A want without resources: `dur` 0. -/
def plainWant (after allow obj : Nat) (uses : List Nat) : Want :=
  ⟨after, fun _ _ => ⟨0, allow, [], [], uses, obj⟩, fun _ => 0⟩

/-- What an UNLOAD asks of admission. -/
def unloadAsk (s : State) (d r : Nat) (desc : List Byte) : Asked :=
  let h := dfld desc 0x10 2
  let res := (planOf s d h).isSome
  match descChecks s d r desc [(0x10, 2)] true true true res with
  | some (a, b) => .refuse a b
  | none =>
    if s.items.any (fun i => i.die == d && i.opcode == 2 && i.obj == h) then .refuse Rsn.STATE 0x41
    else .ready (plainWant 0 1024 h []) id

/-- UNLOAD (09 R234, R249; 04 R125): a plan with a run accepted or in progress is refused with STATE 0x41. -/
def execUnload (d : Die) (r : Ring) (s : State) : Out :=
  letIn s d r (fun _ desc => dOp desc == 4) (fun s desc => unloadAsk s d r desc)

/-- The ring and SEQ an ABORT names: RING is the number in the package (09 R228). -/
def abortTarget (s : State) (d : Nat) (desc : List Byte) : Option Item :=
  findItem s d (dfld desc 0x10 2 % 2048) (dfld desc 0x14 4)

/-- What an ABORT asks of admission. -/
def abortAsk (s : State) (d r : Nat) (desc : List Byte) : Asked :=
  let g := dfld desc 0x10 2
  match descChecks s d r desc [(0x10, 2), (0x14, 4)] (g != 2048 * d + r) (decide (g / 2048 = d)) true true with
  | some (a, b) => .refuse a b
  | none =>
    if (abortTarget s d desc).isNone then .refuse Rsn.STATE 0xA3 else .ready (plainWant 0 1024 0 []) id

/-- ABORT (09 R234, R249): privileged unless it names its own ring; a target not accepted or complete is refused with 0xA3. -/
def execAbort (d : Die) (r : Ring) (s : State) : Out :=
  letIn s d r (fun _ desc => dOp desc == 5) (fun s desc => abortAsk s d r desc)

/-- What a FENCE asks of admission. -/
def fenceAsk (s : State) (d r : Nat) (desc : List Byte) : Asked :=
  match descChecks s d r desc [] false true true true with
  | some (a, b) => .refuse a b
  | none =>
    let mine := s.items.filter (fun i => i.die == d && i.ring == r)
    .ready (plainWant ((mine.map (·.bound)).foldl max 0) 1024 0 []) id

/-- FENCE (09 R234, R242): it starts at the latest bound of the ring's items accepted before it. -/
def execFence (d : Die) (r : Ring) (s : State) : Out :=
  letIn s d r (fun _ desc => dOp desc == 8) (fun s desc => fenceAsk s d r desc)

/-- A domain that a POWER item of die `d` may name: the die's own 24 and the Footings of its stacks (09 R234). -/
def powerDom (d n : Nat) : Bool := decide (n / 24 = d ∧ n < 96 ∧ n % 24 ≠ 23) || decide (108 + 3 * d ≤ n ∧ n < 111 + 3 * d)

/-- POWER (09 R234, R242): it starts after every earlier POWER item of the die and, for OFF, after every commitment that uses the
domain. -/
def powerAsk (s : State) (d r : Nat) (desc : List Byte) : Asked :=
  let n := dfld desc 0x10 1
  let act := dfld desc 0x11 1
  match descChecks s d r desc [(0x10, 1), (0x11, 1)] true (powerDom d n && decide (act = 1 ∨ act = 2)) true true with
  | some (a, b) => .refuse a b
  | none =>
    let before := s.items.filter (fun i => (i.die == d && i.opcode == 7) || (act == 2 && i.uses.contains n))
    let dur := if act = 2 then 4096 else if 108 ≤ n then 262144 else 8192
    .ready ⟨(before.map (·.bound)).foldl max 0, fun _ _ => ⟨dur, 512, [], [], [], n⟩, fun _ => 0⟩ id

/-- POWER with ACTION 1. -/
def execPowerOn (d : Die) (r : Ring) (s : State) : Out :=
  letIn s d r (fun _ desc => dOp desc == 7 && dfld desc 0x11 1 != 2) (fun s desc => powerAsk s d r desc)
/-- POWER with ACTION 2. -/
def execPowerOff (d : Die) (r : Ring) (s : State) : Out :=
  letIn s d r (fun _ desc => dOp desc == 7 && dfld desc 0x11 1 == 2) (fun s desc => powerAsk s d r desc)

/-- A POWER item starts: its request joins the sequencer of its die (01 R43). -/
def powerStart (s : State) (it : Item) : State :=
  queuePwr s (seqOf it.obj) [⟨it.obj, dfld it.desc 0x11 1 == 1, .item it.die it.ring it.seq⟩]

/-- An UNLOAD completes (04 R125; 14 R358, 08 R224): the plan leaves, its contexts are EMPTY, the stage entries that name it are no
longer VALID, and the Plumb unit's sample of it is discarded. -/
def unloadPlan (s : State) (d h : Nat) : State :=
  match planOf s d h with
  | none => s
  | some p =>
    let s := p.place.foldl (fun s b =>
      let s := setCtxState (setCtxX s d b.1 b.2 (ctxX s d b.1 b.2).bare) d b.1 b.2 0
      fset s (Reg.BLK_CTX_CTRL d b.1 b.2) 0 1 0) s
    let s := s.withPlans (s.plans.filter (fun q => ¬ (q.die = d ∧ q.handle = h)))
    let s := (List.range 16).foldl (fun s i =>
      if fget s (Reg.PLN_STAGE d i) 0 16 = h ∧ bit s (Reg.PLN_STAGE d i) 20 then fset s (Reg.PLN_STAGE d i) 20 1 0 else s) s
    losePlanSample s d h

/-- An UNLOAD ends. -/
def unloadDone (s : State) (it : Item) : State := endItem (unloadPlan s it.die it.obj) it 0 0

/-- Every item of a FENCE's ring accepted before it has completed. -/
def fenceMet (s : State) (it : Item) : Bool :=
  ((s.items.takeWhile (fun i => ¬ (i.die = it.die ∧ i.ring = it.ring ∧ i.seq = it.seq))).filter (fun i =>
    i.die == it.die && i.ring == it.ring)).isEmpty

end Sys2Proof.Machine
end

