-- ==== Sys2Proof/Machine/Ftg.lean ====
section
/-! DEFINITION. The commands of a Footing: parameter blocks, the checks of admission, what they charge, and the order in which engines
take them (07 R175-R182, R206). -/

namespace Sys2Proof.Machine

/-- Bytes that admission charges (07 R178). -/
def cmdBytes (p : List Byte) : Nat :=
  let op := pOp p
  ((List.range (pEnts p)).map (fun i =>
    if op ≤ 3 then
      let n := ent p i 0x30 8
      n * ((if op = 2 then 12 else 8) + gBytes (pGfmt p)) + (if ent p i 0x20 8 = 0 then 0 else ceilDiv (33 * n) 32)
    else if op < 0x30 then ((entRegs p i).map (fun r => if r.role = 2 then 2 * r.len else r.len)).sum
    else ent p i 8 8 * (if op = 0x40 then 2 else 1))).sum

/-- Elements (07 R175, R182): bytes for HASH, SCRUB and ZERO; 4,096 for a segment. -/
def cmdElems (p : List Byte) : Nat :=
  let op := pOp p
  ((List.range (pEnts p)).map (fun i =>
    if op ≤ 3 then ent p i 0x30 8
    else if op = 0x10 then ent p i 0x18 8 * (if 3 ≤ ent p i 0x34 1 then 4096 else 1)
    else if op < 0x30 then 4096 * ent p i 0x20 8
    else ent p i 8 8)).sum

/-- CK_ARITH cycles at the engine rate of R175. -/
def cmdCycles (p : List Byte) : Nat :=
  let op := pOp p
  if op ≤ 3 then ceilDiv (cmdElems p) 384
  else if op = 0x10 then ceilDiv (cmdElems p) 512
  else if op < 0x30 then
    ((List.range (pEnts p)).map (fun i => ent p i 0x20 8 * (8 + (if op = 0x21 then ceilDiv (ent p i 0x3A 2) 64 else 0)))).sum
  else if op = 0x30 then ceilDiv (10 * cmdElems p) 128
  else 0

/-! ### The checks of R179 -/

/-- OP is defined and every reserved field is 0. -/
def cmdFormed (p : List Byte) : Bool :=
  let op := pOp p
  let z : Nat → Nat → Bool := fun o n => dfld p o n == 0
  ftgOp op && decide (dfld p 1 1 < 8) && z 5 3 && z 0x18 40 &&
  (List.range (pEnts p)).all (fun i =>
    if op = 0x10 then ent p i 0x38 8 == 0 else if 0x20 ≤ op ∧ op < 0x30 then ent p i 0x3C 4 == 0 else true)

/-- Counts, k values, exponents, offsets and constants. -/
def cmdRange (p : List Byte) : Bool :=
  let op := pOp p
  let fin : Nat → Nat → Bool := fun i o => decide (ent p i o 4 % 2 ^ 31 < 0x7F800000)
  let off : Nat → Nat → Bool := fun i o => decide (-64 ≤ entS p i o ∧ entS p i o ≤ 63)
  let cnt : Nat → Nat → Bool := fun i o => decide (1 ≤ ent p i o 8 ∧ ent p i o 8 ≤ 2 ^ 32)
  let k : Nat → Nat → Bool := fun i o => decide (1 ≤ ent p i o 2 ∧ ent p i o 2 ≤ 512)
  decide (1 ≤ pNent p ∧ pNent p ≤ (if op = 0x30 then 64 else 256)) &&
  (List.range (pEnts p)).all (fun i =>
    if op ≤ 3 then
      cnt i 0x30 && (List.range 9).all (fun j => fin i (0x40 + 4 * j)) && decide (-126 ≤ entS p i 0x64 ∧ entS p i 0x64 ≤ 0) &&
      off i 0x65 && off i 0x66 && off i 0x67 && (ent p i 0x20 8 == 0 || ent p i 0x30 8 % 32 == 0)
    else if op = 0x10 then cnt i 0x18 && fin i 0x30
    else if op < 0x30 then
      decide (1 ≤ ent p i 0x20 8 ∧ ent p i 0x20 8 ≤ 2 ^ 20) &&
      (if op = 0x22 then ent p i 0x38 2 == 0 else k i 0x38) && (if op = 0x21 then k i 0x3A else ent p i 0x3A 2 == 0)
    else if op = 0x30 then decide (1 ≤ ent p i 8 8 ∧ ent p i 8 8 ≤ 2 ^ 40)
    else ent p i 8 8 % 256 == 0)

/-- Formats, modes and FLAGS (a G_FMT where no gradient is read must be 0: DEDUCED, log entry 37). -/
def cmdFormat (p : List Byte) : Bool :=
  let op := pOp p
  let fl := dfld p 1 1
  decide (fl &&& (if op = 1 then 3 else if op ≤ 3 then 1 else if op = 0x30 then 4 else 0) = fl) &&
  (if op ≤ 3 ∨ 0x20 ≤ op ∧ op < 0x30 then decide (pGfmt p ≤ 2) else pGfmt p == 0) &&
  (op != 0x10 || (List.range (pEnts p)).all (fun i =>
    let mode := ent p i 0x34 1
    let o := ent p i 0x36 1
    let r := ent p i 0x37 1
    decide (mode ≤ 4 ∧ ent p i 0x35 1 ≤ 2) &&
    (if mode = 2 then decide (o ≤ 2 ∧ r ≤ 1 ∧ ¬ (r = 1 ∧ o = 0)) else decide (o = 0 ∧ r = 0))))

/-- Some output meets another region that it does not replace. -/
def cmdOverlap (es : List Extent) (p : List Byte) : Bool :=
  let rs := ((cmdRegs p).filter (fun r => r.len != 0)).zipIdx.map (fun x => (x.2, x.1, extPieces es x.1.va x.1.len))
  rs.any (fun a => a.2.1.role != 0 && rs.any (fun b => b.1 != a.1 && piecesMeet a.2.2 b.2.2 &&
    !(a.2.1.role == 1 && b.2.1.role == 0 && a.2.1.ent == b.2.1.ent && a.2.1.va == b.2.1.va && a.2.1.len == b.2.1.len)))

/-- The checks that follow the reading of the block, with its regions translated. -/
def cmdChecks (s : State) (h : Nat) (pa : Nat) (p : List Byte) (es : List Extent) : Chk :=
  let base := hbmAddr h 0
  let align := if pOp p = 0x40 ∨ pOp p = 0x41 then 256 else 128
  firstFail [
    (es.all (fun e => decide (base ≤ e.pa ∧ e.pa + e.len ≤ base + stackSize s h)), Rsn.CFG_RANGE, 0x71),
    (decide (pa % 128 = 0 ∧ pResult p % 128 = 0) && (pOp p == 0x30 || (cmdRegs p).all (fun r => r.ent == 0 || r.va % align == 0)),
      Rsn.CFG_ALIGN, 0x72),
    (cmdRange p, Rsn.CFG_RANGE, 0x74),
    (cmdFormat p, Rsn.CFG_CONFLICT, 0x75),
    (!cmdOverlap es p, Rsn.CFG_CONFLICT, 0x73)]

/-! ### Engines -/

/-- Commands of an engine of stack `h`, in admission order. -/
def engineItems (s : State) (h e : Nat) : List Item := s.items.filter (fun i => onFooting i && i.obj == h * 8 + e)

/-! ### Admission -/

/-- What a Footing command asks of the calendar at a start (07 R182; 09 R241, R242): RATE 0 takes what is free of the stack. -/
def ftgShape (s : State) (h rate : Nat) (p : List Byte) (t : Nat) : Shape :=
  let cap := resCap s (fun _ => 0) (resTot h)
  let free := cap - resUsed s (resTot h) (t / 8750) - standing s (resTot h)
  let grant := if rate = 0 then free / 16 * 16 else rate
  let dur := ceilDiv (256 + max (cmdCycles p) (ceilDiv (cmdBytes p) (max 1 grant))) 2
  { dur := dur, allow := 512 + 65536 * (1 + dur / (64 * 131250))
    res := [(resTot h, if grant = 0 then cap + 1 else grant)]
    parts := [(16 + h % 3, 9, cmdBytes p), (16 + h % 3, 10, cmdElems p)]
    uses := [dFooting h, dBay (h / 3) (h % 3)]
    obj := h * 8 + ftgEngine (pOp p) }

/-- What a Footing command asks from its block on (07 R176, R179): `ok` the operations admitted, `extra` regions beyond the command's own,
`fin` what the item keeps. -/
def ftgBody (s : State) (h pa rate : Nat) (ok : Nat → Bool) (extra : List Region) (fin : List Byte → Item → Item) : Asked :=
  if !bit s (Reg.FTG_CTRL (8 + h)) 0 || !isOn s (dFooting h) then .refuse Rsn.STATE 0x76
  else if stackFaulted s h then .refuse Rsn.STATE 0x7C
  else .pages [h % 3] [(pa, 64, 1)] (fun s es =>
    if extPoisoned s es pa 64 then .poison
    else
      let hdr := extRead s es pa 64
      if !ok (pOp hdr) then .refuse Rsn.BAD_DESC 0x70
      else
        let n := pEnts hdr * entSize (pOp hdr)
        .pages [h % 3] [(pa + 64, n, 1)] (fun s es =>
          let p := extRead s es pa (64 + n)
          if extPoisoned s es pa (64 + n) then .poison
          else if !cmdFormed p then .refuse Rsn.BAD_DESC 0x70
          else .regions (Rsn.CFG_RANGE, 0x71) [h % 3] ((cmdRegs p).map (fun g => (g.va, g.len, if g.role = 0 then 1 else 3))) (fun s es =>
            match cmdChecks s h pa p es with
            | some (a, b) => .refuse a b
            | none =>
              let e := ftgEngine (pOp p)
              if 32 ≤ ((engineItems s h e).filter (fun i => !i.started)).length then .refuse Rsn.NOT_SCHEDULABLE 0x77
              else
                let of : Bool → List (Nat × Nat) := fun out =>
                  ((cmdRegs p).filter (fun g => g.role == 2 || g.role == (if out then 1 else 0))).flatMap (fun g => extPieces es g.va g.len)
                let before := (stackUsers s h).filter (fun i => (onFooting i && i.obj == h * 8 + e) || cmdHazard i (of false) (of true))
                .pages [3] extra (fun _ _ =>
                  .ready ⟨(before.map (·.bound)).foldl max 0, fun s t => ftgShape s h rate p t, fun _ => 0⟩
                    (fun i => fin p { i with param := p })))))

/-- What a FOOTING item asks (07 R176, R179; 09 R234). -/
def ftgAsk (s : State) (d r : Nat) (desc : List Byte) : Asked :=
  let h := dfld desc 0x10 1
  let rate := dfld desc 0x20 2
  match descChecks s d r desc [(0x10, 1), (0x18, 8), (0x20, 2)] false
    (decide (h < 12 ∧ h / 3 = d ∧ (rate = 0 ∨ 16 ≤ rate ∧ rate ≤ 4608))) (decide (rate % 16 = 0)) true with
  | some (a, b) => .refuse a b
  | none => ftgBody s h (dfld desc 0x18 8) rate ftgOp [] (fun p i =>
      { i with jrnl := some (if pOp p == 0x30 && pFlag p 2 then (7, [], sha384 p) else (3, sha384 p, [])) })

/-- OP of the parameter block the front FOOTING descriptor names, if its page translates. -/
def ftgPeek (s : State) (d r : Nat) (desc : List Byte) : Option Nat :=
  let va := dfld desc 0x18 8
  match (lookup s d 3 (ringAsid s d r) (va % 2 ^ 57)).1 with
  | .ok e => some (memNat s (e.pa + (va % 2 ^ 57 - e.va)) 1)
  | _ => none

/-- The command for opcode `op` takes the front entry when the block names it; a block that names no defined command is refused by any. -/
def ftgMine (d r op : Nat) (s : State) (desc : List Byte) : Bool :=
  dOp desc == 6 && (match ftgPeek s d r desc with
    | some o => o == op || !ftgOp o
    | none => true)

/-- A command block admitted by the command for opcode `op`. -/
def ftgAdmit (s : State) (d r op : Nat) : Out := letIn s d r (ftgMine d r op) (fun s desc => ftgAsk s d r desc)

/-- UPDATE_MOMENTUM. -/
def execUpdateMomentum (d : Die) (r : Ring) (s : State) : Out := ftgAdmit s d r 0x01
/-- UPDATE_ADAPTIVE. -/
def execUpdateAdaptive (d : Die) (r : Ring) (s : State) : Out := ftgAdmit s d r 0x02
/-- UPDATE_SIGNED. -/
def execUpdateSigned (d : Die) (r : Ring) (s : State) : Out := ftgAdmit s d r 0x03
/-- REDUCE. -/
def execReduce (d : Die) (r : Ring) (s : State) : Out := ftgAdmit s d r 0x10
/-- COMPRESS_TOPK. -/
def execCompressTopk (d : Die) (r : Ring) (s : State) : Out := ftgAdmit s d r 0x20
/-- TOPK_MERGE. -/
def execTopkMerge (d : Die) (r : Ring) (s : State) : Out := ftgAdmit s d r 0x21
/-- COMPRESS_SIGN. -/
def execCompressSign (d : Die) (r : Ring) (s : State) : Out := ftgAdmit s d r 0x22
/-- HASH. -/
def execHash (d : Die) (r : Ring) (s : State) : Out := ftgAdmit s d r 0x30
/-- SCRUB. -/
def execScrub (d : Die) (r : Ring) (s : State) : Out := ftgAdmit s d r 0x40
/-- ZERO. -/
def execZero (d : Die) (r : Ring) (s : State) : Out := ftgAdmit s d r 0x41

/-! ### Enable, start, patrol -/

/-- FTG_ENABLE (07 R206). -/
def execFtgEnable (h : Stack) (s : State) : Out := viaWin s (8 + h) fun s =>
  .next (finishEnable s (Reg.FTG_CTRL (8 + h)) 8 (firstFail [
    (isOn s (dFooting h), Rsn.STATE, 0x76), (!stackFaulted s h, Rsn.STATE, 0x7C)]))

/-- FTG_DISABLE (07 R183): refused while commands are queued or running. -/
def execFtgDisable (h : Stack) (s : State) : Out := viaWin s (8 + h) fun s =>
  let a := Reg.FTG_CTRL (8 + h)
  .next (if (stackItems s h).isEmpty then setRD (fset s a 0 1 0) a 8 0 0 else setRD s a 8 Rsn.STATE 0x7D)

/-- FTG_COMMAND_START (07 R181): the engine's oldest command begins at its start, unless an earlier-admitted command that overlaps it has
not completed; it then stands WAITING. -/
def execFtgCommandStart (h : Stack) (e : Fin 5) (s : State) : Out :=
  match engineItems s h e with
  | [] => .next s
  | it :: _ =>
    if it.started || decide (ctl s (h / 3) < it.start) || !enginesUp s h || outOf s (h / 3) || bayStalled s h then .next s
    else
      if cmdWaits s h it then .next (ftgStatus s h)
      else .next (ftgStatus (putItem s { it with started := true }) h)

/-- PATROL_SCRUB_TICK (07 R205): the next granule is read and every corrected unit rewritten, an uncorrectable one poisoned (06 R159); a
granule that a running command reads or writes is held. `ecc` is 0, unit 1-8 corrected, or 8 more for uncorrectable. -/
def execPatrolScrubTick (h : Stack) (ecc : Fin 17) (s : State) : Out :=
  if !bit s (Reg.FTG_CTRL (8 + h)) 1 || !enginesUp s h || outOf s (h / 3) then .next s
  else
    let a := Reg.FTG_PATROL_POS (8 + h)
    let g := fget s a 0 29
    let pa := hbmAddr h (256 * g)
    let run := (stackItems s h).filter (·.started)
    if run.any (fun i => piecesMeet (cmdPieces i false ++ cmdPieces i true) [(pa, 256)]) then .next s
    else
      let s := fset s a 0 29 (if 256 * (g + 1) < stackSize s h then g + 1 else 0)
      .next (rewritten (lineError (readErrors s pa 256) pa 8 ecc) pa 256)

end Sys2Proof.Machine
end

