-- ==== Sys2Proof/Machine/Approx.lean ====
section
/-! DEFINITION. The approximations of the vector unit (03 R87): the functions themselves, to some two hundred bits, the results within
the error that the table allows, and the choice among them, which is the device's and open (log entry 2). -/

namespace Sys2Proof.Machine

/-! ### Numbers with 256 fraction bits -/

/-- One. -/
def fxOne : Int := 2 ^ 256
/-- A dyadic number, cut to 256 fraction bits. -/
def Dy.fx (a : Dy) : Int := if 0 ≤ a.e + 256 then a.m * 2 ^ (a.e + 256).toNat else a.m / 2 ^ (-(a.e + 256)).toNat
/-- Product. -/
def fxMul (a b : Int) : Int := a * b / fxOne
/-- Quotient. -/
def fxDiv (a b : Int) : Int := a * fxOne / b
/-- A number cut to a range. -/
def fxClamp (n : Int) (a : Int) : Int := max (-n * fxOne) (min (n * fxOne) a)

/-- The sum of `t * c k * z^k` for `k` from `n` down to 0, where `c k` divides by `num k`. -/
def series (num : Nat → Int) (z : Int) (n : Nat) : Int :=
  (List.range (n + 1)).foldr (fun k acc => fxOne / num k + fxMul z acc) 0
/-- Inverse hyperbolic tangent, for |t| at most 1/3. -/
def fxAtanh (t : Int) : Int := fxMul t (series (fun k => 2 * k + 1) (fxMul t t) 90)
/-- Natural logarithm of 2. -/
def fxLn2 : Int := 2 * fxAtanh (fxOne / 3)
/-- The exponential of a number of [0, 1]. -/
def fxExpUnit (a : Int) : Int := (List.range 64).foldr (fun k acc => fxOne + fxMul a acc / (k + 1)) fxOne
/-- Two to a power. -/
def fxExp2 (a : Int) : Int :=
  let n := a / fxOne
  let r := fxExpUnit (fxMul (a - n * fxOne) fxLn2)
  if 0 ≤ n then r * 2 ^ n.toNat else r / 2 ^ (-n).toNat
/-- The exponential. -/
def fxExp (a : Int) : Int := fxExp2 (fxDiv a fxLn2)
/-- Inverse tangent of 1 / n. -/
def fxAtanInv (n : Int) : Int := series (fun k => 2 * k + 1) (-(fxOne / (n * n))) 120 / n
/-- Pi. -/
def fxPi : Int := 4 * (4 * fxAtanInv 5 - fxAtanInv 239)
/-- Sine of a number of [0, 2]: the terms of its series from the `k`-th on. -/
def fxSin (a : Int) : Int :=
  (List.range 60).foldr (fun k acc => fxOne - fxMul (fxMul a a) acc / ((2 * k + 2) * (2 * k + 3))) fxOne |> fxMul a

/-- Hyperbolic tangent. -/
def fxTanh (a : Int) : Int :=
  let e := fxExp (2 * fxClamp 40 a)
  fxDiv (e - fxOne) (e + fxOne)
/-- The logistic function. -/
def fxSigmoid (a : Int) : Int :=
  let e := fxExp (fxClamp 120 a)
  fxDiv e (fxOne + e)
/-- The error function. -/
def fxErf (a : Int) : Int :=
  let x := fxClamp 6 a
  let z := fxMul x x
  let t := (List.range 240).foldl (fun (p : Int × Int) k => (p.1 + p.2 / (2 * k + 1), -(fxMul p.2 z) / (k + 1))) ((0, x) : Int × Int)
  fxDiv (2 * t.1) (isqrt (fxPi * fxOne).toNat)

/-- Sine of pi times `a`, whose period is 2. -/
def fxSinpi (a : Int) : Int :=
  let f := a % (2 * fxOne)
  let h := f % fxOne
  let r := fxSin (fxMul fxPi (if 2 * h ≤ fxOne then h else fxOne - h))
  if f < fxOne then r else -r

/-- The value modulo 2, exactly. -/
def Dy.mod2 (a : Dy) : Dy := if 0 ≤ a.e then (if a.e = 0 then ⟨a.m % 2, 0⟩ else .zero) else ⟨a.m % 2 ^ (1 - a.e).toNat, a.e⟩

/-- Logarithm to base 2 of a positive value. -/
def log2Of (a : Dy) : Int :=
  let k := bitLen a.m.natAbs - 1
  let z := (⟨a.m, -(k : Int)⟩ : Dy).fx
  (a.e + k) * fxOne + fxDiv (2 * fxAtanh (fxDiv (z - fxOne) (z + fxOne))) fxLn2

/-- One over the square root of a positive value. -/
def rsqrtOf (a : Dy) : Dy :=
  let b : Dy := if a.e % 2 = 0 then a else ⟨2 * a.m, a.e - 1⟩
  ⟨isqrt (2 ^ 240 / b.m.natAbs), -120 - b.e / 2⟩

/-- What an operation of R87 approximates, away from its special cases. -/
def exactFn (op : Nat) (a : Dy) : Dy :=
  let fx : Int → Dy := fun v => ⟨v, -256⟩
  if op = 0x34 then
    let v := (max (-300) (a.m * 2 ^ a.e.toNat / 2 ^ (-a.e).toNat) : Int)
    let f := if v = -300 then 0 else (a.add ⟨-v, 0⟩).fx
    ⟨fxExp2 f, v - 256⟩
  else if op = 0x38 then fx (log2Of a)
  else if op = 0x3C then fx (fxTanh (if a.m.natAbs < 2 ^ 24 ∧ a.e < 8 then a.fx else fxClamp 40 (a.m * fxOne)))
  else if op = 0x40 then fx (fxSigmoid (if a.m.natAbs < 2 ^ 24 ∧ a.e < 8 then a.fx else fxClamp 120 (a.m * fxOne)))
  else if op = 0x44 then fx (fxErf (if a.m.natAbs < 2 ^ 24 ∧ a.e < 8 then a.fx else fxClamp 6 (a.m * fxOne)))
  else if op = 0x48 then fx (fxSinpi a.mod2.fx)
  else if op = 0x4C then fx (fxSinpi (a.mod2.fx + fxOne / 2))
  else rsqrtOf a

/-- Units in the last place that R87 allows. -/
def maxUlps (op : Nat) : Nat := if op = 0x34 ∨ op = 0x38 ∨ op = 0x50 then 1 else 2

/-- The finite binary32 magnitudes within `k` units in the last place of `y`. -/
def nearMags (y : Dy) (k : Nat) : List Nat :=
  let m := y.m.natAbs
  let r := if m = 0 then 0 else (b32.roundMag m y.e false).1
  let q := b32.qexp m y.e
  (List.range 7).filterMap (fun i =>
    let c := r + i - 3
    let err := ((b32.dec c).dy.add ⟨-(m : Int), y.e⟩).abs
    if c < b32.inf ∧ r ≤ c + 3 ∧ 3 ≤ r + i ∧ err.le ⟨k, q⟩ then some c else none)

/-- The result of an approximation: one of those within its error (log entry 2). -/
def within (op x : Nat) (y : Dy) : Nat :=
  let cs := nearMags y (maxUlps op)
  let f := Config.approx op 0 x
  let c := cs.getD (f % cs.length) 0
  let neg := if y.m = 0 ∨ c = 0 then decide (f / 8 % 2 = 1) else decide (y.m < 0)
  c + (if neg then b32.sgn else 0)

/-- Their codes: base of 03 R88. Special cases as R87 states them; everywhere else a result within the error of the table. -/
def approx32 (op x : Nat) : FR :=
  if b32.isNaN x then (b32.quiet x, 0)
  else
    let v := b32.dec x
    let one := 0x3F800000
    let other : FR := (within op x (exactFn op v.dy), 0)
    let neg := v.neg && !v.isZero
    if op = 0x34 then
      (match v with
      | .inf n => (if n then 0 else b32.inf, 0)
      | _ => if v.neg then other else if (Dy.nat 128).le v.dy then (b32.inf, fOF) else other)
    else if op = 0x38 then
      (if v.isZero then (b32.inf + b32.sgn, fDZ) else if neg then (b32.nan, fNV) else if v.isInf then (b32.inf, 0) else other)
    else if op = 0x3C ∨ op = 0x44 then (if v.isInf then (one + (if v.neg then b32.sgn else 0), 0) else other)
    else if op = 0x40 then (if v.isInf then (if v.neg then 0 else one, 0) else other)
    else if op = 0x48 ∨ op = 0x4C then (if v.isInf then (b32.nan, fNV) else other)
    else if neg then (b32.nan, fNV)
    else if v.isZero then (if v.neg then (Config.approx op 0 x % 2 ^ 32, 0) else (b32.inf, fDZ))
    else if v.isInf then (Config.approx op 0 x % 2 ^ 32, 0)
    else other

/-- An approximation in binary32 or binary16 (computed in binary32 and rounded once; only the listed flags signal). -/
def approx (f : Fmt) (op x : Nat) : FR :=
  if f = b32 then approx32 op x
  else if f.isNaN x then (f.quiet x, 0)
  else
    let r := approx32 op (convFmt f b32 x).1
    let c := convFmt b32 f r.1
    (c.1, r.2 ||| (if op = 0x34 then c.2 &&& fOF else 0))

end Sys2Proof.Machine
end

