-- ==== Sys2Proof/Machine/Issue.lean ====
section
/-! DEFINITION. The issuer (03 R76-R77, 04 R118-R121) and the lintel protocol (05 R136-R142): what each instruction of a context's
program does when the issuer reaches it, Hod transfers, waits, and the rows that arrive from another Block. -/

namespace Sys2Proof.Machine

/-! ### Stepping through a program -/

/-- The context is RUNNING and its next instruction has this opcode: the context and the instruction word. -/
def issuing (s : State) (d n c op : Nat) : Option (CtxX × Nat) :=
  let x := ctxX s d n c
  if ctxState s d n c = 3 ∧ x.ended = false then
    match x.prog[x.pc]? with
    | some w => if iOp w = op then some (x, w) else none
    | none => none
  else none

/-- Loops closed at the end of their bodies: the next iteration, or out of the loop. Loops nest at most four deep. -/
def closeLoops : Nat → CtxX → CtxX
  | 0, x => x
  | f + 1, x =>
    match x.loops with
    | (first, len, it, cnt) :: ls =>
      if x.pc = first + len then
        if it + 1 < cnt ∧ len ≠ 0 then { x with pc := first, loops := (first, len, it + 1, cnt) :: ls }
        else closeLoops f { x with loops := ls }
      else x
    | [] => x

/-- On to the next instruction. -/
def CtxX.advance (x : CtxX) : CtxX := closeLoops 5 { x with pc := x.pc + 1 }

/-- Iteration of the innermost loop, from 0 (04 R118). -/
def CtxX.iter (x : CtxX) : Nat := match x.loops with | (_, _, i, _) :: _ => i | [] => 0

/-- A counter of twenty bits raised. -/
def CtxX.count (x : CtxX) (k a : Nat) : CtxX := { x with ctrs := x.ctrs.set k ((x.ctrs.getD k 0 + a) % 2 ^ 20) }

/-- A completion counter raised by one; 15 names none. -/
def CtxX.done (x : CtxX) (k : Nat) : CtxX := if k = 15 then x else x.count k 1

/-- OPND (04 R118): the scale words and the B ring of the operations that follow. -/
def execOpnd (d : Die) (n : Blk) (c : Ctx) (s : State) : Out :=
  match issuing s d n c 0x01 with
  | some (x, w) =>
    .next (setCtxX s d n c
      { x with as := wbits w 0 11, bs := wbits w 11 11, ring := wbits w 22 11, rlen := wbits w 33 11 }.advance)
  | none => .next s

/-- MASON (04 R118): the operation is issued with the operand set-up in force; the array starts it in its turn. -/
def execMason (d : Die) (n : Blk) (c : Ctx) (s : State) : Out :=
  match issuing s d n c 0x02 with
  | some (x, w) =>
    .next (setCtxX s d n c
      { x with mason := x.mason ++ [MOp.mk w x.as x.bs x.ring x.rlen false x.nMason], nMason := x.nMason + 1 }.advance)
  | none => .next s

/-- SIGNAL (04 R118): a counter of the own context raised by an amount. -/
def execSignal (d : Die) (n : Blk) (c : Ctx) (s : State) : Out :=
  match issuing s d n c 0x06 with
  | some (x, w) => .next (setCtxX s d n c ((x.count (wbits w 0 4) (wbits w 4 12)).advance))
  | none => .next s

/-- LOOP (04 R118): the body that follows runs `count` times. -/
def execLoop (d : Die) (n : Blk) (c : Ctx) (s : State) : Out :=
  match issuing s d n c 0x07 with
  | some (x, w) =>
    let x := { x with pc := x.pc + 1, loops := (x.pc + 1, wbits w 16 12, 0, wbits w 0 16) :: x.loops }
    .next (setCtxX s d n c (closeLoops 5 x))
  | none => .next s

/-- END (04 R118): the context's part of the run is over, and the issuer leaves it. -/
def execCtxEnd (d : Die) (n : Blk) (c : Ctx) (s : State) : Out :=
  match issuing s d n c 0x3F with
  | some (x, _) => .next (setCtxState (setCtxX s d n c { x with ended := true }) d n c 2)
  | none => .next s

/-! ### Waits (03 R76, 04 R118) -/

/-- The target of a waitg is met. -/
def waitMet (x : CtxX) (w : Nat) : Bool := decide (wbits w 4 20 + wbits w 24 12 * x.iter ≤ x.ctrs.getD (wbits w 0 4) 0)

/-- Every operation of the context has completed. -/
def allDone (x : CtxX) : Bool := x.mason.isEmpty && x.vec.isEmpty && x.hods.isEmpty

/-- The cause of a wait on a counter: HALO when a lintel into this Block raises it, HOD when the context's own hod does, PEER when
only a remote signal can. The spec names no cause for a counter that a Mason, vector or signal instruction of the own
program raises: a free value (log entry 25). -/
def waitCause (s : State) (d : Nat) (x : CtxX) (k : Nat) : Option Nat :=
  let own : Nat → Bool := fun op => x.prog.any (fun w => iOp w == op && iCtr w == k)
  match planOf s d x.plan with
  | some p =>
    if (p.lintelsInto x.lb).any (fun e => e.2.sigCtr == k) then some 0
    else if own 4 then some 2
    else if own 2 || own 3 || x.prog.any (fun w => iOp w == 6 && wbits w 0 4 == k) then none
    else some 1
  | none => none

/-- A context enters WAITING with a cause, or with a free value among the nine codes. -/
def enterWait (s : State) (d n c : Nat) (cause : Option Nat) : State :=
  let a := Reg.BLK_CTX_STATUS d n c
  match cause with
  | some k => fset (fset s a 0 3 4) a 24 4 k
  | none =>
    let f := takeFree s
    fset (fset f.2 a 0 3 4) a 24 4 (f.1 % 9)

/-- WAITG (04 R118): on when the counter has reached its target, else WAITING. -/
def execWaitg (d : Die) (n : Blk) (c : Ctx) (s : State) : Out :=
  match issuing s d n c 0x05 with
  | some (x, w) =>
    if waitMet x w then .next (setCtxX s d n c x.advance)
    else .next (enterWait s d n c (waitCause s d x (wbits w 0 4)))
  | none => .next s

/-- FENCEW (04 R118): on when every operation of the context has completed, else WAITING: HOD while a transfer is outstanding,
a free value otherwise (log entry 25). -/
def execFencew (d : Die) (n : Blk) (c : Ctx) (s : State) : Out :=
  match issuing s d n c 0x08 with
  | some (x, _) =>
    if allDone x then .next (setCtxX s d n c x.advance)
    else .next (enterWait s d n c (if x.hods.isEmpty then none else some 2))
  | none => .next s

/-- CTX_WAKE (03 R76): the cause satisfied, WAITING becomes RUNNING; a context stalled for ENERGY, and any
while its Course is stalled, waits for the period (18 R449). -/
def execCtxWake (d : Die) (n : Blk) (c : Ctx) (s : State) : Out :=
  let x := ctxX s d n c
  if ctxState s d n c ≠ 4 ∨ fget s (Reg.BLK_CTX_STATUS d n c) 24 4 = 4 ∨ courseStalled s d (n / 18) then .next s
  else
    match x.prog[x.pc]? with
    | some w =>
      if (iOp w = 5 ∧ waitMet x w) ∨ (iOp w = 8 ∧ allDone x) then .next (setCtxState s d n c 3) else .next s
    | none => .next s

/-! ### Hod transfers (04 R120-R121) -/

/-- HOD (04 R118): a transfer issued. A lintel descriptor takes the next generation; its issue is held until the producer has
seen a release count of at least g - depth (05 R137-R138). -/
def execHod (d : Die) (n : Blk) (c : Ctx) (s : State) : Out :=
  match issuing s d n c 0x04 with
  | some (x, w) =>
    let i := wbits w 0 12
    match planOf s d x.plan with
    | some p =>
      let lin := (p.hod i).lintel
      let g := if lin then tget natDef x.gens i + 1 else 0
      let held := lin && decide (p.depth + tget natDef x.rel i < g)
      let x := { x with
        hods := x.hods ++ [HodOp.mk x.nHod (iCtr w) i g held false false]
        nHod := x.nHod + 1
        gens := if lin then tset natDef x.gens i g else x.gens }
      .next (setCtxX s d n c x.advance)
    | none => .next s
  | none => .next s

/-- The outcome of a row's read or write by a Hod engine: done, or stopped with codes the context halts with. -/
inductive Row where
  | ok (s : State) (bs : List Byte)
  | bad (s : State) (r : Nat × Nat)
  | stop (s : State)

/-- One row read from an operand at a byte offset. -/
def rowRead (s : State) (d n c : Nat) (it : Option Item) (x off len : Nat) : Row :=
  if opKind x = 0 then
    match ownRead s d n 3 c (opOff x + off) len with
    | .ok s bs => .ok s bs
    | .stop s => .stop s
  else
    match it with
    | some it =>
      match itemRead s it (slotAddr it (opSlot x) + opOff x + off) len with
      | .ok s bs po => if po then .bad s (Rsn.POISON, 0xC2) else .ok s bs
      | .bad s r t => .bad s (r, t)
    | none => .bad s (Rsn.CFG_MISSING, 0x42)

/-- One row written at an operand's byte offset; `dst` is the destination Block of kind 2. -/
def rowWrite (s : State) (d n c : Nat) (it : Option Item) (dst : Option Nat) (x off : Nat) (bs : List Byte) : Row :=
  if opKind x = 0 then
    match ownWrite s d n 3 c 1 (opOff x + off) bs with
    | .ok s _ => .ok s []
    | .stop s => .stop s
  else if opKind x = 2 then
    match dst with
    | some m =>
      match outAccess s d m 1 (opOff x + off) bs.length bs with
      | .ok s _ _ => .ok s []
      | .bad s r t => .bad s (r, t)
    | none => .ok s []
  else
    match it with
    | some it =>
      match itemWrite s it (slotAddr it (opSlot x) + opOff x + off) bs with
      | .ok s _ _ => .ok s []
      | .bad s r t => .bad s (r, t)
    | none => .bad s (Rsn.CFG_MISSING, 0x42)

/-- One row moved: read, ZC64 coded if asked, and written to every destination (05 R149-R150). -/
def moveRow (s : State) (d n c : Nat) (it : Option Item) (h : HodDesc) (dsts : List (Option Nat)) (i : Nat) : Row :=
  match rowRead s d n c it h.src (i * h.sstr) (if h.dec then 8 else h.rowBytes) with
  | .bad s r => .bad s r
  | .stop s => .stop s
  | .ok s hd =>
    let got : Row := if h.dec then
        rowRead s d n c it h.src (i * h.sstr) (min (8 + leNat (hd.take 4)) (zcWorst h.rowBytes))
      else .ok s hd
    match got with
    | .bad s r => .bad s r
    | .stop s => .stop s
    | .ok s raw =>
      let out : Option (List Byte) :=
        if h.dec then zcDecode raw h.rowBytes else if h.enc then some (zcEncode raw) else some raw
      match out with
      | none => .bad s (Rsn.BAD_DESC, 0x56)
      | some bs => dsts.foldl (fun r m => match r with
          | .ok s _ => rowWrite s d n c it m h.dst (i * h.dstr) bs
          | r => r) (.ok s [])

/-- The rows of a transfer in ascending order; rows already written remain when one stops it. -/
def moveRows (s : State) (d n c : Nat) (it : Option Item) (h : HodDesc) (dsts : List (Option Nat)) : Nat → Nat → Row
  | _, 0 => .ok s []
  | i, k + 1 =>
    match moveRow s d n c it h dsts i with
    | .ok s _ => moveRows s d n c it h dsts (i + 1) k
    | .bad s r => .stop (halt s d n c r.1 r.2)
    | .stop s => .stop s

/-- Physical destination Blocks of a run. -/
def destBlocks (p : Plan) (h : HodDesc) : List (Option Nat) :=
  if opKind h.dst = 2 then
    ((p.dsts (p.run h.run)).filter (fun e => e.1 == 0)).map (fun e => some (p.phys e.2).1)
  else [none]

/-- A remote signal (04 R120): the counter at each destination Block's context of the plan. -/
def remoteSignal (s : State) (p : Plan) (h : HodDesc) : State :=
  if h.sigOn && !h.lintel then
    ((p.dsts (p.run h.run)).filter (fun e => e.1 == 0)).foldl (fun s e =>
      let b := p.phys e.2
      setCtxX s p.die b.1 b.2 ((ctxX s p.die b.1 b.2).count h.sigCtr 1)) s
  else s

/-- A transfer complete in both senses leaves: its counter rises and its destination is signalled (04 R121). -/
def hodFinish (s : State) (d n c i : Nat) : State :=
  let x := ctxX s d n c
  match x.hods.find? (fun o => o.id == i && o.actual && o.planned) with
  | some o =>
    let x := { x with hods := x.hods.filter (fun q => q.id ≠ i) }
    let s := setCtxX s d n c (x.done o.ctr)
    match planOf s d x.plan with
    | some p => remoteSignal s p (p.hod o.desc)
    | none => s
  | none => s

/-- An operation of a context changed. -/
def setHod (s : State) (d n c i : Nat) (f : HodOp → HodOp) : State :=
  let x := ctxX s d n c
  setCtxX s d n c { x with hods := x.hods.map (fun o => if o.id = i then f o else o) }

/-- Every row of a lintel issue stands at its consumer: its tags hold the generation (05 R139). -/
def lintelIn (s : State) (p : Plan) (o : HodOp) : Bool :=
  let h := p.hod o.desc
  let m := (p.phys (p.consumer h)).1
  let t := p.firstTag o.desc + (o.gen - 1) % max 1 p.depth * h.rows
  (List.range h.rows).all (fun r => fget s (Reg.BLK_LINTEL_TAG p.die m (t + r)) 0 20 == o.gen % 2 ^ 20)

/-- The `i`-th transfer of the run completes. Its rows move now, unless they are read from memory of an absent
Keystone, where the transfer waits (15 R378); a lintel's rows have come one by one. It counts as complete no earlier than planned (04 R121). -/
def hodDone (s : State) (d n c i : Nat) : State :=
  let x := ctxX s d n c
  if !inRun s d n c then s
  else
    match x.hods.find? (fun o => o.id == i && !o.held && !o.actual), planOf s d x.plan with
    | some o, some p =>
      let h := p.hod o.desc
      if h.lintel then
        if lintelIn s p o then (hodFinish (setHod s d n c i (fun o => { o with actual := true })) d n c i) else s
      else if opKind h.src ≠ 0 && (match runItem s d x.plan with
          | some it => (List.range h.rows).any (fun i =>
              extAway s d it.extents (slotAddr it (opSlot h.src) + opOff h.src + i * h.sstr) h.rowBytes)
          | none => false) then s
      else
        match moveRows s d n c (runItem s d x.plan) h (destBlocks p h) 0 h.rows with
        | .ok s _ => (hodFinish (setHod s d n c i (fun o => { o with actual := true })) d n c i)
        | .stop s => s
        | .bad s r => (halt s d n c r.1 r.2)
    | _, _ => s

/-- TRANSFER_PLANNED_DONE: the planned completion of the `i`-th transfer passes (04 R121). -/
def execTransferPlannedDone (d : Die) (n : Blk) (c : Ctx) (i : Nat) (s : State) : Out :=
  if inRun s d n c then .next (hodFinish (setHod s d n c i (fun o => { o with planned := true })) d n c i) else .next s

/-! ### Lintels (05 R138-R140) -/

/-- Generations that the consumer of descriptor `i` has released: its counter c + 1 (05 R138). -/
def released (s : State) (p : Plan) (i : Nat) : Nat :=
  let b := p.phys (p.consumer (p.hod i))
  (ctxX s p.die b.1 b.2).ctrs.getD ((p.hod i).sigCtr + 1) 0

/-- LINTEL_RELEASE_ARRIVE: the producer's Hod engine sees the release count of descriptor `i`'s consumer: at most what the consumer has
released, and counts only rise. -/
def execLintelReleaseArrive (d : Die) (n : Blk) (c : Ctx) (i : Nat) (count : BitVec 20) (s : State) : Out :=
  let x := ctxX s d n c
  match planOf s d x.plan with
  | some p =>
    if inRun s d n c then
      .next (setCtxX s d n c { x with rel := tset natDef x.rel i (max (tget natDef x.rel i) (min count.toNat (released s p i))) })
    else .next s
  | none => .next s

/-- LINTEL_ISSUE_START: a held issue of descriptor `i` starts once the release count admits its generation (05 R138). -/
def execLintelIssueStart (d : Die) (n : Blk) (c : Ctx) (i : Nat) (s : State) : Out :=
  let x := ctxX s d n c
  match planOf s d x.plan with
  | some p =>
    let ok : HodOp → Bool := fun o => o.desc == i && o.held && decide (o.gen ≤ p.depth + tget natDef x.rel i)
    if inRun s d n c then .next (setCtxX s d n c { x with hods := x.hods.map (fun o => if ok o then { o with held := false } else o) })
    else .next s
  | none => .next s

/-- The context of a Block whose run owns a lintel tag: context, plan, descriptor, slot and row. -/
def tagCtx (s : State) (d n tag : Nat) : Option (Nat × Plan × Nat × Nat × Nat) :=
  (List.range 4).findSome? (fun c =>
    if !inRun s d n c then none
    else
      let x := ctxX s d n c
      match planOf s d x.plan with
      | some p => (p.tagOwner x.lb tag).map (fun o => (c, p, o))
      | none => none)

/-- The producer sends row `row` of generation `g` of a lintel now: issue g is on its way and not held, it writes slot (g - 1) mod depth, and
every row before it stands at the consumer (05 R137-R139). -/
def rowSent (s : State) (p : Plan) (desc g slot row : Nat) : Bool :=
  let h := p.hod desc
  let b := p.phys ((p.run h.run).src.2)
  let m := (p.phys (p.consumer h)).1
  let t := p.firstTag desc + slot * h.rows
  (ctxX s p.die b.1 b.2).hods.any (fun o => o.desc == desc && o.gen == g && !o.held && !o.actual) &&
  decide (slot = (g - 1) % max 1 p.depth) &&
  (List.range row).all (fun r => fget s (Reg.BLK_LINTEL_TAG p.die m (t + r)) 0 20 == g % 2 ^ 20)

/-- LINTEL_ROW_ARRIVE (05 R139-R140): a row of generation `g` for tag `i`. Accepted only when the tag holds g - depth, or 0 with
g at most depth: its bytes are written, the tag takes g and the arrival counter rises. Any other arrival writes nothing
and ends the consumer's run with OVERRUN 0x53, a fault of floor L1. A row that its producer has not sent, or reads from memory of an absent
Keystone (15 R378), does not come. -/
def execLintelRowArrive (d : Die) (n : Blk) (i : Fin 64) (g : BitVec 20) (s : State) : Out :=
  match tagCtx s d n i with
  | none => .next s
  | some (c, p, desc, slot, row) =>
    let a := Reg.BLK_LINTEL_TAG d n i
    let tag := fget s a 0 20
    let gen := g.toNat
    if (gen ≤ p.depth ∧ tag = 0) ∨ (p.depth < gen ∧ tag = gen - p.depth) then
      let h := p.hod desc
      let prod := p.phys ((p.run h.run).src.2)
      let it := runItem s d p.handle
      let away := opKind h.src ≠ 0 && it.any (fun it => extAway s d it.extents (slotAddr it (opSlot h.src) + opOff h.src + row * h.sstr) h.rowBytes)
      let dst := opOff h.dst + (slot * h.rows + row) * h.dstr
      if !rowSent s p desc gen slot row || away then .next s
      else
      match accCheck s d n 4 0 1 dst h.rowBytes with
      | some r => .next (halt (recordViol s d n 4 0 1 r.2.1 r.2.2) d prod.1 prod.2 r.1 r.2.1)
      | none =>
        match rowRead s d prod.1 prod.2 it h.src (row * h.sstr) h.rowBytes with
        | .stop s => .next s
        | .bad s r => .next (halt s d prod.1 prod.2 r.1 r.2)
        | .ok s bs =>
          let s := memWriteAt s (spadAddr d n dst) bs
          let s := fset (fset s a 0 20 gen) a 20 4 h.sigCtr
          .next (setCtxX s d n c ((ctxX s d n c).count h.sigCtr 1))
    else
      let h := p.hod desc
      let data := blockData s d n c ((opOff h.dst + (slot * h.rows + row) * h.dstr) / 256)
      let s := halt s d n c Rsn.OVERRUN 0x53
      .next (raise s ⟨d, Rsn.OVERRUN, 0x53, 1, 0, d + 8 * n, data, .block d n⟩ false)

end Sys2Proof.Machine
end

