-- ==== Sys2Proof/Machine/Vec.lean ====
section
/-! DEFINITION. The vector unit (03 R87-R88): elementwise operations, register moves, pooling and argmax (05 R143-R147), casts and
conversions (08 R209-R216). An operation takes effect word by word when it issues; its counter rises at VEC_DONE. -/

namespace Sys2Proof.Machine

/-! ### The instruction word (03 R88) -/

/-- Operation code. -/
def vOp (w : Nat) : Nat := wbits w 0 8
/-- Destination word. -/
def vDst (w : Nat) : Nat := wbits w 8 13
/-- First source word, or parameter slot. -/
def vSrc (w : Nat) : Nat := wbits w 21 13
/-- Second source field. -/
def vAux (w : Nat) : Nat := wbits w 34 13
/-- Source words. -/
def vLen (w : Nat) : Nat := wbits w 47 7 + 1

/-- The field names a vector register. -/
def isReg (x : Nat) : Bool := decide (0x1800 ≤ x ∧ x ≤ 0x181F)

/-- The format of an elementwise code. -/
def vFmt (f : Nat) : Fmt := if f = 0 then b32 else if f = 1 then b16 else b64

/-- An elementwise base takes one operand. -/
def unary (base : Nat) : Bool := base == 0x14 || decide (0x34 ≤ base)

/-- Bits of a conversion format code (03 R88): 0 binary32, 1 binary16, 2 binary64, 3 GF16, 4 int8, 5 uint8, 6 int16, 7 int32. -/
def cvtBits (f : Nat) : Nat := if f = 2 then 64 else if f = 0 ∨ f = 7 then 32 else if f = 4 ∨ f = 5 then 8 else 16

/-- 02 R60 gives the vector unit a path between the formats of a conversion code. -/
def cvtPath (op : Nat) : Bool :=
  let a := op / 8 % 8
  let b := op % 8
  (a == 0) != (b == 0) && (!op.testBit 6 || (a == 0 && (b == 1 || b == 3)))

/-- The words of a run lie within the banks. -/
def inBanks (w n : Nat) : Bool := decide (w + n ≤ 6144)

/-- The word keeps the tables of R88. `slots` is the plan's SLOTS. -/
def vecLegal (slots w : Nat) : Bool :=
  let op := vOp w
  let src := inBanks (vSrc w) (vLen w)
  if op < 0x54 then
    let base := op / 4 * 4
    decide (op % 4 < if 0x34 ≤ base then 2 else 3) && src && inBanks (vDst w) (vLen w) &&
    (if unary base then vAux w == 0 else isReg (vAux w) || inBanks (vAux w) (vLen w))
  else if op = 0x54 then isReg (vAux w) && inBanks (vSrc w) 1 && vLen w == 1
  else if op = 0x58 then isReg (vAux w) && inBanks (vDst w) 1 && vLen w == 1
  else if op = 0x5C then isReg (vAux w) && decide (vSrc w < slots)
  else if 0x60 ≤ op ∧ op ≤ 0x64 ∨ 0x68 ≤ op ∧ op ≤ 0x6A then isReg (vAux w) && src && inBanks (vDst w) 1
  else if 0x80 ≤ op then
    cvtPath op && src && inBanks (vDst w) (ceilDiv (vLen w * cvtBits (op % 8)) (cvtBits (op / 8 % 8))) &&
    (if op.testBit 6 then isReg (vAux w) else vAux w == 0)
  else false

/-! ### Registers -/

/-- Lane `l` of vector register `v`. -/
def CtxX.lane (x : CtxX) (v l : Nat) : Nat := tget natDef x.vregs (64 * v + l)
/-- A lane written. -/
def CtxX.setLane (x : CtxX) (v l a : Nat) : CtxX := { x with vregs := tset natDef x.vregs (64 * v + l) (a % 2 ^ 32) }
/-- The 256 bytes of a register. -/
def CtxX.vbytes (x : CtxX) (v : Nat) : List Byte := (List.range 64).flatMap (fun l => leBytes 4 (x.lane v l))
/-- Register of the second source field. -/
def vReg (w : Nat) : Nat := vAux w - 0x1800

/-- Little-endian elements of `k` bytes. -/
def elems (k : Nat) (bs : List Byte) : List Nat := (List.range (bs.length / k)).map (fun i => leNat ((bs.drop (k * i)).take k))

/-- A write by the vector unit of bytes from word `w` on, with the exceptions and saturations that made them. -/
def vecPut (s : State) (d n c w : Nat) (bs : List Byte) (fl sat : Nat) : Got :=
  if bs.isEmpty then .ok (signal s d n c fl sat) []
  else ownWrite (signal s d n c fl sat) d n 1 c 1 (256 * w) bs

/-! ### Elementwise operations -/

/-- A comparison's result: all ones or 0. -/
def cmpRes (f : Fmt) (r : Bool × Nat) : FR := (if r.1 then 2 ^ f.bits - 1 else 0, r.2)

/-- One element of an elementwise operation: `a`, `b` and the destination's former value. -/
def vecElem (base : Nat) (f : Fmt) (a b z : Nat) : FR :=
  if base = 0x00 then f.add a b
  else if base = 0x04 then f.sub a b
  else if base = 0x08 then f.mul a b
  else if base = 0x0C then f.fma a b z
  else if base = 0x10 then f.div a b
  else if base = 0x14 then f.sqrt a
  else if base = 0x18 then f.minMax false a b
  else if base = 0x1C then f.minMax true a b
  else if base = 0x20 then f.minMaxNum false a b
  else if base = 0x24 then f.minMaxNum true a b
  else if base = 0x28 then cmpRes f (f.cmpEq a b)
  else if base = 0x2C then cmpRes f (f.cmpLt a b)
  else if base = 0x30 then cmpRes f (f.cmpLe a b)
  else approx f base a

/-- The elements of one word combined. -/
def vecWord (base : Nat) (f : Fmt) : List Nat → List Nat → List Nat → List FR
  | a :: as, b :: bs, z :: zs => vecElem base f a b z :: vecWord base f as bs zs
  | _, _, _ => []

/-- Words of an elementwise operation in ascending order, from word `i`. -/
def vecWords (d n c w : Nat) (s : State) (i : Nat) : Nat → Got
  | 0 => .ok s []
  | k + 1 =>
    let op := vOp w
    let base := op / 4 * 4
    let f := vFmt (op % 4)
    let by' := f.bits / 8
    match ownRead s d n 1 c (256 * (vSrc w + i)) 256 with
    | .stop s => .stop s
    | .ok s as =>
      let rb : Got := if unary base then .ok s as
        else if isReg (vAux w) then .ok s ((ctxX s d n c).vbytes (vReg w))
        else ownRead s d n 1 c (256 * (vAux w + i)) 256
      match rb with
      | .stop s => .stop s
      | .ok s bs =>
        let rz : Got := if base = 0x0C then ownRead s d n 1 c (256 * (vDst w + i)) 256 else .ok s as
        match rz with
        | .stop s => .stop s
        | .ok s zs =>
          let rs := vecWord base f (elems by' as) (elems by' bs) (elems by' zs)
          match vecPut s d n c (vDst w + i) (rs.flatMap (fun r => leBytes by' r.1)) (rs.foldl (fun a r => a ||| r.2) 0) 0 with
          | .stop s => .stop s
          | .ok s _ => vecWords d n c w s (i + 1) k

/-! ### Issue and completion -/

/-- The state a vec operation leaves: issued with its counter and the issuer gone on, or what a refused access left. -/
def vecAfter (d n c w : Nat) : Got → State
  | .stop s => s
  | .ok s _ => setCtxX s d n c { ctxX s d n c with vec := (ctxX s d n c).vec ++ [iCtr w] }.advance

/-- Parameter slots of the plan a context is loaded from. -/
def planSlots (s : State) (d : Nat) (x : CtxX) : Nat :=
  match planOf s d x.plan with
  | some p => p.slots
  | none => 0

/-- A vec instruction reached by the issuer: a word outside the tables of R88 halts the context before anything is written; a
word whose code is the command's runs, is issued with its counter, and the issuer goes on. -/
def vecIssue (s : State) (d n c : Nat) (mine : Nat → Bool) (run : State → Nat → Got) : Out :=
  match issuing s d n c 0x03 with
  | some (x, w) =>
    if !vecLegal (planSlots s d x) w then .next (halt s d n c Rsn.CFG_CONFLICT 0x58)
    else if mine (vOp w) then .next (vecAfter d n c w (run s w))
    else .next s
  | none => .next s

/-- An elementwise operation of a base. -/
def vecEw (s : State) (d n c base : Nat) : Out :=
  vecIssue s d n c (fun op => decide (op < 0x54) && op / 4 * 4 == base) (fun s w => vecWords d n c w s 0 (vLen w))

/-- ADD: a + b. -/
def execAdd (d : Die) (n : Blk) (c : Ctx) (s : State) : Out := vecEw s d n c 0x00
/-- SUB: a - b. -/
def execSub (d : Die) (n : Blk) (c : Ctx) (s : State) : Out := vecEw s d n c 0x04
/-- MUL: a times b. -/
def execMul (d : Die) (n : Blk) (c : Ctx) (s : State) : Out := vecEw s d n c 0x08
/-- FMA: fusedMultiplyAdd with the destination word as addend. -/
def execFma (d : Die) (n : Blk) (c : Ctx) (s : State) : Out := vecEw s d n c 0x0C
/-- DIV: a divided by b. -/
def execDiv (d : Die) (n : Blk) (c : Ctx) (s : State) : Out := vecEw s d n c 0x10
/-- SQRT. -/
def execSqrt (d : Die) (n : Blk) (c : Ctx) (s : State) : Out := vecEw s d n c 0x14
/-- MIN: minimum. -/
def execMin (d : Die) (n : Blk) (c : Ctx) (s : State) : Out := vecEw s d n c 0x18
/-- MAX: maximum. -/
def execMax (d : Die) (n : Blk) (c : Ctx) (s : State) : Out := vecEw s d n c 0x1C
/-- MINNUM: minimumNumber. -/
def execMinnum (d : Die) (n : Blk) (c : Ctx) (s : State) : Out := vecEw s d n c 0x20
/-- MAXNUM: maximumNumber. -/
def execMaxnum (d : Die) (n : Blk) (c : Ctx) (s : State) : Out := vecEw s d n c 0x24
/-- CMPEQ: compareQuietEqual. -/
def execCmpeq (d : Die) (n : Blk) (c : Ctx) (s : State) : Out := vecEw s d n c 0x28
/-- CMPLT: compareSignalingLess. -/
def execCmplt (d : Die) (n : Blk) (c : Ctx) (s : State) : Out := vecEw s d n c 0x2C
/-- CMPLE: compareSignalingLessEqual. -/
def execCmple (d : Die) (n : Blk) (c : Ctx) (s : State) : Out := vecEw s d n c 0x30
/-- EXP2 (03 R87). -/
def execExp2 (d : Die) (n : Blk) (c : Ctx) (s : State) : Out := vecEw s d n c 0x34
/-- LOG2 (03 R87). -/
def execLog2 (d : Die) (n : Blk) (c : Ctx) (s : State) : Out := vecEw s d n c 0x38
/-- TANH (03 R87). -/
def execTanh (d : Die) (n : Blk) (c : Ctx) (s : State) : Out := vecEw s d n c 0x3C
/-- SIGMOID (03 R87). -/
def execSigmoid (d : Die) (n : Blk) (c : Ctx) (s : State) : Out := vecEw s d n c 0x40
/-- ERF (03 R87). -/
def execErf (d : Die) (n : Blk) (c : Ctx) (s : State) : Out := vecEw s d n c 0x44
/-- SINPI (03 R87). -/
def execSinpi (d : Die) (n : Blk) (c : Ctx) (s : State) : Out := vecEw s d n c 0x48
/-- COSPI (03 R87). -/
def execCospi (d : Die) (n : Blk) (c : Ctx) (s : State) : Out := vecEw s d n c 0x4C
/-- RSQRT (03 R87). -/
def execRsqrt (d : Die) (n : Blk) (c : Ctx) (s : State) : Out := vecEw s d n c 0x50

/-- VEC_DONE: the operation issued longest completes; its counter rises (04 R118). -/
def execVecDone (d : Die) (n : Blk) (c : Ctx) (s : State) : Out :=
  let x := ctxX s d n c
  match x.vec with
  | k :: ks => if inRun s d n c then .next (setCtxX s d n c ({ x with vec := ks }.done k)) else .next s
  | [] => .next s

/-! ### Register moves -/

/-- What VLOAD does: the register takes the source word. -/
def vloadRun (d n c : Nat) (s : State) (w : Nat) : Got :=
  match ownRead s d n 1 c (256 * vSrc w) 256 with
  | .stop s => .stop s
  | .ok s bs =>
    let x := (elems 4 bs).zipIdx.foldl (fun x p => x.setLane (vReg w) p.2 p.1) (ctxX s d n c)
    .ok (setCtxX s d n c x) []

/-- VLOAD: a register takes a word. -/
def execVload (d : Die) (n : Blk) (c : Ctx) (s : State) : Out :=
  vecIssue s d n c (· == 0x54) (vloadRun d n c)

/-- What VSTORE does: the destination word takes the register. -/
def vstoreRun (d n c : Nat) (s : State) (w : Nat) : Got :=
  vecPut s d n c (vDst w) ((ctxX s d n c).vbytes (vReg w)) 0 0

/-- VSTORE: a word takes a register. -/
def execVstore (d : Die) (n : Blk) (c : Ctx) (s : State) : Out :=
  vecIssue s d n c (· == 0x58) (vstoreRun d n c)

/-- What VKEY does (09 R234). -/
def vkeyRun (d n c : Nat) (s : State) (w : Nat) : Got :=
  let x := ctxX s d n c
  match runItem s d x.plan with
  | some it =>
    let k := slotKey it (vSrc w)
    let st := leNat ((it.desc.drop 0x20).take 8)
    let v := vReg w
    .ok (setCtxX s d n c ((((x.setLane v 4 k).setLane v 5 (k / 2 ^ 32)).setLane v 6 st).setLane v 7 (st / 2 ^ 32))) []
  | none => .ok s []

/-- VKEY: lanes 4-7 take the slot's Scree key and the RUN's STEP (09 R234). -/
def execVkey (d : Die) (n : Blk) (c : Ctx) (s : State) : Out :=
  vecIssue s d n c (· == 0x5C) (vkeyRun d n c)

/-! ### Conversions -/

/-- A two's complement reading of `k` bits. -/
def sInt (k x : Nat) : Int := if x / 2 ^ (k - 1) % 2 = 1 then (x : Int) - 2 ^ k else x
/-- Its bits. -/
def uInt (k : Nat) (v : Int) : Nat := (v % 2 ^ k).toNat

/-- An element converted (02 R60, R63, R65): source and destination codes, the dither if any. -/
def cvtElem (a b x : Nat) (r : Option Nat) : FR :=
  if a = 0 then
    if b = 2 then convFmt b32 b64 x
    else if b = 1 ∨ b = 3 then
      let f := if b = 1 then b16 else gf16
      (match r with
      | some u => if b32.isNaN x then convFmt b32 f x else f.encDither (b32.dec x) u
      | none => convFmt b32 f x)
    else
      let k := cvtBits b
      let lim : Int × Int := if b = 5 then (0, 255) else (-(2 ^ (k - 1) : Nat), (2 ^ (k - 1) : Nat) - 1)
      let v := toInt b32 x lim.1 lim.2
      (uInt k v.1, v.2)
  else if a = 1 then convFmt b16 b32 x
  else if a = 2 then convFmt b64 b32 x
  else if a = 3 then convFmt gf16 b32 x
  else if a = 5 then intToB32 x
  else intToB32 (sInt (cvtBits a) x)

/-- Lanes `l` and `l + 1` of a register as one number. -/
def CtxX.pair (x : CtxX) (v l : Nat) : Nat := x.lane v l + 2 ^ 32 * x.lane v (l + 1)

/-- What CVT does: the converted elements are written packed from the destination word. -/
def cvtRun (d n c : Nat) (s : State) (w : Nat) : Got :=
  let op := vOp w
  let a := op / 8 % 8
  let b := op % 8
  match ownRead s d n 1 c (256 * vSrc w) (256 * vLen w) with
  | .stop s => .stop s
  | .ok s bs =>
    let x := ctxX s d n c
    let v := vReg w
    let dr : Nat → Option Nat := fun i =>
      if op.testBit 6 then some (dither (x.pair v 4) (x.pair v 6) (x.pair v 8 + i)) else none
    let rs := ((elems (cvtBits a / 8) bs).zipIdx).map (fun p => cvtElem a b p.1 (dr p.2))
    vecPut s d n c (vDst w) (rs.flatMap (fun r => leBytes (cvtBits b / 8) r.1)) (rs.foldl (fun f r => f ||| r.2) 0) 0

/-- CVT: the source words are read, converted, and written packed from the destination word (03 R88). -/
def execCvt (d : Die) (n : Blk) (c : Ctx) (s : State) : Out :=
  vecIssue s d n c (fun op => decide (0x80 ≤ op)) (cvtRun d n c)

/-! ### Casts (08 R209-R213) -/

/-- The source format of a cast, pooling or argmax: no field gives it; binary32, binary16 or neither, by the plan (log entry 26). -/
def srcFmt (s : State) (d n c : Nat) : Option Fmt :=
  let x := ctxX s d n c
  match planOf s d x.plan with
  | some p =>
    let k := Config.vecShape p.digest x.lb x.pc 0 % 3
    if k = 0 then some b32 else if k = 1 then some b16 else none
  | none => some b32

/-- An operation on sources of binary32 or binary16; a source of another format halts the context with CFG_CONFLICT and the detail
(05 R143, 08 R210). -/
def withSrc (d n c detail : Nat) (run : Fmt → State → Nat → Got) (s : State) (w : Nat) : Got :=
  match srcFmt s d n c with
  | some f => run f s w
  | none => .stop (halt s d n c Rsn.CFG_CONFLICT detail)

/-- What a cast of one group gives: element codes, scale byte, carried entry, flags, saturated elements, and whether the carried
exponent was raised. -/
structure CastOut where
  codes : List Nat
  scale : Nat
  carried : Nat
  fl : Nat
  sat : Nat
  raised : Bool

/-- Largest finite magnitude of a group's real elements. -/
def groupMax (xs : List Nat) : Dy :=
  xs.foldl (fun a x => match b32.dec x with
    | .num _ m e => if a.lt ⟨m, e⟩ then ⟨m, e⟩ else a
    | _ => a) .zero

/-- HEAD: the largest h of 0-15 with y 2^h within the largest element (08 R213). -/
def headOf (f : NFmt) (a : Dy) (e : Nat) : Nat :=
  if a.m = 0 then 15
  else ((List.range 16).filter (fun h : Nat => (a.shl (127 - (e : Int) + (h : Int))).le f.vmax)).foldl max 0

/-- One group cast (02 R62): its binary32 elements with the dither of each, the number of real ones first; `old` is the carried
entry under CAST_DELAYED. -/
def castGroup (f : NFmt) (xs : List (Nat × Option Nat)) (real : Nat) (old : Option Nat) : CastOut :=
  let rs := xs.take real
  let a := groupMax (rs.map (·.1))
  let em := absmaxE f a
  let e := match old with
    | some o => o % 256
    | none => em.1
  if rs.any (fun p => b32.isNaN p.1) then
    ⟨List.replicate 32 0, 255, old.getD (em.1 + 512 * headOf f a em.1),
      fNANGRP ||| flagIf (rs.any (fun p => b32.isSig p.1)) fNV, 0, false⟩
  else
    let ys := rs.map (fun p => f.ofFV (b32.dec p.1) e p.2)
    let sat := (ys.filter (·.2.1)).length
    let fl := ys.foldl (fun g y => g ||| y.2.2) 0 ||| flagIf (decide (0 < sat)) fSAT
    let codes := ys.map (·.1) ++ List.replicate (32 - real) 0
    match old with
    | some _ =>
      if 0 < sat then ⟨codes, e, min 254 (e + 1) + 256, fl, sat, decide (e < 254)⟩
      else ⟨codes, e, e + 512 * headOf f a e, fl, 0, false⟩
    | none =>
      ⟨codes, e, e + flagIf (em.2 && decide (0 < sat)) 256 + (if 0 < sat then 0 else 512 * headOf f a e), fl, sat, false⟩

/-- The cast configuration is within the limits of R211. -/
def castOk (x : CtxX) (v : Nat) (delayed : Bool) : Bool :=
  decide (1 ≤ x.lane v 0 ∧ x.lane v 0 ≤ 4) && decide (x.lane v 1 ≤ 6143) &&
  (decide (x.lane v 2 ≤ 6143) || (!delayed && x.lane v 2 == 0xFFFFFFFF)) && decide (x.lane v 3 ≤ 1) &&
  decide (1 ≤ x.lane v 10 ∧ x.lane v 10 ≤ 65536)

/-- Writes by the vector unit that stand or fall together: the first that the context's regions refuse stops it before any is made
(02 R64), else all are made, in order. -/
def vecPuts (s : State) (d n c : Nat) (ps : List (Nat × List Byte)) : Got :=
  match ps.findSome? (fun p => if p.2.isEmpty then none else accCheck s d n 1 c 1 (256 * p.1) p.2.length) with
  | some r => .stop (denyOwn s d n 1 c 1 r)
  | none => .ok (ps.foldl (fun s p => memWriteAt s (spadAddr d n (256 * p.1)) p.2) s) []

/-- Element `i` of a cast: its row, its place in the row and whether it is padding (08 R211). -/
def castReal (len i : Nat) : Bool := decide (i % roundUp len 32 < len)
/-- Index of a real element under 02 R67, from the first. -/
def castIdx (len i : Nat) : Nat := i / roundUp len 32 * len + i % roundUp len 32

/-- A cast: source read, groups converted; elements at the destination word, scale bytes at the scale word, carried entries at
the carried word (08 R210-R213). A destination past the banks halts as 03 R88 says. -/
def castRun (d n c : Nat) (delayed : Bool) (sf : Fmt) (s : State) (w : Nat) : Got :=
  let x := ctxX s d n c
  let v := vReg w
  if !castOk x v delayed then .stop (halt s d n c Rsn.CFG_RANGE 0x80)
  else
    let f := nfmtOf (x.lane v 0)
    let len := x.lane v 10
    let groups := vLen w * 2048 / sf.bits / 32
    if !inBanks (vDst w) (ceilDiv (groups * 4 * f.bits) 256) || !inBanks (x.lane v 1) (ceilDiv groups 256) ||
        !(x.lane v 2 == 0xFFFFFFFF || inBanks (x.lane v 2) (ceilDiv (2 * groups) 256)) then
      .stop (halt s d n c Rsn.CFG_CONFLICT 0x58)
    else
      match ownRead s d n 1 c (256 * vSrc w) (256 * vLen w) with
      | .stop s => .stop s
      | .ok s bs =>
        let rc : Got := if delayed then ownRead s d n 1 c (256 * x.lane v 2) (2 * groups) else .ok s []
        match rc with
        | .stop s => .stop s
        | .ok s cs =>
          let xs := (elems (sf.bits / 8) bs).map (fun q => if sf = b32 then (q, 0) else convFmt b16 b32 q)
          let dr : Nat → Option Nat := fun i =>
            if x.lane v 3 = 1 then some (dither (x.pair v 4) (x.pair v 6) (x.pair v 8 + castIdx len i)) else none
          let out := (List.range groups).map (fun g =>
            let es := (List.range 32).map (fun k => ((xs.getD (32 * g + k) (0, 0)).1, dr (32 * g + k)))
            let real := ((List.range 32).filter (fun k => castReal len (32 * g + k))).length
            castGroup f es real (if delayed then some (leNat ((cs.drop (2 * g)).take 2)) else none))
          let fl := out.foldl (fun a o => a ||| o.fl) (flagIf (((xs.zipIdx).any (fun q => castReal len q.2 && decide (q.1.2 ≠ 0)))) fNV)
          let s := signal s d n c fl ((out.map (·.sat)).sum)
          let s := holdAdd s (Reg.BLK_CAST_RAISED d n c) 0 32 ((out.filter (·.raised)).length)
          vecPuts s d n c ([(vDst w, out.flatMap (fun o => packBits f.bits o.codes)),
            (x.lane v 1, out.map (fun o => BitVec.ofNat 8 o.scale))] ++
            (if x.lane v 2 = 0xFFFFFFFF then [] else [(x.lane v 2, out.flatMap (fun o => leBytes 2 o.carried))]))

/-- CAST_ABSMAX (08 R209-R211). -/
def execCastAbsmax (d : Die) (n : Blk) (c : Ctx) (s : State) : Out := vecIssue s d n c (· == 0x68) (withSrc d n c 0x84 (castRun d n c false))
/-- CAST_DELAYED (08 R213). -/
def execCastDelayed (d : Die) (n : Blk) (c : Ctx) (s : State) : Out := vecIssue s d n c (· == 0x69) (withSrc d n c 0x84 (castRun d n c true))

/-- What CAST_DECODE does (02 R61). -/
def decodeRun (d n c : Nat) (s : State) (w : Nat) : Got :=
  let x := ctxX s d n c
  let v := vReg w
  let f := nfmtOf (x.lane v 0)
  let len := x.lane v 10
  let groups := vLen w * 64 / f.bits
  if !(decide (1 ≤ x.lane v 0 ∧ x.lane v 0 ≤ 4) && decide (x.lane v 1 ≤ 6143) && decide (1 ≤ len ∧ len ≤ 65536)) then
    .stop (halt s d n c Rsn.CFG_RANGE 0x80)
  else if !inBanks (vDst w) (ceilDiv groups 2) || !inBanks (x.lane v 1) (ceilDiv groups 256) then
    .stop (halt s d n c Rsn.CFG_CONFLICT 0x58)
  else
    match ownRead s d n 1 c (256 * vSrc w) (256 * vLen w) with
    | .stop s => .stop s
    | .ok s bs =>
      match ownRead s d n 1 c (256 * x.lane v 1) groups with
      | .stop s => .stop s
      | .ok s sc =>
        let rs := (List.range (32 * groups)).map (fun i =>
          if castReal len i then f.toB32 (packed bs f.bits i) (sc.getD (i / 32) 0).toNat else (0, 0))
        vecPut s d n c (vDst w) (rs.flatMap (fun r => leBytes 4 r.1)) (rs.foldl (fun a r => a ||| r.2) 0) 0

/-- CAST_DECODE (03 R88, 02 R61): whole groups of the source decoded into binary32; padding is written as +0. -/
def execCastDecode (d : Die) (n : Blk) (c : Ctx) (s : State) : Out :=
  vecIssue s d n c (· == 0x6A) (decodeRun d n c)

/-! ### Pooling (05 R143-R146) -/

/-- A pooling geometry (05 R144). -/
structure Geo where
  wd : Nat
  ht : Nat
  ch : Nat
  kh : Nat
  kw : Nat
  sh : Nat
  sw : Nat
  pt : Nat
  pb : Nat
  pl : Nat
  pr : Nat
  out : Nat

/-- The geometry of a register. -/
def geoOf (x : CtxX) (v : Nat) : Geo :=
  ⟨x.lane v 0, x.lane v 1, x.lane v 2, x.lane v 3, x.lane v 4, x.lane v 5, x.lane v 6, x.lane v 7, x.lane v 8, x.lane v 9,
    x.lane v 10, x.lane v 11⟩

/-- Output height and width. -/
def Geo.oh (g : Geo) : Nat := (g.ht + g.pt + g.pb - g.kh) / g.sh + 1
/-- Output width. -/
def Geo.ow (g : Geo) : Nat := (g.wd + g.pl + g.pr - g.kw) / g.sw + 1

/-- The limits of R144, for a source element of `b` bytes. -/
def Geo.ok (g : Geo) (b : Nat) : Bool :=
  decide (1 ≤ g.wd ∧ g.wd ≤ 65535 ∧ 1 ≤ g.ht ∧ g.ht ≤ 65535 ∧ 1 ≤ g.ch ∧ g.ch ≤ 8192) &&
  decide (1 ≤ g.kh ∧ g.kh ≤ 16 ∧ 1 ≤ g.kw ∧ g.kw ≤ 16 ∧ 1 ≤ g.sh ∧ g.sh ≤ 16 ∧ 1 ≤ g.sw ∧ g.sw ≤ 16) &&
  decide (g.pt < g.kh ∧ g.pb < g.kh ∧ g.pl < g.kw ∧ g.pr < g.kw ∧ g.out ≤ 1) &&
  decide (g.kh ≤ g.ht + g.pt + g.pb ∧ g.kw ≤ g.wd + g.pl + g.pr) &&
  decide (g.wd * g.ht * g.ch * b ≤ 32768) && decide (g.oh * g.ow * g.ch * (if g.out = 1 then 2 else 4) ≤ 32768)

/-- Indexes of the real elements of the window of output (`y`, `x`), channel `k`, rows first; channels lie innermost (05 R133). -/
def Geo.window (g : Geo) (y x k : Nat) : List Nat :=
  (List.range g.kh).flatMap (fun i => (List.range g.kw).filterMap (fun j =>
    let r := y * g.sh + i
    let q := x * g.sw + j
    if g.pt ≤ r ∧ r < g.pt + g.ht ∧ g.pl ≤ q ∧ q < g.pl + g.wd then
      some (((r - g.pt) * g.wd + (q - g.pl)) * g.ch + k) else none))

/-- One pooled output, in binary32 before the output conversion: 0 maximum, 1 average over all, 2 average over the valid. -/
def pool (kind : Nat) (g : Geo) (xs : List Nat) : FR :=
  match xs with
  | [] => (0, 0)
  | y :: ys =>
    if kind = 0 then
      ys.foldl (fun a x => let r := b32.minMax true a.1 x; (r.1, a.2 ||| r.2)) (if b32.isNaN y then (b32.quiet y, flagIf (b32.isSig y) fNV) else (y, 0))
    else
      let t := xs.foldl (fun a x => let r := b32.add a.1 x; (r.1, a.2 ||| r.2)) (0, 0)
      let n := if kind = 1 then g.kh * g.kw else xs.length
      let q := b32.div t.1 (intToB32 n).1
      (q.1, t.2 ||| q.2)

/-- A pooling operation. -/
def poolRun (d n c kind : Nat) (sf : Fmt) (s : State) (w : Nat) : Got :=
  let g := geoOf (ctxX s d n c) (vReg w)
  if !g.ok (sf.bits / 8) then .stop (halt s d n c Rsn.CFG_RANGE 0x57)
  else
    let len := g.wd * g.ht * g.ch * (sf.bits / 8)
    let ob := if g.out = 1 then 2 else 4
    if !inBanks (vSrc w) (ceilDiv len 256) || !inBanks (vDst w) (ceilDiv (g.oh * g.ow * g.ch * ob) 256) then
      .stop (halt s d n c Rsn.CFG_CONFLICT 0x58)
    else
      match ownRead s d n 1 c (256 * vSrc w) len with
      | .stop s => .stop s
      | .ok s bs =>
        let xs := (elems (sf.bits / 8) bs).map (fun q => if sf = b32 then (q, 0) else convFmt b16 b32 q)
        let rs := (List.range (g.oh * g.ow * g.ch)).map (fun i =>
          let es := (g.window (i / g.ch / g.ow) (i / g.ch % g.ow) (i % g.ch)).map (fun j => xs.getD j (0, 0))
          let r := pool kind g (es.map (·.1))
          let o : FR := if g.out = 1 then convFmt b32 b16 r.1 else (r.1, 0)
          (o.1, es.foldl (fun f e => f ||| e.2) 0 ||| r.2 ||| o.2))
        vecPut s d n c (vDst w) (rs.flatMap (fun r => leBytes ob r.1)) (rs.foldl (fun a r => a ||| r.2) 0) 0

/-- POOL_MAX (05 R145). -/
def execPoolMax (d : Die) (n : Blk) (c : Ctx) (s : State) : Out := vecIssue s d n c (· == 0x60) (withSrc d n c 0x58 (poolRun d n c 0))
/-- POOL_AVG_ALL (05 R146). -/
def execPoolAvgAll (d : Die) (n : Blk) (c : Ctx) (s : State) : Out := vecIssue s d n c (· == 0x61) (withSrc d n c 0x58 (poolRun d n c 1))
/-- POOL_AVG_VALID (05 R146). -/
def execPoolAvgValid (d : Die) (n : Blk) (c : Ctx) (s : State) : Out := vecIssue s d n c (· == 0x62) (withSrc d n c 0x58 (poolRun d n c 2))

/-! ### Argmax (05 R147) -/

/-- `x` replaces the running best: greater, a NaN greater than every number. -/
def beats (f : Fmt) (x best : Nat) : Bool :=
  if f.isNaN best then false else if f.isNaN x then true else ltV (f.dec best) (f.dec x)

/-- A scan of channels from index `i` on: the best value and its index. -/
def scanMax (f : Fmt) : List Nat → Nat → Nat × Nat → Nat × Nat
  | [], _, b => b
  | x :: xs, i, b => scanMax f xs (i + 1) (if beats f x b.1 then (x, i) else b)

/-- Channels of each pixel: no field gives them (log entry 26). -/
def argChans (s : State) (d n c e : Nat) : Nat :=
  let x := ctxX s d n c
  match planOf s d x.plan with
  | some p => 1 + Config.vecShape p.digest x.lb x.pc 1 % e
  | none => e

/-- An argmax: an index of 16 bits per pixel at the destination word; the last pixel's best value and index in lanes 0 and 1. A
continued scan starts from those lanes, its channels numbered after the ones the chain has scanned (log entry 26). -/
def argRun (d n c : Nat) (cont : Bool) (f : Fmt) (s : State) (w : Nat) : Got :=
  let v := vReg w
  let px := vLen w * 2048 / f.bits / argChans s d n c (vLen w * 2048 / f.bits)
  if !inBanks (vDst w) (ceilDiv (2 * px) 256) then .stop (halt s d n c Rsn.CFG_CONFLICT 0x58)
  else match ownRead s d n 1 c (256 * vSrc w) (256 * vLen w) with
  | .stop s => .stop s
  | .ok s bs =>
    let xs := elems (f.bits / 8) bs
    let x := ctxX s d n c
    let ch := argChans s d n c xs.length
    let base := if cont then tget natDef x.chan v else 0
    let rs := (List.range (xs.length / ch)).map (fun p =>
      let ys := (xs.drop (p * ch)).take ch
      if cont then scanMax f ys base (x.lane v 0, x.lane v 1) else scanMax f (ys.drop 1) 1 (ys.headD 0, 0))
    let b := rs.getLastD (0, 0)
    let y := ((ctxX s d n c).setLane v 0 b.1).setLane v 1 b.2
    vecPut (setCtxX s d n c { y with chan := tset natDef y.chan v (base + ch) }) d n c (vDst w)
      (rs.flatMap (fun r => leBytes 2 r.2)) 0 0

/-- ARGMAX (05 R147). -/
def execArgmax (d : Die) (n : Blk) (c : Ctx) (s : State) : Out := vecIssue s d n c (· == 0x63) (withSrc d n c 0x58 (argRun d n c false))
/-- ARGMAX_CONT (05 R147). -/
def execArgmaxCont (d : Die) (n : Blk) (c : Ctx) (s : State) : Out := vecIssue s d n c (· == 0x64) (withSrc d n c 0x58 (argRun d n c true))

end Sys2Proof.Machine
end

