-- ==== Sys2Proof/Machine/FtgOps.lean ====
section
/-! DEFINITION. What the engines of a Footing compute: the optimiser updates, the reductions, the compressors and the digests, and the
completion of a command (07 R180-R204). A command's whole effect is applied at its completion (log entry 38). -/

namespace Sys2Proof.Machine

/-! ### binary32 steps (07 R186) -/

/-- A result passed on with the flags it signalled. -/
def frBind (x : FR) (f : Nat → FR) : FR := let y := f x.1; (y.1, x.2 ||| y.2)
/-- A value times a power of two. -/
def FV.scale2 : FV → Int → FV
  | .num n m e, k => .num n m (e + k)
  | v, _ => v
/-- A binary32 pattern scaled by a power of two. -/
def b32Scale (x : Nat) (k : Int) : FR := (b32.nanOf [x]).getD (b32.enc ((b32.dec x).scale2 k))
/-- The format of a gradient code: 0 GF16 1 binary16 2 binary32 (07 R177). -/
def gFmtOf (c : Nat) : Fmt := if c = 0 then gf16 else if c = 1 then b16 else b32
/-- The format of a reduce code: 0 binary32 1 GF16 2 binary16 (07 R192). -/
def rFmtOf (c : Nat) : Fmt := if c = 0 then b32 else if c = 1 then gf16 else b16
/-- A stored pattern decoded into binary32 (02 R60). -/
def ldB32 (f : Fmt) (x : Nat) : FR := if f = b32 then (x, 0) else convFmt f b32 x
/-- A dithered conversion of a binary32 pattern to GF16 under key `k`, step and index (02 R65). -/
def dith16 (x k st e : Nat) : FR := gf16.encDither (b32.dec x) (dither k st (e % 2 ^ 64))
/-- `fma(-lr, u, w)` with lr held exactly (07 R189). -/
def fmaLr (lr : FV) (u w : Nat) : FR :=
  let nlr : FV := match lr with | .num n m e => .num (!n) m e | v => v
  let p := mulV nlr (b32.dec u)
  match b32.nanOf [u, w], p with
  | some r, none => if b32.isNaN u then r else (r.1, r.2 ||| fNV)
  | some r, some _ => r
  | none, none => b32.invalid
  | none, some v => b32.sumV v (b32.dec w)

/-- What the update engine makes of one element: codes of M1, M2 and W, the binary32 w, flags, a non-finite gradient, a skip, and TINY. -/
structure UpdOut where
  m1 : Nat
  m2 : Nat
  w : Nat
  w32 : Nat
  fl : Nat
  nonfin : Bool
  skip : Bool
  tiny : Bool

/-- The binary32 w differs from the stored weight by less than 2^-16 q (07 R189). -/
def isTiny (w32 old : Nat) : Bool :=
  match b32.dec w32, gf16.dec old with
  | .num n m e, .num k b f =>
    let d := (FV.dy (.num n m e)).add (FV.dy (.num k b f)).neg
    d.abs.lt ⟨1, gf16.qexp b f - 16⟩
  | _, _ => false

/-- New binary32 moment(s) and u of an element before weight decay: first moment, square root of the second moment, u (07 R186). -/
def updCore (p : List Byte) (i g m r : Nat) : (Nat × Nat × Nat) × Nat :=
  let c : Nat → Nat := fun o => ent p i o 4
  if pOp p = 2 then
    let m' := frBind (b32.mul (c 0x48) g) (fun t => b32.fma (c 0x44) m t)
    let rr := b32.mul r r
    let cg := frBind (b32.mul g g) (fun t => b32.mul (c 0x50) t)
    let v := b32.fma (c 0x4C) rr.1 cg.1
    let r' := b32.sqrt v.1
    let a := b32.mul m'.1 (c 0x5C)
    let b := b32.fma r'.1 (c 0x60) (c 0x54)
    let u := b32.div a.1 b.1
    ((m'.1, r'.1, u.1), m'.2 ||| rr.2 ||| cg.2 ||| v.2 ||| r'.2 ||| a.2 ||| b.2 ||| u.2)
  else if pOp p = 1 then
    let m' := b32.fma (c 0x44) m g
    let u := if pFlag p 1 then b32.fma (c 0x44) m'.1 g else (m'.1, 0)
    ((m'.1, 0, u.1), m'.2 ||| u.2)
  else
    let k := frBind (b32.mul (c 0x48) g) (fun t => b32.fma (c 0x44) m t)
    let u := if b32.isNaN k.1 || (b32.dec k.1).isZero then k.1 else if (b32.dec k.1).neg then 0xBF800000 else 0x3F800000
    let m' := frBind (b32.mul (c 0x50) g) (fun t => b32.fma (c 0x4C) m t)
    ((m'.1, 0, u), k.2 ||| m'.2)

/-- One element of an update: element `k` of entry `i`, with its gradient, weight and moment patterns (07 R186, R188). -/
def updElem (p : List Byte) (i k g0 w0 m0 r0 : Nat) : UpdOut :=
  let g := frBind (ldB32 (gFmtOf (pGfmt p)) g0) (fun x => b32Scale x (-(entS p i 0x65)))
  let w := ldB32 gf16 w0
  let nf := match b32.dec g.1 with | .num _ _ _ => false | _ => true
  if nf && pFlag p 0 then ⟨m0, r0, w0, w.1, g.2, true, true, false⟩
  else
    let m := frBind (ldB32 gf16 m0) (fun x => b32Scale x (-(entS p i 0x66)))
    let r := if pOp p = 2 then frBind (ldB32 gf16 r0) (fun x => b32Scale x (-(entS p i 0x67))) else (0, 0)
    let n := updCore p i g.1 m.1 r.1
    let u := b32.fma (ent p i 0x58 4) w.1 n.1.2.2
    let wn := fmaLr ((b32.dec (ent p i 0x40 4)).scale2 (entS p i 0x64)) u.1 w.1
    let e := ent p i 0x38 8 + k
    let st := pStep p
    let sm := frBind (b32Scale n.1.1 (entS p i 0x66)) (fun x => dith16 x (ent p i 0x70 8) st e)
    let sr := if pOp p = 2 then frBind (b32Scale n.1.2.1 (entS p i 0x67)) (fun x => dith16 x (ent p i 0x78 8) st e) else (r0, 0)
    let sw := dith16 wn.1 (ent p i 0x68 8) st e
    ⟨sm.1, sr.1, sw.1, wn.1, g.2 ||| m.2 ||| r.2 ||| n.2 ||| u.2 ||| wn.2 ||| sm.2 ||| sr.2 ||| sw.2, nf, false, isTiny wn.1 w0⟩

/-! ### Writing a region -/

/-- Bytes written at a virtual address under extents. -/
def extStore (s : State) (es : List Extent) (va : Nat) (bs : List Byte) : State :=
  es.foldl (fun s e =>
    let lo := max va e.va
    let hi := min (va + bs.length) (e.va + e.len)
    if lo < hi then memWrite s (e.pa + (lo - e.va)) ((bs.drop (lo - va)).take (hi - lo)) else s) s

/-- The units of a region that hold a byte `bad` marks, poisoned; how many. -/
def extPoisonAt (s : State) (es : List Extent) (va n : Nat) (bad : Nat → Bool) : State × Nat :=
  let us := (((List.range n).filter bad).filterMap (fun i => (extPa es (va + i)).map poisonUnit)).eraseDups
  (us.foldl setPoison s, us.length)

/-- A region written with some of its bytes poisoned. -/
def outRegion (s : State) (es : List Extent) (va : Nat) (bs : List Byte) (bad : Nat → Bool) : State × Nat :=
  extPoisonAt (extStore s es va bs) es va bs.length bad

/-! ### Entries -/

/-- What a command has done so far: elements whose outputs were written, R188's and R189's counts, poisoned output units, flags and
saturations, whether an input was poison, a non-finite value was stored, a record was malformed; and a digest. -/
structure FAcc where
  done : Nat
  nonfin : Nat
  tiny : Nat
  pois : Nat
  fl : Nat
  sat : Nat
  bad : Bool
  num : Bool
  mal : Bool

/-- Nothing done. -/
def FAcc.zero : FAcc := ⟨0, 0, 0, 0, 0, 0, false, false, false⟩

/-- A little-endian element of a region. -/
def extNum (s : State) (es : List Extent) (va n : Nat) : Nat := leNat (extRead s es va n)

/-- A GF16 pattern is an infinity or NaN. -/
def nonFin16 (x : Nat) : Bool := decide (gf16.inf ≤ x % gf16.sgn)

/-- One entry of an update (07 R185-R190). -/
def updEntry (p : List Byte) (es : List Extent) (x : State × FAcc) (i : Nat) : State × FAcc :=
  let n := ent p i 0x30 8
  let gb := gBytes (pGfmt p)
  let va : Nat → Nat := fun o => ent p i o 8
  let two := pOp p == 2
  let s := (entRegs p i).foldl (fun s r => if r.role = 1 then s else cleanExt s es r.va r.len) x.1
  let bad : Nat → Bool := fun k =>
    let j := k / 16 * 16
    let m := min 16 (n - j)
    extPoisoned s es (va 0 + 2 * j) (2 * m) || extPoisoned s es (va 8 + gb * j) (gb * m) ||
    extPoisoned s es (va 0x10 + 2 * j) (2 * m) || (two && extPoisoned s es (va 0x18 + 2 * j) (2 * m))
  let os := (List.range n).map (fun k =>
    let w0 := extNum s es (va 0 + 2 * k) 2
    let m0 := extNum s es (va 0x10 + 2 * k) 2
    let r0 := if two then extNum s es (va 0x18 + 2 * k) 2 else 0
    if bad k then (true, UpdOut.mk m0 r0 w0 0 0 false false false)
    else (false, updElem p i k (extNum s es (va 8 + gb * k) gb) w0 m0 r0))
  let at2 : Nat → Bool := fun b => (os.getD (b / 2) (false, ⟨0, 0, 0, 0, 0, false, false, false⟩)).1
  let a := outRegion s es (va 0x10) (os.flatMap (fun o => leBytes 2 o.2.m1)) at2
  let b := if two then outRegion a.1 es (va 0x18) (os.flatMap (fun o => leBytes 2 o.2.m2)) at2 else (a.1, 0)
  let c := outRegion b.1 es (va 0) (os.flatMap (fun o => leBytes 2 o.2.w)) at2
  let gs : List CastOut := if va 0x20 = 0 then [] else (List.range (n / 32)).map (fun g =>
    let ys := (os.drop (32 * g)).take 32
    if ys.any (·.1) then ⟨List.replicate 32 0, 255, 0, fNANGRP, 0, false⟩
    else castGroup gf8a (ys.map (fun o => (o.2.w32, none))) 32 none)
  let s := if va 0x20 = 0 then c.1
    else extStore (extStore c.1 es (va 0x20) (gs.flatMap (fun g => packBits 8 g.codes))) es (va 0x28) (gs.map (fun g => BitVec.ofNat 8 g.scale))
  let real := os.filter (fun o => !o.1)
  let y := x.2
  let fl := gs.foldl (fun f g => f ||| g.fl) (real.foldl (fun f o => f ||| o.2.fl) y.fl)
  let pois := y.pois + a.2 + b.2 + c.2
  (s, { y with
    done := y.done + n
    nonfin := y.nonfin + (real.filter (fun o => o.2.nonfin)).length
    tiny := y.tiny + (real.filter (fun o => o.2.tiny)).length
    pois := pois
    fl := fl
    sat := y.sat + (gs.map (·.sat)).sum
    bad := y.bad || os.any (·.1)
    num := y.num || real.any (fun o => !o.2.skip && (nonFin16 o.2.m1 || (two && nonFin16 o.2.m2) || nonFin16 o.2.w)) })

/-- One element of a reduction: in, local, and what goes out (07 R193). -/
def redElem (p : List Byte) (i k inn loc : Nat) : FR :=
  let l := ldB32 (rFmtOf (ent p i 0x35 1)) loc
  let mode := ent p i 0x34 1
  if mode = 0 then l
  else if mode = 1 then frBind l (fun x => b32.add inn x)
  else
    let q := frBind (frBind l (fun x => b32.add inn x)) (fun x => b32.mul x (ent p i 0x30 4))
    let f := rFmtOf (ent p i 0x36 1)
    frBind q (fun x =>
      if f = b32 then (x, 0)
      else if ent p i 0x37 1 = 1 then
        (if b32.isNaN x then convFmt b32 f x
        else f.encDither (b32.dec x) (dither (ent p i 0x28 8) (pStep p) ((ent p i 0x20 8 + k) % 2 ^ 64)))
      else convFmt b32 f x)

/-- A signed byte. -/
def sByte (b : Byte) : Int := b.toInt
/-- Bit `j` of a SIGN record (07 R199). -/
def signBit (r : List Byte) (j : Nat) : Bool := (r.getD (8 + j / 8) 0).toNat.testBit (j % 8)

/-- One segment of a SIGN reduction: the 4,104 bytes of its counter record, flags, and counters that held (07 R194). -/
def signMerge (mid : Bool) (inn loc : List Byte) : List Byte × Nat × Nat :=
  let mu := ldB32 gf16 (leNat (loc.take 2))
  let sm := if mid then frBind mu (fun x => b32.add (leNat (inn.take 4)) x) else mu
  let cs := (List.range 4096).map (fun j =>
    let v := (if mid then sByte (inn.getD (8 + j) 0) else 0) + (if signBit loc j then -1 else 1)
    if 127 < v then ((127 : Int), true) else if v < -127 then ((-127 : Int), true) else (v, false))
  let held := (cs.filter (·.2)).length
  (leBytes 4 sm.1 ++ List.replicate 4 0 ++ cs.map (fun c => BitVec.ofInt 8 c.1), sm.2 ||| flagIf (decide (0 < held)) fSAT, held)

/-- One entry of a reduction (07 R192-R194). -/
def redEntry (p : List Byte) (es : List Extent) (x : State × FAcc) (i : Nat) : State × FAcc :=
  let s := x.1
  let y := x.2
  let n := ent p i 0x18 8
  let mode := ent p i 0x34 1
  let va : Nat → Nat := fun o => ent p i o 8
  if 3 ≤ mode then
    let rs := (List.range n).map (fun g =>
      signMerge (mode == 4) (extRead s es (va 0 + 4104 * g) (if mode = 4 then 4104 else 0)) (extRead s es (va 8 + 520 * g) 520))
    let bad : Nat → Bool := fun b =>
      let g := b / 4104
      let o := b % 4104
      (decide (o < 4 ∨ 8 ≤ o)) &&
      ((mode == 4 && extPoisoned s es (va 0 + 4104 * g + o) 1) ||
        (if o < 4 then extPoisoned s es (va 8 + 520 * g) 2 else extPoisoned s es (va 8 + 520 * g + 8 + (o - 8) / 8) 1))
    let out := rs.flatMap (·.1)
    let w := outRegion s es (va 0x10) out bad
    let fl := rs.foldl (fun f r => f ||| r.2.1) y.fl
    let sat := y.sat + (rs.map (·.2.2)).sum
    (w.1, { y with done := y.done + 4096 * n, pois := y.pois + w.2, fl := fl, sat := sat, bad := y.bad || decide (0 < w.2) })
  else
    let lb := rBytes (ent p i 0x35 1)
    let ob := if mode = 2 then rBytes (ent p i 0x36 1) else 4
    let bad : Nat → Bool := fun k =>
      extPoisoned s es (va 8 + lb * k) lb || (mode != 0 && extPoisoned s es (va 0 + 4 * k) 4)
    let rs := (List.range n).map (fun k =>
      if bad k then ((0, 0) : FR)
      else redElem p i k (if mode = 0 then 0 else extNum s es (va 0 + 4 * k) 4) (extNum s es (va 8 + lb * k) lb))
    let w := outRegion s es (va 0x10) (rs.flatMap (fun r => leBytes ob r.1)) (fun b => bad (b / ob))
    let fl := rs.foldl (fun f r => f ||| r.2) y.fl
    (w.1, { y with done := y.done + n, pois := y.pois + w.2, fl := fl, bad := y.bad || decide (0 < w.2) })

/-- Magnitude order of TOPK (07 R196): NaN above every number, then larger magnitude, equal ones by lower index. -/
def topBefore (a b : Nat × Nat) : Bool :=
  let k : Nat → Nat := fun x => min (x % b32.sgn) (b32.inf + 1)
  decide (k b.1 < k a.1) || (decide (k a.1 = k b.1) && decide (a.2 < b.2))

/-- An element put at its place in a list sorted by `topBefore`, of which the first `n` are kept. -/
def topIns (n : Nat) (e : Nat × Nat) (l : List (Nat × Nat)) : List (Nat × Nat) :=
  (l.takeWhile (fun f => topBefore f e) ++ e :: l.dropWhile (fun f => topBefore f e)).take n

/-- The indexes TOPK selects, ascending. -/
def topSel (n : Nat) (as : List Nat) : List Nat :=
  ((as.zipIdx).foldl (fun l e => topIns n e l) []).map (·.2) |>.foldl (fun l j => kins j l) []

/-- An incoming TOPK record: its entries, none when malformed (07 R198). -/
def topRecord (bs : List Byte) : Option (List (Nat × Nat)) :=
  let es := (List.range (bs.length / 4)).map (fun i => leNat ((bs.drop (4 * i)).take 4))
  let js := es.map (· % 4096)
  if es.all (fun e => decide (e / 4096 % 16 = 0)) && (js.zip (js.drop 1)).all (fun q => decide (q.1 < q.2)) then
    some (es.map (fun e => (e % 4096, e / 65536)))
  else none

/-- What one segment gives: its record, its residual codes, flags; none for a malformed incoming record (07 R196-R199). -/
def segment (p : List Byte) (i g : Nat) (gs rs : List Nat) (inn : List Byte) : Option (List Byte × List Nat × Nat) :=
  let op := pOp p
  let e0 := ent p i 0x28 8 + 4096 * g
  let dt : Nat → Nat → FR := fun x j => dith16 x (ent p i 0x30 8) (pStep p) (e0 + j)
  let a0 := (gs.zip rs).map (fun q =>
    let a := ldB32 (gFmtOf (pGfmt p)) q.1
    let b := ldB32 gf16 q.2
    let c := b32.add a.1 b.1
    (c.1, a.2 ||| b.2 ||| c.2))
  if op = 0x22 then
    let tot := a0.foldl (fun t a => frBind t (fun x => b32.add x (a.1 % b32.sgn))) (0, 0)
    let mu := frBind tot (fun x => frBind (b32Scale x (-12)) (fun y => convFmt b32 gf16 y))
    let mf := ldB32 gf16 mu.1
    let neg : Nat → Bool := fun a => !b32.isNaN a && (b32.dec a).neg && !(b32.dec a).isZero
    let res := (a0.zipIdx).map (fun q =>
      frBind (b32.sub q.1.1 (if neg q.1.1 then b32.negate mf.1 else mf.1)) (fun x => dt x q.2))
    let bits := packBits 1 (a0.map (fun a => if neg a.1 then 1 else 0))
    some (leBytes 2 mu.1 ++ List.replicate 6 0 ++ bits, res.map (·.1),
      res.foldl (fun f r => f ||| r.2) (a0.foldl (fun f a => f ||| a.2) mu.2))
  else
    match (if op = 0x21 then topRecord inn else some []) with
    | none => none
    | some es =>
      let as := es.foldl (fun (l : List FR) (q : Nat × Nat) =>
        let x := ldB32 gf16 q.2
        let old := l.getD q.1 (0, 0)
        let c := b32.add x.1 old.1
        l.set q.1 (c.1, old.2 ||| x.2 ||| c.2)) a0
      let sel := topSel (ent p i 0x38 2) (as.map (·.1))
      let out := (as.zipIdx).map (fun q =>
        if sel.contains q.2 then
          let c := convFmt b32 gf16 q.1.1
          let d := frBind (b32.sub q.1.1 (ldB32 gf16 c.1).1) (fun x => dt x q.2)
          (c.1, d.1, q.1.2 ||| c.2 ||| d.2)
        else
          let d := dt q.1.1 q.2
          (0, d.1, q.1.2 ||| d.2))
      some (sel.flatMap (fun j => leBytes 4 (j + 65536 * (out.getD j (0, 0, 0)).1)), out.map (·.2.1), out.foldl (fun f o => f ||| o.2.2) 0)

/-- One segment of entry `i` processed; nothing after a malformed record (07 R198). A poisoned input of a segment reaches its record
and its residual. -/
def segStep (p : List Byte) (es : List Extent) (i : Nat) (x : State × FAcc) (g : Nat) : State × FAcc :=
  if x.2.mal then x
  else
    let s := x.1
    let y := x.2
    let gb := gBytes (pGfmt p)
    let gv := ent p i 0 8 + 4096 * gb * g
    let rv := ent p i 8 8 + 8192 * g
    let il := if pOp p = 0x21 then 4 * ent p i 0x3A 2 else 0
    let iv := ent p i 0x18 8 + il * g
    let ol := if pOp p = 0x22 then 520 else 4 * ent p i 0x38 2
    let ov := ent p i 0x10 8 + ol * g
    if extPoisoned s es gv (4096 * gb) || extPoisoned s es rv 8192 || (il != 0 && extPoisoned s es iv il) then
      let a := extPoisonAt s es rv 8192 (fun _ => true)
      let b := extPoisonAt a.1 es ov ol (fun _ => true)
      (b.1, { y with done := y.done + 4096, pois := y.pois + a.2 + b.2, bad := true })
    else
      match segment p i g ((List.range 4096).map (fun j => extNum s es (gv + gb * j) gb))
          ((List.range 4096).map (fun j => extNum s es (rv + 2 * j) 2)) (extRead s es iv il) with
      | none => (s, { y with mal := true })
      | some o => (extStore (extStore s es rv (o.2.1.flatMap (leBytes 2))) es ov o.1,
          { y with done := y.done + 4096, fl := y.fl ||| o.2.2 })

/-- The outputs of a command's entries, with what HASH digests (07 R185-R204). -/
def cmdRun (s : State) (p : List Byte) (es : List Extent) : State × FAcc × List Byte :=
  let op := pOp p
  let is := List.range (pEnts p)
  let z := (s, FAcc.zero)
  if op ≤ 3 then let r := is.foldl (updEntry p es) z; (r.1, r.2, [])
  else if op = 0x10 then let r := is.foldl (redEntry p es) z; (r.1, r.2, [])
  else if op < 0x30 then
    let r := is.foldl (fun x i => (List.range (ent p i 0x20 8)).foldl (segStep p es i) x) z
    (r.1, r.2, [])
  else
    let n := (is.map (fun i => ent p i 8 8)).sum
    let hit : State → Bool := fun s => is.any (fun i => extPoisoned s es (ent p i 0 8) (ent p i 8 8))
    if op = 0x30 then
      let s := is.foldl (fun s i => cleanExt s es (ent p i 0 8) (ent p i 8 8)) s
      (s, { FAcc.zero with done := n, bad := hit s }, sha384 (is.flatMap (fun i => extRead s es (ent p i 0 8) (ent p i 8 8))))
    else if op = 0x40 then
      let k := (is.map (fun i => ((List.range (ent p i 8 8 / 32)).filter (fun j => extPoisoned s es (ent p i 0 8 + 32 * j) 32)).length)).sum
      (s, { FAcc.zero with done := n, pois := k, bad := decide (0 < k) }, [])
    else (is.foldl (fun s i => extStore s es (ent p i 0 8) (List.replicate (ent p i 8 8) 0)) s, { FAcc.zero with done := n }, [])

/-- The 128 bytes of a result block (07 R180). -/
def resultBytes (a : FAcc) (reason detail : Nat) (digest : List Byte) : List Byte :=
  leBytes 8 a.done ++ leBytes 8 a.nonfin ++ leBytes 8 a.tiny ++ leBytes 8 a.pois ++ leBytes 4 (a.fl + 65536 * holdAt 0xFFFF a.sat) ++
  leBytes 1 reason ++ leBytes 1 detail ++ List.replicate 26 0 ++ (digest ++ List.replicate 48 0).take 48 ++ List.replicate 16 0

/-- A command's codes: POISON 0x78 before NUMERIC 0x79 (log entry 39), BAD_DESC 0x7A for a malformed record. -/
def cmdCodes (a : FAcc) : Nat × Nat :=
  if a.mal then (Rsn.BAD_DESC, 0x7A) else if a.bad then (Rsn.POISON, 0x78) else if a.num then (Rsn.NUMERIC, 0x79) else (0, 0)

/-- The seal registers of a seal point (07 R202). -/
def sealPoint (s : State) (h : Nat) (digest : List Byte) : State :=
  let s := wr s (Reg.FTG_SEAL_SEQ (8 + h)) (rd s (Reg.FTG_SEAL_SEQ (8 + h)) + 1)
  (List.range 12).foldl (fun s i => wr s (Reg.FTG_SEAL_DIGEST (8 + h) i) (BitVec.ofNat 32 (leNat ((digest.drop (4 * i)).take 4)))) s

/-- A command runs to its end: errors its reads meet, which a SCRUB writes anew, outputs, flags, result block, and what the journal keeps (07 R180, 19 R475). -/
def cmdFinish (s : State) (h : Nat) (it : Item) (ecc : List (Nat × Bool)) : State × Item × (Nat × Nat) :=
  let p := it.param
  let es := it.extents
  let ins := cmdPieces it false
  let s := ins.foldl (fun s p => readErrors s p.1 p.2) s
  let s := ecc.foldl (fun s e => if piecesMeet ins [(e.1, 1)] then memError s e.1 e.2 else s) s
  let s := if pOp p = 0x40 then ins.foldl (fun s p => rewritten s p.1 p.2) s else s
  let r := cmdRun s p es
  let a := r.2.1
  let c := cmdCodes a
  let fa := Reg.FTG_FP_FLAGS (8 + h)
  let s := holdAdd (wr r.1 fa (rd r.1 fa ||| BitVec.ofNat 32 a.fl)) fa 16 16 a.sat
  let hash := pOp p == 0x30
  let bad := hash && a.bad
  let res := resultBytes (if bad then { a with pois := 2 } else a) c.1 c.2 (if bad then [] else r.2.2)
  let s := extStore s es (pResult p) res
  let s := if bad then (extPoisonAt s es (pResult p + 0x40) 48 (fun _ => true)).1 else s
  let sealed := hash && pFlag p 2 && !bad
  let s := if sealed then sealPoint s h r.2.2 else s
  (s, { it with jrnl := some (if hash && pFlag p 2 then (7, if bad then [] else r.2.2, sha384 p) else (3, sha384 p, sha384 (res.take 64))) }, c)

/-- What a VERIFY makes of its HASH (17 R425): the digest against EXPECT; a mismatch is SEAL_MISMATCH 0x2A in the completion and in the
result block, and the stack's bit of CKP_STATUS.VERIFIED follows the outcome. A poisoned EXPECT counts as poisoned input. -/
def verifyEnd (s : State) (h : Nat) (it : Item) (c : Nat × Nat) : State × Item × (Nat × Nat) :=
  let exp := dfld it.desc 0x20 8
  let res := pResult it.param
  let got := extRead s it.extents (res + 0x40) 48
  let want := extRead s it.extents exp 48
  let it := { it with jrnl := some (6, got, want) }
  let a := Reg.CKP_STATUS (h / 3)
  if c ≠ (0, 0) then (s, it, c)
  else if extPoisoned s it.extents exp 48 then (s, it, (Rsn.POISON, 0x78))
  else if got = want then (fset s a (2 + h % 3) 1 1, it, c)
  else (fset (extStore s it.extents (res + 0x24) (leBytes 1 Rsn.SEAL_MISMATCH ++ leBytes 1 0x2A)) a (2 + h % 3) 1 0, it,
    (Rsn.SEAL_MISMATCH, 0x2A))

/-- FTG_COMMAND_DONE (07 R180): the running command of an engine completes. `ecc` lists the units in which its reads met an error, with
true for an uncorrectable one. -/
def execFtgCommandDone (h : Stack) (e : Fin 5) (ecc : List (Nat × Bool)) (s : State) : Out :=
  match (engineItems s h e).find? (·.started) with
  | none => .next s
  | some it =>
    if outOf s (h / 3) || !footingUp s h then .next s
    else
      let r := cmdFinish s h it ecc
      let r := if it.opcode = 0x33 then verifyEnd r.1 h r.2.1 r.2.2 else r
      .next (endItem (putItem r.1 r.2.1) { r.2.1 with phase := 1 } r.2.2.1 r.2.2.2)

end Sys2Proof.Machine
end

