-- ==== Sys2Proof/Machine/Wire.lean ====
section
/-! DEFINITION. Network frames as they are on the wire (13 R323, R328, R330): Ethernet, IPv6 and UDP, the Pollek packet, and the RoCEv2 transport
headers of the InfiniBand annex that 13 R328 names. -/

namespace Sys2Proof.Machine

/-- Big-endian bytes (00 R10). -/
def beBytes (n v : Nat) : List Byte := (leBytes n v).reverse
/-- A big-endian field. -/
def beFld (bs : List Byte) (o n : Nat) : Nat := leNat ((bs.drop o).take n).reverse

/-- One byte of a CRC32C (Castagnoli, reflected). -/
def crcStep (c : W32) (b : Byte) : W32 :=
  (List.range 8).foldl (fun c _ => if c.getLsbD 0 then (c >>> 1) ^^^ 0x82F63B78 else c >>> 1) (c ^^^ b.setWidth 32)
/-- CRC32C of a byte string (13 R330). -/
def crc32c (bs : List Byte) : Nat := (bs.foldl crcStep 0xFFFFFFFF ^^^ 0xFFFFFFFF).toNat
/-- The CRC-32 of an Ethernet frame's FCS and of a RoCEv2 packet's ICRC (log entry 180). -/
def crcEther (bs : List Byte) : Nat := (crcLsb (0xEDB88320 : W32) 0xFFFFFFFF bs ^^^ 0xFFFFFFFF).toNat

/-- The addresses and codes that a context's record gives each of its frames (13 R325). -/
structure FrameTo where
  dstMac : List Byte
  srcMac : List Byte
  /-- The 802.1Q tag's two bytes, where the context has one. -/
  vlan : Option Nat
  dscp : Nat
  sport : Nat
  srcIp : List Byte
  dstIp : List Byte
  deriving DecidableEq, Repr

/-- A frame closed by its FCS, padded to 60 bytes before it. -/
def fcsClose (f : List Byte) : List Byte :=
  let f := f ++ List.replicate (60 - f.length) 0
  f ++ leBytes 4 (crcEther f)

/-- Sum of the 16-bit words of a byte string. -/
def sumWords : List Byte → Nat
  | a :: b :: r => a.toNat * 256 + b.toNat + sumWords r
  | [a] => a.toNat * 256
  | [] => 0

/-- A UDP checksum over IPv6: the one's complement of the one's complement sum, all ones for 0. -/
def udpSum (bs : List Byte) : Nat :=
  let n := sumWords bs
  let r := if n = 0 then 0 else (n - 1) % 65535 + 1
  if r = 65535 then 65535 else 65535 - r

/-- The IPv6 header (RFC 8200) before a UDP datagram of `len` bytes. -/
def ip6Head (a : FrameTo) (ecn label hop len : Nat) : List Byte :=
  beBytes 4 (6 * 2 ^ 28 + (4 * a.dscp + ecn) * 2 ^ 20 + label % 2 ^ 20) ++ beBytes 2 len ++ leBytes 1 17 ++ leBytes 1 hop ++ a.srcIp ++ a.dstIp

/-- A UDP datagram with its checksum over the IPv6 pseudo-header. -/
def udpGram (a : FrameTo) (dport : Nat) (body : List Byte) : List Byte :=
  let n := 8 + body.length
  let h := beBytes 2 a.sport ++ beBytes 2 dport ++ beBytes 2 n
  h ++ beBytes 2 (udpSum (a.srcIp ++ a.dstIp ++ beBytes 4 n ++ beBytes 4 17 ++ h ++ body)) ++ body

/-- The frame that carries `body` to UDP port `dport`. -/
def udpFrame (a : FrameTo) (ecn label hop dport : Nat) (body : List Byte) : List Byte :=
  let tag := match a.vlan with
    | some v => [0x81, 0x00] ++ beBytes 2 v
    | none => []
  let u := udpGram a dport body
  fcsClose (a.dstMac ++ a.srcMac ++ tag ++ [0x86, 0xDD] ++ ip6Head a ecn label hop u.length ++ u)

/-- A Pollek packet (13 R330): header, extension and payload, closed by its CRC32C in network byte order (log entry 46). -/
def pollekPkt (typ flags op hop dst psn msg off seg group src : Nat) (ext payload : List Byte) : List Byte :=
  let b := leBytes 1 (16 + typ) ++ leBytes 1 flags ++ leBytes 1 op ++ leBytes 1 hop ++ beBytes 4 dst ++ beBytes 4 psn ++ beBytes 4 msg ++
    beBytes 4 off ++ beBytes 2 payload.length ++ beBytes 2 seg ++ beBytes 4 group ++ beBytes 4 src ++ ext ++ payload
  b ++ beBytes 4 (crc32c b)

/-- BTH opcode of a RoCEv2 packet of the kinds of a packet message, `seg` 0 First 1 Middle 2 Last 3 Only (log entry 180). -/
def bthOp (kind seg : Nat) : Nat :=
  match kind with
  | 0 => [0, 1, 2, 4].getD seg 4
  | 1 => [6, 7, 8, 10].getD seg 10
  | 2 => 12
  | 3 => [13, 14, 15, 16].getD seg 16
  | 6 => 0x81
  | _ => 17

/-- The extended headers after the BTH: the RETH of a first WRITE packet and of a READ request, and the AETH of an acknowledgement, a NAK and a
READ response but its middle ones, with the syndrome of a NAK's code; a CNP carries 16 bytes of 0. -/
def rocExt (kind psn : Nat) (args : List Nat) : List Byte :=
  let reth : List Nat → List Byte := fun l => beBytes 8 (l.getD 0 0) ++ beBytes 4 (l.getD 1 0) ++ beBytes 4 (l.getD 2 0)
  let aeth : Nat → List Byte := fun y => leBytes 1 y ++ beBytes 3 (Config.rocOpen 2 psn)
  match kind with
  | 1 => if args.getD 0 3 = 0 ∨ args.getD 0 3 = 3 then reth (args.drop 1) else []
  | 2 => reth args
  | 3 => if args.getD 0 3 = 1 then [] else aeth 31
  | 4 => aeth 31
  | 5 => aeth (match args.getD 0 0 with
    | 0 => 0x60
    | 1 => 0x20 + Config.rocOpen 3 psn % 32
    | k => 0x5F + k)
  | 6 => List.replicate 16 0
  | _ => []

/-- A RoCEv2 packet (13 R328): BTH, extended headers, the payload padded to 4 bytes, and the ICRC over the invariant fields. -/
def rocFrame (a : FrameTo) (qpn kind psn : Nat) (args : List Nat) (data : List Byte) : List Byte :=
  let seg := args.getD 0 3
  let pad := (4 - data.length % 4) % 4
  let asks := kind = 2 ∨ (kind < 2 ∧ 2 ≤ seg)
  let bth : Byte → List Byte := fun r => leBytes 1 (bthOp kind seg) ++ leBytes 1 (0x40 + 16 * pad) ++ [0xFF, 0xFF] ++ [r] ++ beBytes 3 qpn ++
    leBytes 1 (if asks then 128 else 0) ++ beBytes 3 psn
  let rest := rocExt kind psn args ++ data ++ List.replicate pad 0
  let label := Config.rocOpen 0 a.sport
  let n := 8 + 12 + rest.length + 4
  let fixed := List.replicate 8 0xFF ++ [0x6F, 0xFF, 0xFF, 0xFF] ++ ((ip6Head a 2 label 255 n).drop 4) ++
    beBytes 2 a.sport ++ beBytes 2 4791 ++ beBytes 2 n ++ [0xFF, 0xFF] ++ bth 0xFF ++ rest
  udpFrame a 2 label (Config.rocOpen 1 a.sport % 256) 4791 (bth (if kind = 6 then 0x40 else 0) ++ rest ++ leBytes 4 (crcEther fixed))

/-- The frame of a Pollek packet (13 R330, R331): hop limit 64, DATA sent with ECT(0), the mark of an ACK or NAK open (log entry 180). -/
def pollekFrame (a : FrameTo) (kind : Nat) (pkt : List Byte) : List Byte :=
  udpFrame a (if kind = 7 then 2 else Config.rocOpen 4 kind % 4) (Config.rocOpen 0 a.sport) 64 48620 pkt

end Sys2Proof.Machine
end

