-- ==== Sys2Proof/Machine/Net.lean ====
section
/-! DEFINITION. Network ports, flow contexts and the network items (13 R322-R339): packets as they are built and sent, the checks and the
calendar's share of each item, what it does when it starts, and how a context enters ERROR. -/

namespace Sys2Proof.Machine

/-! ### Contexts (13 R325, R326) -/

/-- A flow context. -/
def flow (s : State) (c : Nat) : FlowX := tget flowDef s.flows c
/-- Its new state. -/
def setFlow (s : State) (c : Nat) (x : FlowX) : State := s.withFlows (tset flowDef s.flows c x)
/-- Address of a context's record: its entry of the table at NET_CTX_BASE. -/
def ctxEntry (s : State) (c : Nat) : Nat :=
  fget s (Reg.NET_CTX_BASE_LO (c / 65536)) 24 8 * 0x1000000 + fget s (Reg.NET_CTX_BASE_HI (c / 65536)) 0 20 * 0x100000000 +
  128 * (c % 65536)
/-- A field of a context's record. -/
def cf (s : State) (c o n : Nat) : Nat := memNat s (ctxEntry s c + o) n
/-- KIND: 0 ROCE 1 POLLEK 2 NVME 3 RAW. -/
def cKind (s : State) (c : Nat) : Nat := cf s c 0 1
/-- Local port. -/
def cPort (s : State) (c : Nat) : Nat := cf s c 1 1 % 2
/-- Half. -/
def cHalf (s : State) (c : Nat) : Nat := cf s c 1 1 / 2 % 2
/-- Payload bytes of a packet. -/
def cMtu (s : State) (c : Nat) : Nat := 512 * 2 ^ cf s c 0x46 1
/-- Sequence numbers of a context wrap here. -/
def cPsn (s : State) (c : Nat) : Nat := if cKind s c = 1 then 2 ^ 32 else 2 ^ 24
/-- State of the link of a port half: 0 DOWN 1 TRAINING 2 UP. -/
def linkState (s : State) (d n half : Nat) : Nat := fget s (Reg.NET_PORT_STATUS d n) (2 * half) 2
/-- A context's link is UP. -/
def ctxUp (s : State) (c : Nat) : Bool := linkState s (c / 65536) (cPort s c) (cHalf s c) == 2
/-- Capacity of row 8 of 09 R240 for a port. -/
def portCap (s : State) (d n : Nat) : Nat := if bit s (Reg.NET_PORT_CFG d n) 1 then 44 else 88

/-- The fields of a record lie in range (13 R325); [2] of PORT is the port's BREAKOUT. -/
def recRange (s : State) (d : Nat) (bs : List Byte) : Bool :=
  let f := dfld bs
  let k := f 0 1
  let p := f 1 1
  let psn := if k = 1 then 2 ^ 32 else 2 ^ 24
  decide (k ≤ 3 ∧ p < 8 ∧ f 2 1 < 64 ∧ f 3 1 < 2 ∧ 0xC000 ≤ f 6 2) &&
  p.testBit 2 == bit s (Reg.NET_PORT_CFG d (p % 2)) 1 && (p.testBit 2 || !p.testBit 1) && !(f 4 2).testBit 12 &&
  decide (2 ≤ f 8 4 ∧ f 8 4 < 2 ^ 24 ∧ f 0x0C 4 < 2 ^ 24 ∧ f 0x36 2 = 0 ∧ f 0x38 4 < psn ∧ f 0x3C 4 < psn) &&
  decide (4096 ≤ f 0x40 4 ∧ f 0x40 4 ≤ 1048576 ∧ f 0x44 1 ≤ 7 ∧ f 0x45 1 ≤ 7) &&
  decide (1 ≤ f 0x46 1 ∧ f 0x46 1 ≤ (if k = 1 then 4 else 3) ∧ f 0x47 1 = 0) &&
  decide (1024 ≤ f 0x48 4 ∧ f 0x48 4 < 2 ^ 31 ∧ f 0x4E 50 = 0)

/-- Contexts of a die that are not FREE. -/
def ctxsOf (s : State) (d : Nat) : List Nat := (s.flows.filter (fun e => e.1 / 65536 == d && e.2.st != 0)).map (·.1)

/-- LOCAL_QPN is unique on its port, among contexts and FLOW_SETs under way; and at most one RAW context names each port or half (13
R325, R327). -/
def qpnFree (s : State) (d c : Nat) (bs : List Byte) : Bool :=
  let hit : (Nat → Nat → Nat) → Bool := fun f =>
    (f 1 1 % 2 == dfld bs 1 1 % 2 && f 8 4 == dfld bs 8 4) || (f 0 1 == 3 && dfld bs 0 1 == 3 && f 1 1 == dfld bs 1 1)
  !(ctxsOf s d).any (fun e => e != c && hit (cf s e)) &&
  !s.items.any (fun i => i.die == d && i.opcode == 0x27 && i.obj != c && !i.param.isEmpty && hit (dfld i.param))

/-- Items that name a context: every network item and POINT. -/
def ofCtx (i : Item) (d c : Nat) : Bool :=
  i.die == d && i.obj == c && (decide (0x20 ≤ i.opcode ∧ i.opcode ≤ 0x23) || i.opcode == 0x27 || i.opcode == 0x28 || i.opcode == 0x30)

/-- KINDs an opcode suits (13 R334); SEND on NVME too, which 13 R338 asks for (log entry 45). -/
def ctxSuits (op k : Nat) : Bool :=
  if op = 0x20 then decide (k ≤ 1) else if op = 0x21 then k == 0 else if op = 0x22 then decide (k ≤ 2)
  else if op = 0x28 then k == 2 else if op = 0x30 then k == 1 else true

/-- The checks of 13 R334 for an item that names a context; `recd` is the record of an OPEN or RESET. -/
def netChecks (s : State) (d op c : Nat) (act : Nat) (recd : List Byte) : Chk :=
  let mine := decide (c < 262144) && c / 65536 == d
  let st := (flow s c).st
  let opening := op == 0x27 && act != 3
  let port := if opening then dfld recd 1 1 else cf s c 1 1
  firstFail [
    (mine && (!opening || (recRange s d recd && qpnFree s d c recd)), Rsn.CFG_RANGE, 0xE2),
    (op == 0x27 || st == 0 || ctxSuits op (cKind s c), Rsn.CFG_CONFLICT, 0xE3),
    ((if op = 0x27 then
        !s.items.any (fun i => ofCtx i d c && i.opcode == 0x27) &&
        (if act = 1 then st == 0 else if act = 2 then st == 2 else st != 0 && !s.items.any (fun i => ofCtx i d c))
      else st == 1), Rsn.STATE, 0xE1),
    (linkState s d (port % 2) (port / 2 % 2) == 2, Rsn.PEER_ABSENT, 0xE0)]

/-! ### Packets -/

/-- A message pushed out. -/
def push (s : State) (m : Msg) : State := s.withSent (m :: s.sent)
/-- What a context's record and its port's registers put into each of its frames (13 R325, R341). -/
def frameTo (s : State) (c : Nat) : FrameTo :=
  let d := c / 65536
  let e := ctxEntry s c
  { dstMac := memRead s (e + 0x30) 6
    srcMac := beBytes 2 (fget s (Reg.NET_PORT_MAC_HI d (cPort s c)) 0 16) ++ beBytes 4 (rd s (Reg.NET_PORT_MAC_LO d (cPort s c))).toNat
    vlan := if cf s c 3 1 % 2 = 1 then some (cf s c 4 2) else none
    dscp := cf s c 2 1 % 64
    sport := cf s c 6 2
    srcIp := memRead s (e + 0x10) 16
    dstIp := memRead s (e + 0x20) 16 }
/-- A packet of a context, with its frame. -/
def ctxMsg (s : State) (c kind psn : Nat) (args : List Nat) (data : List Byte) : Msg :=
  ⟨.packet, [c / 65536, cPort s c, kind, c, psn] ++ args,
    if 7 ≤ kind then pollekFrame (frameTo s c) kind data else rocFrame (frameTo s c) (cf s c 0x0C 4) kind psn args data⟩

/-- A packet sent on a flow, kept until it is acknowledged; its PSN and `span - 1` more are taken. -/
def sendOne (s : State) (c ring seq seg kind span : Nat) (mk : Nat → Msg) : State :=
  let x := flow s c
  let m := mk x.next
  push (setFlow s c { x with next := (x.next + span) % cPsn s c, tx := x.tx ++ [⟨x.next, span, kind, ring, seq, seg, m⟩] }) m

/-- A message's bytes cut at the payload size: offset and bytes, one empty piece when there are none. -/
def cut (mtu : Nat) (bs : List Byte) : List (Nat × List Byte) :=
  (List.range (max 1 (ceilDiv bs.length mtu))).map (fun i => (i * mtu, (bs.drop (i * mtu)).take mtu))

/-- A SEND (`op` 1) or WRITE (`op` 0) message on a flow (13 R328, R330): on Pollek with its header, on RoCEv2 as First 0, Middle 1, Last 2 or
Only 3; a WRITE carries its remote address, key and length. -/
def sendMsg (s : State) (c ring seq op va key : Nat) (bs : List Byte) : State :=
  let ps := cut (cMtu s c) bs
  let n := ps.length
  let x := flow s c
  let msg := x.msgOut
  let pollek := cKind s c == 1
  let s := ps.zipIdx.foldl (fun (s : State) (p : (Nat × List Byte) × Nat) =>
    let fst := p.2 == 0
    let lst := p.2 + 1 == n
    let ext := if op = 0 ∧ p.2 = 0 then beBytes 8 va ++ beBytes 4 key ++ beBytes 4 bs.length else []
    if pollek then
      let fl := (if fst then 1 else 0) + (if lst then 2 else 0) + (if ext.isEmpty then 0 else 8)
      sendOne s c ring seq 0 (if op = 0 then 1 else 0) 1 (fun psn => ctxMsg s c 7 psn []
        (pollekPkt 1 fl op 0 (cf s c 0x0C 4) psn msg p.1.1 0 0 (cf s c 8 4) ext p.1.2))
    else
      let g := if fst ∧ lst then 3 else if fst then 0 else if lst then 2 else 1
      sendOne s c ring seq 0 (if op = 0 then 1 else 0) 1 (fun psn => ctxMsg s c (if op = 0 then 1 else 0) psn
        ([g] ++ (if op = 0 ∧ fst then [va, key, bs.length] else [])) p.1.2)) s
  setFlow s c { flow s c with msgOut := (msg + 1) % 2 ^ 32 }

/-- A READ request, which takes the PSNs of its response (13 R328). -/
def readMsg (s : State) (c va key len psn : Nat) : Msg := ctxMsg s c 2 psn [va, key, len] []
/-- PSNs a READ response takes. -/
def readSpan (s : State) (c len : Nat) : Nat := max 1 (ceilDiv len (cMtu s c))
/-- A READ request sent. -/
def sendRead (s : State) (c ring seq va key len : Nat) : State :=
  sendOne s c ring seq 0 2 (readSpan s c len) (readMsg s c va key len)

/-- An acknowledgement of everything received in order: Pollek reports a CE mark in ECE (13 R328, R331). -/
def sendAck (s : State) (c : Nat) : State :=
  let x := flow s c
  let psn := (x.expect + cPsn s c - 1) % cPsn s c
  let s := setFlow s c { x with unacked := 0, ece := false }
  if cKind s c = 1 then
    let e := if x.ece then 1 else 0
    push s (ctxMsg s c 8 psn [e] (pollekPkt 2 (4 * e) 0 0 (cf s c 0x0C 4) psn 0 0 0 0 (cf s c 8 4) [] []))
  else push s (ctxMsg s c 4 psn [] [])

/-- A NAK: on RoCEv2 with its code (0 sequence error 1 receiver not ready 2 invalid request 3 remote access error 4 remote operational
error); on Pollek with the last PSN received in order. -/
def sendNak (s : State) (c code : Nat) : State :=
  let x := flow s c
  if cKind s c = 1 then
    let psn := (x.expect + cPsn s c - 1) % cPsn s c
    push s (ctxMsg s c 9 psn [] (pollekPkt 3 0 0 0 (cf s c 0x0C 4) psn 0 0 0 0 (cf s c 8 4) [] []))
  else push s (ctxMsg s c 5 x.expect [code] [])

/-- Everything not acknowledged is sent again (13 R328, R331). -/
def resend (s : State) (c : Nat) : State := (flow s c).tx.foldl (fun s p => push s p.msg) s

/-- DISCARDED of a port (13 R341). -/
def discard (s : State) (d n : Nat) : State := holdAdd s (Reg.NET_PORT_DROPS d n) 16 16 1

/-- SOURCE of records of kind PORT, and their DATA (16 R386). -/
def netNote (s : State) (d n half reason detail : Nat) : State :=
  note s d reason detail 6 (2 * d + n + 8 * half) (leBytes 1 (linkState s d n half))

/-! ### ERROR (13 R326, R337) -/

/-- A context leaves READY for ERROR: it sends nothing more, every accepted item of it ends with these codes, and a group that names it is
in ERROR (14 R345). -/
def ctxError (s : State) (c reason detail : Nat) : State :=
  let d := c / 65536
  let x := flow s c
  let s := setFlow s c { x with st := 2, tx := [], unacked := 0, ece := false, rxOff := 0, rxVa := 0, rxKey := 0, rxLen := 0 }
  let s := s.withGroups (s.groups.map (fun (g : Group) =>
    if g.die = d ∧ (dfld g.recd 8 4 = c ∨ dfld g.recd 0x0C 4 = c) then { g with st := 3 } else g))
  (s.items.filter (fun i => ofCtx i d c && i.opcode != 0x27)).foldl (fun s i => endItem s i reason detail) s

/-! ### What network items ask (13 R333-R335) -/

/-- Resources and energy of a transfer of `len` bytes at `share` units on a context's port: receive (`rx` 1) or transmit (0), with the path
to the extents of LOCAL; `rest` are what else the item reads or writes in memory. -/
def netWant (s : State) (d c rx share len : Nat) (es rest : List (Nat × Nat)) (write : Bool) : Asked :=
  let rate := 4 * share
  let ts := sites s es
  match sidePath s d write none rate ts, sidePath s d true none 0 (sites s rest) with
  | .inr e, _ => .refuse e.1 e.2
  | _, .inr e => .refuse e.1 e.2
  | .inl p, .inl q =>
    let n := cPort s c
    let dur := ceilDiv (ceilDiv len rate + 256 + 128 * p.hops) 2
    let sh : Shape := {
      dur := dur, allow := 512 + cf s c 0x48 4 + holds (ts ++ sites s rest) dur
      res := rowSort ((resPort d n (cHalf s c) rx, rate) :: p.res)
      parts := (19, 13, len) :: p.parts
      uses := ((400 + 2 * d + n) :: p.uses ++ q.uses).eraseDups, obj := c }
    .ready ⟨0, fun _ _ => sh, meshShare s⟩ id

/-- SHARE is 1-22, or 1-11 on a half. -/
def shareOk (s : State) (d c share : Nat) : Bool :=
  decide (1 ≤ share ∧ share ≤ (if c / 65536 = d ∧ (cf s c 1 1).testBit 2 then 11 else 22))

/-- CTX of a descriptor. -/
def dCtx (desc : List Byte) : Nat := dfld desc 0x10 4

/-- NET_WRITE, NET_READ and NET_SEND. -/
def netXferAsk (s : State) (d r op : Nat) (desc : List Byte) : Asked :=
  let c := dCtx desc
  let len := dfld desc 0x20 4
  let fields := [(0x10, 4), (0x14, 1), (0x18, 8), (0x20, 4)] ++ (if op = 0x22 then [] else [(0x28, 8), (0x30, 4)])
  match descChecks s d r desc fields false (shareOk s d c (dfld desc 0x14 1) && decide (1 ≤ len ∧ len ≤ 2 ^ 31)) true true with
  | some (a, b) => .refuse a b
  | none => match netChecks s d op c 0 [] with
    | some (a, b) => .refuse a b
    | none =>
      .pages [3] [(dfld desc 0x18 8, len, if op = 0x21 then 3 else 1)] (fun s es =>
        netWant s d c (if op = 0x21 then 1 else 0) (dfld desc 0x14 1) len (extPieces es (dfld desc 0x18 8) len) [] (op == 0x21))

/-- NET_WRITE (13 R335). -/
def execNetWrite (d : Die) (r : Ring) (s : State) : Out :=
  letIn s d r (fun _ desc => dOp desc == 0x20) (fun s desc => netXferAsk s d r 0x20 desc)
/-- NET_READ. -/
def execNetRead (d : Die) (r : Ring) (s : State) : Out :=
  letIn s d r (fun _ desc => dOp desc == 0x21) (fun s desc => netXferAsk s d r 0x21 desc)
/-- NET_SEND. -/
def execNetSend (d : Die) (r : Ring) (s : State) : Out :=
  letIn s d r (fun _ desc => dOp desc == 0x22) (fun s desc => netXferAsk s d r 0x22 desc)

/-- What a NET_RECV asks of admission. -/
def netRecvAsk (s : State) (d r : Nat) (desc : List Byte) : Asked :=
  let c := dCtx desc
  let len := dfld desc 0x20 4
  let raw := c / 65536 == d && (flow s c).st != 0 && cKind s c == 3
  match descChecks s d r desc [(0x10, 4), (0x18, 8), (0x20, 4), (0x28, 8)] false (decide ((if raw then 9216 else 1) ≤ len))
    (decide (dfld desc 0x28 8 % 8 = 0)) true with
  | some (a, b) => .refuse a b
  | none => match netChecks s d 0x23 c 0 [] with
    | some (a, b) => .refuse a b
    | none =>
      .pages [3] [(dfld desc 0x18 8, len, 3), (dfld desc 0x28 8, 8, 3)] (fun s es =>
        let ts := sites s (es.map (fun (e : Extent) => (e.pa, e.len)))
        match sidePath s d true none 0 ts with
        | .inr e => .refuse e.1 e.2
        | .inl p =>
          let lim := (itemLimit s d desc ((ringX s d r).obs.headD 0)).1
          .ready ⟨0, fun _ t => ⟨0, lim - t, [], [], (400 + 2 * d + cPort s c) :: p.uses, c⟩, fun _ => 0⟩ id)

/-- NET_RECV (13 R333, R335): its bound is its limit. -/
def execNetRecv (d : Die) (r : Ring) (s : State) : Out :=
  letIn s d r (fun _ desc => dOp desc == 0x23) (fun s desc => netRecvAsk s d r desc)

/-- Region indexes of a die that are taken or about to be. -/
def keysUsed (s : State) (d : Nat) : Nat :=
  (s.netRegs.filter (fun g => g.die == d)).length + (s.items.filter (fun i => i.die == d && i.opcode == 0x24)).length

/-- What a NET_REG asks of admission. -/
def netRegAsk (s : State) (d r : Nat) (desc : List Byte) : Asked :=
  let len := dfld desc 0x18 8
  let acc := dfld desc 0x20 1
  match descChecks s d r desc [(0x10, 8), (0x18, 8), (0x20, 1), (0x21, 1), (0x28, 8)] false
    (decide (1 ≤ len ∧ len ≤ 2 ^ 40 ∧ acc < 4)) (decide (dfld desc 0x28 8 % 4 = 0)) true with
  | some (a, b) => .refuse a b
  | none =>
    if 16384 ≤ keysUsed s d then .refuse Rsn.NOT_SCHEDULABLE 0xEF
    else .pages [3] [(dfld desc 0x10 8, len, if acc.testBit 1 then 3 else acc % 2), (dfld desc 0x28 8, 4, 3)]
      (fun _ _ => .ready (plainWant 0 1024 0 []) id)

/-- NET_REG (13 R329, R333): the rights of its grants, then a free index. -/
def execNetReg (d : Die) (r : Ring) (s : State) : Out :=
  letIn s d r (fun _ desc => dOp desc == 0x24) (fun s desc => netRegAsk s d r desc)

/-- What a NET_DEREG asks of admission. -/
def netDeregAsk (s : State) (d r : Nat) (desc : List Byte) : Asked :=
  match descChecks s d r desc [(0x10, 4)] false true true true with
  | some (a, b) => .refuse a b
  | none => .ready (plainWant 0 1024 0 []) id

/-- NET_DEREG. -/
def execNetDereg (d : Die) (r : Ring) (s : State) : Out :=
  letIn s d r (fun _ desc => dOp desc == 0x25) (fun s desc => netDeregAsk s d r desc)

/-- What a RAW_TX asks of admission. -/
def rawTxAsk (s : State) (d r : Nat) (desc : List Byte) : Asked :=
  let p := dfld desc 0x10 1
  let len := dfld desc 0x20 2
  match descChecks s d r desc [(0x10, 1), (0x18, 8), (0x20, 2)] true (decide (p < 8 ∧ 60 ≤ len ∧ len ≤ 9212)) true true with
  | some (a, b) => .refuse a b
  | none =>
    if linkState s d (p % 2) (p / 2 % 2) ≠ 2 then .refuse Rsn.PEER_ABSENT 0xE0
    else .pages [3] [(dfld desc 0x18 8, len, 1)] (fun s es =>
      let ts := sites s (es.map (fun (e : Extent) => (e.pa, e.len)))
      let dur := ceilDiv (ceilDiv len 88 + 256) 2
      match sidePath s d false none 0 ts with
      | .inr e => .refuse e.1 e.2
      | .inl q => .ready ⟨0, fun _ _ => ⟨dur, 512 + holds ts dur, [], [(19, 13, len)], (400 + 2 * d + p % 2) :: q.uses, p⟩, fun _ => 0⟩ id)

/-- RAW_TX (13 R333, R335): privileged; it draws on the transmit reserve and needs its port's link UP (DEDUCED, log entry 47). -/
def execRawTx (d : Die) (r : Ring) (s : State) : Out :=
  letIn s d r (fun _ desc => dOp desc == 0x26) (fun s desc => rawTxAsk s d r desc)

/-- FLOW_SET (13 R333, R334): privileged; OPEN and RESET copy the record. -/
def flowSetAsk (s : State) (d r : Nat) (desc : List Byte) : Asked :=
  let c := dCtx desc
  let act := dfld desc 0x14 1
  match descChecks s d r desc [(0x10, 4), (0x14, 1), (0x18, 8)] true (decide (1 ≤ act ∧ act ≤ 3)) true true with
  | some (a, b) => .refuse a b
  | none =>
    let go : State → List Byte → Asked := fun s recd =>
      match netChecks s d 0x27 c act recd with
      | some (a, b) => .refuse a b
      | none => .ready (plainWant 0 1024 c []) (fun i => { i with param := recd })
    if act = 3 then go s []
    else .pages [3] [(dfld desc 0x18 8, 128, 1)] (fun s es =>
      if extPoisoned s es (dfld desc 0x18 8) 128 then .poison else go s (extRead s es (dfld desc 0x18 8) 128))

/-- FLOW_SET with ACTION 1. -/
def execFlowSetOpen (d : Die) (r : Ring) (s : State) : Out :=
  letIn s d r (fun _ desc => dOp desc == 0x27 && dfld desc 0x14 1 != 2 && dfld desc 0x14 1 != 3) (fun s desc => flowSetAsk s d r desc)
/-- FLOW_SET with ACTION 2. -/
def execFlowSetReset (d : Die) (r : Ring) (s : State) : Out :=
  letIn s d r (fun _ desc => dOp desc == 0x27 && dfld desc 0x14 1 == 2) (fun s desc => flowSetAsk s d r desc)
/-- FLOW_SET with ACTION 3. -/
def execFlowSetClose (d : Die) (r : Ring) (s : State) : Out :=
  letIn s d r (fun _ desc => dOp desc == 0x27 && dfld desc 0x14 1 == 3) (fun s desc => flowSetAsk s d r desc)

/-- What an NVME item asks of admission. -/
def nvmeAsk (s : State) (d r : Nat) (desc : List Byte) : Asked :=
  let c := dCtx desc
  let len := dfld desc 0x30 4
  let sqe := dfld desc 0x18 8
  match descChecks s d r desc [(0x10, 4), (0x14, 1), (0x18, 8), (0x20, 8), (0x28, 8), (0x30, 4)] false
    (shareOk s d c (dfld desc 0x14 1) && decide (512 ≤ len ∧ len ≤ 2 ^ 24)) (decide (dfld desc 0x28 8 % 16 = 0)) true with
  | some (a, b) => .refuse a b
  | none => match netChecks s d 0x28 c 0 [] with
    | some (a, b) => .refuse a b
    | none => .pages [3] [(sqe, 64, 1)] (fun s es =>
      if extPoisoned s es sqe 64 then .poison
      else
        let q := extRead s es sqe 64
        let op := dfld q 0 1
        if 2 < op then .refuse Rsn.CFG_CONFLICT 0xE3
        else .pages [3] ([(dfld desc 0x28 8, 16, 3)] ++ (if op = 0 then [] else [(dfld desc 0x20 8, len, if op = 2 then 3 else 1)]))
          (fun s es =>
            match netWant s d c (if op = 2 then 1 else 0) (dfld desc 0x14 1) len
              (if op = 0 then [] else extPieces es (dfld desc 0x20 8) len)
              (extPieces es sqe 64 ++ extPieces es (dfld desc 0x28 8) 16) (op == 2) with
            | .ready w f => .ready w (fun i => { f i with param := q })
            | a => a))

/-- NVME (13 R338): opcode of the submission entry 0 Flush, 1 Write, 2 Read; another is refused with CFG_CONFLICT 0xE3 (DEDUCED, log entry
48). -/
def execNvme (d : Die) (r : Ring) (s : State) : Out :=
  letIn s d r (fun _ desc => dOp desc == 0x28) (fun s desc => nvmeAsk s d r desc)

/-! ### What they do (13 R326, R337, R339) -/

/-- An item earlier in acceptance order on the same context has not been transmitted. -/
def behind (s : State) (it : Item) : Bool :=
  (s.items.takeWhile (fun i => ¬ (i.die = it.die ∧ i.ring = it.ring ∧ i.seq = it.seq))).any (fun i =>
    ofCtx i it.die it.obj && !i.started && i.opcode != 0x23 && i.opcode != 0x27)

/-- READ requests a context has outstanding. -/
def readsOut (s : State) (c : Nat) : Nat := ((flow s c).tx.filter (fun p => p.kind == 2)).length

/-- A region index that is free: which one the spec does not say (log entry 1). -/
def takeKey (s : State) (d : Nat) : Nat × State :=
  let p := takeFree s
  let fr := (List.range 16384).filter (fun k => !s.netRegs.any (fun g => g.die == d && g.key == k))
  (fr.getD (p.1 % max 1 fr.length) 16384, p.2)

/-- The extents of an item that a range of addresses lies in. -/
def rangeExts (es : List Extent) (va n : Nat) : List Extent :=
  es.filterMap (fun e =>
    let lo := max va e.va
    let hi := min (va + n) (e.va + e.len)
    if lo < hi then some ⟨lo, e.pa + (lo - e.va), hi - lo⟩ else none)

/-- The source of a transfer read and given to `k`; a byte that returns POISON ends the item with POISON 0xC2 and nothing is sent (DESIGN
CHOICE, log entry 49). -/
def withSource (s : State) (it : Item) (va n : Nat) (k : State → List Byte → State) : State :=
  match itemRead s it va n with
  | .bad s r d => endItem s it r d
  | .ok s bs po => if po then endItem s it Rsn.POISON 0xC2 else k s bs

/-- An NVMe item sends its capsule (13 R339): LOCAL under a transient key, the keyed SGL descriptor at bytes 24-39 and the command
identifier at bytes 2-3 of its copy of the entry. -/
def nvmeStart (s : State) (it : Item) : State :=
  let op := dfld it.param 0 1
  let len := dfld it.desc 0x30 4
  let va := dfld it.desc 0x20 8
  let k := takeKey s it.die
  let b := takeFree k.2
  let f := takeFree b.2
  let byte := b.1 % 256
  let used := (s.items.filter (fun i => i.opcode == 0x28 && i.obj == it.obj && i.started)).map (·.phase)
  let cids := (List.range 256).map (fun i => (f.1 + i) % 65536)
  let cid := (cids.find? (fun x => !used.contains x)).getD 0
  let reg : NetReg := ⟨it.die, k.1, byte, cf s it.obj 0x4C 2, va, len, if op = 2 then 2 else 1, rangeExts it.extents va len,
    some (it.ring, it.seq)⟩
  let s := if op = 0 then f.2 else f.2.withNetRegs (f.2.netRegs ++ [reg])
  let n := if op = 0 then 0 else len
  let cap := it.param.take 2 ++ leBytes 2 cid ++ (it.param.drop 4).take 20 ++ leBytes 8 (if op = 0 then 0 else va) ++ leBytes 3 n ++
    leBytes 4 (if op = 0 then 0 else k.1 * 256 + byte) ++ leBytes 1 0x40 ++ it.param.drop 40
  sendMsg (extReg (putItem s { it with started := true, phase := cid }) it.die) it.obj it.ring it.seq 1 0 0 cap

/-- A network item begins (13 R326): items of one context transmit in the order of their acceptance; a READ waits for one of the 16
outstanding requests, an NVMe command for one of 128. -/
def netStart (s : State) (it : Item) : State :=
  let c := it.obj
  let d := it.desc
  let go := putItem s { it with started := true }
  let it' := { it with started := true }
  if itemWaits s it then s
  else if it.opcode = 0x23 ∨ it.opcode = 0x24 ∨ it.opcode = 0x25 ∨ it.opcode = 0x27 then go
  else if it.opcode = 0x26 then
    withSource go it' (dfld d 0x18 8) (dfld d 0x20 2) (fun s bs => emit s .packet [it.die, it.obj % 2, 10, 0, 0, it.obj] (fcsClose bs))
  else if behind s it ∨ (flow s c).st ≠ 1 then s
  else if it.opcode = 0x21 then
    if 16 ≤ readsOut s c then s
    else sendRead go c it.ring it.seq (dfld d 0x28 8) (dfld d 0x30 4) (dfld d 0x20 4)
  else if it.opcode = 0x28 then
    if 128 ≤ (s.items.filter (fun i => i.opcode == 0x28 && i.obj == c && i.started)).length then s else nvmeStart s it
  else
    withSource go it' (dfld d 0x18 8) (dfld d 0x20 4) (fun s bs =>
      sendMsg s c it.ring it.seq (if it.opcode = 0x20 then 0 else 1) (dfld d 0x28 8) (dfld d 0x30 4) bs)

/-- NET_REG completes: RESULT receives the remote key, and the registration holds its extents (13 R329). -/
def netRegDone (s : State) (it : Item) : State :=
  let k := takeKey s it.die
  let byte := dfld it.desc 0x21 1
  let va := dfld it.desc 0x10 8
  let len := dfld it.desc 0x18 8
  let s := extWrite k.2 it (dfld it.desc 0x28 8) (leBytes 4 (k.1 * 256 + byte))
  let s := s.withNetRegs (s.netRegs ++
    [NetReg.mk it.die k.1 byte it.asid va len (dfld it.desc 0x20 1) (rangeExts it.extents va len) none])
  endItem s ((findItem s it.die it.ring it.seq).getD it) 0 0

/-- NET_DEREG completes: the registration under the key is gone, and releases its extents. A key that names none changes nothing. -/
def netDeregDone (s : State) (it : Item) : State :=
  let k := dfld it.desc 0x10 4
  endItem (dropRegs s (fun g => g.die == it.die && g.key == k / 256 && g.byte == k % 256 && g.owner.isNone)) it 0 0

/-- FLOW_SET completes (13 R325, R332): OPEN and RESET store the record in the die's table and start the flow at its PSNs and at the
port's whole rate; CLOSE frees it. -/
def flowSetDone (s : State) (it : Item) : State :=
  let c := it.obj
  if dfld it.desc 0x14 1 = 3 then endItem (setFlow s c (flowDef 0)) it 0 0
  else
    let s := memWrite s (ctxEntry s c) it.param
    let p := dfld it.param 1 1
    let s := setFlow s c { flowDef 0 with
      st := 1, rate := portCap s it.die (p % 2), next := dfld it.param 0x38 4, expect := dfld it.param 0x3C 4 }
    endItem s it 0 0

/-! ### Ports (13 R324, R336, R341) -/

/-- The highest rate that accepted items hold of a resource in one slot. -/
def resPeak (s : State) (r : Nat) : Nat :=
  ((((s.items.flatMap (·.resv)).filter (fun v => v.res == r)).map (·.slot)).eraseDups.map (resUsed s r)).foldl max 0

/-- The checks of NET_PORT_CFG_n.ENABLE in order. -/
def portChecks (s : State) (d n : Nat) : Chk :=
  let a := Reg.NET_PORT_CFG d n
  let brk := bit s a 1
  let lim := if brk then 11 else 22
  let base := ctxEntry s (65536 * d)
  let on := fset s a 0 1 1
  let halves := if brk then [0, 1] else [0]
  let mem := (List.range 3).flatMap (fun b => [resHbm (3 * d + b), resTot (3 * d + b)])
  firstFail [
    (inOwnStack s d base 0x800000 && decide (base % 0x1000000 = 0 ∧ fget s a 8 5 ≤ lim ∧ fget s a 16 5 ≤ lim), Rsn.CFG_RANGE, 0xEC),
    (mortarOn s d, Rsn.STATE, 0x94),
    (halves.all (fun h => [0, 1].all (fun dir =>
        decide (resPeak s (resPort d n h dir) + standing on (resPort d n h dir) ≤ portCap s d n))) &&
      (portReserve on d n 8 + portReserve on d n 16 == 0 ||
        mem.all (fun r => decide (resPeak s r + standing on r ≤ resCap s (fun _ => 0) r))), Rsn.NOT_SCHEDULABLE, 0xEB)]

/-- NET_PORT_ENABLE (13 R341): the RWL fields, the checks, and the link trains. -/
def execNetPortEnable (d : Die) (n : Fin 2) (v : W32) (s : State) : Out := viaWin s d fun s =>
  let a := Reg.NET_PORT_CFG d n
  let st := Reg.NET_PORT_STATUS d n
  let s := rwlIn s a 0x1F1F06 v
  .next (onChk s st 8 (portChecks s d n) fun s =>
    let was := bit s a 0
    let s := setRD (fset s a 0 1 1) st 8 0 0
    if was || s.modx.l4 then s
    else
      let s := fset s st 0 2 1
      if bit s a 1 then fset s st 2 2 1 else s)

/-- NET_PORT_DISABLE (13 R341): refused while a context of the port is READY or an item on it is outstanding; else the link is DOWN and the
reserves are released. -/
def execNetPortDisable (d : Die) (n : Fin 2) (s : State) : Out := viaWin s d fun s =>
  let st := Reg.NET_PORT_STATUS d n
  let busy := (ctxsOf s d).any (fun c => (flow s c).st == 1 && cPort s c == n.val) ||
    s.items.any (fun i => i.die == d.val && i.uses.contains (400 + 2 * d.val + n.val))
  if busy then .next (setRD s st 8 Rsn.STATE 0xED)
  else .next (setRD (fset (fset (fset s (Reg.NET_PORT_CFG d n) 0 1 0) st 0 2 0) st 2 2 0) st 8 0 0)

/-- LINK_UP (13 R324): a link in TRAINING is UP. -/
def execLinkUp (d : Die) (n : Fin 2) (half : Fin 2) (s : State) : Out :=
  .next (if linkState s d n half = 1 ∧ !outOf s d ∧ !s.modx.l4 then fset s (Reg.NET_PORT_STATUS d n) (2 * half) 2 2 else s)

/-- LINK_LOST (13 R324): a link that leaves UP trains again, and is a fault of level L2 on the port with LINK_FAIL 0xEE. -/
def execLinkLost (d : Die) (n : Fin 2) (half : Fin 2) (s : State) : Out :=
  if linkState s d n half ≠ 2 then .next s
  else
    let s := fset s (Reg.NET_PORT_STATUS d n) (2 * half) 2 1
    .next (raise s ⟨d, Rsn.LINK_FAIL, 0xEE, 2, 6, 2 * d.val + n.val + 8 * half.val, leBytes 1 1, .port (2 * d.val + n.val)⟩ false)

/-! ### Rate control (13 R332) -/

/-- The share that bounds a context's rate: SHARE x 4 of the item being sent, else the port's capacity. -/
def ctxShare (s : State) (c : Nat) : Nat :=
  let d := c / 65536
  match (flow s c).tx.head?.bind (fun p => findItem s d p.ring p.seq) with
  | some it => 4 * dfld it.desc 0x14 1
  | none => portCap s d (cPort s c)

/-- The rate rule at the end of a slot: a fall by a quarter, rounded down to a multiple of 4, after a notification, else a rise of 4. -/
def nextRate (r share : Nat) (notified : Bool) : Nat :=
  if notified then min share (max 4 (r - r / 4 / 4 * 4)) else min share (r + 4)

/-- Rates of the die's READY contexts updated. -/
def slotEnd (s : State) (d : Nat) : State :=
  (ctxsOf s d).foldl (fun s c =>
    let x := flow s c
    if x.st = 1 ∧ cKind s c ≠ 3 then setFlow s c { x with rate := nextRate x.rate (ctxShare s c) x.notified, notified := false } else s) s

/-- CALENDAR_SLOT_END (13 R332; log entry 8): the die's counter reaches the next boundary of a calendar slot. -/
def execCalendarSlotEnd (d : Die) (s : State) : Out :=
  if outOf s d || s.pllOff.contains d.val then .next s
  else
    let s := wrW s (Reg.GLB_CTL_COUNT_LO d) (BitVec.ofNat 64 ((ctl s d / 8750 + 1) * 8750))
    .next (slotEnd s d)

end Sys2Proof.Machine
end

