-- ==== Sys2Proof/Machine/Chain.lean ====
section
/-! DEFINITION. Communication groups, chains and permutes (14 R343-R362): joining and closing a group, the order and the hops of every chain,
what travels between members, and the idle and stage registers. -/

namespace Sys2Proof.Machine

/-! ### Groups (14 R343-R345) -/

/-- A die's group that is not CLOSED. -/
def groupOf (s : State) (d num : Nat) : Option Group := s.groups.find? (fun g => g.die == d && g.num == num)
/-- A group's new state. -/
def putGroup (s : State) (g : Group) : State :=
  s.withGroups (s.groups.filter (fun h => ¬ (h.die = g.die ∧ h.num = g.num)) ++ [g])
/-- A group CLOSED. -/
def closeGroup (s : State) (d num : Nat) : State :=
  s.withGroups (s.groups.filter (fun h => ¬ (h.die = d ∧ h.num = num)))
/-- N. -/
def Group.n (g : Group) : Nat := dfld g.recd 4 2
/-- RANK. -/
def Group.rank (g : Group) : Nat := dfld g.recd 6 2
/-- PRED. -/
def Group.pred (g : Group) : Nat := dfld g.recd 8 4
/-- SUCC. -/
def Group.succ (g : Group) : Nat := dfld g.recd 0x0C 4
/-- MEMBERSHIP. -/
def Group.member (g : Group) : Nat := dfld g.recd 0x18 8

/-- A neighbour: a die of this module, or a context (14 R343). -/
def nbDie (v : Nat) : Option Nat := if v / 2 ^ 30 = 1 then some (v % 4) else none
/-- A neighbour's reserved bits are 0 and its kind is one of the two. -/
def nbForm (v : Nat) : Bool := decide (v / 2 ^ 30 = 0 ∧ v % 2 ^ 30 < 2 ^ 18) || decide (v / 2 ^ 30 = 1 ∧ v % 2 ^ 30 < 4)
/-- A neighbour is a POLLEK context of this die, or another die in service (14 R344). -/
def nbOk (s : State) (d v : Nat) : Bool :=
  match nbDie v with
  | some p => p != d && !outOf s p
  | none => v / 65536 == d && (flow s v).st != 0 && cKind s v == 1

/-- The record's fields lie in range, its number is the item's and not in use, and a place is free (14 R343). -/
def groupRange (s : State) (d num : Nat) (bs : List Byte) : Bool :=
  let f := dfld bs
  decide (f 0 4 = num ∧ num ≠ 0 ∧ 2 ≤ f 4 2 ∧ f 4 2 ≤ 4096 ∧ f 6 2 < f 4 2 ∧ 1024 ≤ f 0x10 4 ∧ f 0x10 4 < 2 ^ 31) &&
  decide (f 0x14 4 = 0 ∧ f 0x20 32 = 0) && nbForm (f 8 4) && nbForm (f 0x0C 4) &&
  (match groupOf s d num with | some g => g.st == 3 | none => true) &&
  !s.items.any (fun i => i.die == d && i.opcode == 0x2D && i.obj == num) &&
  decide ((s.groups.filter (fun g => g.die == d && g.num != num)).length +
    (s.items.filter (fun i => i.die == d && i.opcode == 0x2D && (groupOf s d i.obj).isNone)).length < 256)

/-- Two neighbours that are dies follow the clockwise order (14 R344). -/
def clockwise (d p q : Nat) : Bool := p == q || decide ((d + 4 - p) % 4 + (q + 4 - d) % 4 ≤ 4)

/-- What a GROUP_SET asks of admission. -/
def groupSetAsk (s : State) (d r : Nat) (desc : List Byte) : Asked :=
  let num := dfld desc 0x10 4
  let va := dfld desc 0x18 8
  match descChecks s d r desc [(0x10, 4), (0x18, 8)] true true true true with
  | some (a, b) => .refuse a b
  | none => .pages [3] [(va, 64, 1)] (fun s es =>
    if extPoisoned s es va 64 then .poison
    else
      let bs := extRead s es va 64
      let p := dfld bs 8 4
      let q := dfld bs 0x0C 4
      let order := match nbDie p, nbDie q with | some x, some y => clockwise d x y | _, _ => true
      if !groupRange s d num bs then .refuse Rsn.CFG_RANGE 0xF0
      else if !(nbOk s d p && nbOk s d q && order) then .refuse Rsn.CFG_CONFLICT 0xF2
      else .ready (plainWant 0 (512 + dfld bs 0x10 4) num []) (fun i => { i with param := bs }))

/-- GROUP_SET (14 R343, R345): privileged; it copies the record and has the bound of A_PEER. -/
def execGroupSet (d : Die) (r : Ring) (s : State) : Out :=
  letIn s d r (fun _ desc => dOp desc == 0x2D) (fun s desc => groupSetAsk s d r desc)

/-- What a GROUP_CLOSE asks of admission. -/
def groupCloseAsk (s : State) (d r : Nat) (desc : List Byte) : Asked :=
  let num := dfld desc 0x10 4
  match descChecks s d r desc [(0x10, 4)] true true true true with
  | some (a, b) => .refuse a b
  | none =>
    let st := match groupOf s d num with | some g => g.st | none => 0
    if st < 2 ∨ s.items.any (fun i => i.die == d && decide (0x29 ≤ i.opcode ∧ i.opcode ≤ 0x2E) && i.obj == num) then
      .refuse Rsn.STATE 0xF8
    else .ready (plainWant 0 1024 num []) id

/-- GROUP_CLOSE (14 R345): an OPEN or ERROR group with no item outstanding. -/
def execGroupClose (d : Die) (r : Ring) (s : State) : Out :=
  letIn s d r (fun _ desc => dOp desc == 0x2E) (fun s desc => groupCloseAsk s d r desc)

/-- A message to a neighbour: as Pollek packets of its context, or in BLK messages of at most 8,192 bytes to a die, which count as
acknowledged when sent (14 R344, R352; log entry 50). -/
def sendNb (s : State) (d v ring seq op hop seg group msg : Nat) (bs : List Byte) : State :=
  let piece : Nat → Nat → Nat → Nat → Nat → Nat → (Nat × List Byte) → List Byte := fun dst psn src i n _ p =>
    pollekPkt 1 ((if i = 0 then 1 else 0) + (if i + 1 = n then 2 else 0)) op (hop % 256) dst psn msg p.1 seg group src [] p.2
  match nbDie v with
  | some t =>
    let ps := cut 8192 bs
    ps.zipIdx.foldl (fun (s : State) (p : (Nat × List Byte) × Nat) =>
      let b := piece 0 0 0 p.2 ps.length 0 p.1
      emit s .packet [d, 8 + t, 7, 0, 0] (b.take (b.length - 4))) s
  | none =>
    let ps := cut (cMtu s v) bs
    ps.zipIdx.foldl (fun (s : State) (p : (Nat × List Byte) × Nat) =>
      sendOne s v ring seq seg 3 1 (fun psn => ctxMsg s v 7 psn [] (piece (cf s v 0x0C 4) psn (cf s v 8 4) p.2 ps.length 0 p.1))) s

/-- The 16 bytes of a HELLO: N, RANK, four zero bytes, MEMBERSHIP (14 R345 gives their content and not their places: log entry 51). -/
def helloBytes (g : Group) : List Byte := leBytes 2 g.n ++ leBytes 2 g.rank ++ leBytes 4 0 ++ leBytes 8 g.member

/-- A HELLO to each neighbour; one still unacknowledged on a context is sent again instead. -/
def sendHello (s : State) (g : Group) : State :=
  ([g.pred, g.succ].eraseDups).foldl (fun s v =>
    if (nbDie v).isNone && (flow s v).tx.any (fun p => p.ring == 65535 && p.seq == g.num) then resend s v
    else if (nbDie v).isNone && (flow s v).st != 1 then s
    else sendNb s g.die v 65535 g.num 7 0 0 g.num 0 (helloBytes g)) s

/-- GROUP_SET begins: the group is PENDING and HELLOs go out. -/
def groupStart (s : State) (it : Item) : State :=
  let g : Group := ⟨it.die, it.obj, it.param, 1, (it.ring, it.seq), false, false, 0, 0⟩
  sendHello (putGroup (putItem s { it with started := true }) g) g

/-- HELLO_TIMER (14 R345): 4,096 cycles have passed for a PENDING group. -/
def execHelloTimer (d : Die) (g : W32) (s : State) : Out :=
  .next (match groupOf s d g.toNat with
    | some x => if x.st = 1 ∧ !outOf s d then sendHello s x else s
    | none => s)

/-- The item of a group's GROUP_SET ends. -/
def groupItemEnd (s : State) (g : Group) (reason detail : Nat) : State :=
  match findItem s g.die g.item.1 g.item.2 with
  | some it => endItem s it reason detail
  | none => s

/-- A HELLO taken by a group: which neighbours its fields agree with. It answers whether the HELLO was taken. -/
def helloIn (s : State) (d : Nat) (frm : Option Nat) (num : Nat) (bs : List Byte) : State × Bool :=
  match groupOf s d num with
  | none => (s, false)
  | some g =>
    if g.st = 3 ∨ bs.length ≠ 16 then (s, false)
    else
      let rk := dfld bs 2 2
      let same := decide (dfld bs 0 2 = g.n ∧ dfld bs 8 8 = g.member)
      let isP := rk == (g.rank + g.n - 1) % g.n
      let isS := rk == (g.rank + 1) % g.n
      let fromP := match frm with | some c => g.pred == c | none => (nbDie g.pred).isSome && isP
      let fromS := match frm with | some c => g.succ == c | none => (nbDie g.succ).isSome && isS
      let known := fromP || fromS || frm.isNone
      if !known then (s, false)
      else
        let ok := same && (!fromP || isP) && (!fromS || isS) && (fromP || fromS)
        if g.st = 2 then (s, true)
        else if !ok then (groupItemEnd (closeGroup s d num) g Rsn.CFG_CONFLICT 0xF5, true)
        else
          let g := { g with okPred := g.okPred || fromP, okSucc := g.okSucc || fromS }
          if g.okPred && g.okSucc then
            let g := { g with st := 2, count := 0, last := 0 }
            (groupItemEnd (sendHello (putGroup s g) g) g 0 0, true)
          else (putGroup s g, true)

/-- GROUP_SET_BOUND_EXPIRE (14 R345): no agreement by the bound leaves the group CLOSED. -/
def execGroupSetBoundExpire (d : Die) (r : Ring) (seq : W32) (s : State) : Out :=
  match findItem s d r seq.toNat with
  | some it =>
    if it.opcode ≠ 0x2D ∨ ctl s d < it.bound then .next s
    else .next (endItem (closeGroup s d it.obj) it Rsn.LINK_FAIL 0xF3)
  | none => .next s

/-! ### Operands and geometry (14 R347-R350) -/

/-- Bytes a segment's hop reads and writes at a position of the chain: what the Footing's energy is charged for. -/
def cHopBytes (op : Nat) (desc param : List Byte) (pos : Nat) : Nat :=
  let l := rBytes (cLocal desc) * cElems desc
  let run := cRunBytes op desc param
  let io := (if pos = 0 then 0 else run) + (if pos = 2 then cOutBytes op desc param else run)
  if op = 0x29 then l + io else l + 4 * cElems desc + io + (if op = 0x2B then 1040 * cComp desc else 0)

/-- Duration in CK_ARITH cycles (14 R353). -/
def cDur (op : Nat) (desc param : List Byte) (n : Nat) : Nat :=
  let rate := 4 * dfld desc 0x14 1
  let q := cSegs desc / n
  let f := 256 + (if op = 0x29 then
    max (ceilDiv (cElems desc) 512) (ceilDiv (10 * cElems desc) (dfld desc 0x36 2)) else 16 * cComp desc)
  q * (n - 1) * (ceilDiv (cRunBytes op desc param) rate + f + 512) +
    (if cGather desc then q * (n - 1) * (ceilDiv (cOutBytes op desc param) rate + 512) else 0)

/-- What a neighbour costs: port of a context or joints of a route, `out` for SUCC; refused when a die is out of service or not reached. -/
def nbCost (s : State) (d v : Nat) (out : Bool) (rate bytes : Nat) : Path ⊕ (Nat × Nat) :=
  match nbDie v with
  | none =>
    let n := cPort s v
    .inl ⟨0, [(resPort d n (cHalf s v) (if out then 0 else 1), rate)], if out then [(19, 13, bytes)] else [], [400 + 2 * d + n]⟩
  | some p =>
    if outOf s p then .inr (Rsn.DIE_ABSENT, 0xAB)
    else match (if out then route s d p else route s p d) with
      | none => .inr (Rsn.DIE_ABSENT, 0xD5)
      | some js => .inl ⟨js.length, rated rate (js.map (fun j => resJoint j.1 j.2 0)),
          if out then [(19, 12, bytes * js.length)] else [], dMortar p :: routeUses js⟩

/-- The mesh links between a stack's Bay port and the port a neighbour is reached by, `out` for SUCC (14 R353 row 5): a joint's node, or for a
network port the Bay port's link alone (log entry 30). -/
def nbLinks (s : State) (d h v : Nat) (out : Bool) : List Nat :=
  let bay := stackNode h 0
  let js := match nbDie v with
    | none => none
    | some p => if out then route s d p else route s p d
  ((match js.bind (if out then List.head? else List.getLast?) with
    | some j =>
      let n := jointNode (if out then j.2 else jointTo d j.1) bay
      if out then meshRoute bay n else meshRoute n bay
    | none => [meshLink 0 bay.2 (if out then 4 else 5)])).map (resMesh d)
/-- The latest bound of what an item of a group waits on (14 R353). -/
def groupAfter (s : State) (g : Group) : Nat :=
  ((s.items.filter (fun i => i.die == g.die && i.obj == g.num && decide (0x29 ≤ i.opcode ∧ i.opcode ≤ 0x2C))).map (·.bound)).foldl max g.last
/-- The ordinal of the next item of a group (14 R352). -/
def groupOrd (s : State) (g : Group) : Nat :=
  g.count + (s.items.filter (fun i => i.die == g.die && i.obj == g.num && decide (0x29 ≤ i.opcode ∧ i.opcode ≤ 0x2C))).length

/-- AUX of a collective item's journal entry (19 R475). -/
def groupAux (g : Group) (segs : Nat) : List Byte := leBytes 8 g.member ++ leBytes 2 g.n ++ leBytes 2 g.rank ++ leBytes 2 segs

/-- The calendar's share of a collective item. -/
def groupWant (s : State) (g : Group) (pred succ dur share bytes : Nat) (after a : Nat) (res : List (Nat × Nat)) (parts : List Part)
    (uses : List Nat) (ts : List (Nat × Nat)) : Asked :=
  match nbCost s g.die pred false (4 * share) bytes, nbCost s g.die succ true (4 * share) bytes with
  | .inr e, _ => .refuse e.1 e.2
  | _, .inr e => .refuse e.1 e.2
  | .inl p, .inl q =>
    let sh : Shape := {
      dur := ceilDiv dur 2, allow := 512 + a + holds ts (ceilDiv dur 2)
      res := rowSort (addRes (addRes p.res q.res) res), parts := parts ++ q.parts, uses := uses ++ p.uses ++ q.uses, obj := g.num }
    .ready ⟨max after (groupAfter s g), fun _ _ => sh, meshShare s⟩ (fun i => { i with phase := groupOrd s g })

/-! ### Admission of a chain (14 R346-R353) -/

/-- The checks that follow the reading of the parameter block, with the regions translated. -/
def chainChecks (s : State) (op : Nat) (desc param : List Byte) (es : List Extent) : Chk :=
  let h := dfld desc 0x15 1
  let base := hbmAddr h 0
  let rs := cRegions op desc param
  let at1 : Nat → List (Nat × Nat) := fun i => let r := rs.getD i (0, 0, 0); extPieces es r.1 r.2.1
  let inside : List (Nat × Nat) → Bool := fun ps => ps.all (fun p => decide (base ≤ p.1 ∧ p.1 + p.2 ≤ base + stackSize s h))
  let sameOut := dfld desc 0x18 8 == dfld desc 0x20 8 && (rs.getD 1 (0, 0, 0)).2.1 == (rs.getD 2 (0, 0, 0)).2.1
  firstFail [
    (inside (at1 0), Rsn.CFG_RANGE, 0xF7),
    (inside (es.map (fun (e : Extent) => (e.pa, e.len))), Rsn.CFG_RANGE, 0x71),
    (decide (dfld desc 0x38 8 % 128 = 0) && rs.all (fun r => r.1 % 128 == 0), Rsn.CFG_ALIGN, 0x72),
    ((op != 0x29 || decide (dfld param 0 4 % 2 ^ 31 < 0x7F800000)) && (op != 0x2A || decide (1 ≤ cTopk param ∧ cTopk param ≤ 512)),
      Rsn.CFG_RANGE, 0x74),
    (decide (cLocal desc ≤ 2 ∧ cOut desc ≤ 2) && !(cRound desc == 1 && cOut desc == 0), Rsn.CFG_CONFLICT, 0x75),
    (!piecesMeet (at1 0) (at1 1 ++ at1 2 ++ at1 3) && !piecesMeet (at1 3) (at1 1 ++ at1 2) && (sameOut || !piecesMeet (at1 1) (at1 2)),
      Rsn.CFG_CONFLICT, 0x73)]

/-- Reserved bytes of a parameter block are 0 (14 R347). -/
def chainParamOk (p : List Byte) : Bool := dfld p 4 4 == 0 && dfld p 0x32 14 == 0

/-- What a chain item asks. -/
def chainAsk (s : State) (d r op : Nat) (desc : List Byte) : Asked :=
  let num := dfld desc 0x10 4
  let share := dfld desc 0x14 1
  let h := dfld desc 0x15 1
  let rate := dfld desc 0x36 2
  let segs := cSegs desc
  let count := dfld desc 0x30 4
  let pv := dfld desc 0x38 8
  let fmt := dfld desc 0x34 1
  match descChecks s d r desc [(0x10, 4), (0x14, 1), (0x15, 1), (0x16, 2), (0x18, 8), (0x20, 8), (0x28, 8), (0x30, 4), (0x34, 1), (0x36, 2),
      (0x38, 8)] false (decide (1 ≤ share ∧ share ≤ 22 ∧ h < 12 ∧ h / 3 = d ∧ 16 ≤ rate ∧ rate ≤ 4608)) (decide (rate % 16 = 0)) true with
  | some (a, b) => .refuse a b
  | none =>
    if 64 ≤ fmt then .refuse Rsn.BAD_DESC 0x96
    else match groupOf s d num with
      | none => .refuse Rsn.STATE 0xF8
      | some g =>
        if op = 0x2B ∧ 127 < g.n then .refuse Rsn.CFG_RANGE 0xF1
        else if ¬ (segs % g.n = 0 ∧ 1 ≤ segs / g.n ∧ segs / g.n ≤ 64 ∧ 0 < count ∧ count % (segs * 4096) = 0) then .refuse Rsn.CFG_RANGE 0xF7
        else if g.st ≠ 2 then .refuse Rsn.STATE 0xF8
        else if !bit s (Reg.FTG_CTRL (8 + h)) 0 then .refuse Rsn.STATE 0x76
        else if stackFaulted s h then .refuse Rsn.STATE 0x7C
        else .pages [h % 3] [(pv, 64, 1)] (fun s es =>
          if extPoisoned s es pv 64 then .poison
          else
            let p := extRead s es pv 64
            if !chainParamOk p then .refuse Rsn.BAD_DESC 0x70
            else .pages [h % 3] (cRegions op desc p) (fun s es =>
              match chainChecks s op desc p es with
              | some (a, b) => .refuse a b
              | none =>
                let q := segs / g.n
                let run := cRunBytes op desc p
                let bytes := (segs - q) * run + (if cGather desc then (segs - q) * cOutBytes op desc p else 0)
                let rs := cRegions op desc p
                let of : List Region → List (Nat × Nat) := fun l => l.flatMap (fun r => extPieces es r.1 r.2.1)
                let after := (((stackUsers s h).filter (fun i => cmdHazard i (of rs) (of (rs.filter (fun r => r.2.2 == 3))))).map (·.bound)).foldl max 0
                let foot := q * cHopBytes op desc p 0 + (segs - 2 * q) * cHopBytes op desc p 1 + q * cHopBytes op desc p 2
                match groupWant s g g.pred g.succ (cDur op desc p g.n) share bytes after (dfld g.recd 0x10 4)
                    (rated (8 * share) [resHbm h] ++ rated (rate + 8 * share) [resTot h] ++
                      rated (4 * share) (nbLinks s d h g.pred false ++ nbLinks s d h g.succ true))
                    [(16 + h % 3, 9, foot), (16 + h % 3, 10, count)] [dFooting h, dBay (h / 3) (h % 3)] [(h, 0)] with
                | .ready w f => .ready w (fun i => { f i with param := p, jrnl := some (4, sha384 (desc.drop 16 ++ p), groupAux g (dfld desc 0x16 2)) })
                | a => a))

/-- CHAIN_SUM. -/
def execChainSum (d : Die) (r : Ring) (s : State) : Out :=
  letIn s d r (fun _ desc => dOp desc == 0x29) (fun s desc => chainAsk s d r 0x29 desc)
/-- CHAIN_TOPK. -/
def execChainTopk (d : Die) (r : Ring) (s : State) : Out :=
  letIn s d r (fun _ desc => dOp desc == 0x2A) (fun s desc => chainAsk s d r 0x2A desc)
/-- CHAIN_SIGN. -/
def execChainSign (d : Die) (r : Ring) (s : State) : Out :=
  letIn s d r (fun _ desc => dOp desc == 0x2B) (fun s desc => chainAsk s d r 0x2B desc)

/-! ### Hops (14 R348, R349) -/

/-- A Footing parameter block with one entry. -/
def hopBlock (op gfmt step : Nat) (entry : List Byte) : List Byte :=
  leBytes 1 op ++ leBytes 1 0 ++ leBytes 2 1 ++ leBytes 1 gfmt ++ List.replicate 3 0 ++ leBytes 8 0 ++ leBytes 8 step ++
  List.replicate 40 0 ++ entry

/-- The Footing commands of a member's hop for segment `sg` at position class `pos` (0 first, 1 middle, 2 last). -/
def hopBlocks (it : Item) (sg pos : Nat) : List (List Byte) :=
  let ds := it.desc
  let p := it.param
  let e := cElems ds
  let st := dfld p 0x10 8
  let base := dfld p 0x18 8 + sg * e
  let run := cRunBytes it.opcode ds p
  let inn := dfld ds 0x28 8
  let tmp := inn + 2 * run
  let out := if pos = 2 then dfld ds 0x20 8 + sg * cOutBytes it.opcode ds p else inn + run
  let loc := dfld ds 0x18 8 + sg * e * rBytes (cLocal ds)
  let res := dfld p 0x20 8 + 2 * sg * e
  let inc := if pos = 0 then 0 else inn
  let red : Nat → Nat → Nat → Nat → Nat → Nat → List Byte := fun l n mode lf of rd =>
    leBytes 8 inc ++ leBytes 8 l ++ leBytes 8 out ++ leBytes 8 n ++ leBytes 8 base ++ leBytes 8 (dfld p 8 8) ++ leBytes 4 (dfld p 0 4) ++
    leBytes 1 mode ++ leBytes 1 lf ++ leBytes 1 of ++ leBytes 1 rd ++ leBytes 8 0
  let cmp : Nat → Nat → Nat → Nat → List Byte := fun o i ko ki =>
    leBytes 8 loc ++ leBytes 8 res ++ leBytes 8 o ++ leBytes 8 i ++ leBytes 8 (cComp ds) ++ leBytes 8 base ++ leBytes 8 (dfld p 0x28 8) ++
    leBytes 2 ko ++ leBytes 2 ki ++ leBytes 4 0
  let g := gOfR (cLocal ds)
  let k := cTopk p
  if it.opcode = 0x29 then
    [hopBlock 0x10 0 st (red loc e pos (cLocal ds) (if pos = 2 then cOut ds else 0) (if pos = 2 then cRound ds else 0))]
  else if it.opcode = 0x2A then
    [if pos = 0 then hopBlock 0x20 g st (cmp out 0 k 0) else hopBlock 0x21 g st (cmp out inn k k)]
  else [hopBlock 0x22 g st (cmp tmp 0 0 0), hopBlock 0x10 0 st (red tmp (cComp ds) (if pos = 0 then 3 else 4) 0 0 0)]

/-- A hop performed on the Footing of STACK: its outputs, its flags (07 R206), and the codes of the first command that did not end with
DONE. -/
def hopRun (s : State) (it : Item) (sg pos : Nat) : State × (Nat × Nat) :=
  let fa := Reg.FTG_FP_FLAGS (8 + dfld it.desc 0x15 1)
  (hopBlocks it sg pos).foldl (fun (x : State × (Nat × Nat)) b =>
    if x.2 ≠ (0, 0) then x
    else
      let r := cmdRun x.1 b it.extents
      (holdAdd (wr r.1 fa (rd r.1 fa ||| BitVec.ofNat 32 r.2.1.fl)) fa 16 16 r.2.1.sat, cmdCodes r.2.1)) (s, (0, 0))

/-- A collective item's progress. -/
def chainOf (s : State) (it : Item) : Option ChainX :=
  s.chains.find? (fun c => c.die == it.die && c.ring == it.ring && c.seq == it.seq)
/-- Its new progress. -/
def putChain (s : State) (x : ChainX) : State :=
  s.withChains (s.chains.map (fun c => if c.die = x.die ∧ c.ring = x.ring ∧ c.seq = x.seq then x else c))
/-- Packets of an item that a neighbour has not acknowledged. -/
def unsent (s : State) (it : Item) (v : Nat) : Bool :=
  (nbDie v).isNone && (flow s v).tx.any (fun p => p.ring == it.ring && p.seq == it.seq)

/-- A chain item completes once it has formed and received every segment it must and nothing it sent is unacknowledged (14 R354). -/
def chainProgress (s : State) (it : Item) (g : Group) : State :=
  match chainOf s it with
  | none => s
  | some x =>
    let segs := cSegs it.desc
    let q := segs / g.n
    if x.formed.length = q ∧ (¬ cGather it.desc ∨ x.gathered.length = segs - q) ∧ ¬ unsent s it g.succ ∧
      x.sent then endItem s it 0 0 else s

/-- One member's hop: the running value travels on to SUCC with this member's position as HOP, or the result is formed and, with GATHER,
travels on. -/
def chainHop (s : State) (it : Item) (g : Group) (sg : Nat) : State :=
  let j := (g.rank + g.n - sg % g.n) % g.n
  let pos := if j = 0 then 0 else if j + 1 = g.n then 2 else 1
  let r := hopRun s it sg pos
  let s := r.1
  if r.2 ≠ (0, 0) then endItem s it r.2.1 r.2.2
  else match chainOf s it with
    | none => s
    | some x =>
      let run := cRunBytes it.opcode it.desc it.param
      let ob := cOutBytes it.opcode it.desc it.param
      if pos = 2 then
        let s := putChain s { x with formed := x.formed ++ [sg] }
        if cGather it.desc then
          sendNb s it.die g.succ it.ring it.seq 5 j sg g.num x.ord (extRead s it.extents (dfld it.desc 0x20 8 + sg * ob) ob)
        else s
      else
        sendNb s it.die g.succ it.ring it.seq (it.opcode - 0x27) j sg g.num x.ord (extRead s it.extents (dfld it.desc 0x28 8 + run) run)

/-- A chain item begins: the segments that start at its own rank, in ascending order. -/
def chainStart (s : State) (it : Item) : State :=
  match groupOf s it.die it.obj with
  | none => s
  | some g =>
    let it := { it with started := true }
    let s := putItem s it
    let s := s.withChains (s.chains ++ [ChainX.mk it.die it.ring it.seq it.phase [] [] 0 0 0 false false false false])
    let own := (List.range (cSegs it.desc / g.n)).map (fun i => g.rank + i * g.n)
    let s := own.foldl (fun s sg => if (findItem s it.die it.ring it.seq).isSome then chainHop s it g sg else s) s
    match chainOf s it with
    | some x => chainProgress (putChain s { x with sent := true }) it g
    | none => s

/-! ### Permute (14 R356, R357) -/

/-- π of a MAP. -/
def permOf (m : List Byte) (i : Nat) : Nat := dfld m (2 * i) 2
/-- MAP is a permutation of 0 to n - 1. -/
def permOk (m : List Byte) (n : Nat) : Bool :=
  (List.range n).all (fun i => decide (permOf m i < n) && (List.range i).all (fun j => permOf m i != permOf m j))
/-- The cycle of a member, from itself on. -/
def permCycle (m : List Byte) (r : Nat) : Nat → Nat → List Nat
  | _, 0 => []
  | i, f + 1 => if permOf m i = r then [i] else i :: permCycle m r (permOf m i) f
/-- Bytes of a chunk at most. -/
def pChunk (desc : List Byte) : Nat := dfld desc 0x16 2 * 4096
/-- Chunks of a shard. -/
def pChunks (desc : List Byte) : Nat := ceilDiv (dfld desc 0x20 8) (pChunk desc)
/-- Bytes of chunk `c`. -/
def pLen (desc : List Byte) (c : Nat) : Nat := min (pChunk desc) (dfld desc 0x20 8 - c * pChunk desc)
/-- The member sends to the lowest rank of its cycle, and so stages. -/
def stages (it : Item) (g : Group) : Bool :=
  permOf it.param g.rank == (permCycle it.param g.rank g.rank g.n).foldl min g.n

/-- What a PERMUTE asks. -/
def permuteAsk (s : State) (d r : Nat) (desc : List Byte) : Asked :=
  let num := dfld desc 0x10 4
  let share := dfld desc 0x14 1
  let n := dfld desc 0x20 8
  let mv := dfld desc 0x30 8
  match descChecks s d r desc [(0x10, 4), (0x14, 1), (0x16, 2), (0x18, 8), (0x20, 8), (0x28, 8), (0x30, 8), (0x38, 4), (0x3C, 4)] false
      (decide (1 ≤ share ∧ share ≤ 22 ∧ 4096 ≤ n ∧ n ≤ 2 ^ 40 ∧ n % 4096 = 0)) true true with
  | some (a, b) => .refuse a b
  | none => match groupOf s d num with
    | none => .refuse Rsn.STATE 0xF8
    | some g =>
      if g.st ≠ 2 then .refuse Rsn.STATE 0xF8
      else if dfld desc 0x16 2 = 0 ∨ 65536 < pChunks desc then .refuse Rsn.CFG_RANGE 0xF6
      else .pages [3] [(mv, 2 * g.n, 1)] (fun s es =>
        if extPoisoned s es mv (2 * g.n) then .poison
        else
          let m := extRead s es mv (2 * g.n)
          if !permOk m g.n then .refuse Rsn.CFG_RANGE 0xF6
          else if permOf m g.rank = g.rank then .ready (plainWant (groupAfter s g) 1024 num []) (fun i =>
            { i with param := m, phase := groupOrd s g, jrnl := some (4, sha384 (desc.drop 16), groupAux g 0) })
          else if !(nbForm (dfld desc 0x38 4) && nbForm (dfld desc 0x3C 4) && nbOk s d (dfld desc 0x38 4) && nbOk s d (dfld desc 0x3C 4)) then
            .refuse Rsn.CFG_CONFLICT 0xF2
          else
            let k := (permCycle m g.rank g.rank g.n).length
            let stg := permOf m g.rank == (permCycle m g.rank g.rank g.n).foldl min g.n
            .pages [3] ([(dfld desc 0x18 8, n, 3)] ++ (if stg then [(dfld desc 0x28 8, pChunk desc, 3)] else [])) (fun s es =>
              let ts := (sites s ((es.map (fun (e : Extent) => (e.pa, e.len))))).filter (fun t => t.1 < 12)
              let dur := ceilDiv n (4 * share) + k * (ceilDiv (pChunk desc) (4 * share) + 512)
              match groupWant s g (dfld desc 0x3C 4) (dfld desc 0x38 4) dur share n 0 (dfld g.recd 0x10 4)
                  (ts.flatMap (fun t => rated (8 * share) [resHbm t.1, resTot t.1] ++
                    (if t.1 / 3 = d then rated (4 * share) [resMesh d (meshLink 0 (6 * (t.1 % 3)) 4), resMesh d (meshLink 0 (6 * (t.1 % 3)) 5)]
                      else [])))
                  (ts.map (fun t => (bayBudget d (t.1 / 3) (t.1 % 3), 8, 2 * n))) (ts.flatMap (fun t => [dFooting t.1, dBay (t.1 / 3) (t.1 % 3)])) ts with
              | .ready w f => .ready w (fun i => { f i with param := m, jrnl := some (4, sha384 (desc.drop 16), groupAux g 0) })
              | a => a))

/-- PERMUTE. -/
def execPermute (d : Die) (r : Ring) (s : State) : Out :=
  letIn s d r (fun _ desc => dOp desc == 0x2C) (fun s desc => permuteAsk s d r desc)

/-- Chunk `c` of the shard, or of STAGING. -/
def permBytes (s : State) (it : Item) (c : Nat) (stg : Bool) : List Byte :=
  extRead s it.extents (if stg then dfld it.desc 0x28 8 else dfld it.desc 0x18 8 + c * pChunk it.desc) (pLen it.desc c)

/-- A permute goes on as far as it can: chunk by chunk, a member sends and then accepts; a staging member copies its chunk, accepts, and
then sends from STAGING. -/
def permGo (it : Item) (g : Group) (s : State) (x : ChainX) : Nat → State
  | 0 => putChain s x
  | f + 1 =>
    let v := dfld it.desc 0x38 4
    let stg := stages it g
    let send : State × ChainX → State × ChainX := fun p =>
      if p.2.sent then p
      else (sendNb p.1 it.die v it.ring it.seq 6 0 p.2.chunk g.num p.2.ord (permBytes p.1 it p.2.chunk stg),
        { p.2 with sent := true, acked := (nbDie v).isSome })
    let p := if stg ∧ !x.got then (s, x) else send (s, x)
    if p.2.acked && p.2.got then
      let c := p.2.chunk + 1
      if c = pChunks it.desc then endItem (putChain p.1 p.2) it 0 0
      else
        let s := if stg then extStore p.1 it.extents (dfld it.desc 0x28 8) (permBytes p.1 it c false) else p.1
        permGo it g s { p.2 with chunk := c, sent := false, acked := false, got := false, rxOff := 0 } f
    else putChain p.1 p.2

/-- A permute begins; a member whose shard stays completes at once. -/
def permStart (s : State) (it : Item) : State :=
  match groupOf s it.die it.obj with
  | none => s
  | some g =>
    let it := { it with started := true }
    let s := putItem s it
    if permOf it.param g.rank = g.rank then endItem s it 0 0
    else
      let x := ChainX.mk it.die it.ring it.seq it.phase [] [] 0 0 0 false false false false
      let s := s.withChains (s.chains ++ [x])
      let s := if stages it g then extStore s it.extents (dfld it.desc 0x28 8) (permBytes s it 0 false) else s
      permGo it g s x 4

/-- Acknowledgements have come for a collective item: a chain may complete, a permute may go on. -/
def collAcked (s : State) (it : Item) : State :=
  match groupOf s it.die it.obj, chainOf s it with
  | some g, some x =>
    if it.opcode = 0x2C then
      let v := dfld it.desc 0x38 4
      if x.sent && !x.acked && !unsent s it v then permGo it g s { x with acked := true } 4 else s
    else chainProgress s it g
  | _, _ => s

/-! ### Incoming packets (14 R352) -/

/-- A packet that fails the check is discarded without acknowledgement, counted, and reported once per item. -/
def mismatch (s : State) (d : Nat) (frm : Option Nat) (x : Option ChainX) : State :=
  let n := (frm.map (cPort s)).getD 0
  let h := (frm.map (cHalf s)).getD 0
  let s := if frm.isSome then discard s d n else s
  match x with
  | some x => if x.told then s else netNote (putChain s { x with told := true }) d n h Rsn.LINK_FAIL 0xF4
  | none => s

/-- A chain or permute packet: from a context or from a die; its OP, HOP, MSG, SEG, OFFSET, LAST and payload. It answers whether the packet
was taken. -/
def chainIn (s : State) (d : Nat) (frm : Option Nat) (op hop msg sg off num : Nat) (last : Bool) (bs : List Byte) : State × Bool :=
  let no : Option ChainX → State × Bool := fun x => (mismatch s d frm x, false)
  match groupOf s d num with
  | none => no none
  | some g =>
    let its := s.items.filter (fun i => i.die == d && i.obj == num && i.started && decide (0x29 ≤ i.opcode ∧ i.opcode ≤ 0x2C))
    match its.head? with
    | none => no none
    | some it => match chainOf s it with
      | none => no none
      | some x =>
        let n := bs.length
        let fromOk : Nat → Bool := fun v => match frm with | some c => v == c | none => (nbDie v).isSome
        let segs := cSegs it.desc
        let j := (g.rank + g.n - sg % g.n) % g.n
        let run := cRunBytes it.opcode it.desc it.param
        let ob := cOutBytes it.opcode it.desc it.param
        let cont := if off = 0 then true else x.rxSeg == op * 65536 + sg && x.rxOff == off
        let size := if op = 6 then pLen it.desc sg else if op = 5 then ob else run
        let fit := cont && decide (off + n ≤ size) && (last == decide (off + n = size))
        let x' := { x with rxSeg := op * 65536 + sg, rxOff := if last then 0 else off + n }
        if g.st ≠ 2 ∨ msg ≠ x.ord then no (some x)
        else if it.opcode = 0x2C then
          if op ≠ 6 ∨ hop ≠ 0 ∨ sg ≠ x.chunk ∨ !fromOk (dfld it.desc 0x3C 4) ∨ !fit then no (some x)
          else if x.got ∨ (!stages it g ∧ !x.acked) then (s, false)
          else
            let s := extStore s it.extents (dfld it.desc 0x18 8 + sg * pChunk it.desc + off) bs
            if last then (permGo it g s { x' with got := true } 4, true) else (putChain s x', true)
        else if !fromOk g.pred ∨ segs ≤ sg ∨ !fit then no (some x)
        else if op + 0x27 = it.opcode then
          if j = 0 ∨ hop ≠ (j - 1) % 256 then no (some x)
          else
            let s := putChain (extStore s it.extents (dfld it.desc 0x28 8 + off) bs) x'
            if last then
              let s := chainHop s it g sg
              (chainProgress s it g, true)
            else (s, true)
        else if op = 5 ∧ cGather it.desc then
          if j + 1 = g.n ∨ hop ≠ (j + g.n - 1) % g.n % 256 then no (some x)
          else
            let s := extStore s it.extents (dfld it.desc 0x20 8 + sg * ob + off) bs
            if last then
              let s := putChain s { x' with gathered := x.gathered ++ [sg] }
              let s := if j + 2 < g.n then
                  sendNb s it.die g.succ it.ring it.seq 5 j sg g.num x.ord (extRead s it.extents (dfld it.desc 0x20 8 + sg * ob) ob) else s
              (chainProgress s it g, true)
            else (putChain s x', true)
        else no (some x)

/-- CHAIN_BOUND_EXPIRE (14 R354): a collective item not complete at its bound ends there with LINK_FAIL 0xF3; its group is in ERROR. -/
def execChainBoundExpire (d : Die) (r : Ring) (seq : W32) (s : State) : Out :=
  match findItem s d r seq.toNat with
  | some it =>
    if it.opcode < 0x29 ∨ 0x2C < it.opcode ∨ ctl s d < it.bound then .next s else .next (endItem s it Rsn.LINK_FAIL 0xF3)
  | none => .next s

/-! ### Stages and idle counters (14 R358-R360) -/

/-- PLN_STAGE_WRITE (14 R358): VALID 1 with a handle that is not resident is refused with STATE 0xA2. -/
def execPlnStageWrite (d : Die) (i : Fin 16) (v : W32) (s : State) : Out := viaWin s d fun s =>
  .next (if v.getLsbD 20 && (planOf s d (getBits v 0 16)).isNone then emit s .refusal [Rsn.STATE, 0xA2] []
    else wr s (Reg.PLN_STAGE d i) (v &&& 0x1FFFFF))

/-- LO address of idle counter `k` of row `c`; row 16 is the die's. -/
def idleReg (d c k : Nat) : Nat := if c < 16 then Reg.CRS_IDLE_LO d c k else Reg.CRS_IDLE_LO_16 d k

/-- IDLE_CLEAR (14 R360): the nine counters of a row together. -/
def execIdleClear (d : Die) (row : Fin 17) (s : State) : Out := viaWin s d fun s =>
  .next ((List.range 9).foldl (fun s k => wrW s (idleReg d row k) 0) s)

end Sys2Proof.Machine
end

