-- ==== Sys2Proof/Machine/Ckp.lean ====
section
/-! DEFINITION. The checkpoint items (17 R406-R433): POINT, BED, UNBED, VERIFY and ADOPT, and the enable of the checkpoint engine. -/

namespace Sys2Proof.Machine

/-! ### The manifest (17 R407-R409) -/

/-- NENT of a manifest. -/
def mNent (m : List Byte) : Nat := dfld m 0x0A 2
/-- A field of entry `i`. -/
def mEnt (m : List Byte) (i o n : Nat) : Nat := dfld m (64 + 32 * i + o) n
/-- An entry is POINTED under the thresholds of CKP_SPLIT (17 R408). -/
def pointed (s : State) (d : Nat) (m : List Byte) (i : Nat) : Bool :=
  let a := Reg.CKP_SPLIT d
  let k := mEnt m i 0x14 1
  let len := mEnt m i 8 8
  decide (2 ≤ k) || (decide (k ≠ 1) && (decide (len ≤ 2 ^ fget s a 0 6) ||
    decide (len ≤ 2 ^ fget s a 8 6 ∧ fget s a 16 8 ≤ mEnt m i 0x15 1)))
/-- POINTED entries in manifest order. -/
def pointedIx (s : State) (d : Nat) (m : List Byte) : List Nat := (List.range (mNent m)).filter (pointed s d m)

/-- The checks of R409 on a manifest at `va`, in its order. -/
def manifestChecks (va : Nat) (m : List Byte) : Chk :=
  let is := List.range (min 4096 (mNent m))
  firstFail [
    (decide (dfld m 0 8 = 0x31494E414D565453 ∧ dfld m 8 2 = 1 ∧ dfld m 0x0C 4 = 0 ∧ dfld m 0x18 40 = 0) &&
      is.all (fun i => decide (mEnt m i 0x14 1 ≤ 8 ∧ mEnt m i 0x16 10 = 0) && (mEnt m i 0x14 1 == 0 || mEnt m i 0x15 1 == 0)),
      Rsn.BAD_DESC, 0x24),
    (decide (1 ≤ mNent m ∧ mNent m ≤ 4096) && is.all (fun i => decide (1 ≤ mEnt m i 8 8 ∧ mEnt m i 8 8 ≤ 2 ^ 40)), Rsn.CFG_RANGE, 0x25),
    (decide (va % 128 = 0) && is.all (fun i => decide (mEnt m i 0 8 % 64 = 0)), Rsn.CFG_ALIGN, 0x26),
    ([2, 3, 5, 6, 7].all (fun k => is.any (fun i => mEnt m i 0x14 1 == k)), Rsn.CFG_MISSING, 0x27)]

/-! ### POINT (17 R411-R414) -/

/-- Offsets of the POINTED entries in a generation, and where the last one ends (17 R412). -/
def pointLayout (s : State) (d : Nat) (m : List Byte) : List (Nat × Nat) × Nat :=
  let d0 := roundUp (4096 + 64 + 32 * mNent m) 4096
  (pointedIx s d m).foldl (fun x i =>
    let o := roundUp x.2 64
    (x.1 ++ [(i, o)], o + mEnt m i 8 8)) ([], d0)
/-- Data bytes of a generation. -/
def pointBytes (s : State) (d : Nat) (m : List Byte) : Nat := ((pointedIx s d m).map (fun i => mEnt m i 8 8)).sum

/-- What a POINT asks: R235, ENABLE, R334, the manifest, the layout. -/
def pointAsk (s : State) (d r : Nat) (desc : List Byte) : Asked :=
  let c := dCtx desc
  let share := dfld desc 0x14 1
  let mv := dfld desc 0x18 8
  match descChecks s d r desc [(0x10, 4), (0x14, 1), (0x18, 8), (0x20, 8), (0x28, 4), (0x30, 8), (0x38, 8)] false (shareOk s d c share)
      true true with
  | some (a, b) => .refuse a b
  | none =>
    if !bit s (Reg.CKP_CTRL d) 0 then .refuse Rsn.STATE 0x2F
    else match netChecks s d 0x30 c 0 [] with
      | some (a, b) => .refuse a b
      | none => .pages [3] [(mv, 64, 1)] (fun s es =>
        if extPoisoned s es mv 64 then .poison
        else
          let n := 32 * min 4096 (mNent (extRead s es mv 64))
          .pages [3] [(mv + 64, n, 1)] (fun s es =>
            let m := extRead s es mv (64 + n)
            if extPoisoned s es mv (64 + n) then .poison
            else match manifestChecks mv m with
              | some (a, b) => .refuse a b
              | none =>
                let gen := dfld desc 0x38 8
                if gen % 4096 ≠ 0 ∨ gen < (pointLayout s d m).2 then .refuse Rsn.CFG_RANGE 0x25
                else if dfld desc 0x20 8 % 4096 ≠ 0 then .refuse Rsn.CFG_ALIGN 0x26
                else .pages [3] ((pointedIx s d m).map (fun i => (mEnt m i 0 8, mEnt m i 8 8, 1))) (fun s es =>
                  let b := 128 + (64 + n) + pointBytes s d m
                  let data := (pointedIx s d m).flatMap (fun i => extPieces es (mEnt m i 0 8) (mEnt m i 8 8))
                  let ts := sites s data
                  match sidePath s d false none (4 * share) ts with
                  | .inr e => .refuse e.1 e.2
                  | .inl p =>
                    let dur := ceilDiv (ceilDiv b (4 * share) + 768) 2
                    let sh : Shape := {
                      dur := dur, allow := 512 + 3 * cf s c 0x48 4 + holds ts dur
                      res := rowSort ((resPort d (cPort s c) (cHalf s c) 0, 4 * share) :: p.res)
                      parts := (19, 13, b) :: p.parts, uses := (400 + 2 * d + cPort s c) :: p.uses, obj := c }
                    .ready ⟨0, fun _ _ => sh, meshShare s⟩ (fun i => { i with param := m }))))

/-- POINT. -/
def execPoint (d : Die) (r : Ring) (s : State) : Out :=
  letIn s d r (fun _ desc => dOp desc == 0x30) (fun s desc => pointAsk s d r desc)

/-- The commit header of a generation (17 R412). -/
def pointHdr (s : State) (it : Item) (valid : Nat) : List Byte :=
  leBytes 8 0x544E494F50565453 ++ leBytes 1 valid ++ leBytes 1 (dfld it.desc 0x30 8 % 2) ++ leBytes 2 (mNent it.param) ++ leBytes 4 0 ++
  leBytes 8 (dfld it.desc 0x30 8) ++ leBytes 8 (pointBytes s it.die it.param) ++ leBytes 8 (dfld it.param 0x10 8) ++ List.replicate 24 0

/-- Write number `k` of a POINT (17 R413): offset in the generation and, for an entry, its index. -/
def pointWrite (s : State) (it : Item) (k : Nat) : State :=
  let g := dfld it.desc 0x20 8 + (dfld it.desc 0x30 8 % 2) * dfld it.desc 0x38 8
  let key := dfld it.desc 0x28 4
  let put : State → Nat → List Byte → State := fun s o bs => sendMsg s it.obj it.ring it.seq 0 (g + o) key bs
  let es := (pointLayout s it.die it.param).1
  if k = 0 then put s 0 (pointHdr s it 0)
  else if k = 1 then put s 4096 it.param
  else match es[k - 2]? with
    | some (i, o) =>
      let s := cleanExt s it.extents (mEnt it.param i 0 8) (mEnt it.param i 8 8)
      withSource s it (mEnt it.param i 0 8) (mEnt it.param i 8 8) (fun s bs => put s o bs)
    | none => put s 0 (pointHdr s it 1)

/-- A POINT begins with the commit header of its generation, VALID 0. -/
def pointStart (s : State) (it : Item) : State :=
  if behind s it ∨ (flow s it.obj).st ≠ 1 ∨ itemWaits s it then s
  else
    let s := cleanExt s it.extents (dfld it.desc 0x18 8) (64 + 32 * mNent it.param)
    let it := { it with started := true, phase := 0 }
    pointWrite (putItem s it) it 0

/-- Virtual ranges of the entries of some KINDs, in manifest order. -/
def kindExts (it : Item) (ks : List Nat) : List (Nat × Nat) :=
  ((List.range (mNent it.param)).filter (fun i => ks.contains (mEnt it.param i 0x14 1))).map (fun i =>
    (mEnt it.param i 0 8, mEnt it.param i 8 8))
/-- Bytes of the entries of some KINDs. -/
def kindBytes (s : State) (it : Item) (ks : List Nat) : List Byte := (kindExts it ks).flatMap (fun e => extRead s it.extents e.1 e.2)

/-- The write in hand is acknowledged: the next one goes out, or the generation is valid and the POINT completes (17 R413; 19 R475). A POINT whose
entries lie in memory of an absent Keystone goes on when the holding area has drained (15 R378). -/
def pointAcked (s : State) (it : Item) : State :=
  if itemWaits s it then s
  else
  let n := (pointLayout s it.die it.param).1.length + 2
  if it.phase < n then
    let it := { it with phase := it.phase + 1 }
    pointWrite (putItem s it) it it.phase
  else
    let s := wrW s (Reg.CKP_POINT_STEP_LO it.die) (BitVec.ofNat 64 (dfld it.desc 0x30 8))
    let s := (kindExts it [2, 3, 4]).foldl (fun s e => cleanExt s it.extents e.1 e.2) s
    endItem s { it with jrnl := some (5, sha384 (kindBytes s it [2]), sha384 (kindBytes s it [3, 4])) } 0 0

/-! ### BED and UNBED (17 R416-R420) -/

/-- The calendar's share of BED and UNBED (17 R420): RATE on the checkpoint engine and on the memory paths they touch. -/
def bedWant (s : State) (d rate bytes : Nat) (rd wt : List (Nat × Nat)) : Asked :=
  let a := sites s rd
  let b := sites s wt
  match sidePath s d false none rate a, sidePath s d true none rate b with
  | .inr e, _ => .refuse e.1 e.2
  | _, .inr e => .refuse e.1 e.2
  | .inl p, .inl q =>
    let m := mergePaths [p, q]
    let dur := ceilDiv (ceilDiv bytes rate + 256 + 128 * (p.hops + q.hops)) 2
    let sh : Shape := {
      dur := dur, allow := 512 + holds (a ++ b) dur
      res := rowSort ((resCkp d, rate) :: m.res.filter (fun x => resRow x.1 != 7)), parts := m.parts, uses := m.uses, obj := 0 }
    .ready ⟨0, fun _ _ => sh, meshShare s⟩ id

/-- What a BED asks of admission. -/
def bedAsk (s : State) (d r : Nat) (desc : List Byte) : Asked :=
  let f := dfld desc
  let pages := f 0x28 4
  let rate := f 0x2C 2
  match descChecks s d r desc [(0x10, 8), (0x18, 8), (0x20, 8), (0x28, 4), (0x2C, 2), (0x2E, 1), (0x30, 8), (0x38, 8)] false true true true with
  | some (a, b) => .refuse a b
  | none =>
    if 2 ≤ f 0x2E 1 then .refuse Rsn.BAD_DESC 0x96
    else if !bit s (Reg.CKP_CTRL d) 0 then .refuse Rsn.STATE 0x2F
    else if ¬ (1 ≤ pages ∧ pages ≤ 2 ^ 28 ∧ 16 ≤ rate ∧ rate ≤ 256 ∧ rate % 16 = 0) then .refuse Rsn.CFG_RANGE 0x25
    else if ¬ (f 0x10 8 % 4096 = 0 ∧ f 0x18 8 % 4096 = 0 ∧ f 0x20 8 % 64 = 0 ∧ f 0x38 8 % 64 = 0) then .refuse Rsn.CFG_ALIGN 0x26
    else
      let n := 4096 * pages
      let w := 64 + 4616 * pages
      .pages [3] [(f 0x10 8, n, 1), (f 0x18 8, n, 3), (f 0x20 8, w, 3), (f 0x38 8, 64, 3)] (fun s es =>
        bedWant s d rate (3 * n + w) (extPieces es (f 0x10 8) n ++ extPieces es (f 0x18 8) n)
          (extPieces es (f 0x20 8) w ++ extPieces es (f 0x18 8) n ++ extPieces es (f 0x38 8) 64))

/-- BED (17 R416, R417). -/
def execBed (d : Die) (r : Ring) (s : State) : Out :=
  letIn s d r (fun _ desc => dOp desc == 0x31) (fun s desc => bedAsk s d r desc)

/-- What an UNBED asks of admission. -/
def unbedAsk (s : State) (d r : Nat) (desc : List Byte) : Asked :=
  let f := dfld desc
  let rate := f 0x28 2
  match descChecks s d r desc [(0x10, 8), (0x18, 8), (0x20, 8), (0x28, 2)] false true true true with
  | some (a, b) => .refuse a b
  | none =>
    if !bit s (Reg.CKP_CTRL d) 0 then .refuse Rsn.STATE 0x2F
    else if ¬ (16 ≤ rate ∧ rate ≤ 256 ∧ rate % 16 = 0) then .refuse Rsn.CFG_RANGE 0x25
    else if ¬ (f 0x10 8 % 64 = 0 ∧ f 0x18 8 % 4096 = 0 ∧ f 0x20 8 % 64 = 0) then .refuse Rsn.CFG_ALIGN 0x26
    else .pages [3] [(f 0x10 8, 64, 1), (f 0x20 8, 64, 3)] (fun s es =>
      if extPoisoned s es (f 0x10 8) 64 || extPoisoned s es (f 0x20 8) 64 then .poison
      else
        let h := extRead s es (f 0x10 8) 64
        let pages := dfld h 0x18 4
        let n := 4096 * pages
        let w := 64 + min (4616 * pages) (dfld h 0x20 8)
        if ¬ (1 ≤ pages ∧ pages ≤ 2 ^ 28) then .refuse Rsn.CFG_RANGE 0x25
        else if dfld h 0x10 8 ≠ 2 ^ 64 - 1 ∧ dfld h 0x10 8 ≠ dfld (extRead s es (f 0x20 8) 64) 8 8 then .refuse Rsn.STATE 0x28
        else .pages [3] [(f 0x10 8 + 64, w - 64, 1), (f 0x18 8, n, 3)] (fun s es =>
          match bedWant s d rate (2 * n + 64 + 4616 * pages) (extPieces es (f 0x10 8) w ++ extPieces es (f 0x18 8) n)
              (extPieces es (f 0x18 8) n ++ extPieces es (f 0x20 8) 64) with
          | .ready w' g => .ready w' (fun i => { g i with param := h })
          | a => a))

/-- UNBED (17 R419): refused unless the delta applies to the base as it stands; the headers are read at admission. -/
def execUnbed (d : Die) (r : Ring) (s : State) : Out :=
  letIn s d r (fun _ desc => dOp desc == 0x32) (fun s desc => unbedAsk s d r desc)

/-- Bytewise exclusive OR. -/
def xorBytes (a b : List Byte) : List Byte := (a.zip b).map (fun p => p.1 ^^^ p.2)

/-- What a page-wise item has done so far: the state, bytes of rows written, changed bytes, and the codes that end it. -/
structure BedAcc where
  s : State
  off : Nat
  changed : Nat
  code : Option (Nat × Nat)

/-- One page of a BED (17 R416): SRC exclusive OR BASE as a ZC64 row, and SRC over BASE. -/
def bedPage (it : Item) (x : BedAcc) (i : Nat) : BedAcc :=
  let f := dfld it.desc
  let full := f 0x2E 1 % 2 == 1
  if x.code.isSome then x
  else match itemRead (cleanExt x.s it.extents (f 0x10 8 + 4096 * i) 4096) it (f 0x10 8 + 4096 * i) 4096 with
    | .bad s a b => { x with s := s, code := some (a, b) }
    | .ok s src p1 =>
      match (if full then Touch.ok s (List.replicate 4096 0) false else itemRead (cleanExt s it.extents (f 0x18 8 + 4096 * i) 4096) it (f 0x18 8 + 4096 * i) 4096) with
      | .bad s a b => { x with s := s, code := some (a, b) }
      | .ok s base p2 =>
        if p1 || p2 then { x with s := s, code := some (Rsn.POISON, 0xC2) }
        else
          let d := xorBytes src base
          let row := zcEncode d
          match itemWrite s it (f 0x20 8 + 64 + x.off) row with
          | .bad s a b => { x with s := s, code := some (a, b) }
          | .ok s _ _ => match itemWrite s it (f 0x18 8 + 4096 * i) src with
            | .bad s a b => { x with s := s, code := some (a, b) }
            | .ok s _ _ => ⟨s, x.off + row.length, x.changed + (d.filter (· ≠ 0)).length, none⟩

/-- The item as the table of items now holds it. -/
def itNow (s : State) (it : Item) : Item := (findItem s it.die it.ring it.seq).getD it

/-- A BED completes (17 R417, R418): the rows, the delta header, then the base header with the new STEP. -/
def bedDone (s : State) (it : Item) : State :=
  let f := dfld it.desc
  let pages := f 0x28 4
  let x := (List.range pages).foldl (bedPage it) ⟨cleanExt s it.extents (f 0x38 8) 64, 0, 0, none⟩
  match x.code with
  | some (a, b) => endItem x.s (itNow x.s it) a b
  | none =>
    let old := dfld (extRead s it.extents (f 0x38 8) 64) 8 8
    let hdr := leBytes 8 0x3130444542565453 ++ leBytes 8 (f 0x30 8) ++ leBytes 8 (if f 0x2E 1 % 2 = 1 then 2 ^ 64 - 1 else old) ++
      leBytes 4 pages ++ leBytes 4 0 ++ leBytes 8 x.off ++ leBytes 8 x.changed ++ List.replicate 16 0
    let base := leBytes 8 0x4553414244565453 ++ leBytes 8 (f 0x30 8) ++ leBytes 4 pages ++ List.replicate 44 0
    let s := extWrite (extWrite x.s it (f 0x20 8) hdr) it (f 0x38 8) base
    endItem s (itNow s it) 0 0

/-- One page of an UNBED (17 R419): its row checked, then BASE exclusive OR the row, or the row alone. -/
def unbedPage (it : Item) (x : BedAcc) (i : Nat) : BedAcc :=
  let f := dfld it.desc
  let full := dfld it.param 0x10 8 == 2 ^ 64 - 1
  let total := min (4616 * dfld it.param 0x18 4) (dfld it.param 0x20 8)
  let va := f 0x10 8 + 64 + x.off
  let bad : BedAcc := { x with code := some (Rsn.BAD_DESC, 0x29) }
  if x.code.isSome then x
  else if total < x.off + 8 then bad
  else match itemRead (cleanExt x.s it.extents va 8) it va 8 with
    | .bad s a b => { x with s := s, code := some (a, b) }
    | .ok s h p0 =>
      let l := leNat (h.take 4)
      if p0 then { x with s := s, code := some (Rsn.POISON, 0xC2) }
      else if total < x.off + 8 + l then bad
      else match itemRead (cleanExt s it.extents va (8 + l)) it va (8 + l) with
        | .bad s a b => { x with s := s, code := some (a, b) }
        | .ok s row p1 => match zcDecode row 4096 with
          | none => if p1 then { x with s := s, code := some (Rsn.POISON, 0xC2) } else { bad with s := s }
          | some d =>
            match (if full then Touch.ok s (List.replicate 4096 0) false else itemRead (cleanExt s it.extents (f 0x18 8 + 4096 * i) 4096) it (f 0x18 8 + 4096 * i) 4096) with
            | .bad s a b => { x with s := s, code := some (a, b) }
            | .ok s base p2 =>
              if p1 || p2 then { x with s := s, code := some (Rsn.POISON, 0xC2) }
              else match itemWrite s it (f 0x18 8 + 4096 * i) (xorBytes base d) with
                | .bad s a b => { x with s := s, code := some (a, b) }
                | .ok s _ _ => ⟨s, x.off + 8 + l, 0, none⟩

/-- An UNBED completes: every page, then the delta's STEP in the base header. -/
def unbedDone (s : State) (it : Item) : State :=
  let x := (List.range (dfld it.param 0x18 4)).foldl (unbedPage it) ⟨s, 0, 0, none⟩
  match x.code with
  | some (a, b) => endItem x.s { itNow x.s it with phase := 1 } a b
  | none =>
    let s := extWrite x.s it (dfld it.desc 0x20 8 + 8) (leBytes 8 (dfld it.param 8 8))
    endItem s (itNow s it) 0 0

/-! ### VERIFY and ADOPT (17 R425-R429) -/

/-- What a VERIFY asks of admission. -/
def verifyAsk (s : State) (d r : Nat) (desc : List Byte) : Asked :=
  let h := dfld desc 0x10 1
  let rate := dfld desc 0x28 2
  match descChecks s d r desc [(0x10, 1), (0x18, 8), (0x20, 8), (0x28, 2)] false
    (decide (h < 12 ∧ h / 3 = d ∧ (rate = 0 ∨ 16 ≤ rate ∧ rate ≤ 4608))) (decide (rate % 16 = 0)) true with
  | some (a, b) => .refuse a b
  | none =>
    if !bit s (Reg.CKP_CTRL d) 0 then .refuse Rsn.STATE 0x2F
    else if dfld desc 0x20 8 % 64 ≠ 0 then .refuse Rsn.CFG_ALIGN 0x26
    else ftgBody s h (dfld desc 0x18 8) rate (· == 0x30) [(dfld desc 0x20 8, 48, 1)] (fun _ i => { i with jrnl := some (6, [], []) })

/-- VERIFY (17 R425): a HASH on the Footing of STACK, admitted as FOOTING is. -/
def execVerify (d : Die) (r : Ring) (s : State) : Out :=
  letIn s d r (fun _ desc => dOp desc == 0x33) (fun s desc => verifyAsk s d r desc)

/-- ROLE: 0 MEMBER 1 STANDBY 2 ADOPTED. -/
def ckpRole (s : State) (d : Nat) : Nat := fget s (Reg.CKP_STATUS d) 0 2

/-- A VERIFY of the die is running (17 R432). -/
def verifying (s : State) (d : Nat) : Bool := s.items.any (fun i => i.die == d && i.opcode == 0x33 && i.started)
/-- What an ADOPT asks of admission. -/
def adoptAsk (s : State) (d r : Nat) (desc : List Byte) : Asked :=
  let va := dfld desc 0x10 8
  match descChecks s d r desc [(0x10, 8)] true true true true with
  | some (a, b) => .refuse a b
  | none =>
    if !bit s (Reg.CKP_CTRL d) 0 then .refuse Rsn.STATE 0x2F
    else if ckpRole s d ≠ 1 ∨ (ctxsOf s d).any (fun c => (flow s c).st == 1 && cKind s c != 3) then .refuse Rsn.STATE 0x2B
    else if bit s (Reg.CKP_CTRL d) 2 && (fget s (Reg.CKP_STATUS d) 2 3 != 7 || verifying s d) then .refuse Rsn.STATE 0x2C
    else .pages [3] [(va, 64, 1)] (fun s es =>
      if extPoisoned s es va 64 then .poison
      else .ready (plainWant 0 1024 0 []) (fun i => { i with param := extRead s es va 64 }))

/-- ADOPT (17 R426, R429): privileged; refused off STANDBY, with a context READY, or unverified under REPLICA. -/
def execAdopt (d : Die) (r : Ring) (s : State) : Out :=
  letIn s d r (fun _ desc => dOp desc == 0x34) (fun s desc => adoptAsk s d r desc)

/-- An ADOPT completes: the MAC addresses of the die's ports, whatever their lock, ROLE ADOPTED, and VERIFIED cleared. -/
def adoptDone (s : State) (it : Item) : State :=
  let d := it.die
  let s := (List.range 2).foldl (fun s n =>
    let m := beFld it.param (8 * (2 * d + n)) 6
    wr (wr s (Reg.NET_PORT_MAC_LO d n) (BitVec.ofNat 32 m)) (Reg.NET_PORT_MAC_HI d n) (BitVec.ofNat 32 (m / 2 ^ 32))) s
  let s := fset (fset s (Reg.CKP_STATUS d) 0 2 2) (Reg.CKP_STATUS d) 2 3 0
  endItem (spareReg s) it 0 0

/-! ### CKP_CTRL (17 R433) -/

/-- A checkpoint item of the die is outstanding. -/
def ckpBusy (s : State) (d : Nat) : Bool := s.items.any (fun i => i.die == d && decide (0x30 ≤ i.opcode ∧ i.opcode ≤ 0x34))

/-- The checks of ENABLE in order. -/
def ckpChecks (s : State) (d : Nat) : Chk :=
  let a := Reg.CKP_SPLIT d
  let x := fget s a 0 6
  let y := fget s a 8 6
  firstFail [
    (mortarOn s d, Rsn.STATE, 0x94),
    (decide (12 ≤ x ∧ x ≤ y ∧ y ≤ 40), Rsn.CFG_RANGE, 0x2E),
    ((List.range 7).all (fun k => decide (fget s (Reg.CKP_S2_PATH d) (4 * k) 4 ≤ 4)), Rsn.CFG_RANGE, 0x2E)]

/-- CKP_ENABLE (17 R426, R432, R433): refused with STATE 0x2F while a checkpoint item is outstanding; else VERIFIED is cleared, the RWL
fields are taken, the checks run, and ROLE follows STANDBY. -/
def execCkpEnable (d : Die) (v : W32) (s : State) : Out := viaWin s d fun s =>
  let a := Reg.CKP_CTRL d
  if ckpBusy s d then .next (setRD s a 8 Rsn.STATE 0x2F)
  else
    let s := rwlIn (fset s (Reg.CKP_STATUS d) 2 3 0) a 0xE v
    let c := ckpChecks s d
    let s := finishEnable s a 8 c
    .next (if c.isNone then spareReg (fset s (Reg.CKP_STATUS d) 0 2 (if bit s a 1 then 1 else 0)) else s)

/-- CKP_DISABLE: refused with STATE 0x2F while a checkpoint item is outstanding. -/
def execCkpDisable (d : Die) (s : State) : Out := viaWin s d fun s =>
  let a := Reg.CKP_CTRL d
  .next (if ckpBusy s d then setRD s a 8 Rsn.STATE 0x2F
    else setRD (fset (fset s (Reg.CKP_STATUS d) 2 3 0) a 0 1 0) a 8 0 0)

end Sys2Proof.Machine
end

