-- ==== Sys2Proof/Machine/NetIn.lean ====
section
/-! DEFINITION. What arrives at the ports and what the transports' timers do (13 R326-R340; 14 R352): inbound packets, acknowledgements,
NAKs, notifications, retransmission, and the bound of a network item. -/

namespace Sys2Proof.Machine

/-! ### Acknowledged packets -/

/-- Items of a context that have been transmitted and owe no acknowledgement complete, or go on to their next step (13 R337, 17 R413, 14
R354). A READ waits for its data, an NVMe item for its response capsule. -/
def ctxProgress (s : State) (c : Nat) : State :=
  let d := c / 65536
  (s.items.filter (fun i => i.die == d && i.started)).foldl (fun s i =>
    match findItem s d i.ring i.seq with
    | none => s
    | some it =>
      let owes := (flow s c).tx.any (fun p => p.ring == it.ring && p.seq == it.seq)
      if ofCtx it d c && !owes then
        (if it.opcode = 0x20 ∨ it.opcode = 0x21 ∨ it.opcode = 0x22 then endItem s it 0 0
        else if it.opcode = 0x30 then pointAcked s it else s)
      else if 0x29 ≤ it.opcode ∧ it.opcode ≤ 0x2C then collAcked s it
      else s) s

/-- Sequence number `p` lies in what a packet takes. -/
def holdsPsn (m : Nat) (q : TxPkt) (p : Nat) : Bool := decide ((p + m - q.psn % m) % m < q.span)

/-- Packets retired by an acknowledgement of everything through `psn`; a READ request stays until its data has come (DEDUCED, log entry
52). A number that no packet holds retires nothing. -/
def retire (s : State) (c psn : Nat) : State :=
  let x := flow s c
  let m := cPsn s c
  match x.tx.findIdx? (fun q => holdsPsn m q psn) with
  | none => s
  | some i =>
    let gone := (x.tx.take (i + 1)).filter (fun q => q.kind != 2)
    let keep := (x.tx.take (i + 1)).filter (fun q => q.kind == 2) ++ x.tx.drop (i + 1)
    setFlow s c { x with tx := keep, tries := if gone.isEmpty then x.tries else 0, rnr := if gone.isEmpty then x.rnr else 0 }

/-- The context takes commands from the wire: it is this die's, in service, READY, and its link is UP. -/
def ctxLive (s : State) (d c : Nat) : Bool := c / 65536 == d && !outOf s d && (flow s c).st == 1 && ctxUp s c

/-- An acknowledgement processed. -/
def acked (s : State) (c psn : Nat) : State := ctxProgress (retire s c psn) c

/-- A retry: everything unacknowledged again, or the context in ERROR with `detail` when RETRY (7 without limit) is used up. -/
def retry (s : State) (c : Nat) (rnr : Bool) (detail : Nat) : State :=
  let x := flow s c
  let n := if rnr then x.rnr else x.tries
  let lim := cf s c (if rnr then 0x45 else 0x44) 1
  if lim ≠ 7 ∧ lim ≤ n then ctxError s c Rsn.LINK_FAIL detail
  else resend (setFlow s c (if rnr then { x with rnr := n + 1 } else { x with tries := n + 1 })) c

/-- ROCE_ACK (13 R328). -/
def execRoceAck (d : Die) (ctx : Fin 262144) (psn : BitVec 24) (s : State) : Out :=
  .next (if ctxLive s d ctx && cKind s ctx != 1 then acked s ctx psn.toNat else s)

/-- ROCE_NAK (13 R328, R337): `code` 0 sequence error, 1 receiver not ready, 2 invalid request, 3 remote access error. The packets before
`psn` are acknowledged; the first two retry, the others end the item and put the context in ERROR with 0xE8. -/
def execRoceNak (d : Die) (ctx : Fin 262144) (psn : BitVec 24) (code : Fin 4) (s : State) : Out :=
  if !ctxLive s d ctx || cKind s ctx == 1 then .next s
  else
    let s := acked s ctx ((psn.toNat + 2 ^ 24 - 1) % 2 ^ 24)
    .next (if (flow s ctx).st ≠ 1 then s
      else if code = 0 then retry s ctx false 0xE6 else if code = 1 then retry s ctx true 0xE7
      else ctxError s ctx Rsn.LINK_FAIL 0xE8)

/-- A notification marks the context in this slot (13 R332). -/
def notify (s : State) (c : Nat) : State := setFlow s c { flow s c with notified := true }

/-- CNP (13 R332). -/
def execCnp (d : Die) (ctx : Fin 262144) (s : State) : Out :=
  .next (if ctxLive s d ctx && cKind s ctx != 3 then notify s ctx else s)

/-- POLLEK_ACK (13 R331, R332): ECE is a notification. -/
def execPollekAck (d : Die) (ctx : Fin 262144) (psn : BitVec 32) (ece : Bool) (s : State) : Out :=
  if !ctxLive s d ctx || cKind s ctx != 1 then .next s
  else .next (acked (if ece then notify s ctx else s) ctx psn.toNat)

/-- POLLEK_NAK (13 R331): the packets through `psn` are acknowledged and the rest are sent again. -/
def execPollekNak (d : Die) (ctx : Fin 262144) (psn : BitVec 32) (s : State) : Out :=
  if !ctxLive s d ctx || cKind s ctx != 1 then .next s
  else
    let s := acked s ctx psn.toNat
    .next (if (flow s ctx).st = 1 then retry s ctx false 0xE6 else s)

/-- RTO_EXPIRE (13 R328, R337): the retransmission timeout of a context with unacknowledged packets. -/
def execRtoExpire (d : Die) (ctx : Fin 262144) (s : State) : Out :=
  .next (if (flow s ctx).st = 1 ∧ ctx / 65536 = d.val ∧ !outOf s d ∧ !(flow s ctx).tx.isEmpty then retry s ctx false 0xE6 else s)

/-- ACK_TIMER (13 R328): 1,024 cycles with an unacknowledged packet. -/
def execAckTimer (d : Die) (ctx : Fin 262144) (s : State) : Out :=
  .next (if ctxLive s d ctx && decide (0 < (flow s ctx).unacked) then sendAck s ctx else s)

/-- NET_BOUND_EXPIRE (13 R337): at its bound an item that needs acknowledgement ends with LINK_FAIL 0xE5 and its context is in ERROR; a
NET_RECV that no SEND has filled ends with ABORTED 0xE9. -/
def execNetBoundExpire (d : Die) (r : Ring) (seq : W32) (s : State) : Out :=
  match findItem s d r seq.toNat with
  | none => .next s
  | some it =>
    if ctl s d < it.bound then .next s
    else if it.opcode = 0x23 then .next (endItem s it Rsn.ABORTED 0xE9)
    else if [0x20, 0x21, 0x22, 0x28, 0x30].contains it.opcode then .next (ctxError s it.obj Rsn.LINK_FAIL 0xE5)
    else .next s

/-! ### Receiving in order -/

/-- A packet taken in order: PSN `span` further, the coalesced acknowledgement of 13 R328. -/
def took (s : State) (c span : Nat) (last : Bool) : State :=
  let x := flow s c
  let s := setFlow s c { x with expect := (x.expect + span) % cPsn s c, unacked := x.unacked + 1 }
  if last ∨ 16 ≤ x.unacked + 1 then sendAck s c else s

/-- A CE mark (13 R328, R331): on RoCEv2 a CNP, at most once per 4,096 cycles; on Pollek the next ACK reports it. -/
def marked (s : State) (c : Nat) (ce : Bool) : State :=
  if !ce then s
  else
    let x := flow s c
    if cKind s c = 1 then setFlow s c { x with ece := true }
    else
      let now := ctl s (c / 65536)
      if x.lastCnp ≠ 0 ∧ now < x.lastCnp - 1 + 4096 then s
      else push (setFlow s c { x with lastCnp := now + 1 }) (ctxMsg s c 6 0 [0x81] [])

/-- An unsupported or malformed request (13 R328). -/
def invalidReq (s : State) (c : Nat) : State :=
  netNote (sendNak s c 2) (c / 65536) (cPort s c) (cHalf s c) Rsn.LINK_FAIL 0xE8
/-- An access with a bad key or a missing right (13 R328): on RoCEv2 a NAK; on Pollek, whose NAK has no reasons, the packet is discarded
(DEDUCED, log entry 53). -/
def badKey (s : State) (c : Nat) : State :=
  let s := if cKind s c = 1 then discard s (c / 65536) (cPort s c) else sendNak s c 3
  netNote s (c / 65536) (cPort s c) (cHalf s c) Rsn.RIGHTS 0xE4

/-- The region a remote key names for a context (13 R329): KEY byte, ASID, access (0 READ, 1 WRITE) and the whole range. -/
def regionOf (s : State) (c key acc va n : Nat) : Option NetReg :=
  s.netRegs.find? (fun g => g.die == c / 65536 && g.key == key / 256 && g.byte == key % 256 && g.asid == cf s c 0x4C 2 &&
    g.access.testBit acc && decide (g.va ≤ va ∧ va + n ≤ g.va + g.len))

/-- The data log has room for every diverted piece of an inbound write (15 R380). -/
def holdRoom (s : State) (d : Nat) (ps : List (Nat × Nat)) : Bool :=
  let need := (ps.flatMap (fun p => pagesF p.1 p.2 (p.2 / 4096 + 2))).map (fun p =>
    if p.1 < 0x030000000000 ∧ diverted s d (home s p.1) then (p.2 / 128 + 2) * 160 else 0)
  need.sum == 0 || (bit s (Reg.GLB_ATTACH_CTRL d) 0 && decide (fget s (Reg.GLB_HOLD_USED d) 0 26 + need.sum ≤ 0x3800000))

/-- Bytes of an inbound write put through a region's extents, held as kind 3 where their Keystone is absent (15 R377). -/
def netPut (s : State) (g : NetReg) (va : Nat) (bs : List Byte) : State :=
  g.extents.foldl (fun s e =>
    let lo := max va e.va
    let hi := min (va + bs.length) (e.va + e.len)
    if lo < hi then (devWrite s g.die 3 0xFFFF 0 (e.pa + (lo - e.va)) ((bs.drop (lo - va)).take (hi - lo))).1 else s) s

/-- The oldest NET_RECV posted on a context. -/
def recvOf (s : State) (c : Nat) : Option Item := s.items.find? (fun i => ofCtx i (c / 65536) c && i.opcode == 0x23)

/-- A receive buffer filled: RESULT holds the length and the NET_RECV completes (13 R333). -/
def recvDone (s : State) (it : Item) (n : Nat) : State :=
  let s := extWrite s it (dfld it.desc 0x28 8) (leBytes 8 n)
  endItem s (itNow s it) 0 0

/-- A piece of an inbound SEND, at the receiver's offset: too long a message is invalid, none posted is receiver-not-ready (13 R328,
R333). -/
def sendIn (s : State) (c : Nat) (first last : Bool) (bs : List Byte) : State :=
  let x := flow s c
  let off := if first then 0 else x.rxOff
  match recvOf s c with
  | none => if cKind s c = 1 then discard s (c / 65536) (cPort s c) else sendNak s c 1
  | some it =>
    if dfld it.desc 0x20 4 < off + bs.length then invalidReq s c
    else
      let s := extWrite s it (dfld it.desc 0x18 8 + off) bs
      let s := setFlow s c { flow s c with rxOff := if last then 0 else off + bs.length }
      let s := took s c 1 last
      if last then recvDone s (itNow s it) (off + bs.length) else s

/-- A piece of an inbound WRITE at its offset in the message (13 R329); a full data log leaves it unacknowledged (15 R380). -/
def writeIn (s : State) (c : Nat) (first last : Bool) (va key len : Nat) (bs : List Byte) : State :=
  let x := flow s c
  let off := if first then 0 else x.rxOff
  if len < off + bs.length ∨ (last ∧ off + bs.length ≠ len) then invalidReq s c
  else match regionOf s c key 1 va len with
    | none => badKey s c
    | some g =>
      if !holdRoom s g.die (extPieces g.extents (va + off) bs.length) then s
      else
        let s := netPut s g (va + off) bs
        let s := setFlow s c { flow s c with rxOff := if last then 0 else off + bs.length, rxVa := va, rxKey := key, rxLen := len }
        took s c 1 last

/-- Where a RoCEv2 request stands: its PSN is the one expected, an earlier one, which is acknowledged again, or a later one, which is NAKed
as a sequence error (13 R328). -/
def roceOrder (s : State) (c psn : Nat) (ce : Bool) (k : State → State) : State :=
  let s := marked s c ce
  let e := (psn + 2 ^ 24 - (flow s c).expect % 2 ^ 24) % 2 ^ 24
  if e = 0 then k s else if 2 ^ 23 ≤ e then sendAck s c else sendNak s c 0

/-- A message's First or Only begins one; a Middle or Last continues one of the same kind. -/
def segOk (x : FlowX) (seg : Nat) (write : Bool) : Bool :=
  if seg = 0 ∨ seg = 3 then x.rxOff == 0 else x.rxOff != 0 && (x.rxLen != 0) == write

/-- An inbound SEND packet. -/
def roceSendIn (s : State) (c psn : Nat) (ce : Bool) (seg : Nat) (bs : List Byte) : State :=
  roceOrder s c psn ce (fun s =>
    if !segOk (flow s c) seg false ∨ (seg < 2 ∧ bs.length ≠ cMtu s c) ∨ cMtu s c < bs.length then invalidReq s c
    else
      let s := if seg = 0 ∨ seg = 3 then setFlow s c { flow s c with rxVa := 0, rxKey := 0, rxLen := 0 } else s
      sendIn s c (seg == 0 || seg == 3) (seg == 2 || seg == 3) bs)

/-- An inbound RDMA WRITE packet; Middle and Last take the address, key and length of their First. -/
def roceWriteIn (s : State) (c psn : Nat) (ce : Bool) (seg va key len : Nat) (bs : List Byte) : State :=
  roceOrder s c psn ce (fun s =>
    let x := flow s c
    let fst := seg == 0 || seg == 3
    if !segOk x seg true ∨ (seg < 2 ∧ bs.length ≠ cMtu s c) ∨ cMtu s c < bs.length ∨ (fst ∧ 2 ^ 31 < len) then invalidReq s c
    else if fst then writeIn s c true (seg == 3) va key len bs
    else writeIn s c false (seg == 2) x.rxVa x.rxKey x.rxLen bs)

/-- An inbound READ request served through the home (13 R329): its response takes as many PSNs as it has packets; the engine's read-ahead
buffer is purged at its end (11 R291). A byte that returns POISON ends it with a remote operational error (log entry 54). A request sent again
is served again (13 R328). -/
def roceReadIn (s : State) (c psn : Nat) (ce : Bool) (va key len : Nat) : State :=
  let serve : Bool → State → State := fun again s =>
    if 2 ^ 31 < len ∨ (again = false ∧ (flow s c).rxOff ≠ 0) then invalidReq s c
    else match regionOf s c key 0 va len with
      | none => badKey s c
      | some g =>
        if extAway s g.die g.extents va len then s
        else
        let s := s.withRahead (tdel (2 * (c / 65536) + cPort s c) s.rahead)
        if extPoisoned s g.extents va len then sendNak s c 4
        else
          let ps := cut (cMtu s c) (extRead s g.extents va len)
          let n := ps.length
          let s := ps.zipIdx.foldl (fun (s : State) (p : (Nat × List Byte) × Nat) =>
            let sg := if n = 1 then 3 else if p.2 = 0 then 0 else if p.2 + 1 = n then 2 else 1
            push s (ctxMsg s c 3 ((psn + p.2) % 2 ^ 24) [sg] p.1.2)) s
          let x := flow s c
          if again then s else setFlow s c { x with expect := (x.expect + n) % 2 ^ 24, unacked := 0 }
  let s := marked s c ce
  let e := (psn + 2 ^ 24 - (flow s c).expect % 2 ^ 24) % 2 ^ 24
  if e = 0 then serve false s else if 2 ^ 23 ≤ e then serve true s else sendNak s c 0

/-- An inbound READ response: the next packet of the oldest READ request; its data is written to LOCAL. Earlier packets are acknowledged by
it (13 R328). -/
def roceRespIn (s : State) (c psn : Nat) (bs : List Byte) : State :=
  let x := flow s c
  match x.tx.findIdx? (fun q => q.kind == 2) with
  | none => s
  | some i =>
    match x.tx[i]? with
    | none => s
    | some q =>
      if q.psn % 2 ^ 24 ≠ psn then s
      else match findItem s (c / 65536) q.ring q.seq with
        | none => setFlow s c { x with tx := x.tx.drop (i + 1) }
        | some it =>
          let len := dfld it.desc 0x20 4
          let all := readSpan s c len
          let off := (all - q.span) * cMtu s c
          let last := q.span == 1
          if bs.length ≠ (if last then len - off else cMtu s c) then ctxError s c Rsn.LINK_FAIL 0xE8
          else
            let s := extWrite s it (dfld it.desc 0x18 8 + off) bs
            let o := off + cMtu s c
            let q' : TxPkt := { q with
              psn := (q.psn + 1) % 2 ^ 24, span := q.span - 1
              msg := readMsg s c (dfld it.desc 0x28 8 + o) (dfld it.desc 0x30 4) (len - o) ((q.psn + 1) % 2 ^ 24) }
            let x := flow s c
            let s := setFlow s c { x with tx := (if last then [] else [q']) ++ x.tx.drop (i + 1), tries := 0 }
            ctxProgress s c

/-! ### Pollek packets (13 R330, R331) -/

/-- A Pollek packet read: FLAGS, OP, HOP, PSN, MSG, OFFSET, SEG, GROUP, extension and payload. -/
structure PHdr where
  flags : Nat
  op : Nat
  hop : Nat
  psn : Nat
  msg : Nat
  off : Nat
  seg : Nat
  group : Nat
  ext : List Byte
  body : List Byte

/-- A DATA packet checked: version 1, no reserved value, the length it states and, from a context, its CRC32C (13 R331). A message between
dies carries no CRC. -/
def pollekRead (pkt : List Byte) (crc : Bool) : Option PHdr :=
  let n := pkt.length - (if crc then 4 else 0)
  let f := beFld pkt
  let fl := f 1 1
  let ext := if fl.testBit 3 then 16 else 0
  let op := f 2 1
  if n < 32 ∨ f 0 1 ≠ 0x11 ∨ 16 ≤ fl ∨ 8 ≤ op ∨ 2 ^ 24 ≤ f 4 4 ∨ 2 ^ 24 ≤ f 0x1C 4 ∨ 8192 < f 0x14 2 ∨ n ≠ 32 + ext + f 0x14 2 then none
  else if crc ∧ beFld pkt n 4 ≠ crc32c (pkt.take n) then none
  else if (op ≤ 1 ∧ (f 3 1 ≠ 0 ∨ f 0x16 2 ≠ 0 ∨ f 0x18 4 ≠ 0)) ∨ (ext = 16) ≠ (op = 0 ∧ fl.testBit 0 = true) then none
  else some ⟨fl, op, f 3 1, f 8 4, f 0x0C 4, f 0x10 4, f 0x16 2, f 0x18 4, (pkt.drop 32).take ext, (pkt.drop (32 + ext)).take (f 0x14 2)⟩

/-- A chain, permute or HELLO payload handed to its group; whether it was taken. -/
def groupIn (s : State) (d : Nat) (frm : Option Nat) (h : PHdr) : State × Bool :=
  if h.op = 7 then
    let p := helloIn s d frm h.group h.body
    if p.2 then p else (mismatch s d frm none, false)
  else chainIn s d frm h.op h.hop h.msg h.seg h.off h.group (h.flags.testBit 1) h.body

/-- A Pollek DATA packet in order is delivered by its OP and acknowledged; a later one is NAKed, an earlier one acknowledged again; a bad
one is discarded and counted (13 R331). -/
def pollekIn (s : State) (c : Nat) (ce : Bool) (pkt : List Byte) : State :=
  match pollekRead pkt true with
  | none => discard s (c / 65536) (cPort s c)
  | some h =>
    let s := marked s c ce
    let x := flow s c
    let e := (h.psn + 2 ^ 32 - x.expect % 2 ^ 32) % 2 ^ 32
    let fst := h.flags.testBit 0
    let lst := h.flags.testBit 1
    if e ≠ 0 then (if 2 ^ 31 ≤ e then sendAck s c else sendNak s c 0)
    else if 2 ≤ h.op then
      let p := groupIn s (c / 65536) (some c) h
      if p.2 ∧ (flow p.1 c).st = 1 then took p.1 c 1 lst else p.1
    else if h.msg ≠ x.msgIn ∨ (if fst then h.off ≠ 0 ∨ x.rxOff ≠ 0 else h.off ≠ x.rxOff) then invalidReq s c
    else
      let s := if h.op = 0 then
          (let va := if fst then beFld h.ext 0 8 else x.rxVa
           let key := if fst then beFld h.ext 8 4 else x.rxKey
           let len := if fst then beFld h.ext 12 4 else x.rxLen
           writeIn s c fst lst va key len h.body)
        else sendIn s c fst lst h.body
      if lst ∧ (flow s c).expect ≠ x.expect then setFlow s c { flow s c with msgIn := (x.msgIn + 1) % 2 ^ 32 } else s

/-! ### The receive buffer (13 R336) -/

/-- Payload bytes an inbound command brings. -/
def inBytes : Instr → Nat
  | .roceSend _ _ _ _ _ _ bs => bs.length
  | .roceWrite _ _ _ _ _ _ _ _ _ bs => bs.length
  | .roceReadResponse _ _ _ _ _ _ bs => bs.length
  | .pollekData _ _ _ _ bs => bs.length
  | _ => 0

/-- An inbound packet handed to its transport. -/
def inNow (s : State) : Instr → State
  | .roceSend d c psn ce seg _ bs => if ctxLive s d c then roceSendIn s c psn.toNat ce seg bs else s
  | .roceWrite d c psn ce seg _ va key len bs =>
    if ctxLive s d c then roceWriteIn s c psn.toNat ce seg va.toNat key.toNat len.toNat bs else s
  | .roceReadRequest d c psn ce _ va key len => if ctxLive s d c then roceReadIn s c psn.toNat ce va.toNat key.toNat len.toNat else s
  | .roceReadResponse d c psn ce _ _ bs => if ctxLive s d c then roceRespIn (marked s c ce) c psn.toNat bs else s
  | .pollekData d c ce _ pkt => if ctxLive s d c then pollekIn s c ce pkt else s
  | _ => s

/-- An inbound packet of a context of KIND `pollek` or not. A packet for a context in ERROR or FREE is discarded and counted (13 R326, R340);
one that its standing reserve does not take yet, or that comes behind another, waits in the 2 MiB buffer of its port, and is dropped
and counted when that is full. -/
def inbound (s : State) (d c : Nat) (pollek held : Bool) (cmd : Instr) : State :=
  if c / 65536 ≠ d ∨ outOf s d then s
  else if (flow s c).st ≠ 1 then discard s d (cPort s c)
  else if !ctxUp s c || (cKind s c == 1) != pollek || cKind s c == 3 then s
  else
    let i := 2 * d + cPort s c
    let q := tget rxbufDef s.rxbuf i
    if !held && q.isEmpty then inNow s cmd
    else if 2097152 < (q.map inBytes).sum + inBytes cmd then holdAdd s (Reg.NET_PORT_DROPS d (cPort s c)) 0 16 1
    else s.withRxbuf (tset rxbufDef s.rxbuf i (q ++ [cmd]))

/-- RX_RESERVE_ADMIT (13 R336): the oldest waiting packet of a port is admitted. -/
def execRxReserveAdmit (d : Die) (n : Fin 2) (s : State) : Out :=
  match tget rxbufDef s.rxbuf (2 * d + n) with
  | [] => .next s
  | x :: xs => .next (inNow (s.withRxbuf (tset rxbufDef s.rxbuf (2 * d + n) xs)) x)

/-- ROCE_SEND: `seg` 0 First 1 Middle 2 Last 3 Only; `held` its standing reserve does not take it yet. -/
def execRoceSend (d : Die) (ctx : Fin 262144) (psn : BitVec 24) (ce : Bool) (seg : Fin 4) (held : Bool) (data : List Byte) (s : State) :
    Out := .next (inbound s d ctx false held (.roceSend d ctx psn ce seg held data))
/-- ROCE_WRITE; `va`, `key` and `len` are those of the message's RETH. -/
def execRoceWrite (d : Die) (ctx : Fin 262144) (psn : BitVec 24) (ce : Bool) (seg : Fin 4) (held : Bool) (va : BitVec 64) (key : BitVec 32)
    (len : BitVec 32) (data : List Byte) (s : State) : Out :=
  .next (inbound s d ctx false held (.roceWrite d ctx psn ce seg held va key len data))
/-- ROCE_READ_REQUEST. -/
def execRoceReadRequest (d : Die) (ctx : Fin 262144) (psn : BitVec 24) (ce : Bool) (held : Bool) (va : BitVec 64) (key : BitVec 32)
    (len : BitVec 32) (s : State) : Out := .next (inbound s d ctx false held (.roceReadRequest d ctx psn ce held va key len))
/-- ROCE_READ_RESPONSE. -/
def execRoceReadResponse (d : Die) (ctx : Fin 262144) (psn : BitVec 24) (ce : Bool) (seg : Fin 4) (held : Bool) (data : List Byte)
    (s : State) : Out := .next (inbound s d ctx false held (.roceReadResponse d ctx psn ce seg held data))
/-- POLLEK_DATA: the packet from its Pollek header to its CRC32C. -/
def execPollekData (d : Die) (ctx : Fin 262144) (ce : Bool) (held : Bool) (pkt : List Byte) (s : State) : Out :=
  .next (inbound s d ctx true held (.pollekData d ctx ce held pkt))

/-- A packet of a collective, from a context (as POLLEK_DATA, by its OP) or, without one, a BLK message between dies of the module. -/
def collIn (s : State) (d : Nat) (ctx : Option (Fin 262144)) (ce : Bool) (pkt : List Byte) : State :=
  match ctx with
  | some c =>
    if c / 65536 ≠ d ∨ outOf s d then s
    else if (flow s c).st ≠ 1 then discard s d (cPort s c)
    else if cKind s c ≠ 1 ∨ !ctxUp s c then s else pollekIn s c ce pkt
  | none =>
    if outOf s d then s
    else match pollekRead pkt false with
      | some h => if 2 ≤ h.op then (groupIn s d none h).1 else s
      | none => s

/-- HELLO. -/
def execHello (d : Die) (ctx : Option (Fin 262144)) (ce : Bool) (pkt : List Byte) (s : State) : Out := .next (collIn s d ctx ce pkt)
/-- RED_SUM. -/
def execRedSum (d : Die) (ctx : Option (Fin 262144)) (ce : Bool) (pkt : List Byte) (s : State) : Out := .next (collIn s d ctx ce pkt)
/-- RED_TOPK. -/
def execRedTopk (d : Die) (ctx : Option (Fin 262144)) (ce : Bool) (pkt : List Byte) (s : State) : Out := .next (collIn s d ctx ce pkt)
/-- RED_SIGN. -/
def execRedSign (d : Die) (ctx : Option (Fin 262144)) (ce : Bool) (pkt : List Byte) (s : State) : Out := .next (collIn s d ctx ce pkt)
/-- GATHER. -/
def execGather (d : Die) (ctx : Option (Fin 262144)) (ce : Bool) (pkt : List Byte) (s : State) : Out := .next (collIn s d ctx ce pkt)
/-- PERM. -/
def execPerm (d : Die) (ctx : Option (Fin 262144)) (ce : Bool) (pkt : List Byte) (s : State) : Out := .next (collIn s d ctx ce pkt)

/-- NVME_RESPONSE (13 R339): the response capsule of the command it names: RESULT, the transient key withdrawn, COMPLETE; a status that is not
zero ends the item with LINK_FAIL 0xEA. The capsule is the flow's next packet in order. -/
def execNvmeResponse (d : Die) (ctx : Fin 262144) (data : List Byte) (s : State) : Out :=
  if !ctxLive s d ctx || cKind s ctx != 2 || data.length != 16 then .next s
  else match s.items.find? (fun i => ofCtx i d ctx && i.opcode == 0x28 && i.started && i.phase == dfld data 12 2) with
    | none => .next s
    | some it =>
      let s := took s ctx 1 true
      let x := flow s ctx
      let s := setFlow s ctx { x with tx := x.tx.filter (fun p => ¬ (p.ring = it.ring ∧ p.seq = it.seq)) }
      let s := extWrite s it (dfld it.desc 0x28 8) data
      let it := itNow s it
      .next (if dfld data 14 2 / 2 = 0 then endItem s it 0 0 else endItem s it Rsn.LINK_FAIL 0xEA)

/-- A frame the port takes (13 R323): of a supported size, and no PAUSE or PFC frame, whose EtherType is 0x8808. Whether a handed frame keeps its
FCS is open, so 60 bytes are enough (log entry 179). -/
def frameOk (data : List Byte) : Bool :=
  decide (60 ≤ data.length ∧ data.length ≤ 9216) && (data.drop 12).take 2 != [0x88, 0x08]

/-- READY RAW contexts of a port whose link is UP: one, or one of each half (13 R327). -/
def rawCtxs (s : State) (d n : Nat) : List Nat :=
  (ctxsOf s d).filter (fun c => (flow s c).st == 1 && cKind s c == 3 && cPort s c == n && ctxUp s c)

/-- EXCEPTION_FRAME (13 R323, R327): it fills the oldest buffer of the RAW context of its port, or is dropped and counted. Of two halves, the one
it came in by is a free value (log entry 184). -/
def execExceptionFrame (d : Die) (n : Fin 2) (data : List Byte) (s : State) : Out :=
  if outOf s d then .next s
  else
    let raws := rawCtxs s d n
    let f := takeFree s
    let s := if raws.length = 2 then f.2 else s
    match (if frameOk data then (if raws.length = 2 then raws[f.1 % 2]? else raws.head?).bind (recvOf s) else none) with
    | some it =>
      if dfld it.desc 0x20 4 < data.length then .next (discard s d n)
      else
        let s := extWrite s it (dfld it.desc 0x18 8) data
        .next (recvDone s (itNow s it) data.length)
    | none => .next (discard s d n)

end Sys2Proof.Machine
end

