-- ==== Sys2Proof/Machine/Attach.lean ====
section
/-! DEFINITION. The host's watchdogs and resets seen from the dies, the attach record, re-attachment, and the holding area (15
R370-R383). -/

namespace Sys2Proof.Machine

/-! ### Host watchdogs -/

/-- WDOG_CTRL_WRITE (15 R370, R383): ACTION 3 is refused and has no side effect; any other write sets PERIOD and ACTION and rearms the
watchdog, which counts while PERIOD is not 0. -/
def execWdogCtrlWrite (k : Key) (v : W32) (s : State) : Out := viaWin s (4 + k) fun s =>
  let a := Reg.GLB_HOST_WDOG_CTRL (4 + k)
  if getBits v 16 2 = 3 then .next (fset s a 24 8 Rsn.CFG_RANGE)
  else
    let s := fset (fset (fset s a 0 16 (getBits v 0 16)) a 16 2 (getBits v 16 2)) a 24 8 Rsn.DONE
    .next (fset (s.withWdog (tdel k s.wdog)) (Reg.GLB_HOST_WDOG_STATUS (4 + k)) 0 1 (if getBits v 0 16 = 0 then 0 else 1))

/-- WDOG_KICK (15 R370): a write of 1 to KICK restarts the count. -/
def execWdogKick (k : Key) (s : State) : Out := viaWin s (4 + k) fun s => .next (s.withWdog (tdel k s.wdog))

/-- WDOG_EXPIRE (15 R370): HOST_ABSENT 0x8C, the reset that ACTION names queued at the Cornerstone, and the watchdog disarmed. One that
expires as its Keystone's reset begins is discarded (R382), as the reset has disarmed it. -/
def execWdogExpire (k : Key) (s : State) : Out :=
  let st := Reg.GLB_HOST_WDOG_STATUS (4 + k)
  if !bit s st 0 then .next s
  else
    let act := fget s (Reg.GLB_HOST_WDOG_CTRL (4 + k)) 16 2
    let s := fset (s.withWdog (tdel k s.wdog)) st 0 1 0
    let s := note s (4 + k) Rsn.HOST_ABSENT 0x8C 11 (4 + k + 8 * 31) []
    .next (if act = 1 then s.withResetQ (s.resetQ ++ [⟨none, 2, 6⟩])
      else if act = 2 then s.withResetQ (s.resetQ ++ [⟨none, 3, 4 + k⟩]) else s)

/-! ### The attach record -/

/-- The attach record of a die is to be written. -/
def markAttach (s : State) (d : Nat) : State :=
  let x := tget hostxDef s.hostx d
  (s.withHostx (tset hostxDef s.hostx d { x with dirty := true }))

/-- ATTACH_ENABLE (15 R383): the checks in their order. -/
def execAttachEnable (d : Die) (s : State) : Out := viaWin s d fun s =>
  let a := attachBase s d
  let h := holdBase s d
  .next (markAttach (finishEnable s (Reg.GLB_ATTACH_CTRL d) 8 (firstFail [
    (decide (a % 4096 = 0 ∧ h % 0x4000000 = 0), Rsn.CFG_ALIGN, 0x89),
    (inOwnStack s d a 4096 && inOwnStack s d h 0x4000000, Rsn.CFG_RANGE, 0x8A),
    (!overlap a 4096 h 0x4000000, Rsn.CFG_CONFLICT, 0x8A)])) d)

/-- A data entry of the holding area (15 R377). -/
structure HoldEnt where
  pa : Nat
  kind : Nat
  ring : Nat
  seq : Nat
  bytes : List Byte
  deriving DecidableEq, Repr

/-- The data entries from an offset of the log on. `fuel` bounds them. -/
def holdEnts (s : State) (d off : Nat) : Nat → List HoldEnt
  | 0 => []
  | f + 1 =>
    if fget s (Reg.GLB_HOLD_USED d) 0 26 ≤ off then []
    else
      let h := memRead s (holdBase s d + off) 32
      let n := leNat ((h.drop 0x10).take 2)
      ⟨leNat (h.take 8), leNat ((h.drop 0x12).take 1), leNat ((h.drop 0x14).take 2), leNat ((h.drop 0x18).take 4),
        memRead s (holdBase s d + off + 32) n⟩ :: holdEnts s d (off + 32 + roundUp n 32) f

/-- Every data entry, oldest first: no entry is shorter than 64 bytes. -/
def holdLog (s : State) (d : Nat) : List HoldEnt := holdEnts s d 0 (fget s (Reg.GLB_HOLD_USED d) 0 26 / 64)

/-- The held records, oldest first: 64 bytes each. -/
def holdRecs (s : State) (d : Nat) : List (List Byte) :=
  (List.range (fget s (Reg.GLB_HOLD_RECORDS d) 0 18)).map (fun i => memRead s (holdBase s d + 0x3800000 + 64 * i) 64)

/-- Rings of a die that are PAUSED, with their reason. -/
def pausedRings (s : State) (d : Nat) : List (Nat × Nat) :=
  s.regs.filterMap (fun e => match regAt e.1 with
    | some (u, r, i :: _) =>
      if u = d ∧ r.name = "RING_STATUS" ∧ getBits e.2 0 2 = 2 then some (i, getBits e.2 8 8) else none
    | _ => none)

/-- 256 bytes with bit r set for each ring listed. -/
def ringMap (rs : List Nat) : List Byte := leBytes 256 ((rs.eraseDups.map (fun r => 2 ^ r)).sum)

/-- The attach record of a die up to DRIVER, without its generation (15 R373). -/
def attachBody (s : State) (d : Nat) : List Byte :=
  let x := tget hostxDef s.hostx d
  let held := (holdLog s d).map (·.ring) ++ (holdRecs s d).map (fun r => leNat ((r.drop 40).take 2))
  leBytes 2 1 ++ leBytes 1 d ++ leBytes 1 0 ++ leBytes 1 (hostState s 0) ++ leBytes 1 (hostState s 1) ++ leBytes 2 0 ++
  leBytes 4 (rd s Reg.GLB_ATTACH_EPOCH).toNat ++ leBytes 4 0 ++ leBytes 8 x.detachedAt ++
  leBytes 8 (holdBase s d) ++ leBytes 8 (fget s (Reg.GLB_HOLD_USED d) 0 26) ++ leBytes 4 (holdLog s d).length ++
  leBytes 4 (fget s (Reg.GLB_HOLD_RECORDS d) 0 18) ++
  leBytes 4 ((pausedRings s d).filter (fun p => p.2 == Rsn.HOST_ABSENT)).length ++
  leBytes 4 (rd s (Reg.XLT_FB_OLDEST d)).toNat ++ leBytes 4 (rd s (Reg.XLT_FB_NEXT d)).toNat ++ List.replicate 180 0 ++
  ringMap (enabledRings s d) ++ ringMap ((pausedRings s d).map (·.1)) ++ ringMap (held.filter (· < 2048))

/-- ATTACH_RECORD_REWRITE (15 R374): when a field outside DRIVER has changed, the head takes g + 1, the body is written, and the tail and then
the head take g + 2. -/
def execAttachRecordRewrite (d : Die) (s : State) : Out :=
  let x := tget hostxDef s.hostx d
  let a := attachBase s d
  let body := attachBody s d
  if !bit s (Reg.GLB_ATTACH_CTRL d) 0 || outOf s d || (!x.dirty && memRead s (a + 16) body.length == body) then .next s
  else
    let s := memWrite s a (leBytes 8 0x4843545441565453 ++ leBytes 8 (x.gen + 1) ++ body)
    let s := memWrite s (a + 0xF00) (List.replicate 248 0 ++ leBytes 8 (x.gen + 2))
    let s := memWrite s (a + 8) (leBytes 8 (x.gen + 2))
    .next (s.withHostx (tset hostxDef s.hostx d { x with gen := x.gen + 2, dirty := false }))

/-! ### Re-attachment -/

/-- Dies that hold nothing write directly again to the memory of the Keystones whose host state is neither ABSENT nor RETURNED. -/
def direct (s : State) (d : Nat) : State :=
  if holdsAny s d then s
  else
    let h := holdX s d
    setHoldX s d { h with away := h.away.filter (fun k => hostState s k == 2 || hostState s k == 3) }

/-- ATTACH_CLAIM (15 R375): ATTACH_EPOCH + 1 while no KCORE or KFULL runs makes every host REATTACHING. -/
def execAttachClaim (d : Die) (v : W32) (s : State) : Out := viaWin s d fun s =>
  let e := rd s Reg.GLB_ATTACH_EPOCH
  let busy := (List.range 2).any (fun k => decide (tget natDef s.l2busy k ≠ 0) || hostState s k == 2)
  if v ≠ e + 1 ∨ busy then .next (setRD s (Reg.GLB_ATTACH_CTRL d) 8 Rsn.STATE 0x86)
  else
    let s := wr s Reg.GLB_ATTACH_EPOCH v
    let s := (List.range 2).foldl (fun s k => setHost s k 4) s
    .next (setRD ((List.range 4).foldl direct s) (Reg.GLB_ATTACH_CTRL d) 8 0 0)

/-- ATTACH_FINISH (15 R375): a write of 1 ends the re-attachment; refused while a host is ABSENT or a die holds entries. -/
def execAttachFinish (d : Die) (v : W32) (s : State) : Out := viaWin s d fun s =>
  if !v.getLsbD 0 then .next s
  else if (List.range 2).any (fun k => hostState s k == 2) || (List.range 4).any (fun p => !outOf s p && holdsAny s p) then
    .next (setRD s (Reg.GLB_ATTACH_CTRL d) 8 Rsn.STATE 0x88)
  else
    let s := (List.range 2).foldl (fun s k => setHost s k 0) s
    let s := (List.range 4).foldl (fun s p => (pausedRings s p).foldl (fun s r =>
      if r.2 = Rsn.HOST_ABSENT then ringCodes (fset s (Reg.RING_STATUS p r.1) 0 2 1) p r.1 0 0 else s) s) s
    .next (setRD ((List.range 4).foldl direct s) (Reg.GLB_ATTACH_CTRL d) 8 0 0)

/-! ### Draining the holding area (15 R381) -/

/-- An ACTION: refused with STATE 0x88 while no Keystone has returned, or while BUSY. A host made REATTACHING by the claim of R375 step 2 has
returned. -/
def holdAction (s : State) (d act : Nat) : State :=
  let a := Reg.GLB_HOLD_CTRL d
  let back := (List.range 2).any (fun k => hostState s k == 3 || hostState s k == 4)
  if !back || bit s a 31 then setRD s a 8 Rsn.STATE 0x88
  else fset (fset (setRD s a 8 0 0) a 2 2 (act + 1)) a 31 1 1

/-- HOLD_REPLAY. -/
def execHoldReplay (d : Die) (s : State) : Out := viaWin s d fun s => .next (holdAction s d 1)
/-- HOLD_DISCARD. -/
def execHoldDiscard (d : Die) (s : State) : Out := viaWin s d fun s => .next (holdAction s d 2)

/-- Items of a die without held writes any more, with the fate of those that had some. -/
def unheld (s : State) (d : Nat) (fate : Option (Nat × Nat)) : State :=
  s.withItems (s.items.map (fun i => if i.die = d ∧ i.held then
      { i with held := false, fate := match i.fate with | some c => some c | none => fate } else i))

/-- HOLD_DRAIN_DONE (15 R381): the whole effect of the ACTION, with the entries that queued behind it. REPLAY writes every entry to its home in
SEQ order, then the held records. DISCARD drops the entries: a held record of an item that had one carries HOST_ABSENT 0x8E, and so do
the fault records of completions already written. Nothing is written to a home that is still absent, so the drain then does not end. -/
def execHoldDrainDone (d : Die) (s : State) : Out :=
  let a := Reg.GLB_HOLD_CTRL d
  let es := holdLog s d
  let rs := holdRecs s d
  let replay := fget s a 2 2 == 2
  let gone : Nat → Bool := fun pa => match keyHome s pa with | some k => hostState s k == 2 | none => false
  let slot : List Byte → Nat := fun r => leNat ((r.drop 32).take 8)
  if !bit s a 31 || outOf s d || (replay && es.any (fun e => gone e.pa)) || rs.any (fun r => gone (slot r)) then .next s
  else
    let had : Nat → Nat → Bool := fun r q => es.any (fun e => e.kind == 1 && e.ring == r && e.seq == q)
    let s := if replay then es.foldl (fun s e => memWriteAt (touchSkt s e.pa) e.pa e.bytes) s else s
    let s := rs.foldl (fun s r =>
      let b := r.take 32
      let b := if !replay && had (leNat ((r.drop 40).take 2)) (leNat ((r.drop 8).take 4)) then
          b.take 13 ++ leBytes 1 Rsn.HOST_ABSENT ++ leBytes 1 0x8E ++ b.drop 15
        else b
      memWrite s (slot r) b) s
    let s := if replay then s else
      let kept := rs.map (fun r => (leNat ((r.drop 40).take 2), leNat ((r.drop 8).take 4)))
      let lost := ((es.filter (·.kind == 1)).map (fun e => (e.ring, e.seq))).eraseDups.filter (fun p =>
        !kept.contains p && (findItem s d p.1 p.2).isNone)
      lost.foldl (fun s p => note s d Rsn.HOST_ABSENT 0x8E 7 (ringSrc d p.1) (ringData p.2 0 0)) s
    let s := unheld s d (if replay then none else some (Rsn.HOST_ABSENT, 0x8E))
    let s := fset (fset s (Reg.GLB_HOLD_USED d) 0 26 0) (Reg.GLB_HOLD_RECORDS d) 0 18 0
    let s := fset (fset s a 2 2 0) a 31 1 0
    let h := holdX s d
    let s := setHoldX s d { h with away := h.away.filter (fun k => hostState s k == 2) }
    .next ((s.items.filter (fun i => i.die == d.val && i.opcode == 0x30 && i.started)).foldl (fun s i =>
      if (flow s i.obj).tx.any (fun p => p.ring == i.ring && p.seq == i.seq) then s else pointAcked s i) s)

/-- The writes stalled on a full log, tried again in order; those that still find no room stay. -/
def retryStalled (s : State) (d : Nat) : State :=
  let h := holdX s d
  h.stalled.foldl (fun s w =>
    let p := devWrite s d 1 w.1 w.2.1 w.2.2.1 w.2.2.2
    if p.2 then p.1.withItems (p.1.items.map (fun i =>
      if i.die = d ∧ i.ring = w.1 ∧ i.seq = w.2.1 then { i with held := true } else i)) else p.1)
    (setHoldX s d { h with stalled := [] })

/-- HOLD_STALL_RESUME (15 R380): the stalled writes go on; an item whose units had nothing else to do ends once none of its writes is left. -/
def execHoldStallResume (d : Die) (s : State) : Out :=
  let s := retryStalled s d
  .next ((holdX s d).ending.foldl (fun s e => match findItem s d e.1 e.2 with
    | some it => endItem s it 0 0
    | none => s) s)

/-- STALLED_ITEM_BOUND_EXPIRE (15 R379): at its bound an item still waiting on a read, or stalled, ends with HOST_ABSENT 0xAC. -/
def execStalledItemBoundExpire (d : Die) (r : Ring) (seq : W32) (s : State) : Out :=
  match findItem s d r seq.toNat with
  | none => .next s
  | some it =>
    let stuck := (holdX s d).stalled.any (fun w => w.1 == r.val && w.2.1 == seq.toNat)
    if it.bound ≤ ctl s d ∧ (stuck ∨ itemWaits s it) then .next (endItem s it Rsn.HOST_ABSENT 0xAC) else .next s

end Sys2Proof.Machine
end

