-- ==== Sys2Proof/Machine/Bond.lean ====
section
/-! DEFINITION. The ends of the Bond joints (12 R299-R321): training, width tickets, narrowing, received flits, and the loss and return of a
die. What a message does at its destination is a command of its own; here its slots are credited and sent on (R303, R311, R316). -/

namespace Sys2Proof.Machine

/-- STATE of a joint end: 0 OFF 1 DETECT 2 LANE_TEST 3 TICKET 4 ACTIVE 5 RETRAIN 6 ABSENT 7 DOWN (12 R304). -/
def bndState (s : State) (u j : Nat) : Nat := fget s (Reg.BND_STATUS u j) 0 3
/-- A joint end's new STATE; WIDTH reads 0 when it is not ACTIVE. -/
def setBnd (s : State) (u j v : Nat) : State :=
  let a := Reg.BND_STATUS u j
  if v = 4 then fset s a 0 3 v else fset s a 0 8 v
/-- The end across a joint: unit and joint (01 R35, 12 R299). -/
def farEnd (u j : Nat) : Nat × Nat :=
  if u < 4 then (if j = 0 then (4 + u / 2, u % 2) else if j = 1 then ((u + 1) % 4, 2) else ((u + 3) % 4, 1))
  else (if j < 2 then (2 * (u - 4) + j, 0) else (9 - u, 2))
/-- A connected joint end: J0-J2, KA, KB, KX. -/
def connected (j : Nat) : Bool := decide (j < 3)
/-- Power domain of a joint end: a Keystone's joints lie in its I/O domain (01 R39). -/
def jointDom (u j : Nat) : Nat := if u < 4 then dJoint u j else dKio (u - 4)
/-- Positions a GOOD mask holds. -/
def goodList (m : Nat) : List Nat := (List.range 26).filter (fun i => m.testBit i)
/-- The largest width of 12 R301 within a count of groups; 0 for none. -/
def widthOf (n : Nat) : Nat := if 24 ≤ n then 24 else if 20 ≤ n then 20 else if 16 ≤ n then 16 else if 12 ≤ n then 12 else if 8 ≤ n then 8 else 0
/-- Epoch `a` is later than `b` (12 R307). -/
def later (a b : Nat) : Bool := let d := (a + 256 - b) % 256; decide (1 ≤ d ∧ d ≤ 127)
/-- A mask of the `w` lowest positions of another. -/
def lowest (m w : Nat) : Nat := ((goodList m).take w).foldl (fun a i => a + 2 ^ i) 0
/-- A joint is used by an accepted item. -/
def jointHeld (s : State) (u j : Nat) : Bool :=
  s.items.any (fun i => i.resv.any (fun v => v.res == resJoint u j 0 || v.res == resJoint u j 1))

/-! ### Records -/

/-- DATA of a JOINT record (16 R386). -/
def jointData (s : State) (u j : Nat) : List Byte :=
  leBytes 1 (bndState s u j) ++ leBytes 1 (fget s (Reg.BND_STATUS u j) 3 5) ++ leBytes 1 (fget s (Reg.BND_STATUS u j) 8 8) ++
  leBytes 1 0 ++ leBytes 4 (fget s (Reg.BND_RX_GOOD u j) 0 26)
/-- An event of a joint. -/
def jointEv (s : State) (u j detail floor : Nat) : Ev := ⟨u, Rsn.LINK_FAIL, detail, floor, 5, u + 8 * j, jointData s u j, .joint u j⟩
/-- A joint of a unit out of service, or facing one: what is recorded of it is CONSEQUENT (16 R399). -/
def jointConseq (s : State) (u j : Nat) : Bool := outOf s u || outOf s (farEnd u j).1

/-- Units that hold a Block, stack, socket or port an item uses. -/
def itemUnits (it : Item) : List Nat :=
  it.uses.filterMap (fun x =>
    if x < 96 then (if x % 24 < 20 then some (x / 24) else none)
    else if 108 ≤ x ∧ x < 120 then some ((x - 108) / 3)
    else if 200 ≤ x ∧ x < 206 then some (4 + (x - 200) / 3)
    else if 400 ≤ x ∧ x < 408 then some ((x - 400) / 2)
    else none)

/-- A joint is lost to the items that use it: those with another route (12 R317) go on, LATE when they end past their bound; those for
which a unit is out of reach end with these codes (09 R247). -/
def cutItems (s : State) (u j reason detail late : Nat) : State :=
  let s := lateItems s (fun i => i.uses.contains (jointUse u j)) late
  (s.items.filter (fun i => i.uses.contains (jointUse u j) && (itemUnits i).any (fun v => (route s i.die v).isNone))).foldl
    (fun s i => endItem s i reason detail) s

/-- A joint goes DOWN with these codes (12 R304, R309, R314). -/
def bndDown (s : State) (u j detail : Nat) : State :=
  let e := jointEv s u j detail 2
  cutItems (raise (setBondX (setBnd s u j 7) u j { bondX s u j with narrow := none, own := 0 }) e (jointConseq s u j)) u j Rsn.LINK_FAIL detail 0xA6

/-! ### Tickets (12 R306) -/

/-- The 16 bytes of a width ticket of an end. -/
def ticket (s : State) (u j kind epoch width good sw : Nat) : List Byte :=
  let x := bondX s u j
  let b := leBytes 1 kind ++ leBytes 1 epoch ++ leBytes 1 width ++ leBytes 1 (u + 8 * j) ++ leBytes 4 good ++ leBytes 2 sw ++
    leBytes 2 (fget s (Reg.BND_STATUS u j) 8 8 + (if x.fresh then 256 else 0)) ++ leBytes 2 0
  b ++ leBytes 2 (crcMsb (0x1021 : BitVec 16) 0xFFFF b).toNat
/-- A ticket sent. -/
def sendTicket (s : State) (u j kind epoch width good sw : Nat) : State :=
  emit s .ticket [u, j, kind, epoch, width] (ticket s u j kind epoch width good sw)
/-- A received ticket of a kind with a good CRC. -/
def ticketOk (t : List Byte) (kind : Nat) : Bool :=
  decide (t.length = 16) && dfld t 0 1 == kind && decide ((crcMsb (0x1021 : BitVec 16) 0xFFFF (t.take 14)).toNat = dfld t 14 2)
/-- PROPOSE of the epoch under exchange. -/
def propose (s : State) (u j : Nat) : State :=
  let x := bondX s u j
  sendTicket s u j 1 x.e x.own (fget s (Reg.BND_RX_GOOD u j) 0 26) 0
/-- An epoch abandoned: the eighth in succession takes the joint to DOWN; else a later one is proposed (12 R304, R307). -/
def abandon (s : State) (u j e : Nat) : State :=
  let x := bondX s u j
  if 8 ≤ x.gave + 1 then bndDown s u j 0xD4
  else propose (setBondX s u j { x with e := e % 256, sentW := none, gotW := none, gave := x.gave + 1 }) u j

/-- The unit at the other end keeps the number it had: a Keystone, and an Ashlar die since its last position check; a DIE_COLD samples POS anew
(01 R30, R37). -/
def farKept (s : State) (u j : Nat) : Bool :=
  let v := (farEnd u j).1
  decide (4 ≤ v) || fget s (Reg.GLB_DIE_IDENT v) 2 2 != 0
/-- The identity a partner's ticket reports is as wired (12 R309); a die back from DIE_WARM keeps the number it had. -/
def identOk (s : State) (u j unit joint : Nat) : Bool :=
  let known := fget s (Reg.BND_STATUS u j) 16 3
  (if u < 4 then (if j = 0 then decide (4 ≤ unit ∧ unit < 6 ∧ joint < 2) else decide (unit < 4) && joint == 3 - j)
    else if j = 2 then decide (4 ≤ unit ∧ unit < 6) && joint == 2 else decide (unit < 4) && joint == 0) &&
  (known == 7 || known == unit || !farKept s u j)

/-- A partner's identity noted in BND_STATUS. -/
def notePartner (s : State) (u j : Nat) (t : List Byte) : State :=
  let a := Reg.BND_STATUS u j
  fset (fset s a 16 3 (dfld t 3 1 % 8)) a 19 2 (dfld t 3 1 / 8 % 4)

/-- The end holds its epoch when both CONFIRMs carry the same width (12 R308): ACTIVE at that width, its groups from 0 on (R300). A session kept through a RETRAIN
replays what is unacknowledged (12 R305). -/
def tryHold (s : State) (u j : Nat) : State :=
  let x := bondX s u j
  match x.sentW, x.gotW with
  | some w, some v =>
    if w ≠ v ∨ w < 8 then s
    else
      let was := bndState s u j
      let a := Reg.BND_STATUS u j
      let s := fset (fset (setBnd s u j 4) a 3 5 w) a 8 8 x.e
      let s := fset s (Reg.BND_TX_MAP u j) 0 26 (lowest x.pGood w)
      let s := if was = 3 then holdAdd s (Reg.BND_EVENTS u j) 0 8 1 else s
      let s := if was = 5 ∧ !x.replay.isEmpty then wrapAdd s (Reg.BND_ERR u j) 16 16 1 else s
      setBondX s u j { x with
        fresh := false, gave := 0, own := 0, naks := 0, hist := [], seen := 0, rxW := w, txW := w, txG := 0, txSw := none, again := x.replay }
  | _, _ => s

/-! ### Enables (12 R320) -/

/-- LAST_REASON and LAST_DETAIL of BND_CTRL. -/
def bndLast (s : State) (u j r d : Nat) : State := setRD s (Reg.BND_CTRL u j) 8 r d

/-- A Keystone's window holds no fourth joint; a write there does nothing (12 R320; 21 R500). -/
def noJoint (u j : Nat) : Bool := decide (4 ≤ u ∧ j = 3)

/-- BND_ENABLE: checked, then DETECT; an end already training stays as it is, a DOWN or OFF one starts anew. -/
def execBndEnable (u : Unit6) (j : Joint) (s : State) : Out := viaWin s u fun s =>
  if noJoint u j then .next s else
  match firstFail [(connected j, Rsn.CFG_RANGE, 0xD9), (isOn s (jointDom u j), Rsn.STATE, 0xD8)] with
  | some c => .next (bndLast s u j c.1 c.2)
  | none =>
    let s := bndLast (fset s (Reg.BND_CTRL u j) 0 1 1) u j 0 0
    .next (if bndState s u j = 0 then setBnd s u j 1 else s)

/-- A session discarded (12 R305); FRESH and the epoch last held stay with the end. -/
def endSession (s : State) (u j : Nat) : State := setBondX s u j { bondDef 0 with fresh := (bondX s u j).fresh }

/-- BND_DISABLE: OFF, refused while admitted items reserve the joint. -/
def execBndDisable (u : Unit6) (j : Joint) (s : State) : Out := viaWin s u fun s =>
  if noJoint u j then .next s else
  if jointHeld s u j then .next (bndLast s u j Rsn.STATE 0xDA)
  else .next (bndLast (endSession (setBnd (fset s (Reg.BND_CTRL u j) 0 1 0) u j 0) u j) u j 0 0)

/-- A RETRAIN (12 R314): flits stop, the session is kept, a narrowing is abandoned, and items that use the joint meet R247. `detail` 0 writes
no record. -/
def retrain (s : State) (u j detail : Nat) : State :=
  let e := jointEv s u j detail 2
  let s := holdAdd (setBnd s u j 5) (Reg.BND_EVENTS u j) 16 8 1
  let s := setBondX s u j { bondX s u j with own := 0, sentW := none, gotW := none, gave := 0, naks := 0, narrow := none }
  if detail = 0 then contain s (.joint u j) Rsn.LINK_FAIL 0 else raise s e (jointConseq s u j)

/-- BND_RETRAIN. -/
def execBndRetrain (u : Unit6) (j : Joint) (s : State) : Out := viaWin s u fun s =>
  if noJoint u j then .next s else
  if jointHeld s u j then .next (bndLast s u j Rsn.STATE 0xDA)
  else if bndState s u j ≠ 4 then .next (bndLast s u j Rsn.STATE 0xD8)
  else .next (bndLast (retrain s u j 0) u j 0 0)

/-! ### Training (12 R304-R309) -/

/-- What TS0 carries: the partner's last epoch, none when it is FRESH. -/
def ts0 (s : State) (u j : Nat) : Option Nat :=
  let p := farEnd u j
  if (bondX s p.1 p.2).fresh then none else some (fget s (Reg.BND_STATUS p.1 p.2) 8 8)

/-- TS0_LOCK: DETECT or ABSENT goes to LANE_TEST in a fresh session; TS0 met while ACTIVE is a RETRAIN without a record. -/
def execTs0Lock (u : Unit6) (j : Joint) (s : State) : Out :=
  let v := bndState s u j
  if !connected j || !isOn s (jointDom u j) then .next s
  else if v = 1 ∨ v = 6 then
    let s := endSession (setBnd s u j 2) u j
    .next (setBondX s u j { bondX s u j with pLast := ts0 s u j })
  else if v = 4 then .next (retrain s u j 0)
  else .next s

/-- The epoch an exchange starts with (12 R307). -/
def firstEpoch (own partner : Option Nat) : Nat :=
  match own, partner with
  | none, none => 1
  | some a, none => (a + 1) % 256
  | none, some b => (b + 1) % 256
  | some a, some b => ((if later a b then a else b) + 1) % 256

/-- LANE_TEST_DONE: `good` the positions received well, `pol` those with a lane of wrong polarity, excluded and recorded with 0xD6 (01 R34). Fewer
than 8 good groups take the joint to DOWN. In TICKET and RETRAIN, a test that finds fewer groups than the epoch was proposed with abandons
it (12 R308; log entry 43). -/
def execLaneTestDone (u : Unit6) (j : Joint) (good : BitVec 26) (pol : BitVec 26) (s : State) : Out :=
  let v := bndState s u j
  let x := bondX s u j
  if v ≠ 2 ∧ v ≠ 3 ∧ v ≠ 5 then .next s
  else
    let m := (good &&& ~~~pol).toNat
    let w := widthOf (goodList m).length
    let s := fset s (Reg.BND_RX_GOOD u j) 0 26 m
    let s := (goodList pol.toNat).foldl (fun s _ => raise s (jointEv s u j 0xD6 7) false) s
    if w = 0 then .next (bndDown s u j 0xD4)
    else if x.own ≠ 0 then .next (abandon (setBondX s u j { x with own := w }) u j (x.e + 1))
    else
      let mine := if x.fresh then none else some (fget s (Reg.BND_STATUS u j) 8 8)
      let e := firstEpoch mine (if v = 5 then ts0 s u j else x.pLast)
      let s := setBnd s u j (if v = 5 then 5 else 3)
      .next (propose (setBondX s u j { x with e := e, own := w, sentW := none, gotW := none, gave := 0 }) u j)

/-- PROPOSE received (12 R307, R308): a later epoch is taken up, an earlier one discarded; the answer is CONFIRM with the smaller width. Below 8
groups the joint is DOWN (R301). -/
def execPropose (u : Unit6) (j : Joint) (t : List Byte) (s : State) : Out :=
  let v := bndState s u j
  let x := bondX s u j
  let e := dfld t 1 1
  if (v ≠ 3 ∧ v ≠ 5) || x.own = 0 || !ticketOk t 1 || later x.e e then .next s
  else if !identOk s u j (dfld t 3 1 % 8) (dfld t 3 1 / 8 % 4) then .next (bndDown s u j 0xD7)
  else
    let s := notePartner s u j t
    let s := if e = x.e then s else abandon s u j e
    let x := bondX s u j
    if x.own = 0 ∨ x.e ≠ e then .next s
    else
      let w := min x.own (widthOf (dfld t 2 1))
      if w = 0 then .next (bndDown s u j 0xD4) else
      let s := sendTicket (setBondX s u j { x with sentW := some w, pGood := dfld t 4 4 % 2 ^ 26 }) u j 2 e w (fget s (Reg.BND_RX_GOOD u j) 0 26) 0
      .next (tryHold s u j)

/-- CONFIRM received (12 R308). -/
def execConfirm (u : Unit6) (j : Joint) (t : List Byte) (s : State) : Out :=
  let v := bndState s u j
  let x := bondX s u j
  if (v ≠ 3 ∧ v ≠ 5) || x.own = 0 || !ticketOk t 2 || dfld t 1 1 ≠ x.e then .next s
  else if !identOk s u j (dfld t 3 1 % 8) (dfld t 3 1 / 8 % 4) then .next (bndDown s u j 0xD7)
  else if dfld t 2 1 < 8 then .next (bndDown s u j 0xD4)
  else .next (tryHold (setBondX (notePartner s u j t) u j { x with gotW := some (dfld t 2 1), pGood := dfld t 4 4 % 2 ^ 26 }) u j)

/-- EPOCH_TIMEOUT (12 R308): the epoch is abandoned. -/
def execEpochTimeout (u : Unit6) (j : Joint) (s : State) : Out :=
  let v := bndState s u j
  let x := bondX s u j
  .next (if (v = 3 ∨ v = 5) ∧ x.own ≠ 0 then abandon s u j (x.e + 1) else s)

/-- WIDTH_TICKET_SEND (12 R306): the ticket of the exchange again. -/
def execWidthTicketSend (u : Unit6) (j : Joint) (s : State) : Out :=
  let v := bndState s u j
  let x := bondX s u j
  if (v ≠ 3 ∧ v ≠ 5) ∨ x.own = 0 then .next s
  else .next (match x.sentW with
    | some w => sendTicket s u j 2 x.e w (fget s (Reg.BND_RX_GOOD u j) 0 26) 0
    | none => propose s u j)

/-! ### Loss of the partner (12 R315, R316) -/

/-- Every connected joint end that faces a unit is ABSENT or DOWN. -/
def cutOff (s : State) (v : Nat) : Bool :=
  (List.range 3).all (fun j => let p := farEnd v j; outOf s p.1 || bndState s p.1 p.2 == 6 || bndState s p.1 p.2 == 7)

/-- A unit found absent leaves service: DIE_ABSENT 0x49, a fault at L3, recorded by the Cornerstone. -/
def lostUnit (s : State) (v : Nat) : State :=
  if outOf s v then s
  else
    let o := if cornerstone s = v then (otherDies s v).headD (cornerstone s) else cornerstone s
    raise s (if v < 4 then ⟨o, Rsn.DIE_ABSENT, 0x49, 3, 14, v, leBytes 1 v ++ leBytes 1 (fget s (Reg.GLB_DIE_IDENT v) 2 2), .ashlar v⟩
      else ⟨o, Rsn.DIE_ABSENT, 0x49, 3, 11, v + 8 * 31, [], .keystone (v - 4)⟩) false

/-- Whole messages in the slots of a flit and the bytes of one that goes on in the next: `b` starts with a header, and a header of no class and
length marks slots not in use (log entry 174). -/
def slotMsgs : Nat → List Byte → List (List Byte) × List Byte
  | 0, b => ([], b)
  | n + 1, b =>
    let k := leNat (b.take 2) / 8 % 16
    if b.length < 16 ∨ k = 0 then ([], [])
    else if b.length < 16 * k then ([], b)
    else let r := slotMsgs n (b.drop (16 * k)); (b.take (16 * k) :: r.1, r.2)
/-- The messages that end in a flit with this FIRST and these slots, after the part of one already received. -/
def flitMsgs (inb : List Byte) (first : Nat) (body : List Byte) : List (List Byte) × List Byte :=
  slotMsgs 16 (if inb.isEmpty then body.drop (16 * first) else inb ++ body)
/-- A message read from its slots. -/
def slotMsg (b : List Byte) : TxMsg :=
  let h := leNat (b.take 4)
  ⟨h % 8, (h / 8 % 16 - 1) * 16, h / 128 % 8, h / 1024 % 8, h / 8192 % 4096, false, b.drop 16⟩

/-- A hop that moves a message to the second virtual channel: between P3 and P0, or over KX (12 R311). -/
def crosses (h : Nat × Nat) : Bool := h == (3, 1) || h == (0, 2) || (decide (4 ≤ h.1) && h.2 == 2)
/-- A message leaves unit `u` for its destination by the route of 12 R317, on the second channel once it has crossed; one that no route reaches goes
back to its source with DIE_ABSENT 0xD5. -/
def sendOn (s : State) (u : Nat) (m : TxMsg) : State :=
  match route s u m.dst with
  | some (h :: _) =>
    let before := ((route s m.src m.dst).getD []).takeWhile (fun p => p.1 != u)
    let x := bondX s u h.2
    setBondX s u h.2 { x with txq := x.txq ++ [{ m with ch := (before ++ [h]).any crosses }] }
  | some [] => s
  | none => emit s .errorResponse [Rsn.DIE_ABSENT, 0xD5] []
/-- Messages queued or not acknowledged, oldest first (12 R316 step 3). -/
def unacked (x : BondX) : List TxMsg :=
  let r := x.replay.foldl (fun (a : List TxMsg × List Byte) f => let q := flitMsgs a.2 f.first f.body; (a.1 ++ q.1.map slotMsg, q.2)) ([], [])
  r.1 ++ (if r.2.isEmpty then [] else (slotMsgs 1 (r.2 ++ x.cont)).1.map slotMsg) ++ x.txq
/-- Messages sent again by the routes that remain. -/
def sendAgain (s : State) (u : Nat) (ms : List TxMsg) : State := ms.foldl (fun s m => sendOn s u m) s

/-- A joint end declares its partner ABSENT: its session is discarded, its messages take another route or go back (12 R316), items that use it meet
R247, and a partner that no joint reaches leaves service. -/
def bndAbsent (s : State) (u j : Nat) : State :=
  let ms := unacked (bondX s u j)
  let s := sendAgain (cutItems (endSession (setBnd s u j 6) u j) u j Rsn.DIE_ABSENT 0xD5 0xA7) u ms
  let v := (farEnd u j).1
  if cutOff s v then lostUnit s v else s

/-- PARTNER_SILENT. -/
def execPartnerSilent (u : Unit6) (j : Joint) (s : State) : Out := .next (if bndState s u j = 4 then bndAbsent s u j else s)
/-- RETRAIN_TIMEOUT: 65,536 cycles without an epoch. -/
def execRetrainTimeout (u : Unit6) (j : Joint) (s : State) : Out := .next (if bndState s u j = 5 then bndAbsent s u j else s)

/-- ABSENT_NOTICE (12 R316): the unit named leaves service where no joint reaches it any more; routes, capacities and homes follow from
that at once. -/
def execAbsentNotice (u : Unit6) (dead : Unit6) (s : State) : Out :=
  .next (if u = dead ∨ outOf s u ∨ !cutOff s dead then s else lostUnit s dead)

/-- REJOIN (12 R318 step 3): held at the Cornerstone; the die has trained with a partner. -/
def execRejoin (d : Unit6) (s : State) : Out :=
  if 4 ≤ d.val || !outOf s d || s.pllOff.contains d.val || !(List.range 3).any (fun j => bndState s d j == 4) then .next s
  else .next (mgt (s.withRejoins (kins d s.rejoins)) 6 d (cornerstone s))

/-- ADMIT_DIE (12 R318 steps 4-6, R319): once every home has reclaimed the die's agents, and those of a die still leaving, and the position check confirms it, the die is in service:
its homes start with empty directories and take back orphans; informational LINK_FAIL 0xD8. -/
def execAdmitDie (d : Unit6) (s : State) : Out :=
  let waits := s.reclaims.any (fun r => decide (24 ≤ r.2.1 ∧ r.2.1 < 40))
  if !s.rejoins.contains d.val || waits || fget s (Reg.GLB_DIE_IDENT d) 2 2 != 1 then .next s
  else
    let s := s.withAbsent (s.absent.filter (· ≠ d.val)) |>.withRejoins (s.rejoins.filter (· ≠ d.val))
    let s := mgt (agentsBack (homesChanged (recount s d))) 7 d 0
    .next (note s (cornerstone s) Rsn.LINK_FAIL 0xD8 14 d [])

/-! ### Narrowing (12 R310) -/

/-- The first SEQ that is a multiple of 64 and at least 128 beyond the current one. -/
def switchSeq (next : Nat) : Nat := roundUp (next + 128) 64 % 65536

/-- A receiver takes a logical group out of its GOOD mask: a spare in its place, or one step narrower; by more than one step it is a
RETRAIN. -/
def narrowStart (s : State) (u j g : Nat) : State :=
  let x := bondX s u j
  let w := fget s (Reg.BND_STATUS u j) 3 5
  let m := fget s (Reg.BND_RX_GOOD u j) 0 26
  let pos := (goodList m).getD g 0
  let m' := if m.testBit pos then m - 2 ^ pos else m
  let w' := min w (widthOf (goodList m').length)
  if x.narrow.isSome then s
  else if w' + 4 < w ∨ w' = 0 then retrain (fset s (Reg.BND_RX_GOOD u j) 0 26 m') u j 0xD3
  else
    let e := (fget s (Reg.BND_STATUS u j) 8 8 + 1) % 256
    let s := setBondX s u j { x with narrow := some ⟨m', w', true, none, none⟩ }
    sendTicket s u j 3 e w' m' 0

/-- Both SWITCHes are known: the change is made (12 R310 step 3), counted, and recorded with LINK_FAIL 0xD3. Later flits carry the new epoch. -/
def narrowEnd (s : State) (u j : Nat) : State :=
  let x := bondX s u j
  match x.narrow with
  | some n =>
    match n.txSwitch, n.rxSwitch with
    | some sw, some _ =>
      let a := Reg.BND_STATUS u j
      let s := fset (fset s a 3 5 n.width) a 8 8 ((fget s a 8 8 + 1) % 256)
      let s := fset (fset s (Reg.BND_RX_GOOD u j) 0 26 n.good) (Reg.BND_TX_MAP u j) 0 26 (lowest x.pGood n.width)
      let s := holdAdd s (Reg.BND_EVENTS u j) 8 8 1
      let s := setBondX s u j { x with txSw := some sw }
      raise s (jointEv s u j 0xD3 7) (jointConseq s u j)
    | _, _ => s
  | none => s

/-- NARROW_PROPOSE received: answered with NARROW_CONFIRM, the smaller width and a SWITCH. -/
def execNarrowPropose (u : Unit6) (j : Joint) (t : List Byte) (s : State) : Out :=
  let x := bondX s u j
  let a := Reg.BND_STATUS u j
  let e := (fget s a 8 8 + 1) % 256
  if bndState s u j ≠ 4 || !ticketOk t 3 || dfld t 1 1 ≠ e then .next s
  else
    let w := fget s a 3 5
    let n := x.narrow.getD ⟨fget s (Reg.BND_RX_GOOD u j) 0 26, w, false, none, none⟩
    let w' := min n.width (widthOf (dfld t 2 1))
    if w' + 4 < w ∨ w' = 0 then .next (retrain s u j 0xD3)
    else
      let sw := n.txSwitch.getD (switchSeq x.next)
      let s := setBondX s u j { x with pGood := dfld t 4 4 % 2 ^ 26, narrow := some { n with width := w', txSwitch := some sw } }
      .next (sendTicket s u j 4 e w' n.good sw)

/-- NARROW_CONFIRM received: it fixes the partner's SWITCH, and is answered in the same way by the end that proposed; a width more than one step below
is a RETRAIN. -/
def execNarrowConfirm (u : Unit6) (j : Joint) (t : List Byte) (s : State) : Out :=
  let x := bondX s u j
  let e := (fget s (Reg.BND_STATUS u j) 8 8 + 1) % 256
  match x.narrow with
  | none => .next s
  | some n =>
    if bndState s u j ≠ 4 || !ticketOk t 4 || dfld t 1 1 ≠ e || n.rxSwitch.isSome then .next s
    else
      let w := min n.width (widthOf (dfld t 2 1))
      if w + 4 < fget s (Reg.BND_STATUS u j) 3 5 ∨ w = 0 then .next (retrain s u j 0xD3) else
      let sw := n.txSwitch.getD (switchSeq x.next)
      let s := setBondX s u j { x with
        pGood := dfld t 4 4 % 2 ^ 26
        narrow := some { n with width := w, txSwitch := some sw, rxSwitch := some (dfld t 8 2) } }
      let s := if n.txSwitch.isNone then sendTicket s u j 4 e w n.good sw else s
      .next (narrowEnd s u j)

/-- NARROW_TIMEOUT: an exchange not completed is a RETRAIN with LINK_FAIL 0xD3. -/
def execNarrowTimeout (u : Unit6) (j : Joint) (s : State) : Out :=
  match (bondX s u j).narrow with
  | some n => .next (if bndState s u j = 4 ∧ (n.txSwitch.isNone ∨ n.rxSwitch.isNone) then retrain s u j 0xD3 else s)
  | none => .next s

/-! ### Flits (12 R302, R303, R313) -/

/-- Whether a CRC failure is counted against the group that carried the flit, and the group removed at its eighth in 1,024 flits. -/
def countFlit (s : State) (u j : Nat) (failed : Bool) : State :=
  let x := bondX s u j
  let w := max 1 x.rxW
  let g := x.seen % w
  let h := (failed :: tget (fun _ => []) x.hist g).take 1024
  let s := setBondX s u j { x with seen := (x.seen + 1) % w, hist := tset (fun _ => []) x.hist g h }
  if failed ∧ 8 ≤ (h.filter id).length then narrowStart s u j g else s

/-- From the partner's SWITCH on, flits come on the groups of the new width, from group 0 (12 R310 step 3). -/
def rxSwitched (s : State) (u j seq : Nat) : State :=
  let x := bondX s u j
  match x.narrow with
  | some n => if n.rxSwitch.any (fun r => decide ((seq + 65536 - r) % 65536 < 32768)) then
      setBondX s u j { x with narrow := none, rxW := bndWidth s u j, seen := 0, hist := [] } else s
  | none => s

/-- The messages that a flit ends: their credits are due back, and those for another unit go on (12 R303, R311); of a die
that is not admitted yet only MGT is accepted (12 R318). -/
def takeSlotsIn (s : State) (u j : Nat) (f : List Byte) : State :=
  let x := bondX s u j
  let r := flitMsgs x.inb (flitFld f 42 4) ((f.drop 8).take 240)
  let ms := r.1.map slotMsg
  let only := outOf s (farEnd u j).1
  let owe := ms.foldl (fun o m => if m.cls < 6 then o.set m.cls (o.getD m.cls 0 + m.len / 16 + 1) else o) x.owe
  ms.foldl (fun s m => if m.dst = u ∨ 6 ≤ m.dst ∨ (only && m.cls != 5) then s else sendOn s u m) (setBondX s u j { x with inb := r.2, owe := owe })

/-- ACK, credits and NAK of a good flit. -/
def flitBack (s : State) (u j : Nat) (f : List Byte) : State :=
  let x := bondX s u j
  let held := x.replay.length
  let done := (flitFld f 16 16 + 65537 + held - x.next) % 65536
  let rest := if done ≤ held then x.replay.drop done else x.replay
  let c := flitFld f 46 3
  let x := if c < 6 then x.refund c (flitFld f 49 12) else x
  let nak := flitFld f 32 1 = 1 ∧ !rest.isEmpty
  let s := setBondX s u j { x with replay := rest, again := if nak then rest else x.again.filter (fun g => rest.contains g) }
  if flitFld f 32 1 = 1 ∧ !rest.isEmpty then
    emit (wrapAdd s (Reg.BND_ERR u j) 16 16 1) .flit [u, j, 2, flitFld f 16 16 + 1] []
  else s

/-- The epoch a flit must carry: that held, or the new one from the partner's SWITCH on while a narrowing completes; flits before the SWITCH still
carry the old one. -/
def epochOk (s : State) (u j seq e : Nat) : Bool :=
  let held := fget s (Reg.BND_STATUS u j) 8 8
  match (bondX s u j).narrow with
  | some n => match n.rxSwitch with
    | some r => if (seq + 65536 - r) % 65536 < 32768 then e == held else e == (held + 255) % 256
    | none => e == held
  | none => e == held

/-- FLIT_RECEIVE: `low` a logical group whose margin has fallen below 4 UI. -/
def execFlitReceive (u : Unit6) (j : Joint) (f : List Byte) (low : Option (Fin 24)) (s : State) : Out :=
  if f.length ≠ 256 then .refused .illFormed
  else
    let v := bndState s u j
    let good := flitCrc f == leNat (f.drop 248)
    if (v = 3 ∨ v = 5) ∧ good ∧ flitFld f 61 1 = 1 then .next (bndAbsent s u j)
    else if v ≠ 4 then .next s
    else
      let s := match low with
        | some g => if g.val < fget s (Reg.BND_STATUS u j) 3 5 then narrowStart s u j g else s
        | none => s
      if bndState s u j ≠ 4 then .next s
      else if !good then .next (countFlit (holdAdd s (Reg.BND_ERR u j) 0 16 1) u j true)
      else
        let seq := flitFld f 0 16
        let s := countFlit (if seq = (bondX s u j).expect then rxSwitched s u j seq else s) u j false
        let x := bondX s u j
        let d := (seq + 65536 - x.expect) % 65536
        if flitFld f 61 1 = 1 then .next (bndAbsent s u j)
        else if !epochOk s u j seq (flitFld f 34 8) then .next (retrain s u j 0xD1)
        else if d = 0 then
          if flitFld f 33 1 = 1 then .next (flitBack s u j f)
          else
            let s := setBondX s u j { x with expect := (x.expect + 1) % 65536, naks := 0 }
            .next (emit (takeSlotsIn (flitBack s u j f) u j f) .flit [u, j, 0, seq] ((f.drop 8).take 240))
        else if d ≤ 2048 then
          let s := flitBack s u j f
          let k := x.naks + 1
          if 8 ≤ k then .next (retrain s u j 0xD0)
          else .next (emit (setBondX s u j { bondX s u j with naks := k, nak := true }) .flit [u, j, 1, (x.expect + 65535) % 65536] [])
        else if 65536 - 2048 ≤ d then .next (flitBack s u j f)
        else .next (retrain s u j 0xD2)

end Sys2Proof.Machine
end

