-- ==== Sys2Proof/Machine/Inval.lean ====
section
/-! DEFINITION. Withdrawing a mapping and the enables of the translation units (10 R269-R273): posts, acknowledgement, and
XLT_CTRL.ENABLE. -/

namespace Sys2Proof.Machine

/-- A virtual range is overlapped by an invalidation: 1 RANGE, 2 an ASID, 3 everything (10 R269). -/
def invHits (i : Inv) (asid va len : Nat) : Bool :=
  if i.kind = 3 then true
  else if i.asid ≠ asid then false
  else if i.kind = 2 then true
  else decide (i.va < va % 2 ^ 57 + len ∧ va % 2 ^ 57 < i.va + i.pages * 4096)

/-- QUEUED of XLT_STATUS (10 R273): the sixteenth is counted when the first is acknowledged. -/
def queuedReg (s : State) (u : Nat) : State := fset s (Reg.XLT_STATUS u) 12 4 (min 15 (xunit s u).inv.length)

/-- A post (10 R269): refused with STATE 0xB6 on a full queue; else it takes the next number, its cache entries leave at once, and
the items and registered regions of the unit that hold an overlapping translation are those it waits for. -/
def postInv (s : State) (u kind asid : Nat) : State :=
  let x := xunit s u
  if 16 ≤ x.inv.length then emit s .refusal [Rsn.STATE, 0xB6] []
  else
    let n := (rd s (Reg.XLT_INV_SEQ u)).toNat + 1
    let va := fget s (Reg.XLT_INV_VA_LO u) 12 20 * 4096 + fget s (Reg.XLT_INV_VA_HI u) 0 25 * 0x100000000
    let i : Inv := ⟨n % 2 ^ 32, kind, asid, va, (rd s (Reg.XLT_INV_PAGES u)).toNat, [], []⟩
    let i := { i with
      items := (s.items.filter (fun it => it.die == u && it.extents.any (fun e => invHits i it.asid e.va e.len))).map
        (fun it => (it.die, it.ring, it.seq))
      regions := (s.netRegs.filter (fun g => g.die == u && g.extents.any (fun e => invHits i g.asid e.va e.len))).map
        (fun g => (g.die, g.key)) }
    let s := wr s (Reg.XLT_INV_SEQ u) (BitVec.ofNat 32 n)
    queuedReg (setXunit s u { x with cache := x.cache.filter (fun e => !invHits i e.asid e.va e.size), inv := x.inv ++ [i] }) u

/-- INV_RANGE: KIND 1. -/
def execInvRange (u : Unit6) (asid : BitVec 16) (s : State) : Out := viaWin s u fun s => .next (postInv s u 1 asid.toNat)
/-- INV_ASID: KIND 2. -/
def execInvAsid (u : Unit6) (asid : BitVec 16) (s : State) : Out := viaWin s u fun s => .next (postInv s u 2 asid.toNat)
/-- INV_ALL: KIND 3. -/
def execInvAll (u : Unit6) (s : State) : Out := viaWin s u fun s => .next (postInv s u 3 0)

/-- A holder of an old translation is still there. -/
def invHeld (s : State) (i : Inv) : Bool :=
  i.items.any (fun k => (findItem s k.1 k.2.1 k.2.2).isSome) || i.regions.any (fun k => s.netRegs.any (fun g => g.die == k.1 && g.key == k.2))

/-- INV_ACK (10 R269): the oldest invalidation is acknowledged once no holder remains. -/
def execInvAck (u : Unit6) (s : State) : Out :=
  let x := xunit s u
  match x.inv with
  | [] => .next s
  | i :: rest =>
    if invHeld s i then .next s
    else .next (queuedReg (wr (setXunit s u { x with inv := rest }) (Reg.XLT_INV_DONE u) (BitVec.ofNat 32 i.seq)) u)

/-- A region of `n` bytes lies wholly in the populated part of one per-stack window. -/
def oneStack (s : State) (a n : Nat) : Bool := inStack s a n

/-- The checks of XLT_CTRL.ENABLE (10 R273). A Keystone has no batch area. -/
def xltChecks (s : State) (u : Nat) : Chk :=
  let a := asidBase s u
  let l := fget s (Reg.XLT_CTRL u) 1 4
  let ash := decide (u < 4)
  firstFail [
    (decide (a % 0x100000 = 0) && (!ash || decide (fbHdr s u 0 % 4096 = 0 ∧ fbRec s u 0 % 8192 = 0)), Rsn.CFG_ALIGN, 0xBB),
    ((!ash || decide (1 ≤ l ∧ l ≤ 8)) && oneStack s a 0x100000 &&
      (!ash || (oneStack s (fbHdr s u 0) (64 * 2 ^ l) && oneStack s (fbRec s u 0) (8192 * 2 ^ l))), Rsn.CFG_RANGE, 0xBA)]

/-- XLT_ENABLE. -/
def execXltEnable (u : Unit6) (v : W32) (s : State) : Out := viaWin s u fun s =>
  let s := if u.val < 4 then rwlIn s (Reg.XLT_CTRL u) 0x1E v else s
  .next (finishEnable s (Reg.XLT_CTRL u) 16 (xltChecks s u))

/-- The root port of a Keystone is enabled: its I/O domain is ON and PERST is released (DEDUCED, log entry 29). -/
def rootPortOn (s : State) (k : Nat) : Bool := isOn s (dKio k) && !(s.modx.perst.getD k false)

/-- XLT_DISABLE (10 R273): refused with STATE 0xBC while a ring of the die, or the Keystone's root port, is enabled. -/
def execXltDisable (u : Unit6) (s : State) : Out := viaWin s u fun s =>
  let busy := if u.val < 4 then !(enabledRings s u).isEmpty else rootPortOn s (u - 4)
  let a := Reg.XLT_CTRL u
  .next (if busy then setRD s a 16 Rsn.STATE 0xBC else setRD (fset s a 0 1 0) a 16 0 0)

end Sys2Proof.Machine
end

