-- ==== Sys2Proof/Machine/Mason.lean ====
section
/-! DEFINITION. The Mason array (03 R79-R86) and the Plumb sampler with its registers (08 R218-R225). -/

namespace Sys2Proof.Machine

/-! ### Operands (03 R79, 04 R119) -/

/-- Step length of an operand format code (03 R79): the slower operand's is the smaller. -/
def stepLen (f : Nat) : Nat :=
  if f = 0 then 128 else if f ≤ 3 then 64 else if f = 4 then 32 else if f = 5 then 16 else if f = 6 then 4 else 1

/-- Width in bits of an operand format code. -/
def opBits (f : Nat) : Nat := if f = 0 then 4 else if f = 1 then 6 else if f ≤ 3 then 8 else if f ≤ 5 then 16 else if f = 6 then 32 else 64

/-- A code is a grouped format. -/
def grouped (f : Nat) : Bool := decide (f ≤ 3)

/-- The narrow format of a code. -/
def masonNf (f : Nat) : NFmt := if f = 0 then gf4 else if f = 1 then gf6 else if f = 2 then gf8a else gf8b

/-- The IEEE or GF16 format of a code. -/
def masonFmt (f : Nat) : Fmt := if f = 4 then gf16 else if f = 5 then b16 else if f = 6 then b32 else b64

/-- One decoded element: its value, its bits in binary64 (for the binary64 accumulation), and whether it was a signalling NaN. -/
structure Elem where
  v : FV
  w64 : Nat
  sig : Bool

/-- Element bits decoded, with the scale exponent of its group. -/
def elemOf (f bits e : Nat) : Elem :=
  if grouped f then
    let v := (masonNf f).val bits e
    ⟨v, (b64.enc v).1, false⟩
  else
    let g := masonFmt f
    ⟨g.dec bits, (convFmt g b64 bits).1, g.isSig bits⟩

/-- Bytes of one step block of an operand, in whole words (04 R118: consecutive words; log entry 22). -/
def blockWords (f ks : Nat) : Nat := ceilDiv (64 * ks * opBits f) 2048

/-- Bits of element `i` of a block's bytes. -/
def elemBits (f : Nat) (bs : List Byte) (i : Nat) : Nat :=
  if grouped f then packed bs (opBits f) i else leNat ((bs.drop (i * opBits f / 8)).take (opBits f / 8))

/-- Scale bytes of a step: the offset in the scale array of row or column `r`'s group for element `k` (log entry 22). -/
def scaleIdx (ks j r k : Nat) : Nat :=
  if 32 ≤ ks then j * 64 * (ks / 32) + r * (ks / 32) + k / 32 else j * ks / 32 * 64 + r

/-- An operation's fields (04 R118). -/
structure MFld where
  tile : Nat
  a : Nat
  b : Nat
  steps : Nat
  init : Bool
  fa : Nat
  fb : Nat
  ks : Nat

/-- The fields of a mason word; bank words counted from the start of their banks (log entry 22). -/
def mfld (w : Nat) : MFld :=
  let fa := wbits w 44 3
  let fb := wbits w 47 3
  ⟨3072 + wbits w 0 11, wbits w 11 11, wbits w 22 11, wbits w 33 10, wbits w 43 1 == 1, fa, fb, min (stepLen fa) (stepLen fb)⟩

/-- First word of step `j`'s A block. -/
def aWord (m : MFld) (j : Nat) : Nat := m.a + j * blockWords m.fa m.ks
/-- First word of step `j`'s B block; a ring offset wraps within the ring. -/
def bWord (o : MOp) (m : MFld) (j : Nat) : Nat :=
  let bw := blockWords m.fb m.ks
  if o.rlen = 0 then 1536 + m.b + j * bw else 1536 + o.ring + (m.b + j * bw) % o.rlen
/-- The step whose scale bytes step `j` uses: the scale ring wraps with the element ring. -/
def bScaleStep (o : MOp) (m : MFld) (j : Nat) : Nat :=
  let bw := blockWords m.fb m.ks
  if o.rlen = 0 then j else (m.b / bw + j) % max 1 (o.rlen / bw)

/-- The elements of step `j` of an operand: 64 rows or columns of `ks`. -/
def stepElems (s : State) (d n f ks word scale sj : Nat) : List (List Elem) :=
  let bs := spadBytes s d n (256 * word) (256 * blockWords f ks)
  let sc := if grouped f then spadBytes s d n (256 * scale + scaleIdx ks sj 0 0) (if 32 ≤ ks then 64 * (ks / 32) else 64) else []
  (List.range 64).map (fun r => (List.range ks).map (fun k =>
    elemOf f (elemBits f bs (r * ks + k)) ((sc.getD (if 32 ≤ ks then r * (ks / 32) + k / 32 else r) 0).toNat)))

/-! ### Accumulation (03 R80-R83) -/

/-- An exact step sum: its value, whether a signalling NaN or an invalid product or sum occurred, and the binary32 NaN it gives when
it is a NaN: its first NaN operand's, or the default. -/
structure SSum where
  v : FV
  nv : Bool
  nan : Nat

/-- The NaN of a step sum: the first NaN operand in ascending K, A's element before B's, quieted with its payload (02 R53; for the NaNs of
more than two operands DESIGN CHOICE, log entry 160). -/
def stepNan (a b : List Elem) : Nat :=
  match ((a.zip b).flatMap (fun p => [p.1, p.2])).find? (fun x => x.v == .nan) with
  | some x => (convFmt b64 b32 x.w64).1
  | none => b32.nan

/-- The exact sum of products of a row and a column (03 R80, R83). A sum that is exactly zero is +0 (DESIGN CHOICE, log entry 159). -/
def stepSum (a b : List Elem) : SSum :=
  let ps := a.zipWith (fun x y =>
    if x.v = .nan ∨ y.v = .nan then (some FV.nan, x.sig || y.sig) else (mulV x.v y.v, false)) b
  let sig := ps.any (·.2)
  let bad := ps.any (fun p => p.1 == none)
  let vs := ps.filterMap (·.1)
  let pos := vs.any (· == .inf false)
  let neg := vs.any (· == .inf true)
  if bad || vs.any (· == .nan) then ⟨.nan, sig || bad, stepNan a b⟩
  else if pos && neg then ⟨.nan, true, b32.nan⟩
  else if pos then ⟨.inf false, false, b32.nan⟩
  else if neg then ⟨.inf true, false, b32.nan⟩
  else ⟨(vs.foldl (fun x v => x.add v.dy) Dy.zero).fv false, false, b32.nan⟩

/-- A value times a power of two. -/
def FV.shl (v : FV) (k : Int) : FV :=
  match v with
  | .num n m e => .num n m (e + k)
  | v => v

/-- The running state of one output: binary32 partial, A20 accumulator, steps in the interval, overflow and invalid pending,
flags signalled. -/
structure Acc where
  p : Nat
  a : Nat
  m : Nat
  of : Bool
  nv : Bool
  fl : Nat

/-- Promotion of an interval into the partial (03 R82, R83). -/
def promote (dd : Int) (x : Acc) : Acc :=
  if x.m = 0 then x
  else
    let v := a20.dec x.a
    let t : FR := if v = .nan then (b32.nan, 0) else b32.enc (v.shl (-dd))
    let r := b32.add x.p t.1
    ⟨r.1, 0, 0, false, false, x.fl ||| t.2 ||| r.2 ||| flagIf x.of fOF ||| flagIf x.nv fNV⟩

/-- One step into the A20 accumulator, promoted after the `P`-th (03 R82). -/
def accStep (pp : Nat) (dd : Int) (x : Acc) (z : SSum) : Acc :=
  let r : FR := if a20.isNaN x.a || z.v == .nan then (a20.nan, 0) else a20.sumV (a20.dec x.a) (z.v.shl dd)
  let y := { x with a := r.1, m := x.m + 1, of := x.of || r.2 &&& fOF != 0, nv := x.nv || z.nv || r.2 &&& fNV != 0 }
  if pp ≤ y.m then promote dd y else y

/-- A binary32 partial plus an exact step sum, with one rounding: a NaN partial stays, quieted, before a NaN of the sum (02 R53). -/
def addExact (p : Nat) (z : SSum) : FR :=
  if b32.isNaN p then (b32.quiet p, flagIf (b32.isSig p) fNV)
  else if z.v = .nan then (z.nan, 0)
  else b32.sumV (b32.dec p) z.v

/-- The final partial of one output, its flags, and the reference of the Plumb sampler (03 R82, 08 R221). -/
def output (pp : Nat) (dd : Int) (ks p0 : Nat) (zs : List SSum) : Nat × Nat :=
  if ks = 4 then
    zs.foldl (fun x z => let r := addExact x.1 z; (r.1, x.2 ||| r.2 ||| flagIf z.nv fNV)) (p0, 0)
  else
    let x := promote dd (zs.foldl (accStep pp dd) ⟨p0, 0, 0, false, false, 0⟩)
    (x.p, x.fl)

/-- The Plumb reference: each exact step sum added to a binary32 partial with one rounding (08 R221). -/
def reference (p0 : Nat) (zs : List SSum) : Nat := zs.foldl (fun x z => (addExact x z).1) p0

/-- A binary64 output: one fusedMultiplyAdd per step (03 R82). -/
def output64 (p0 : Nat) (xs : List (Elem × Elem)) : Nat × Nat :=
  xs.foldl (fun x e =>
    let r := b64.fma e.1.w64 e.2.w64 x.1
    (r.1, x.2 ||| r.2 ||| flagIf (e.1.sig || e.2.sig) fNV)) (p0, 0)

/-- What an operation computes: the 4,096 outputs in row order with their flags, and the references. -/
def masonTile (s : State) (d n c : Nat) (o : MOp) : List (Nat × Nat) × List Nat × List Nat :=
  let m := mfld o.word
  let cfg := Reg.BLK_MASON_CFG d n c
  let pp := fget s cfg 0 7
  let d8 := fget s cfg 8 8
  let dd : Int := if d8 < 128 then d8 else (d8 : Int) - 256
  let as := (List.range m.steps).map (fun j => stepElems s d n m.fa m.ks (aWord m j) o.as j)
  let bs := (List.range m.steps).map (fun j => stepElems s d n m.fb m.ks (bWord o m j) (1536 + o.bs) (bScaleStep o m j))
  let w := if m.ks = 1 then 8 else 4
  let old := spadBytes s d n (256 * m.tile) (4096 * w)
  let p0 : Nat → Nat := fun i => if m.init then leNat ((old.drop (w * i)).take w) else 0
  let idx := List.range 4096
  if m.ks = 1 then
    (idx.map (fun i => output64 (p0 i) ((as.map (fun a => ((a.getD (i / 64) []).headD ⟨.nan, 0, false⟩))).zip
      (bs.map (fun b => ((b.getD (i % 64) []).headD ⟨.nan, 0, false⟩))))), [], idx.map p0)
  else
    let zs : Nat → List SSum := fun i => as.zipWith (fun a b => stepSum (a.getD (i / 64) []) (b.getD (i % 64) [])) bs
    (idx.map (fun i => output pp dd m.ks (p0 i) (zs i)), idx.map (fun i => reference (p0 i) (zs i)), idx.map p0)

/-- The words an operation touches, each a first word, how many and whether it writes (03 R99). -/
def masonWords (o : MOp) : List (Nat × Nat × Bool) :=
  let m := mfld o.word
  let sw : Nat → Nat := fun f => if grouped f then ceilDiv (m.steps * max 64 (64 * m.ks / 32)) 256 else 0
  let tw := if m.ks = 1 then 128 else 64
  let bw := blockWords m.fb m.ks
  let nb := if o.rlen = 0 then m.steps * bw else min o.rlen (m.steps * bw)
  [(m.a, m.steps * blockWords m.fa m.ks, false), (o.as, sw m.fa, false),
   (if o.rlen = 0 then 1536 + m.b else 1536 + o.ring, nb, false),
   (1536 + o.bs, if o.rlen = 0 then sw m.fb else ceilDiv (max 1 (o.rlen / bw) * max 64 (64 * m.ks / 32)) 256 * (if grouped m.fb then 1 else 0), false)]
  ++ (if m.init then [(m.tile, tw, false)] else []) ++ [(m.tile, tw, true)]

/-- The first refusal of a Mason operation's words, with its access kind; or an ECC error in what it reads. -/
def masonCheck (s : State) (d n c : Nat) (o : MOp) : Option (AccKind × Nat × Nat × Nat) × Option Nat :=
  let ws := (masonWords o).filter (fun w => 0 < w.2.1)
  let bad := ws.findSome? (fun w =>
    let k := if w.2.2 then 1 else 0
    (accCheck s d n 0 c k (256 * w.1) (256 * w.2.1)).map (fun r => (k, r)))
  (bad, ws.findSome? (fun w => if !w.2.2 && poisonedAt s (spadAddr d n (256 * w.1)) (256 * w.2.1) then some w.1 else none))

/-! ### The Plumb sampler (08 R220-R222) -/

/-- The operation is eligible: it accumulates in A20 and each operand with its scales is at most 1 MiB. -/
def eligible (s : State) (d : Nat) (o : MOp) : Bool :=
  let m := mfld o.word
  let sz : Nat → Nat := fun f => m.steps * 64 * m.ks * opBits f / 8 + (if grouped f then m.steps * 64 * m.ks / 32 else 0)
  bit s (Reg.PLB_CTRL d) 0 && !bit s (Reg.PLB_CTRL d) 11 && decide (16 ≤ m.ks) && decide (sz m.fa ≤ 1048576 ∧ sz m.fb ≤ 1048576)

/-- The draw selects it: the low LOG2N bits of output word 0 are zero. -/
def selected (s : State) (d : Nat) (x : CtxX) (run : Nat) (o : MOp) : Bool :=
  let w : Nat → W32 := fun n => BitVec.ofNat 32 n
  let r := (philox (w o.ord) (w x.lb) (w run) (w x.plan) (rd s (Reg.PLB_SEED_LO d)) (rd s (Reg.PLB_SEED_HI d)) 10).headD 0
  decide (r.toNat % 2 ^ fget s (Reg.PLB_CTRL d) 1 5 = 0)

/-- MASON_START (03 R82, 08 R220): the first operation not yet started starts; at most two are in the array, which is
double-buffered. A selected one is taken while the Plumb unit is IDLE, else it is counted in SKIPPED. -/
def execMasonStart (d : Die) (n : Blk) (c : Ctx) (s : State) : Out :=
  let x := ctxX s d n c
  if !inRun s d n c ∨ 2 ≤ (x.mason.filter (·.started)).length then .next s
  else
    match x.mason.find? (fun o => !o.started) with
    | none => .next s
    | some o =>
      let s := setCtxX s d n c { x with mason := x.mason.map (fun q => if q.ord = o.ord then { q with started := true } else q) }
      match planOf s d x.plan with
      | some p =>
        if eligible s d o && selected s d x p.runNo o then
          if fget s (Reg.PLB_STATUS d) 0 2 = 0 then
            let smp : Sample := ⟨n, c, x.plan, x.lb, p.runNo, o.ord, [], []⟩
            let s := fset (s.withPlumb (tset plumbDef s.plumb d (some smp))) (Reg.PLB_STATUS d) 0 2 1
            .next (wrapAdd (fset s (Reg.PLB_STATUS d) 16 16 x.plan) (Reg.PLB_SAMPLED d) 0 32 1)
          else .next (wrapAdd s (Reg.PLB_SKIPPED d) 0 32 1)
        else .next s
      | none => .next s

/-- A captured operation ends: the unit recomputes (08 R221). -/
def captureEnd (s : State) (d n c : Nat) (o : MOp) (got want : List Nat) : State :=
  match tget plumbDef s.plumb d with
  | some x =>
    if x.blk = n ∧ x.ctx = c ∧ x.ord = o.ord ∧ fget s (Reg.PLB_STATUS d) 0 2 = 1 then
      fset (s.withPlumb (tset plumbDef s.plumb d (some { x with got := got, want := want }))) (Reg.PLB_STATUS d) 0 2 2
    else s
  | none => s

/-- MASON_DONE (03 R80-R83): the operation in the array longest completes: its operands, as they stand (log entry 22), give
the tile in bank C; exceptions are signalled and its counter rises. -/
def execMasonDone (d : Die) (n : Blk) (c : Ctx) (s : State) : Out :=
  let x := ctxX s d n c
  match x.mason with
  | o :: os =>
    if !o.started || !inRun s d n c then .next s
    else
      match masonCheck s d n c o with
      | (some r, _) => .next (denyOwn s d n 0 c r.1 r.2)
      | (none, some w) => .next (eccHalt s d n c w)
      | (none, none) =>
        let t := masonTile s d n c o
        let m := mfld o.word
        let bs := t.1.flatMap (fun r => leBytes (if m.ks = 1 then 8 else 4) r.1)
        let s := memWriteAt s (spadAddr d n (256 * m.tile)) bs
        let s := signal s d n c (t.1.foldl (fun f r => f ||| r.2) 0) 0
        let s := captureEnd s d n c o (t.1.map (·.1)) t.2.1
        .next (setCtxX s d n c ({ x with mason := os }.done (iCtr o.word)))
  | [] => .next s

/-- Agreement of a result with its reference (08 R222): `u` is the quantum exponent of Rmax's ulp. -/
def agreement (u : Int) (n r : Nat) : Nat :=
  if n = r then 24
  else match b32.dec n, b32.dec r with
    | .num a b e, .num a' b' e' =>
      let x := ((FV.num a b e).dy.add (FV.num a' b' e').dy.neg).abs
      let y := (x.shl (-u)).add (Dy.nat 1)
      match (List.range 25).find? (fun k : Nat => y.le ((Dy.nat 1).shl (k : Int))) with
      | some k => 24 - k
      | none => 0
    | _, _ => 0

/-- Exponent of U: the ulp of the largest |r|, 2^-149 below 2^-126 (08 R222). -/
def ulpExp (rs : List Nat) : Int :=
  let mx := rs.foldl (fun a r => if r % 2 ^ 31 < b32.inf then max a (r % 2 ^ 31) else a) 0
  ((max 1 (mx / 2 ^ 23) : Nat) : Int) - 150

/-- PLUMB_COMPARE_DONE (08 R222-R223): the tile's agreements enter the plan's numerics entry; LOW reaching 1 or a power of two
writes the informational NUMERIC 0x83. -/
def execPlumbCompareDone (d : Die) (s : State) : Out :=
  match tget plumbDef s.plumb d with
  | none => .next s
  | some x =>
    if fget s (Reg.PLB_STATUS d) 0 2 ≠ 2 then .next s
    else
      let u := ulpExp x.want
      let as := x.got.zipWith (agreement u) x.want
      let cnt : Nat → Nat := fun k => (as.filter (· == k)).length
      let below : Nat → Nat := fun b => (as.filter (· < b)).length
      let t := ((List.range 25).filter (fun b => below b ≤ 64)).foldl max 0
      let a := plbBase s d + 128 * x.handle
      let g : Nat → Nat := fun o => memNat s (a + o) 4
      let low := if t < fget s (Reg.PLB_CTRL d) 6 5 then hold32 (g 0x14 + 1) else g 0x14
      let line := memRead s a 16 ++ leBytes 4 (hold32 (g 0x10 + 1)) ++ leBytes 4 low ++
        leBytes 1 (min (memNat s (a + 0x18) 1) t) ++ leBytes 1 t ++ leBytes 2 0 ++
        (List.range 25).flatMap (fun k => leBytes 4 (hold32 (g (0x1C + 4 * k) + cnt k)))
      let rose := decide (low ≠ g 0x14) && decide (2 ^ Nat.log2 low = low)
      let s := memWrite s a line
      let s := fset (s.withPlumb (tset plumbDef s.plumb d none)) (Reg.PLB_STATUS d) 0 2 0
      .next (if rose then
          note s d Rsn.NUMERIC 0x83 9 (d + 8 * x.handle)
            (leBytes 2 x.lb ++ leBytes 2 0 ++ leBytes 4 x.run ++ leBytes 4 x.ord ++ leBytes 1 t)
        else s)

/-- The check of PLB_CTRL.ENABLE (08 R225). -/
def plbChecks (s : State) (d : Nat) : Chk :=
  let l := fget s (Reg.PLB_CTRL d) 1 5
  firstFail [
    (decide (6 ≤ l ∧ l ≤ 16), Rsn.CFG_RANGE, 0x81),
    (decide (fget s (Reg.PLB_CTRL d) 6 5 ≤ 24), Rsn.CFG_RANGE, 0x81),
    (decide (plbBase s d % 0x800000 = 0), Rsn.CFG_ALIGN, 0x82),
    (inOwnStack s d (plbBase s d) 0x800000, Rsn.CFG_RANGE, 0x81)]

/-- PLB_ENABLE (08 R218, R225): when the check passes the entry of every resident handle is zeroed. -/
def execPlbEnable (d : Die) (v : W32) (s : State) : Out := viaWin s d fun s =>
  let s := rwlIn s (Reg.PLB_CTRL d) 0xFFE v
  let c := plbChecks s d
  let s := finishEnable s (Reg.PLB_CTRL d) 16 c
  .next (if c = none then
      (s.plans.filter (fun p => p.die == d.val)).foldl (fun s p => numFresh s d p.handle) s
    else s)

/-- PLB_DISABLE (08 R224): a sample in hand is discarded and counted; no selection follows. -/
def execPlbDisable (d : Die) (s : State) : Out := viaWin s d fun s =>
  .next (dropSample (setRD (fset s (Reg.PLB_CTRL d) 0 1 0) (Reg.PLB_CTRL d) 16 0 0) d)

end Sys2Proof.Machine
end

