-- ==== Sys2Proof/Machine/Mgmt.lean ====
section
/-! DEFINITION. The treatment journals' enables, the Seal requests and the management requests over I3C and MCTP
(19 R474-R480; 20 R493-R495). -/

namespace Sys2Proof.Machine

/-! ### Journals (19 R480) -/

/-- Base of a journal ring. -/
def jrnlBase (s : State) (d j : Nat) : Nat :=
  fget s (Reg.SEAL_JRNL_BASE_LO d j) 12 20 * 4096 + fget s (Reg.SEAL_JRNL_BASE_HI d j) 0 20 * 0x100000000

/-- The checks of SEAL_JRNL_CTRL.ENABLE. -/
def jrnlChecks (s : State) (d j : Nat) : Chk :=
  let a := Reg.SEAL_JRNL_CTRL d j
  let l := fget s a 1 5
  firstFail [
    (decide (jrnlBase s d j % 4096 = 0), Rsn.CFG_ALIGN, 0xCD),
    (inOwnStack s d (jrnlBase s d j) (128 * 2 ^ l), Rsn.CFG_RANGE, 0xCD),
    (decide (6 ≤ l ∧ l ≤ 20), Rsn.CFG_RANGE, 0xCD),
    ((List.range 4).all (fun i => i == j || !bit s (Reg.SEAL_JRNL_CTRL d i) 0 ||
      fget s (Reg.SEAL_JRNL_CTRL d i) 16 16 != fget s a 16 16), Rsn.CFG_RANGE, 0xCD)]

/-- JRNL_ENABLE: the checks; the codes of a refusal go to the write's requester, as the register has no field for them. A journal
enabled anew starts its chain at H0 of its JOB (DEDUCED, log entry 27). -/
def execJrnlEnable (d : Die) (j : Fin 4) (v : W32) (s : State) : Out := viaWin s d fun s =>
  let a := Reg.SEAL_JRNL_CTRL d j
  let was := bit s a 0
  let s := rwlIn s a 0xFFFF003E v
  match jrnlChecks s d j with
  | some (r, e) => .next (emit s .refusal [r, e] [])
  | none => .next (if was then s else setJournal (fset s a 0 1 1) d j ⟨[], 0, 0, []⟩)

/-- JRNL_DISABLE: refused with STATE 0xCB while TAIL differs from HEAD. -/
def execJrnlDisable (d : Die) (j : Fin 4) (s : State) : Out := viaWin s d fun s =>
  if rd s (Reg.SEAL_JRNL_TAIL d j) = rd s (Reg.SEAL_JRNL_HEAD d j) then .next (fset s (Reg.SEAL_JRNL_CTRL d j) 0 1 0)
  else .next (emit s .refusal [Rsn.STATE, 0xCB] [])

/-! ### Frames (19 R476) -/

/-- A frame sent: enterprise number, VER, CODE, TAG, payload. -/
def frameOut (s : State) (code tag : Nat) (body : List Byte) : State :=
  emit s .frame [code, tag] (leBytes 4 s.cfg.pen ++ [(1 : Byte)] ++ leBytes 1 code ++ leBytes 2 tag ++ body)

/-- An error response. -/
def frameErr (s : State) (tag reason detail : Nat) : State := frameOut s 0xFF tag (leBytes 1 reason ++ leBytes 1 detail)

/-- A request answered: malformed, or not allowed before step 9 of 19 R465 has ended, or served (19 R478, 20 R494). No request is
served while the management rail is off. -/
def request (s : State) (ver : Byte) (tag : BitVec 16) (ok early : Bool) (bad notReady : Nat) (serve : State → State) : Out :=
  if !s.modx.rail then .next s
  else if ver ≠ 1 ∨ ok = false then .next (frameErr s tag.toNat Rsn.BAD_DESC bad)
  else if !early && !ready s then .next (frameErr s tag.toNat Rsn.STATE notReady)
  else .next (serve s)

/-- A signed response (19 R478): SIGNER, COUNT and SIG follow the body. -/
def signedOut (s : State) (code : Nat) (tag : BitVec 16) (req body : List Byte) : State :=
  let c := cornerstone s
  let s := s.withSigned (s.signed + 1)
  let head : List Byte := [(1 : Byte)] ++ leBytes 1 (code + 0x80) ++ leBytes 2 tag.toNat
  let tail := body ++ leBytes 1 c ++ leBytes 8 s.signed
  let asked : List Byte := [(1 : Byte)] ++ leBytes 1 code ++ leBytes 2 tag.toNat ++ req
  let sig := (Config.dieSign c (sha384 (asked ++ head ++ tail)) ++ List.replicate 96 0).take 96
  frameOut s (code + 0x80) tag.toNat (tail ++ sig)

/-! ### Seal requests -/

/-- GET_CERT: OFFSET and LENGTH of the 1 MiB certificate area (19 R458, R476). -/
def execGetCert (ver : Byte) (tag : BitVec 16) (data : List Byte) (s : State) : Out :=
  let o := fld data 0 4
  let n := fld data 4 2
  request s ver tag (decide (data.length = 6 ∧ 1 ≤ n ∧ n ≤ 1024 ∧ o + n ≤ 0x100000)) false 0xCE 0xCB
    (fun s => frameOut s 0x81 tag.toNat ((List.range n).map (fun i => Config.certByte (o + i))))

/-- GET_MEASUREMENTS: the sixteen registers, then the state block. -/
def execGetMeasurements (ver : Byte) (tag : BitVec 16) (data : List Byte) (s : State) : Out :=
  request s ver tag (decide (data.length = 32)) false 0xCE 0xCB
    (fun s => signedOut s 0x02 tag data ((List.range 16).flatMap (meas s) ++ stateBlock s))

/-- Seal sequence number and digest of a stack. -/
def sealOf (s : State) (h : Nat) : List Byte :=
  leBytes 4 (rd s (Reg.FTG_SEAL_SEQ (8 + h))).toNat ++
  (List.range 12).flatMap (fun i => leBytes 4 (rd s (Reg.FTG_SEAL_DIGEST (8 + h) i)).toNat)

/-- GET_SEAL: the twelve stacks' seal digests. -/
def execGetSeal (ver : Byte) (tag : BitVec 16) (data : List Byte) (s : State) : Out :=
  request s ver tag (decide (data.length = 32)) false 0xCE 0xCB
    (fun s => signedOut s 0x03 tag data ((List.range 12).flatMap (sealOf s)))

/-- A treatment report (19 R477). -/
def treatment (s : State) (d j start : Nat) : List Byte :=
  let x := journal s d j
  let h := if x.num = 0 then jrnlH0 s d j else x.hash
  let ps := (sortBy (fun a b => decide (a.handle ≤ b.handle))
    (s.plans.filter (fun p => p.die == d && decide (start ≤ p.handle)))).take 16
  leBytes 4 (rd s (Reg.SEAL_JRNL_JOB_LO d j)).toNat ++ leBytes 4 (rd s (Reg.SEAL_JRNL_JOB_HI d j)).toNat ++
  leBytes 2 (fget s (Reg.SEAL_JRNL_CTRL d j) 16 16) ++ leBytes 1 d ++ leBytes 1 j ++
  leBytes 8 x.num ++ h ++ leBytes 8 x.sealNum ++ (x.sealDigest ++ List.replicate 48 0).take 48 ++
  leBytes 1 (fget s (Reg.CKP_CTRL d) 2 1) ++ leBytes 1 (fget s (Reg.PLB_CTRL d) 1 5) ++ leBytes 1 (fget s (Reg.PLB_CTRL d) 6 5) ++
  leBytes 2 ps.length ++ ps.flatMap (fun p => p.digest ++ memRead s (plbBase s d + 128 * p.handle) 128)

/-- GET_TREATMENT: NONCE, DIE, JOURNAL, PLAN_START; a die out of service or a journal not enabled is malformed. -/
def execGetTreatment (ver : Byte) (tag : BitVec 16) (data : List Byte) (s : State) : Out :=
  let d := fld data 32 1
  let j := fld data 33 1
  request s ver tag (decide (data.length = 36 ∧ d < 4 ∧ j < 4) && !outOf s d && bit s (Reg.SEAL_JRNL_CTRL d j) 0) false 0xCE 0xCB
    (fun s => signedOut s 0x04 tag data (treatment s d j (fld data 34 2)))

/-! ### Management requests (20 R494) -/

/-- GET_STATUS: five registers; the flags returned as set are cleared, and ALERT_N rises. -/
def execGetStatus (ver : Byte) (tag : BitVec 16) (data : List Byte) (s : State) : Out :=
  request s ver tag (decide (data.length = 0)) true 0xFC 0xFB
    (fun s =>
      let r : Nat → List Byte := fun a => leBytes 4 (rd s a).toNat
      let s := frameOut s 0x90 tag.toNat (r Reg.GLB_MOD_STATUS ++ r Reg.GLB_MOD_INPUT ++ r Reg.GLB_MOD_COOLANT ++
        r Reg.GLB_MOD_EVENTS ++ r Reg.GLB_BOOT_STATUS)
      fset (fset s Reg.GLB_MOD_EVENTS 0 4 0) Reg.GLB_MOD_STATUS 9 1 0)

/-- RESET: TYPE and TARGET as in GLB_RESET_CTRL; TYPE 0, which names no reset, is malformed. -/
def execMgmtReset (ver : Byte) (tag : BitVec 16) (data : List Byte) (s : State) : Out :=
  let t := fld data 0 1
  let g := fld data 1 1
  request s ver tag (decide (data.length = 2 ∧ t ≠ 0)) false 0xFC 0xFB
    (fun s => match resetChk s t g with
      | some (r, e) => frameErr s tag.toNat r e
      | none => frameOut (s.withResetQ (s.resetQ ++ [⟨none, t, g⟩])) 0x91 tag.toNat [])

/-- SET_BUDGET: WATTS and KS_ALLOT into LDG_MODULE from the next boundary, or CFG_CONFLICT 0x07. -/
def execSetBudget (ver : Byte) (tag : BitVec 16) (data : List Byte) (s : State) : Out :=
  let m := fld data 0 2 + fld data 2 2 * 65536
  request s ver tag (decide (data.length = 4)) false 0xFC 0xFB
    (fun s =>
      if fld data 0 2 < 8192 ∧ fld data 2 2 < 1024 ∧ moduleChk s m = none then
        frameOut (setModule s m) 0x92 tag.toNat []
      else frameErr s tag.toNat Rsn.CFG_CONFLICT 0x07)

/-- GET_FATAL: an entry of the Cornerstone's fatal log. -/
def execGetFatal (ver : Byte) (tag : BitVec 16) (data : List Byte) (s : State) : Out :=
  let i := fld data 0 1
  request s ver tag (decide (data.length = 1 ∧ i < 64)) true 0xFC 0xFB
    (fun s => frameOut s 0x93 tag.toNat ((List.range 16).flatMap (fun k => leBytes 4 (rd s (Reg.FLT_LOG (cornerstone s) i k)).toNat)))

/-- LOCATE: LOCATE of GLB_MOD_STATUS. -/
def execLocate (ver : Byte) (tag : BitVec 16) (data : List Byte) (s : State) : Out :=
  let on := fld data 0 1
  request s ver tag (decide (data.length = 1 ∧ on ≤ 1)) false 0xFC 0xFB
    (fun s => frameOut (fset s Reg.GLB_MOD_STATUS 12 1 on) 0x94 tag.toNat [])

/-! ### The I3C bus and MCTP control (20 R493) -/

/-- The 48-bit provisional identifier. -/
def provId (s : State) : Nat := Config.mipiId % 32768 * 2 ^ 33 + 0x0474 * 65536 + fget s Reg.GLB_MOD_STATUS 0 6

/-- ENTDAA: a dynamic address is assigned to the module while it holds none; it answers its provisional identifier. -/
def execEntdaa (a : BitVec 7) (s : State) : Out :=
  if !s.modx.rail || s.modx.i3c.isSome then .next s
  else .next (emit (s.withModx { s.modx with i3c := some a.toNat }) .frame [0x07, a.toNat] (leBytes 6 (provId s)).reverse)

/-- The endpoint identifier: 0x20 + MOD_SLOT_ID until one is set. -/
def endpointId (s : State) : Nat := s.modx.eid.getD (0x20 + fget s Reg.GLB_MOD_STATUS 0 6)

/-- An MCTP control response: its command code, a completion code, and its data. -/
def control (s : State) (cmd cc : Nat) (body : List Byte) : State := emit s .frame [cmd, cc] (leBytes 1 cc ++ body)

/-- SET_ENDPOINT_ID; the null and broadcast identifiers of the transport are refused (PRESUMED, log entry 28). -/
def execSetEndpointId (eid : Byte) (s : State) : Out :=
  if !s.modx.rail then .next s
  else if eid = 0 ∨ eid = 0xFF then .next (control s 1 2 [])
  else .next (control (s.withModx { s.modx with eid := some eid.toNat }) 1 0 [eid])

/-- GET_ENDPOINT_ID. -/
def execGetEndpointId (s : State) : Out :=
  if !s.modx.rail then .next s else .next (control s 2 0 (leBytes 1 (endpointId s)))

/-- GET_MCTP_VERSION_SUPPORT: of the base specification, the control protocol and type 0x7F the version bytes are open; another
type is not supported (PRESUMED, log entry 28). -/
def execGetMctpVersionSupport (typ : Byte) (s : State) : Out :=
  if !s.modx.rail then .next s
  else if typ = 0xFF ∨ typ = 0 ∨ typ = 0x7F then
    let f := takeFree s
    .next (control f.2 4 0 ([(1 : Byte)] ++ leBytes 4 f.1))
  else .next (control s 4 0x80 [])

/-- GET_MESSAGE_TYPE_SUPPORT: type 0x7F. -/
def execGetMessageTypeSupport (s : State) : Out :=
  if !s.modx.rail then .next s else .next (control s 5 0 [1, 0x7F])

end Sys2Proof.Machine
end

