-- ==== Sys2Proof/Machine/RegFx.lean ====
section
/-! DEFINITION. What a write to a register does (00 R13; 21 R500-R503): plain fields take their value, and each field with an effect of its own has
the effect of its command. Writes that items post take effect here. -/

namespace Sys2Proof.Machine

/-- The state a write leaves. -/
def after (s : State) : Out → State
  | .next t => t
  | _ => s

/-- A write to a register with an ENABLE at bit 0: 1 is its checked enable, 0 over 1 its disable, 0 over 0 a plain write. -/
def enableWrite (s : State) (a : Nat) (v : W32) (en dis : State → Out) : State :=
  if v.getLsbD 0 then after s (en s) else if bit s a 0 then after s (dis s) else regWrite4 s a v

/-- An ENABLE cleared by a write of 0, where no rule refuses it. -/
def enableOff (a : Nat) (s : State) : Out := .next (fset s a 0 1 0)

/-- Writes to the rings' and the translation's registers (09 R230-R232; 10 R268, R269, R273). -/
def ringStore (s : State) (u a : Nat) (name : String) (i : Nat) (v : W32) : Option State :=
  let d : Die := Fin.ofNat 4 u
  let w : Unit6 := Fin.ofNat 6 u
  let r : Ring := Fin.ofNat 2048 i
  match name with
  | "RING_CFG" => some (enableWrite s a v (execRingEnable d r v) (execRingDisable d r))
  | "RING_SQ_TAIL" => some (after s (execRingDoorbell d r (v.setWidth 17) s))
  | "XLT_CTRL" => some (enableWrite s a v (execXltEnable w v) (execXltDisable w))
  | _ => none

/-- Writes to power, Block, Footing and ledger registers (01 R44; 03 R78, R104, R105; 06 R166, R173; 07 R206; 18 R455). -/
def unitStore (s : State) (u a : Nat) (name : String) (i j : Nat) (v : W32) : Option State :=
  let d : Die := Fin.ofNat 4 u
  let h : Stack := Fin.ofNat 12 (u - 8)
  let n : Blk := Fin.ofNat 288 i
  let c : Ctx := Fin.ofNat 4 j
  let k : Socket := Fin.ofNat 6 (3 * (u - 4) + i)
  match name with
  | "GLB_PD_CTRL" =>
    let q : Fin 20 := Fin.ofNat 20 u
    some (if getBits v 8 2 = 1 then after s (execPdRequestOn q (v.setWidth 7) s)
      else if getBits v 8 2 = 2 then after s (execPdRequestOff q (v.setWidth 7) s) else regWrite4 s a v)
  | "BLK_CTRL" =>
    let s := if v.getLsbD 0 then after s (execBlockFence d n s) else s
    some (if v.getLsbD 1 then after s (execBlockTest d n s) else s)
  | "BLK_CTX_CTRL_n" => some (if v.getLsbD 0 then after s (execCtxEnable d n c s) else if bit s a 0 then after s (execCtxDisable d n c s) else s)
  | "FTG_CTRL" => some (enableWrite (regWrite4 s a v) a v (execFtgEnable h) (execFtgDisable h))
  | "FTG_RETIRE_CTRL" => some (if getBits v 8 2 = 1 then after s (execRetireRequest h (Fin.ofNat 64 (getBits v 0 6)) s) else regWrite4 s a v)
  | "GLB_SKT_CTRL_n" =>
    some (match getBits v 0 2 with
      | 1 => after s (execSktEvacuate k s)
      | 2 => after s (execSktOffline k s)
      | 3 => after s (execSktOnline k s)
      | _ => s)
  | "LDG_CTRL" => some (enableWrite s a v (execLdgEnable d) (execLdgDisable d))
  | "LDG_MODULE" => some (after s (execLdgModuleWrite v s))
  | "LDG_BUDGET_i" => some (after s (execLdgBudgetWrite d (Fin.ofNat 21 i) v s))
  | "PLB_CTRL" => some (enableWrite s a v (execPlbEnable d v) (execPlbDisable d))
  | "CKP_CTRL" => some (enableWrite s a v (execCkpEnable d v) (execCkpDisable d))
  | _ => none

/-- Writes to fault, coherence, joint and port registers (11 R297; 12 R320; 13 R341; 16 R404). -/
def linkStore (s : State) (u a : Nat) (name : String) (i : Nat) (v : W32) : Option State :=
  let d : Die := Fin.ofNat 4 u
  let w : Unit6 := Fin.ofNat 6 u
  let j : Joint := Fin.ofNat 4 i
  let r : Fin 16 := Fin.ofNat 16 i
  match name with
  | "FLT_CTRL" => some (enableWrite s a v (execFltEnable d v) (execFltDisable d))
  | "FLT_RING_CTRL_r" => some (enableWrite s a v (execFltRingEnable d r v) (enableOff a))
  | "FLT_RING_HEAD_r" => some (after s (execFltHeadWrite d r (v.setWidth 13) s))
  | "FLT_FLAGS" => some (after s (execFltFlagsClear d v 0 s))
  | "COH_ATOM_CTRL" => some (after s (execAtomModeWrite w v s))
  | "BND_CTRL_j" =>
    let s := enableWrite s a v (execBndEnable w j) (execBndDisable w j)
    some (if v.getLsbD 1 then after s (execBndRetrain w j s) else s)
  | "NET_PORT_CFG_n" => some (enableWrite s a v (execNetPortEnable d (Fin.ofNat 2 i) v) (execNetPortDisable d (Fin.ofNat 2 i)))
  | _ => none

/-- Writes to the registers of the treatment, attachment, boot and seal (14 R358; 15 R370, R375, R379, R383; 19 R480). -/
def hostStore (s : State) (u a : Nat) (name : String) (i : Nat) (v : W32) : Option State :=
  let d : Die := Fin.ofNat 4 u
  match name with
  | "PLN_STAGE_i" => some (after s (execPlnStageWrite d (Fin.ofNat 16 i) v s))
  | "GLB_RESET_CTRL" => some (if getBits v 0 3 = 0 then s else after s (viaWin s d fun s => .next (resetReq s d (getBits v 0 3) (getBits v 3 3))))
  | "GLB_ATTACH_CTRL" => some (enableWrite s a v (execAttachEnable d) (enableOff a))
  | "GLB_HOLD_CTRL" =>
    some (match getBits v 0 2 with
      | 1 => after s (execHoldReplay d s)
      | 2 => after s (execHoldDiscard d s)
      | _ => s)
  | "GLB_HOST_WDOG_CTRL" => some (after s (execWdogCtrlWrite (Fin.ofNat 2 (u - 4)) v s))
  | "GLB_IMG_CTRL" =>
    some (match getBits v 0 2 with
      | 1 => after s (execImgUpdate s)
      | 2 => after s (execImgRaiseSvn s)
      | _ => s)
  | "SEAL_JRNL_CTRL_j" => some (enableWrite s a v (execJrnlEnable d (Fin.ofNat 4 i) v) (execJrnlDisable d (Fin.ofNat 4 i)))
  | _ => none

/-- Writes to registers that hold nothing to read (00 R13 WO): XLT_FB_RESUME, XLT_INV_CTRL, CRS_IDLE_CLEAR, GLB_ATTACH_CLAIM and FINISH, the watchdog's
KICK, GLB_CNT_CTRL and SEAL_EXT_CTRL. -/
def woStore (s : State) (u : Nat) (k : Win) (o : Nat) (v : W32) : State :=
  let d : Die := Fin.ofNat 4 u
  let w : Unit6 := Fin.ofNat 6 u
  if o = 0x703C ∧ k ≠ .footing then
    (match getBits v 16 2 with
      | 1 => after s (execInvRange w (v.setWidth 16) s)
      | 2 => after s (execInvAsid w (v.setWidth 16) s)
      | 3 => after s (execInvAll w s)
      | _ => s)
  else if k = .keystone then (if o = 0xC004 ∧ v.getLsbD 0 then after s (execWdogKick (Fin.ofNat 2 (u - 4)) s) else s)
  else if k = .footing then s
  else if o = 0x7020 then after s (execFbResume d v s)
  else if o = 0xC018 then after s (execAttachClaim d v s)
  else if o = 0xC020 then after s (execAttachFinish d v s)
  else if o = 0x10030 then (if v.getLsbD 0 then after s (execCntInc s) else s)
  else if o = 0x11430 then after s (execSealExtend v s)
  else if o = 0xD880 then (if v.getLsbD 0 then after s (execIdleClear d 16 s) else s)
  else if 0xB080 ≤ o ∧ o < 0xC080 ∧ o % 0x100 = 0x80 then
    (if v.getLsbD 0 then after s (execIdleClear d (Fin.ofNat 17 ((o - 0xB000) / 0x100)) s) else s)
  else s

/-- A 4-byte write to an aligned address of a control window, with all that it does. -/
def regStore (s : State) (a : Nat) (v : W32) : State :=
  match winOf a with
  | none => s
  | some (u, k, o) =>
    let c := canonReg a
    match regAt c with
    | none => woStore s u k o v
    | some (_, r, is) =>
      let i := is.getD 0 0
      ((((ringStore s u c r.name i v).orElse (fun _ => unitStore s u c r.name i (is.getD 1 0) v)).orElse
        (fun _ => linkStore s u c r.name i v)).orElse (fun _ => hostStore s u c r.name i v)).getD (regWrite4 s a v)

/-- REGISTER_WRITE: 4 bytes aligned to 4, or 8 aligned to 8 as two writes, the lower first; any other size or alignment, a window of
a unit out of service, and an address outside the control windows are refused. -/
def execRegisterWrite (pcie : Bool) (a : BitVec 52) (size : Nat) (v : W64) (s : State) : Out :=
  match winOf a.toNat with
  | none => .next (accFault s pcie)
  | some (u, _, _) =>
    if winGone s u then .next (accFault s pcie)
    else if size = 4 ∧ a.toNat % 4 = 0 then .next (regStore s a.toNat (v.setWidth 32))
    else if size = 8 ∧ a.toNat % 8 = 0 then
      .next (regStore (regStore s a.toNat (v.setWidth 32)) (a.toNat + 4) ((v >>> 32).setWidth 32))
    else .next (accFault s pcie)

/-- The register writes that items posted take effect, in the order they were made (21 R502). -/
def drainRegs (s : State) : State := s.regq.foldl (fun s p => regStore s p.1 p.2) (s.withRegq [])

/-- HOD_DONE: the `i`-th transfer of the run completes, and what it wrote to registers takes effect. -/
def execHodDone (d : Die) (n : Blk) (c : Ctx) (i : Nat) (s : State) : Out := .next (drainRegs (hodDone s d n c i))

end Sys2Proof.Machine
end

