-- ==== Sys2Proof/Machine/Finish.lean ====
section
/-! DEFINITION. The start and the completion of accepted items (09 R239 steps 6-7, R241, R247-R249). Runs, loads, Footing commands and items
that a peer's answer completes have commands of their own for the step that is not here. -/

namespace Sys2Proof.Machine

/-! ### ITEM_START -/

/-- The reservations of a MOVE follow its Block (09 R240 rows 1 and 4). -/
def moveRebook (it : Item) (m : Nat) : Item :=
  { it with
    obj := m
    resv := it.resv.map (fun v =>
      if v.res = resBlock it.die it.obj then { v with res := resBlock it.die m }
      else if v.res = resHod it.die it.obj then { v with res := resHod it.die m } else v) }

/-- Another Block of the same Bay that can take a MOVE over the slots it holds. -/
def moveSpare (s : State) (it : Item) : Option Nat :=
  let rest := s.withItems (s.items.filter (fun i => ¬ (i.die = it.die ∧ i.ring = it.ring ∧ i.seq = it.seq)))
  let slots := (it.resv.filter (fun v => v.res == resBlock it.die it.obj)).map (·.slot)
  (List.range 288).find? (fun n => n % 18 / 6 == it.obj % 18 / 6 && blkState s it.die n == 0 && (blockRefusal s it.die n).isNone &&
    slots.all (fun k => resUsed rest (resBlock it.die n) k == 0))

/-- A MOVE begins on its EXEC Block. When that Block can no longer run, a Block the device chose is replaced by another free one, or the
item ends with NOT_SCHEDULABLE 0x3E; one the driver named ends the item with the codes of 03 R75 (09 R248 for runs; log entry 55). -/
def moveStart (s : State) (it : Item) : State :=
  match blockRefusal s it.die it.obj with
  | none => putItem s { it with started := true }
  | some c =>
    if (moveOps it.desc).exec ≠ 0xFFFF then endItem s it c.1 c.2
    else match moveSpare s it with
      | some m => putItem s { moveRebook it m with started := true }
      | none => endItem s it Rsn.NOT_SCHEDULABLE 0x3E

/-- An item may not start yet: a stack that it uses takes no new request in this period (18 R449), or it is a chain that an earlier-admitted
command of its stack holds back (07 R181; 14 R349). -/
def startStalled (s : State) (it : Item) : Bool :=
  it.uses.any (fun u => decide (108 ≤ u ∧ u < 120) && bayStalled s (u - 108)) ||
  (decide (0x29 ≤ it.opcode ∧ it.opcode ≤ 0x2B) && cmdWaits s (dfld it.desc 0x15 1) it)

/-- What each item does when it begins. A RUN and a Footing command begin by commands of their own (R127, R181). -/
def itemStart (s : State) (it : Item) : State :=
  if it.opcode = 0x01 then moveStart s it
  else if it.opcode = 0x02 ∨ onFooting it then s
  else if it.opcode = 0x07 then powerStart (putItem s { it with started := true }) it
  else if 0x20 ≤ it.opcode ∧ it.opcode ≤ 0x28 then netStart s it
  else if 0x29 ≤ it.opcode ∧ it.opcode ≤ 0x2B then chainStart s it
  else if it.opcode = 0x2C then permStart s it
  else if it.opcode = 0x2D then groupStart s it
  else if it.opcode = 0x30 then pointStart s it
  else putItem s { it with started := true }

/-- ITEM_START (09 R241): an accepted item begins at or after its committed start. -/
def execItemStart (d : Die) (r : Ring) (seq : W32) (s : State) : Out :=
  .next (match findItem s d r seq.toNat with
    | some it => if it.started || decide (ctl s d < it.start) || outOf s d || startStalled s it then s else itemStart s it
    | none => s)

/-! ### ITEM_COMPLETE -/

/-- What an ABORT does to its target (09 R249): it ends with ABORTED 0xA4. An item on a context takes the context to ERROR, whose other items
end with it (13 R326); a GROUP_SET leaves its group CLOSED. -/
def abortItem (s : State) (t : Item) : State :=
  if ofCtx t t.die t.obj && t.opcode != 0x27 then ctxError s t.obj Rsn.ABORTED 0xA4
  else
    let s := if t.opcode = 0x2D ∧ t.started then closeGroup s t.die t.obj else s
    endItem s t Rsn.ABORTED 0xA4

/-- An ABORT ends: its target ends before it, or has completed meanwhile, which refuses the ABORT with STATE 0xA3 (09 R249). -/
def abortDone (s : State) (it : Item) : State :=
  match abortTarget s it.die it.desc with
  | some t => let s := abortItem s t; endItem s (itNow s it) 0 0
  | none => endItem s it Rsn.STATE 0xA3

/-- What each item does when it completes, if it has what it waits for. -/
def itemComplete (s : State) (it : Item) : State :=
  match it.opcode with
  | 0x01 => if itemWaits s it then s else moveDone drainRegs s it
  | 0x04 => unloadDone s it
  | 0x05 => abortDone s it
  | 0x08 => if fenceMet s it then endItem s it 0 0 else s
  | 0x24 => netRegDone s it
  | 0x25 => netDeregDone s it
  | 0x26 => endItem s it 0 0
  | 0x27 => flowSetDone s it
  | 0x2E => endItem (closeGroup s it.die it.obj) it 0 0
  | 0x31 => if itemWaits s it then s else bedDone s it
  | 0x32 => if itemWaits s it then s else unbedDone s it
  | 0x34 => adoptDone s it
  | _ => s

/-- ITEM_COMPLETE (09 R247): a started item finishes. Items that end by an event of their own (RUN, LOAD, Footing commands, POWER, items
that await a peer) are left as they are. -/
def execItemComplete (d : Die) (r : Ring) (seq : W32) (s : State) : Out :=
  .next (match findItem s d r seq.toNat with
    | some it => if !it.started || outOf s d then s else itemComplete s it
    | none => s)

end Sys2Proof.Machine
end

