-- ==== Sys2Proof/Machine/Walk.lean ====
section
/-! DEFINITION. The symbolic walk of a plan (04 R118, R121-R122; 05 R136-R141): what the Mortar complex finds when it steps through
every program at load, and how it compares it with the header. -/

namespace Sys2Proof.Machine

/-! ### Costs (03 R72, R82, R87, R88; 05 R143; 08 R210) -/

/-- Bits of an element as a vec instruction reads it: of its own format, of the source of a CVT, or of the format of the plan
(log entry 26). -/
def walkBits (p : Plan) (l pc w : Nat) : Nat :=
  let op := vOp w
  if 0x80 ≤ op then cvtBits (op / 8 % 8)
  else if 0x60 ≤ op then
    let k := Config.vecShape p.digest l pc 0 % 3
    if k = 0 then 32 else if k = 1 then 16 else 64
  else if op % 4 = 0 then 32 else if op % 4 = 1 then 16 else 64

/-- Elements of a vec instruction: those of its source words. -/
def walkElems (p : Plan) (l pc w : Nat) : Nat := vLen w * 2048 / walkBits p l pc w

/-- Results per cycle of an elementwise operation or approximation (03 R72, R87). -/
def vecRate (op : Nat) : Nat :=
  let f := op % 4
  let b := op / 4 * 4
  if b = 0x10 ∨ b = 0x14 then (if f = 2 then 4 else 16)
  else if b ≤ 0x0C then (if f = 2 then 16 else 64)
  else if b ≤ 0x30 then 64
  else if b = 0x48 ∨ b = 0x4C then 8 else 16

/-- Groups of a CAST_DECODE: whole groups of its source words, whose narrow format is the plan's (log entry 26). -/
def decodeGroups (p : Plan) (l pc w : Nat) : Nat := vLen w * 64 / (nfmtOf (1 + Config.vecShape p.digest l pc 5 % 4)).bits

/-- Cycles the walk charges a vec instruction. A pooling's geometry stands in a register that the walk does not see, so its outputs and
its window are open values of the plan, as are the channels of an argmax, which are those it runs with (log entry 26). -/
def vecCycles (p : Plan) (l pc w : Nat) : Nat :=
  let op := vOp w
  let n := walkElems p l pc w
  let k : Nat → Nat := Config.vecShape p.digest l pc
  if 0x80 ≤ op then ceilDiv n 64
  else if op = 0x6A then ceilDiv (decodeGroups p l pc w) 2 + ceilDiv (decodeGroups p l pc w) 16
  else if op = 0x69 then ceilDiv n 64 + ceilDiv (n / 32) 16
  else if op = 0x68 then 2 * ceilDiv n 64 + ceilDiv (n / 32) 16
  else if op = 0x63 ∨ op = 0x64 then
    let ch := 1 + k 1 % n
    ceilDiv (n / ch * ch) 64
  else if 0x60 ≤ op then
    ceilDiv (k 2 * (1 + k 3 % 16) * (1 + k 4 % 16)) 64 + (if op = 0x61 ∨ op = 0x62 then ceilDiv (k 2) 16 else 0)
  else if 0x54 ≤ op then 1
  else ceilDiv n (vecRate op)

/-- Vector results of the classes of R72 and R87 that an instruction counts (04 R122): elementwise, approximations, conversions and
casts. -/
def vecResults (p : Plan) (l pc w : Nat) : Nat :=
  let op := vOp w
  if 0x80 ≤ op ∨ op = 0x68 ∨ op = 0x69 then walkElems p l pc w
  else if op = 0x6A then 32 * decodeGroups p l pc w
  else if op < 0x54 then walkElems p l pc w else 0

/-- Class of a mason's multiply-accumulates by its slower operand: the rows of R441 and R109, 0 to 4 (03 R70). -/
def macClass (ks : Nat) : Nat := if ks = 128 then 0 else if ks = 64 then 1 else if 16 ≤ ks then 2 else if ks = 4 then 3 else 4

/-- Bytes of a transfer as the walk counts them: the worst case of a compressed row (05 R151). -/
def HodDesc.walkBytes (h : HodDesc) : Nat := h.rows * (if h.enc || h.dec then zcWorst h.rowBytes else h.rowBytes)

/-! ### State of the walk -/

/-- A context walked: its place in the program (as an issuer context has it), its cycle, when the array and the vector unit are next
free, when its latest operation completes, the increments of its counters (counter, cycle, amount), the targets it has awaited
by counter, and the bytes of bank D it has read with nothing to guard them. -/
structure WCtx where
  x : CtxX
  t : Nat
  mFree : Nat
  vFree : Nat
  busy : Nat
  incs : List (Nat × Nat × Nat)
  waited : List (Nat × Nat)

/-- The walk: contexts by logical Block, lintel issues whose start waits on a release (producer, descriptor, generation, cycle,
counter), the counts of R122, and whether a slot has been read before its arrival wait. -/
structure Walk where
  blks : List WCtx
  held : List (Nat × Nat × Nat × Nat × Nat)
  macs : List Nat
  vecs : Nat
  mesh : Nat
  bayR : List Nat
  bayW : List Nat
  early : Bool

/-- Increments of one counter at or before a cycle, summed. -/
def WCtx.countAt (b : WCtx) (k t : Nat) : Nat := ((b.incs.filter (fun i => i.1 == k && decide (i.2.1 ≤ t))).map (·.2.2)).sum
/-- The cycle at which a counter reaches a target, among the increments known. -/
def WCtx.reach (b : WCtx) (k target : Nat) : Option Nat :=
  if target = 0 then some 0
  else
    let ts := sortNat ((b.incs.filter (fun i => i.1 == k)).map (·.2.1))
    ts.find? (fun t => decide (target ≤ b.countAt k t))

/-- One context changed. -/
def Walk.put (w : Walk) (l : Nat) (b : WCtx) : Walk := { w with blks := w.blks.set l b }
/-- A counter of a context raised at a cycle. -/
def Walk.inc (w : Walk) (l k t n : Nat) : Walk :=
  { w with blks := w.blks.modify l (fun b => { b with incs := (k, t, n) :: b.incs }) }
/-- An operation of a context completes at a cycle, raising its counter; 15 names none. -/
def Walk.done (w : Walk) (l k t : Nat) : Walk :=
  let w := { w with blks := w.blks.modify l (fun b => { b with busy := max b.busy t }) }
  if k = 15 then w else w.inc l k t 1

/-- A transfer's latency allowance (04 R121). -/
def allowance (p : Plan) (h : HodDesc) : Nat :=
  if h.ack then 256
  else if (p.sec 1).2 ≤ h.run then 0
  else
    let r := p.run h.run
    if r.src.1 = 1 then 256 else if (p.dsts r).all (fun e => e.1 == 0) then p.runLat / 2 else 0

/-- Rate of a transfer: its run's SHARE; a move within the Block, to which the spec states none, an open constant (log entry 33). -/
def hodRate (p : Plan) (h : HodDesc) : Nat := if h.run < (p.sec 1).2 then 16 * (p.run h.run).share else max 1 Config.localRate

/-- Mesh and HBM bytes of a transfer counted (04 R122): each destination's bytes; a Bay's bytes once. -/
def Walk.bytes (w : Walk) (p : Plan) (h : HodDesc) : Walk :=
  if h.run < (p.sec 1).2 then
    let r := p.run h.run
    let n := h.walkBytes
    { w with
      mesh := w.mesh + n * (p.dsts r).length
      bayR := if r.src.1 = 1 then w.bayR.modify r.src.2 (· + n) else w.bayR
      bayW := (p.dsts r).foldl (fun l e => if e.1 = 1 then l.modify e.2 (· + n) else l) w.bayW }
  else w

/-- A lintel issue starts at a cycle (05 R141): its rows arrive at its planned completion. -/
def Walk.lintel (w : Walk) (p : Plan) (l i t k : Nat) : Walk :=
  let h := p.hod i
  let e := t + ceilDiv h.walkBytes (hodRate p h) + p.runLat / 2
  (w.done l k e).inc (p.consumer h) h.sigCtr e h.rows

/-! ### Slots (05 R136-R138) -/

/-- Bytes that slot `k` of a lintel spans in its consumer's scratchpad: first byte and how many. -/
def HodDesc.slot (h : HodDesc) (k : Nat) : Nat × Nat := (opOff h.dst + k * h.rows * h.dstr, (h.rows - 1) * h.dstr + h.rowBytes)

/-- A context reads a range of its scratchpad at a cycle: some slot in it holds no generation that the context has awaited and not
released. -/
def WCtx.earlyRead (b : WCtx) (p : Plan) (l t a n : Nat) : Bool :=
  (p.lintelsInto l).any (fun e =>
    let h := e.2
    (List.range p.depth).any (fun k =>
      let s := h.slot k
      let seen := (b.waited.filter (fun q => q.1 == h.sigCtr)).foldl (fun m q => max m (q.2 / max 1 h.rows)) 0
      let g := if seen ≤ k then 0 else (seen - (k + 1)) / max 1 p.depth * p.depth + k + 1
      decide (a < s.1 + s.2 ∧ s.1 < a + n) && (g == 0 || decide (g ≤ b.countAt (h.sigCtr + 1) t))))

/-- Byte ranges of its own scratchpad that an instruction reads of bank D. -/
def readRanges (p : Plan) (w : Nat) : List (Nat × Nat) :=
  if iOp w = 3 then
    (256 * vSrc w, 256 * vLen w) :: ((if vAux w < 0x1800 then [(256 * vAux w, 256 * vLen w)] else []) ++
      (if vOp w / 4 = 3 then [(256 * vDst w, 256 * vLen w)] else []))
  else if iOp w = 4 then
    let h := p.hod (wbits w 0 12)
    if opKind h.src = 0 then (List.range h.rows).map (fun i => (opOff h.src + i * h.sstr, h.sideBytes.1)) else []
  else []

/-! ### One step of the walk -/

/-- The cycle at which a context can act next; none while it waits on what no known increment meets. -/
def Walk.due (w : Walk) (l : Nat) (b : WCtx) : Option Nat :=
  if b.x.ended then none
  else match b.x.prog[b.x.pc]? with
    | none => none
    | some i =>
      if iOp i = 5 then (b.reach (wbits i 0 4) (wbits i 4 20 + wbits i 24 12 * b.x.iter)).map (max b.t)
      else if iOp i = 8 then (if w.held.any (fun e => e.1 == l) then none else some (max b.t b.busy))
      else some b.t

/-- The cycle at which a held issue starts: its own, or when the release it waits for reaches the producer. -/
def Walk.heldDue (w : Walk) (p : Plan) (e : Nat × Nat × Nat × Nat × Nat) : Option Nat :=
  let h := p.hod e.2.1
  match w.blks[p.consumer h]? with
  | some b => (b.reach (h.sigCtr + 1) (e.2.2.1 - p.depth)).map (fun t => max e.2.2.2.1 (t + p.runLat / 2))
  | none => none

/-- Context `l` acts at cycle `t`. -/
def Walk.act (w : Walk) (p : Plan) (l t : Nat) (b : WCtx) (i : Nat) : Walk :=
  let w := { w with early := w.early || (readRanges p i).any (fun r => b.earlyRead p l t r.1 r.2) }
  let next := { b with x := b.x.advance, t := t + 1 }
  let op := iOp i
  if op = 2 then
    let m := mfld i
    let st := max t b.mFree
    let w := w.put l { next with mFree := st + 64 * m.steps }
    { w.done l (iCtr i) (st + 64 * m.steps + 40) with macs := w.macs.modify (macClass m.ks) (· + 4096 * m.ks * m.steps) }
  else if op = 3 then
    let e := max t b.vFree + vecCycles p l b.x.pc i
    let w := w.put l { next with vFree := e }
    { w.done l (iCtr i) e with vecs := w.vecs + vecResults p l b.x.pc i }
  else if op = 4 then
    let k := wbits i 0 12
    let h := p.hod k
    let w := w.bytes p h
    if h.lintel then
      let g := tget natDef b.x.gens k + 1
      let w := w.put l { next with x := { next.x with gens := tset natDef b.x.gens k g } }
      if g ≤ p.depth then w.lintel p l k t (iCtr i) else { w with held := w.held ++ [(l, k, g, t, iCtr i)] }
    else
      let e := t + ceilDiv h.walkBytes (hodRate p h) + allowance p h
      let w := (w.put l next).done l (iCtr i) e
      if h.sigOn then
        ((p.dsts (p.run h.run)).filter (fun d => d.1 == 0)).foldl (fun w d => w.inc d.2 h.sigCtr e 1) w
      else w
  else if op = 5 then
    w.put l { b with x := b.x.advance, t := t, waited := (wbits i 0 4, wbits i 4 20 + wbits i 24 12 * b.x.iter) :: b.waited }
  else if op = 6 then (w.put l next).inc l (wbits i 0 4) t (wbits i 4 12)
  else if op = 7 then
    w.put l { b with t := t + 1, x := closeLoops 5 { b.x with
      pc := b.x.pc + 1, loops := (b.x.pc + 1, wbits i 16 12, 0, wbits i 0 16) :: b.x.loops } }
  else if op = 8 then w.put l { b with x := b.x.advance, t := t }
  else if op = 0x3F then w.put l { b with x := { b.x with ended := true }, t := t }
  else w.put l next

/-- The earliest of several (cycle, choice). -/
def earliest {α : Type} : List (Nat × α) → Option (Nat × α)
  | [] => none
  | x :: xs => some (xs.foldl (fun a b => if b.1 < a.1 then b else a) x)

/-- One action, the earliest in cycle order; none when nothing can act. -/
def Walk.step (w : Walk) (p : Plan) : Option (Nat × Walk) :=
  let bs := (w.blks.zipIdx).filterMap (fun e => (w.due e.2 e.1).map (fun t => (t, e.2)))
  let hs := (w.held.zipIdx).filterMap (fun e => (w.heldDue p e.1).map (fun t => (t, e.2)))
  match earliest hs, earliest bs with
  | some h, some b =>
    if b.1 < h.1 then (w.blks[b.2]?).bind (fun c => (c.x.prog[c.x.pc]?).map (fun i => (b.1, w.act p b.2 b.1 c i)))
    else (w.held[h.2]?).map (fun e => (h.1, { w with held := w.held.eraseIdx h.2 }.lintel p e.1 e.2.1 h.1 e.2.2.2.2))
  | some h, none => (w.held[h.2]?).map (fun e => (h.1, { w with held := w.held.eraseIdx h.2 }.lintel p e.1 e.2.1 h.1 e.2.2.2.2))
  | none, some b => (w.blks[b.2]?).bind (fun c => (c.x.prog[c.x.pc]?).map (fun i => (b.1, w.act p b.2 b.1 c i)))
  | none, none => none

/-- The walk from a state on: stopped when nothing can act, or past the header's CYCLES. -/
def Walk.go (w : Walk) (p : Plan) : Nat → Walk × Bool
  | 0 => (w, true)
  | f + 1 =>
    match w.step p with
    | none => (w, false)
    | some (t, w') => if p.cycles < t then (w', true) else w'.go p f

/-- The walk at the common start, 16 cycles after the run begins (04 R122). -/
def Walk.init (p : Plan) : Walk where
  blks := (List.range p.nBlk).map (fun l => ⟨{ ctxDef 0 with prog := p.words l }, 16, 0, 0, 0, [], []⟩)
  held := []
  macs := List.replicate 5 0
  vecs := 0
  mesh := 0
  bayR := List.replicate 3 0
  bayW := List.replicate 3 0
  early := false

/-- Largest rate of a logical Bay's port at any cycle: a multicast counts once (04 R109). -/
def Plan.bayRate (p : Plan) (i : Nat) : Nat :=
  let rs := ((List.range (p.sec 1).2).map p.run).filter (fun r => r.src == (1, i) || (p.dsts r).any (· == (1, i)))
  (rs.map (fun a => ((rs.filter (fun r => decide (r.start ≤ a.start ∧ a.start < r.stop))).map (fun r => 16 * r.share)).sum)).foldl max 0

/-- Every release of a lintel follows the arrival it releases (05 R136). -/
def Walk.releases (w : Walk) (p : Plan) : Bool :=
  p.hodList.all (fun e =>
    let h := e.2
    !h.lintel || (match w.blks[p.consumer h]? with
      | some b => (b.incs.filter (fun i => i.1 == h.sigCtr + 1)).all (fun i =>
          decide (h.rows * b.countAt (h.sigCtr + 1) i.2.1 ≤ b.countAt h.sigCtr i.2.1))
      | none => true))

/-- An arrival counter stays within its twenty bits (05 R136). -/
def Walk.inRange (w : Walk) (p : Plan) : Bool :=
  p.hodList.all (fun e => !e.2.lintel || (match w.blks[p.consumer e.2]? with
    | some b => decide (((b.incs.filter (fun i => i.1 == e.2.sigCtr)).map (·.2.2)).sum ≤ 1048575)
    | none => true))

/-- What the walk refuses (04 R122; 05 R136), in the order of the table of R122 once every context has ended. -/
def walkChecks (p : Plan) : Chk :=
  let r := (Walk.init p).go p (2 ^ 80)
  let w := r.1
  if r.2 then some (Rsn.CFG_CONFLICT, 0x39)
  else if w.blks.any (fun b => !b.x.ended) then some (Rsn.CFG_CONFLICT, 0x3C)
  else firstFail [
    (decide ((w.blks.map (·.t)).foldl max 0 = p.cycles), Rsn.CFG_CONFLICT, 0x39),
    ((List.range 3).all (fun i => decide (w.bayR.getD i 0 = p.num (0x28 + 8 * i) 8 ∧ w.bayW.getD i 0 = p.num (0x40 + 8 * i) 8 ∧
      p.bayRate i = p.num (0x58 + 4 * i) 4)) && decide (w.mesh = p.num 0x98 8), Rsn.CFG_CONFLICT, 0x3A),
    ((List.range 5).all (fun i => decide (w.macs.getD i 0 = p.num (0x68 + 8 * i) 8)) && decide (w.vecs = p.num 0x90 8),
      Rsn.CFG_CONFLICT, 0x3B),
    (w.inRange p, Rsn.CFG_RANGE, 0x59),
    (!w.early && w.releases p, Rsn.CFG_CONFLICT, 0x5A)]

end Sys2Proof.Machine
end

