-- ==== Sys2Proof/Machine/Load.lean ====
section
/-! DEFINITION. Loading and running plans (04 R108-R128): the checks of an image, placement, the load of contexts, and the start and
end of a run. -/

namespace Sys2Proof.Machine

/-! ### Header (04 R108, R109) -/

/-- The header checks of step 2 of R125, on the first 256 bytes. `own` says that the image lies in the die's HBM, `va` its base. -/
def headChecks (p : Plan) (own : Bool) (va : Nat) : Chk :=
  let n := p.num 8 4
  let k := p.cls
  let fits : Nat → Nat → Bool := fun i size => decide (256 ≤ (p.sec i).1 ∧ (p.sec i).1 + size * (p.sec i).2 ≤ n)
  firstFail [
    (decide (p.num 0 4 = 0x344E4C50 ∧ p.num 6 2 = 256), Rsn.BAD_DESC, 0x30),
    (decide (p.num 4 2 = 1), Rsn.BAD_DESC, 0x31),
    (own && decide (va % 4096 = 0 ∧ n % 64 = 0 ∧ 256 ≤ n ∧ n ≤ 16777216) && fits 0 48 && fits 1 16 && fits 2 48 && fits 3 2 &&
      decide ((p.sec 0).2 = p.num 0x10 2), Rsn.CFG_RANGE, 0x32),
    (decide (1 ≤ k.1 ∧ k.1 ≤ 16 ∧ 1 ≤ k.2.1 ∧ k.2.1 ≤ 16 ∧ 1 ≤ k.2.2 ∧ k.2.1 % max 1 k.2.2 = 0 ∧ k.2.1 / max 1 k.2.2 ≤ 6 ∧
      p.num 0x10 2 = k.1 * k.2.1), Rsn.CFG_RANGE, 0x35)]

/-- Extents that lie wholly in the hs of die `d`. -/
def ownHbm (s : State) (d : Nat) (es : List Extent) : Bool :=
  (sites s (es.map (fun e => (e.pa, e.len)))).all (fun t => decide (t.1 < 12 ∧ t.1 / 3 = d))

/-- A plan as an image alone, not placed. -/
def imgPlan (d : Nat) (img : List Byte) : Plan := ⟨d, 0, img, [], [], 0⟩

/-- What a LOAD asks of admission. -/
def loadAsk (s : State) (d r : Nat) (desc : List Byte) : Asked :=
  let im := dfld desc 0x10 8
  let dg := dfld desc 0x18 8
  let res := dfld desc 0x20 8
  match descChecks s d r desc [(0x10, 8), (0x18, 8), (0x20, 8)] true true (decide (res % 8 = 0)) true with
  | some (a, b) => .refuse a b
  | none =>
    .pages [3] [(im, 256, 1)] (fun s es =>
      if extPoisoned s es im 256 then .poison
      else
        let p := imgPlan d (extRead s es im 256)
        match headChecks p (ownHbm s d es) im with
        | some (a, b) => .refuse a b
        | none =>
          let n := p.num 8 4
          .pages [3] [(im + 256, n - 256, 1), (dg, 48, 1), (res, 2 * p.nBlk, 3)] (fun s es =>
            if !ownHbm s d (es.filter (fun e => decide (im ≤ e.va ∧ e.va < im + n))) then .refuse Rsn.CFG_RANGE 0x32
            else
              let dur := ceilDiv (ceilDiv (n * 10) 128) 2 + 2097152
              match sidePath s d false none 0 (sites s (extPieces es im n ++ extPieces es dg 48)),
                  sidePath s d true none 0 (sites s (extPieces es res (2 * p.nBlk))) with
              | .inr c, _ => .refuse c.1 c.2
              | _, .inr c => .refuse c.1 c.2
              | .inl a, .inl b =>
                .ready ⟨0, fun _ _ => ⟨dur, 512, [], [], (a.uses ++ b.uses).eraseDups, 0⟩, fun _ => 0⟩
                  (fun i => { i with jrnl := some (2, p.digest, []) })))

/-- LOAD (04 R125 steps 1-2): opcode 0x03. The image is read through its own translation, the header first. -/
def execLoad (d : Die) (r : Ring) (s : State) : Out :=
  letIn s d r (fun _ desc => dOp desc == 3) (fun s desc => loadAsk s d r desc)

/-! ### Decoding an image (04 R110, R115, R118-R120; 05 R136, R149) -/

/-- An instruction's opcode and reserved bits (04 R118). -/
def wordOk (p : Plan) (w : Nat) : Bool :=
  let z : Nat → Nat → Bool := fun lo n => wbits w lo n == 0
  match iOp w with
  | 1 => z 44 14
  | 2 => z 50 4 && decide (wbits w 33 10 ≠ 0)
  | 3 => true
  | 4 => z 12 42 && decide (wbits w 0 12 < (p.sec 2).2)
  | 5 => z 36 22
  | 6 => z 16 42
  | 7 => z 28 30
  | 8 => z 0 58
  | 63 => z 0 58
  | _ => false

/-- Loops of a program (04 R118): a count, a body within the program, at most four deep. -/
def loopsOk (ws : List Nat) : Bool :=
  let ls := (ws.zipIdx).filter (fun e => iOp e.1 == 7)
  ls.all (fun e => decide (wbits e.1 0 16 ≠ 0 ∧ e.2 + 1 + wbits e.1 16 12 ≤ ws.length) &&
    decide ((ls.filter (fun o => decide (o.2 < e.2 ∧ e.2 ≤ o.2 + wbits o.1 16 12))).length < 4))

/-- A program entry lies in the image (04 R110). -/
def progLen (p : Plan) (l : Nat) : Bool := let n := p.num (p.prog l + 8) 4; decide (8 ≤ n ∧ n ≤ 16384 ∧ n % 8 = 0)
/-- See `progLen`. -/
def progIn (p : Plan) (l : Nat) : Bool :=
  let o := p.num (p.prog l + 4) 4
  decide (o % 8 = 0 ∧ o + p.num (p.prog l + 8) 4 ≤ p.num 8 4)
/-- Its reserved fields: the index, byte 0x0C, and bits of the region words. -/
def progZero (p : Plan) (l : Nat) : Bool :=
  decide (p.num (p.prog l) 2 = l ∧ p.num (p.prog l + 12) 4 = 0) &&
  (List.range 8).all (fun i => p.num (p.prog l + 16 + 4 * i) 4 / 2 ^ 13 % 8 == 0)

/-- An endpoint names a logical Block or a logical Bay of the class. -/
def endpOk (p : Plan) (e : Endp) : Bool := decide ((e.1 = 0 ∧ e.2 < p.nBlk) ∨ (e.1 = 1 ∧ e.2 < p.cls.2.2))

/-- A run's fields (04 R109, R115). -/
def runOk (p : Plan) (i : Nat) : Bool :=
  let r := p.run i
  decide (1 ≤ r.share ∧ r.share ≤ 32 ∧ r.start < r.stop ∧ r.stop ≤ p.cycles) &&
  (if r.kind = 1 then decide (2 ≤ r.ndst ∧ r.ndst ≤ 256 ∧ r.dst + r.ndst ≤ (p.sec 3).2) else decide (r.kind ≤ 2 ∧ r.ndst = 1)) &&
  endpOk p r.src && (p.dsts r).all (endpOk p)

/-- Reserved fields and kinds of a Hod descriptor (04 R120). -/
def hodZero (p : Plan) (i : Nat) : Bool :=
  let h := p.hod i
  let o := (p.sec 2).1 + 48 * i
  let opnd : Nat → Bool := fun x => decide (opKind x = 0) || decide (opKind x = 1 ∧ x / 2 ^ 48 % 64 = 0 ∧ opSlot x < p.slots)
  decide (h.sig / 16 % 8 = 0 ∧ h.flags < 16 ∧ p.num (o + 36) 12 = 0) && opnd h.src &&
  (opnd h.dst || decide (opKind h.dst = 2 ∧ h.run < (p.sec 1).2 ∧ (p.dsts (p.run h.run)).any (fun e => e.1 == 0)))

/-- Ranges of a Hod descriptor: rows, bytes and run. -/
def hodRange (p : Plan) (i : Nat) : Bool :=
  let h := p.hod i
  decide (1 ≤ h.rowBytes ∧ h.rowBytes ≤ 16777216 ∧ 1 ≤ h.rows ∧ h.rows ≤ 65536 ∧ (h.run = 0xFFFF ∨ h.run < (p.sec 1).2))

/-- The conditions of R136 with detail 0x50. -/
def lintelField (p : Plan) (i : Nat) : Bool :=
  let h := p.hod i
  let r := p.run h.run
  let q := endp r.dst
  !h.lintel || (decide (h.run < (p.sec 1).2 ∧ r.kind = 0 ∧ r.src.1 = 0 ∧ q.1 = 0 ∧ r.src.2 ≠ q.2 ∧ opKind h.dst = 2 ∧ 1 ≤ h.rows ∧ h.rows ≤ 16 ∧
      2 ≤ p.depth ∧ p.depth ≤ 4 ∧ h.sigCtr % 2 = 0 ∧ h.sigCtr ≤ 12) && h.sigOn &&
    (List.range p.depth).all (fun k => decide (0x120000 ≤ (h.slot k).1 ∧ (h.slot k).1 + (h.slot k).2 ≤ 0x180000)) &&
    p.hodList.all (fun e => e.1 == i || !e.2.lintel || !(p.consumer e.2 == q.2 && e.2.sigCtr == h.sigCtr)))

/-- Tags that the lintels into one Block take are at most 64. -/
def lintelTags (p : Plan) : Bool :=
  (List.range p.nBlk).all (fun l => decide (((p.lintelsInto l).map (fun e => p.depth * e.2.rows)).sum ≤ 64))

/-- Step 4 of R125 before the walk: programs, instructions, lintel fields, runs, descriptors, in that order. The codes that R132 does not state for
a field are DESIGN CHOICE (log entry 164). Every grouped operand of a mason is taken as grouped along K, which no field says otherwise, so
the refusal of 02 R71 never comes (DESIGN CHOICE, log entry 165). -/
def decodeChecks (p : Plan) : Chk :=
  let ls := List.range p.nBlk
  let hs := List.range (p.sec 2).2
  let zc : HodDesc → Bool := fun h => h.enc || h.dec
  firstFail [
    (decide (p.num 0x0C 4 / 4096 = 0 ∧ p.num 0x16 2 = 0 ∧ p.num 0x64 4 = 0 ∧ p.num 0xC0 16 = 0), Rsn.BAD_DESC, 0x37),
    (ls.all (progLen p), Rsn.CFG_RANGE, 0x36),
    (ls.all (progIn p), Rsn.CFG_RANGE, 0x32),
    (ls.all (progZero p) && ls.all (fun l => (p.words l).all (wordOk p) && (p.words l).any (fun w => iOp w == 63)), Rsn.BAD_DESC, 0x37),
    (ls.all (fun l => loopsOk (p.words l)), Rsn.CFG_RANGE, 0x38),
    (hs.all (lintelField p) && (decide (p.depth = 0) || hs.any (fun i => (p.hod i).lintel)), Rsn.CFG_RANGE, 0x50),
    (decide (16 ≤ p.runLat ∧ p.runLat ≤ 128 ∧ p.runLat % 2 = 0 ∧ p.slots ≤ 32) && (List.range (p.sec 1).2).all (runOk p) &&
      hs.all (hodRange p), Rsn.CFG_RANGE, 0x3D),
    (hs.all (hodZero p), Rsn.BAD_DESC, 0x37),
    (lintelTags p, Rsn.CFG_RANGE, 0x51),
    (hs.all (fun i => !((p.hod i).lintel && zc (p.hod i))), Rsn.CFG_CONFLICT, 0x52),
    (hs.all (fun i => let h := p.hod i; !(h.enc && h.dec) && (!zc h || h.rowBytes % 64 == 0)), Rsn.BAD_DESC, 0x54),
    (hs.all (fun i => let h := p.hod i; (!h.enc || decide (zcWorst h.rowBytes ≤ h.dstr)) &&
      (!h.dec || decide (zcWorst h.rowBytes ≤ h.sstr))), Rsn.CFG_RANGE, 0x55)]

/-- DIGEST under R109: SHA-384 of the image with the field read as zero. -/
def planDigest (img : List Byte) : List Byte := sha384 (img.take 0xD0 ++ List.replicate 48 0 ++ img.drop 0x100)

/-! ### Placement (04 R111-R117, R126) -/

/-- The selections of `n` elements of a list, lowest first. -/
def choose {α : Type} : List α → Nat → List (List α)
  | _, 0 => [[]]
  | [], _ + 1 => []
  | x :: xs, n + 1 => (choose xs n).map (x :: ·) ++ choose xs (n + 1)

/-- A Block can take part in a placement: ALLOC with its Course and Bay ON (04 R112). -/
def placeable (s : State) (d n : Nat) : Bool := decide (blkState s d n = 0) && (blockRefusal s d n).isNone

/-- Region words of a logical Block (04 R110). -/
def Plan.rgns (p : Plan) (l : Nat) : List W32 := (List.range 8).map (fun i => BitVec.ofNat 32 (p.num (p.prog l + 16 + 4 * i) 4))

/-- A write region of the plan overlaps one of an enabled context of the Block (03 R100 check 7; 04 R126). -/
def rgnClash (s : State) (p : Plan) (l d n : Nat) : Bool :=
  (List.range 4).any (fun o => bit s (Reg.BLK_CTX_CTRL d n o) 0 &&
    (ctxRgns d n o).any (fun a => (p.rgns l).any (fun w =>
      (w.getLsbD 30 || w.getLsbD 31) && (bit s a 30 || bit s a 31) &&
      decide (getBits w 0 13 ≤ fget s a 16 13 ∧ fget s a 0 13 ≤ getBits w 16 13))))

/-- The lowest-numbered EMPTY context of a Block. -/
def emptyCtx (s : State) (d n : Nat) : Option Nat := (List.range 4).find? (fun c => ctxState s d n c == 0)

/-- A Block can take logical Block `l`: an EMPTY context and no clash of write regions. -/
def takes (s : State) (p : Plan) (d l n : Nat) : Bool := (emptyCtx s d n).isSome && !rgnClash s p l d n

/-- The physical Blocks a logical row can take in a Course, in logical column order: each Bay's logical columns on ascending
columns of it. -/
def rowOptions (c row w per : Nat) (bays : List Nat) (ok : Nat → Nat → Bool) : List (List Nat) :=
  (bays.zipIdx).foldl (fun acc e =>
    let cols := (choose ((List.range 6).map (fun x => c * 18 + 6 * e.1 + x)) per).filter (fun ns =>
      (ns.zipIdx).all (fun q => ok (row * w + e.2 * per + q.2) q.1))
    acc.flatMap (fun a => cols.map (a ++ ·))) [[]]

/-- The first way through the rows' options that satisfies `good`. -/
def placeRows (good : List Nat → Bool) : List (List (List Nat)) → List Nat → Option (List Nat)
  | [], acc => if good acc then some acc else none
  | o :: os, acc => o.findSome? (fun row => placeRows good os (acc ++ row))

/-- The first placement in the order of R112: lowest Courses, then Bays, then columns. Physical Blocks and Bays. -/
def searchPlace (s : State) (p : Plan) (ok : Nat → Nat → Bool) (good : List Nat → List Nat → Bool) : Option (List Nat × List Nat) :=
  let k := p.cls
  let per := k.2.1 / max 1 k.2.2
  let cs := (List.range 16).filter (fun c => isOn s (dCourse p.die c))
  (choose cs k.1).findSome? (fun cs =>
    (choose [0, 1, 2] k.2.2).findSome? (fun bs =>
      (placeRows (fun ns => good ns bs) ((cs.zipIdx).map (fun e => rowOptions e.1 e.2 k.2.1 per bs ok)) []).map (fun ns => (ns, bs))))

/-- Every Block-to-Block route is within RUN_LATENCY: 4 + 3 cycles a hop (04 R116). -/
def latencyOk (p : Plan) : Bool :=
  (List.range (p.sec 1).2).all (fun i =>
    let r := p.run i
    r.src.1 != 0 || (p.dsts r).all (fun e => e.1 != 0 || decide (4 + 3 * (p.links r.src e).length ≤ p.runLat)))

/-- The most that admitted transfers hold of a resource in any slot. -/
def itemPeak (s : State) (r : Nat) : Nat :=
  let vs := s.items.flatMap (fun i => i.resv.filter (fun v => v.res == r))
  (vs.map (fun v => resUsed s r v.slot)).foldl max 0

/-- No link carries more than 512 bytes per cycle with the plans `rest` of the die and the transfers already there (04 R117). Different plans
count with their peaks, whatever their windows (DESIGN CHOICE, log entry 163). -/
def sharesOk (s : State) (p : Plan) (rest : List Plan) : Bool :=
  let ls := ((List.range (p.sec 1).2).flatMap (fun i => p.runLinks (p.run i))).eraseDups
  ls.all (fun l => decide (p.peak l + (rest.map (fun q => q.peak l)).sum + itemPeak s (resMesh p.die l) ≤ 512))

/-- A plan on given Blocks; contexts 0 where they are not yet chosen. -/
def Plan.on (p : Plan) (ns bs : List Nat) : Plan := { p with place := ns.map (fun n => (n, 0)), bays := bs }

/-- Step 5 of R125: the placement, or the refusal of R132. -/
def placePlan (s : State) (p : Plan) : (List Nat × List Nat) ⊕ (Nat × Nat) :=
  let d := p.die
  let lat : List Nat → List Nat → Bool := fun ns bs => latencyOk (p.on ns bs)
  let ok : Nat → Nat → Bool := fun l n => placeable s d n && takes s p d l n
  match searchPlace s p ok (fun ns bs => lat ns bs && sharesOk s (p.on ns bs) (s.plans.filter (fun q => q.die == d))) with
  | some x => .inl x
  | none =>
    if (searchPlace s p ok lat).isSome then .inr (Rsn.NOT_SCHEDULABLE, 0x3F)
    else if (searchPlace s p (fun _ n => placeable s d n) lat).isSome then .inr (Rsn.NOT_SCHEDULABLE, 0x40)
    else .inr (Rsn.NOT_SCHEDULABLE, 0x3E)

/-! ### Contexts (04 R125 steps 6-8) -/

/-- A logical Block's program, regions, P and D written into a context, which is LOADED. -/
def loadCtx (s : State) (p : Plan) (l n c : Nat) : State :=
  let d := p.die
  let s := (p.rgns l).zipIdx.foldl (fun s e => wr s (Reg.BLK_RGN d n c (e.2 / 2) (e.2 % 2)) e.1) s
  let s := fset (fset s (Reg.BLK_MASON_CFG d n c) 0 7 (p.num (p.prog l + 2) 1)) (Reg.BLK_MASON_CFG d n c) 8 8 (p.num (p.prog l + 3) 1)
  setCtxState (setCtxX s d n c { (ctxX s d n c).bare with plan := p.handle, lb := l, prog := p.words l }) d n c 1

/-- The contexts of given logical Blocks loaded and enabled: the plan with its contexts, or the codes of the first enable check
that fails. -/
def loadAll (s : State) (p : Plan) (ls : List Nat) : (State × Plan) ⊕ (Nat × Nat) :=
  ls.foldl (fun acc l => match acc with
    | .inr c => .inr c
    | .inl (s, p) =>
      let n := (p.phys l).1
      match emptyCtx s p.die n with
      | none => .inr (Rsn.NOT_SCHEDULABLE, 0x40)
      | some c =>
        let s := ctxEnable (loadCtx s p l n c) p.die n c
        if bit s (Reg.BLK_CTX_CTRL p.die n c) 0 then .inl (s, { p with place := p.place.set l (n, c) })
        else .inr (fget s (Reg.BLK_CTX_STATUS p.die n c) 8 8, fget s (Reg.BLK_CTX_STATUS p.die n c) 16 8)) (.inl (s, p))

/-- A handle no resident plan of the die has: the spec names no rule for the choice, so it follows a free value (log entry 1). -/
def newHandle (s : State) (d : Nat) : Nat × State :=
  let f := takeFree s
  let used : Nat → Bool := fun h => s.plans.any (fun p => p.die == d && p.handle == h)
  (((List.range 65536).map (fun i => (f.1 + i) % 65536)).find? (fun h => !used h) |>.getD 0, f.2)

/-- Steps 5 to 9 of R125 on a checked plan: placed, loaded, enabled, its numerics entry zeroed while PLB_CTRL.ENABLE is 1
(08 R218), its placement list and its completion written. A refusal leaves nothing behind but what the refused write records. A load
whose placement may yet come with a WAKING Course waits (03 R103). -/
def residentPlan (s : State) (it : Item) (p : Plan) : State :=
  let it := { it with phase := 0 }
  match placePlan s p with
  | .inr (a, b) =>
    if b = 0x3E ∧ (List.range 16).any (fun c => pd s (dCourse it.die c) == 1) then putItem s { it with phase := 2 }
    else endItem s it a b
  | .inl (ns, bs) =>
    let h := newHandle s it.die
    let p := { (p.on ns bs) with handle := h.1 }
    match loadAll h.2 p (List.range p.nBlk) with
    | .inr (a, b) => endItem s it a b
    | .inl (t, p) =>
      let list := fun t => itemWrite t it (dfld it.desc 0x20 8) (p.place.flatMap (fun b => leBytes 2 b.1))
      match list t with
      | .bad _ a b => endItem (match list s with | .bad u _ _ => u | .ok _ _ _ => s) it a b
      | .ok s _ _ =>
        let s := losePlanSample (s.withPlans (s.plans ++ [p])) it.die p.handle
        let s := if bit s (Reg.PLB_CTRL it.die) 0 then numFresh s it.die p.handle else s
        endItem s { (findItem s it.die it.ring it.seq).getD it with caux := p.handle, phase := 0 } 0 0

/-- Steps 3 to 9 of R125 on a load whose digest is known: its checks in order, each ending it with its codes, then the residency. POISON
leaves a record of kind RING too (09 R514). -/
def loadEnd (s : State) (it : Item) : State :=
  let im := dfld it.desc 0x10 8
  match itemRead s it im 256 with
  | .bad s a b => endItem s it a b
  | .ok s hd _ =>
    let n := (imgPlan it.die hd).num 8 4
    match itemRead s it im (min n 16777216), itemRead s it (dfld it.desc 0x18 8) 48 with
    | .ok s img po, .ok _ want po2 =>
      let p := imgPlan it.die img
      if po || po2 then
        endItem (note s it.die Rsn.POISON 0xC2 7 (ringSrc it.die it.ring) (ringData it.seq it.tag it.opcode)) it Rsn.POISON 0xC2
      else match headChecks p true im with
        | some (a, b) => endItem s it a b
        | none =>
          if planDigest img ≠ p.digest then endItem s it Rsn.PLAN_DIGEST 0x33
          else if p.digest ≠ want then endItem s it Rsn.PLAN_DIGEST 0x34
          else match decodeChecks p with
            | some (a, b) => endItem s it a b
            | none => match walkChecks p with
              | some (a, b) => endItem s it a b
              | none => residentPlan s it p
    | .bad s a b, _ => endItem s it a b
    | _, .bad s a b => endItem s it a b

/-- LOAD_DIGEST_DONE (04 R125 steps 3-9): loads of a die proceed one at a time in the order they were accepted (R128). -/
def execLoadDigestDone (d : Die) (r : Ring) (seq : W32) (s : State) : Out :=
  match findItem s d r seq.toNat with
  | none => .next s
  | some it =>
    let first := s.items.find? (fun i => i.die == d.val && i.opcode == 3)
    if it.opcode ≠ 3 ∨ !it.started ∨ itemWaits s it ∨ first.map (fun i => (i.ring, i.seq)) ≠ some (r.val, seq.toNat) then .next s
    else .next (loadEnd s it)

/-! ### Re-placement (04 R128, 09 R248) -/

/-- A logical Block of a resident plan stands where it can run: its Block serves and holds its context. -/
def Plan.healthy (p : Plan) (s : State) (l : Nat) : Bool :=
  let b := p.phys l
  placeable s p.die b.1 && decide (ctxState s p.die b.1 b.2 ≠ 0) && (ctxX s p.die b.1 b.2).plan == p.handle

/-- The contexts of some logical Blocks of a plan emptied, where they still hold it. -/
def freed (s : State) (p : Plan) (ls : List Nat) : State :=
  ls.foldl (fun s l =>
    let b := p.phys l
    if (ctxX s p.die b.1 b.2).plan = p.handle ∧ ctxState s p.die b.1 b.2 ≠ 0 then
      fset (setCtxState (setCtxX s p.die b.1 b.2 (ctxX s p.die b.1 b.2).bare) p.die b.1 b.2 0) (Reg.BLK_CTX_CTRL p.die b.1 b.2) 0 1 0
    else s) s

/-- The first answer over the ways to give each row a Course of its own. -/
def overCourses {α : Type} (cs : Nat → List Nat) (leaf : List Nat → Option α) : List Nat → List Nat → Option α
  | [], acc => leaf acc
  | r :: rs, acc => (cs r).findSome? (fun c => if acc.contains c then none else overCourses cs leaf rs (acc ++ [c]))

/-- The Bays that the logical Bays of a class can take (04 R111): all three in order, or some of them in any order. -/
def bayOptions (b : Nat) : List (List Nat) :=
  if b = 1 then [[0], [1], [2]] else if b = 2 then [[0, 1], [0, 2], [1, 0], [1, 2], [2, 0], [2, 1]] else [[0, 1, 2]]

/-- The first placement under R112 that keeps every logical Block but `ls` where it stands, on a state that has their contexts free: Courses and
columns from the lowest. -/
def searchMove (s : State) (p : Plan) (ls : List Nat) (free : Nat → Bool) : Option Plan :=
  let k := p.cls
  let w := k.2.1
  let ok : Nat → Nat → Bool := fun l n =>
    if ls.contains l then placeable s p.die n && takes s p p.die l n && free n else n == (p.phys l).1
  let kept : Nat → Option Nat := fun r => ((List.range w).map (fun x => r * w + x)).find? (fun l => !ls.contains l)
  let rows := List.range k.1
  let taken := rows.filterMap (fun r => (kept r).map (fun l => (p.phys l).1 / 18))
  let cs : Nat → List Nat := fun r => match kept r with
    | some l => [(p.phys l).1 / 18]
    | none => (List.range 16).filter (fun c => isOn s (dCourse p.die c) && !taken.contains c)
  overCourses cs (fun cs =>
    (bayOptions k.2.2).findSome? (fun bs =>
      let put : List Nat → Plan := fun ns =>
        { p with bays := bs, place := (ns.zipIdx).map (fun e => if ls.contains e.2 then (e.1, 0) else p.phys e.2) }
      (placeRows (fun ns => latencyOk (put ns) && sharesOk s (put ns) (s.plans.filter (fun q => q.die == p.die && q.handle != p.handle)))
        ((cs.zipIdx).map (fun e => rowOptions e.1 e.2 w (w / max 1 k.2.2) bs ok)) []).map put)) rows []

/-- Where a plan goes after a loss, with the logical Blocks that move: the plan as it stands when none is affected; else a placement
in which only the affected ones move, or, where R112 admits none, one of the whole plan (DEDUCED, log entry 162); none when no
placement exists. -/
def replaceAt (s : State) (p : Plan) (free : Nat → Bool) : Option (Plan × List Nat) :=
  let all := List.range p.nBlk
  let bad := all.filter (fun l => !p.healthy s l)
  let move : List Nat → Option (Plan × List Nat) := fun ls => (searchMove (freed s p ls) p ls free).map (·, ls)
  if bad.isEmpty then some (p, []) else (move bad).orElse (fun _ => move all)

/-- A plan re-placed: the contexts it leaves are emptied, the new ones loaded and enabled. -/
def replacePlan (s : State) (p : Plan) (free : Nat → Bool) : Option (State × Plan) :=
  match replaceAt s p free with
  | none => none
  | some (_, []) => some (s, p)
  | some (q, ls) =>
    match loadAll (freed s p ls) q ls with
    | .inl (s, q) => some (putPlan s q, q)
    | .inr _ => none

/-! ### RUN (04 R124, R127; 09 R234, R240-R242) -/

/-- Energy parts of a run (18 R441): the header's counts, shared equally by the Courses and the Bays of the placement. -/
def runParts (p : Plan) (ns : List Nat) : List Part :=
  let cs := (ns.map (· / 18)).eraseDups
  let k := p.cls
  let split : Nat → Nat → Nat := fun n m => ceilDiv n (max 1 m)
  cs.flatMap (fun c =>
    (List.range 5).map (fun i => (c, i, split (p.num (0x68 + 8 * i) 8) cs.length)) ++
    [(c, 5, split (p.num 0x90 8) cs.length), (c, 6, p.cycles * k.2.1)]) ++
  (p.bays.zipIdx).flatMap (fun b =>
    [(16 + b.1, 7, split (p.num 0x98 8) p.bays.length), (16 + b.1, 8, p.num (0x28 + 8 * b.2) 8 + p.num (0x40 + 8 * b.2) 8)])

/-- A Block carries no reservation of another item in a window. -/
def runFree (s : State) (d t dur : Nat) (n : Nat) : Bool := blockFree s d n t dur

/-- What a RUN asks of the calendar. `rs` are the regions that the plan reaches through its slots. The stacks it reads or writes are those of the
Bays for which the header counts bytes, and those of `rs` (04 R109; 09 R242, R247). -/
def runAsk (s : State) (d : Nat) (p : Plan) (es : List Extent) (rs : List Region) (bind : List Byte) : Asked :=
  let st := sites s (rs.flatMap (fun r => extPieces es r.1 r.2.1))
  let hs := ((p.bays.zipIdx).filter (fun b => decide (p.num (0x28 + 8 * b.2) 8 ≠ 0 ∨ p.num (0x40 + 8 * b.2) 8 ≠ 0))).map (fun b => 3 * d + b.1)
  let dur := ceilDiv p.cycles 2
  match sidePath s d false none 0 st with
  | .inr c => .refuse c.1 c.2
  | .inl path =>
    match replaceAt s p (fun _ => true) with
    | none => .refuse Rsn.NOT_SCHEDULABLE 0x3E
    | some _ =>
      .ready {
        after := 0
        share := fun _ => 0
        form := fun s t =>
          let ns := match replaceAt s p (runFree s d t dur) with
            | some (q, _) => q.place.map (·.1)
            | none => p.place.map (·.1)
          { dur := dur, allow := 512 + holds (st ++ hs.map (fun h => (h, 0))) dur
            res := ns.map (fun n => (resBlock d n, 1)) ++
              (p.bays.zipIdx).map (fun b => (resHbm (3 * d + b.1), p.num (0x58 + 4 * b.2) 4)) ++
              (p.bays.zipIdx).map (fun b => (resTot (3 * d + b.1), p.num (0x58 + 4 * b.2) 4))
            parts := runParts p ns
            uses := ((ns.map (fun n => dCourse d (n / 18))).eraseDups ++ p.bays.map (dBay d) ++ hs.map dFooting ++ path.uses).eraseDups
            obj := p.handle } }
        (fun it => { it with param := bind, jrnl := some (1, p.digest, (List.range p.slots).flatMap (fun k => leBytes 8 (slotKey { it with param := bind } k))) })

/-- What a RUN asks of admission. -/
def runItemAsk (s : State) (d r : Nat) (desc : List Byte) : Asked :=
  let b := dfld desc 0x18 8
  match descChecks s d r desc [(0x10, 2), (0x18, 8), (0x20, 8)] false true (decide (b % 64 = 0)) (planOf s d (dfld desc 0x10 2)).isSome,
      planOf s d (dfld desc 0x10 2) with
  | some (x, y), _ => .refuse x y
  | none, none => .refuse Rsn.STATE 0xA2
  | none, some p =>
    .pages p.bays (if p.slots = 0 then [] else [(b, 16 * p.slots, 1)]) (fun s es =>
      let bind := extRead s es b (16 * p.slots)
      if extPoisoned s es b (16 * p.slots) then .poison
      else if (List.range p.slots).any (fun k => ((bind.drop (16 * k)).take 16).all (· == 0)) then .refuse Rsn.CFG_MISSING 0x42
      else if (List.range p.slots).any (fun k => !vaForm (leNat ((bind.drop (16 * k)).take 8))) then .refuse Rsn.CFG_RANGE 0xB8
      else
        let rs := (List.range p.slots).filterMap (fun k => (p.slotReach k).map (fun q =>
          (leNat ((bind.drop (16 * k)).take 8) + q.1, q.2.1 - q.1, q.2.2)))
        .pages p.bays rs (fun s es => runAsk s d p es rs bind))

/-- RUN: opcode 0x02. A slot whose binding is all zero is unbound (log entry 34). -/
def execRun (d : Die) (r : Ring) (s : State) : Out :=
  letIn s d r (fun _ desc => dOp desc == 2) (fun s desc => runItemAsk s d r desc)

/-- A context starts its run (03 R76; 04 R118, R127): counters, loops and operations cleared; its vector registers stand. Its plan is made
active, which clears its flags and its count of raised entries (02 R69, 08 R216; log entry 62). -/
def startCtx (s : State) (d n c : Nat) : State :=
  let x := ctxX s d n c
  let s := wr (wr s (Reg.BLK_FP_FLAGS d n c) 0) (Reg.BLK_CAST_RAISED d n c) 0
  let s := setCtxX s d n c { x.bare with plan := x.plan, lb := x.lb, prog := x.prog, began := ctl s d }
  let s := (List.range 64).foldl (fun s i => if rd s (Reg.BLK_LINTEL_TAG d n i) = 0 then s else wr s (Reg.BLK_LINTEL_TAG d n i) 0) s
  setCtxState s d n c 3

/-- Reservations of a run follow its Blocks. -/
def rebook (it : Item) (d : Nat) (old new : List Nat) : Item :=
  { it with resv := it.resv.map (fun v =>
      match (old.zip new).find? (fun e => resBlock d e.1 == v.res) with
      | some e => { v with res := resBlock d e.2 }
      | none => v) }

/-- RUN_START (04 R127): at or after its committed start; a run whose plan is gone ends with STATE 0xA2 (log entry 170). With its Blocks re-placed if need be, and with no other context of them in
a run and its own READY; until then the run waits. -/
def execRunStart (d : Die) (r : Ring) (seq : W32) (s : State) : Out :=
  match findItem s d r seq.toNat with
  | none => .next s
  | some it =>
    if it.opcode ≠ 2 ∨ it.started ∨ ctl s d < it.start then .next s
    else match planOf s d it.obj with
      | none => .next (endItem s it Rsn.STATE 0xA2)
      | some p =>
        let rest := s.withItems (s.items.filter (fun i => ¬ (i.die = it.die ∧ i.ring = it.ring ∧ i.seq = it.seq)))
        match replacePlan s p (runFree rest d it.start (ceilDiv p.cycles 2)) with
        | none => .next (endItem s it Rsn.NOT_SCHEDULABLE 0x3E)
        | some (s, q) =>
          let it := rebook it d (p.place.map (·.1)) (q.place.map (·.1))
          let s := putItem s it
          let quiet := q.place.all (fun b => (List.range 4).all (fun c => !inRun s d b.1 c) && ctxState s d b.1 b.2 == 2 &&
            !courseStalled s d (b.1 / 18))
          if !quiet then .next s
          else
            let s := q.place.foldl (fun s b => startCtx s d b.1 b.2) s
            .next (putItem (putPlan s { q with runNo := q.runNo + 1 }) { it with started := true })

/-- RUN_END (04 R123; 08 R219): every context of the run has executed end. -/
def execRunEnd (d : Die) (r : Ring) (seq : W32) (s : State) : Out :=
  match findItem s d r seq.toNat with
  | none => .next s
  | some it =>
    match planOf s d it.obj with
    | some p =>
      if it.opcode = 2 ∧ it.started ∧ p.place.all (fun b => (ctxX s d b.1 b.2).ended && !inRun s d b.1 b.2) then .next (endItem s it 0 0)
      else .next s
    | none => .next s

end Sys2Proof.Machine
end

