-- ==== Sys2Proof/Machine/Pcie.lean ====
section
/-! DEFINITION. Upstream requests of a Keystone's PCIe root port (10 R264, 11 R287, 15 R365, 21 R501). -/

namespace Sys2Proof.Machine

/-- A completion: 0 success, 1 Unsupported Request, 2 Completer Abort (data that returned POISON, log entry 42). -/
def pcieDone (s : State) (k st : Nat) (data : List Byte) : State := emit s .pcie [k, st] data

/-- A request that fails: Unsupported Request for a non-posted one, a posted write discarded, and a record of kind XLT (10 R264) with the
physical address that met it, 0 for none. -/
def pcieFail (s : State) (k kind va asid reason detail : Nat) (pa : Nat := 0) : State :=
  let s := note s (4 + k) reason detail 8 (4 + k) (xltData pa va asid)
  if kind = 1 then s else pcieDone s k 1 []

/-- Why the home of a physical address refuses an access, when it does not serve (06 R170, 11 R292). -/
def homeGone (s : State) (pa : Nat) : Option (Nat × Nat) :=
  let why : Nat → Option (Nat × Nat) := fun h => if homeAbsent s h then some (codeWhy (homeCode s h)) else none
  match place s pa with
  | .ddr a => why (12 + socketOf s a)
  | .hbm h _ => why h
  | _ => none

/-- Pages of extents. -/
def extPages (es : List Extent) : List (Nat × Nat) := es.flatMap (fun e => pagesF e.pa e.len (e.len / 4096 + 2))

/-- Reads of consecutive pieces. -/
def pcieRead (s : State) : List (Nat × Nat) → List Byte → Bool → Touch
  | [], bs, po => .ok s bs po
  | p :: ps, bs, po => match pieceRead s p.1 p.2 with
    | .ok s b q => pcieRead s ps (bs ++ b) (po || q)
    | .bad s r d => .bad s r d

/-- Writes of consecutive pieces. -/
def pcieWrite (s : State) : List (Nat × Nat) → List Byte → State
  | [], _ => s
  | p :: ps, bs =>
    let s := match place s p.1 with
      | .spad d b o al =>
        match blockRefusal s d b, accCheck s d b 4 0 (al + 1) o p.2 with
        | some _, _ => s
        | none, some r => recordViol s d b 4 0 (al + 1) r.2.1 r.2.2
        | none, none => memWriteAt s (spadAddr d b o) (aliasMix (al + 1) (spadBytes s d b o p.2) (bs.take p.2))
      | _ => memWrite (touchSkt s p.1) p.1 (bs.take p.2)
    pcieWrite s ps (bs.drop p.2)

/-- An AtomicOp, always near (11 R288): `op` of R287 with `n` bytes at a physical address. One to a scratchpad or a control window is refused
with RIGHTS. -/
def pcieAtom (s : State) (k va asid op n pa : Nat) (data : List Byte) : State :=
  let fail := pcieFail s k 2 va asid
  match place s pa with
  | .spad _ _ _ _ => fail Rsn.RIGHTS 0x05
  | .ctrl _ _ => fail Rsn.RIGHTS 0xC0
  | .unassigned => fail Rsn.RIGHTS 0xC0
  | .beyond => fail Rsn.RIGHTS 0xC0
  | _ =>
    let size := n / 4 - 1
    let x := leNat (data.take n)
    let y := leNat ((data.drop n).take n)
    let h := lineHome s (home s pa / 128)
    atHome s { atomReq s h (48 + k) pa 4096 7 op size x y 0 with data := xltData pa va asid }

/-- PCIE_REQUEST. ASID 0 names no address space and is refused (10 R254, R273). `kind`: 0 read, 1 posted write, 2 + an operation of 11 R287 for an AtomicOp, 12 an ATS or page request. `va` is the address,
`len` its bytes, `data` what a write stores or an AtomicOp's operands. A read leaves the read-ahead buffer empty (11 R291). -/
def execPcieRequest (k : Key) (pasid : Option (BitVec 20)) (va : BitVec 64) (kind : Fin 13) (len : Nat) (data : List Byte) (s : State) : Out :=
  let u := 4 + k.val
  let asid := match pasid with | some p => p.toNat | none => fget s (Reg.XLT_PCIE_ASID u) 0 16
  let op := kind.val - 2
  if outOf s u || !isOn s (dKio k) || s.modx.perst.getD k false then .next s
  else if kind.val = 12 then .next (pcieDone s k 1 [])
  else if kind.val = 0 ∧ (len = 0 ∨ 4096 < len) ∨ kind.val = 1 ∧ (data.length = 0 ∨ 512 < data.length) then .refused .illFormed
  else if 2 ≤ kind.val ∧ ¬ (op = 0 ∨ op = 5 ∨ op = 6) then .next (pcieDone s k 1 [])
  else if 2 ≤ kind.val ∧ (len ≠ 4 ∧ len ≠ 8 ∨ va.toNat % len ≠ 0) then
    .next (pcieFail s k kind va.toNat asid Rsn.BAD_DESC 0xC1)
  else if 0xFFFF < asid ∨ asid = 0 then .next (pcieFail s k kind va.toNat asid Rsn.RIGHTS 0xB9)
  else
    let n := if kind.val = 1 then data.length else len
    let need := if kind.val = 0 then 1 else if kind.val = 1 then 3 else 7
    let t := xlatAll s u 3 asid true [(va.toNat, n, need)]
    let s := t.s
    if !bit s (Reg.XLT_CTRL u) 0 then .next (pcieFail s k kind va.toNat asid Rsn.RIGHTS 0xB9)
    else match t.bad with
      | some (a, b) => .next (pcieFail s k kind va.toNat asid a b t.met.1)
      | none =>
        let ps := extPages t.ext
        if t.miss ≠ [] then .next (pcieFail s k kind va.toNat asid Rsn.RIGHTS 0xB9)
        else if 2 ≤ kind.val then .next (pcieAtom s k va.toNat asid op n ((ps.headD (0, 0)).1) data)
        else if ps.any (fun p => match place s p.1 with | .ctrl _ _ => true | _ => false) then
          .next (pcieFail s k kind va.toNat asid Rsn.RIGHTS 0xB3)
        else match ps.findSome? (fun p => homeGone s p.1) with
          | some (a, b) => .next (pcieFail s k kind va.toNat asid a b ((ps.headD (0, 0)).1))
          | none =>
            if kind.val = 1 then .next (pcieWrite s ps data)
            else match pcieRead s ps [] false with
              | .bad s a b => .next (pcieFail s k kind va.toNat asid a b)
              | .ok s bs po =>
                let s := s.withRahead (tset raheadDef s.rahead (8 + k) [])
                .next (if po then pcieDone s k 2 [] else pcieDone s k 0 bs)

end Sys2Proof.Machine
end

