-- ==== Sys2Proof/Machine/Dispatch.lean ====
section
/-! DEFINITION. The meaning of each command: one arm per row of the command table. -/

namespace Sys2Proof.Machine

def exec (i : Instr) (s : State) : Host.Outcome State Fault Refusal :=
  match i with
  | .powerUp slot => Sys2Proof.Machine.execPowerUp slot s
  | .powerGood => Sys2Proof.Machine.execPowerGood s
  | .modEnFall => Sys2Proof.Machine.execModEnFall s
  | .modResetAssert ns => Sys2Proof.Machine.execModResetAssert ns s
  | .modResetRelease => Sys2Proof.Machine.execModResetRelease s
  | .inputHigh v => Sys2Proof.Machine.execInputHigh v s
  | .inputMargin v => Sys2Proof.Machine.execInputMargin v s
  | .inputNormal v => Sys2Proof.Machine.execInputNormal v s
  | .inputLow v => Sys2Proof.Machine.execInputLow v s
  | .refclkLoss d => Sys2Proof.Machine.execRefclkLoss d s
  | .pllUnlock u => Sys2Proof.Machine.execPllUnlock u s
  | .hwThermTrip => Sys2Proof.Machine.execHwThermTrip s
  | .thermalTrip u k t => Sys2Proof.Machine.execThermalTrip u k t s
  | .coolantWarm t => Sys2Proof.Machine.execCoolantWarm t s
  | .moduleCold => Sys2Proof.Machine.execModuleCold s
  | .moduleWarm => Sys2Proof.Machine.execModuleWarm s
  | .kcore ks slow => Sys2Proof.Machine.execKcore ks slow s
  | .kfull k => Sys2Proof.Machine.execKfull k s
  | .dieWarm d => Sys2Proof.Machine.execDieWarm d s
  | .dieCold d => Sys2Proof.Machine.execDieCold d s
  | .resetReqModuleWarm d target => Sys2Proof.Machine.execResetReqModuleWarm d target s
  | .resetReqKcore d target => Sys2Proof.Machine.execResetReqKcore d target s
  | .resetReqKfull d target => Sys2Proof.Machine.execResetReqKfull d target s
  | .resetReqDieWarm d target => Sys2Proof.Machine.execResetReqDieWarm d target s
  | .resetReqDieCold d target => Sys2Proof.Machine.execResetReqDieCold d target s
  | .romElection pass pos => Sys2Proof.Machine.execRomElection pass pos s
  | .bootStepDone good caps => Sys2Proof.Machine.execBootStepDone good caps s
  | .bootStepTimeout => Sys2Proof.Machine.execBootStepTimeout s
  | .positionCheck d j1 j2 kp => Sys2Proof.Machine.execPositionCheck d j1 j2 kp s
  | .pdRequestOn u dom => Sys2Proof.Machine.execPdRequestOn u dom s
  | .pdRequestOff u dom => Sys2Proof.Machine.execPdRequestOff u dom s
  | .pdQueueHead q => Sys2Proof.Machine.execPdQueueHead q s
  | .domainWakeDone dom => Sys2Proof.Machine.execDomainWakeDone dom s
  | .domainOffDone dom => Sys2Proof.Machine.execDomainOffDone dom s
  | .blockFence d n => Sys2Proof.Machine.execBlockFence d n s
  | .blockTest d n => Sys2Proof.Machine.execBlockTest d n s
  | .blockSelftestDone d n pass => Sys2Proof.Machine.execBlockSelftestDone d n pass s
  | .blockClearDone d n => Sys2Proof.Machine.execBlockClearDone d n s
  | .ctxEnable d n c => Sys2Proof.Machine.execCtxEnable d n c s
  | .ctxDisable d n c => Sys2Proof.Machine.execCtxDisable d n c s
  | .fpFlagsClear d n c v same sat => Sys2Proof.Machine.execFpFlagsClear d n c v same sat s
  | .violClear d n v same => Sys2Proof.Machine.execViolClear d n v same s
  | .spadRead d n m c off len => Sys2Proof.Machine.execSpadRead d n m c off len s
  | .spadWrite d n m c off data => Sys2Proof.Machine.execSpadWrite d n m c off data s
  | .spadSetWrite d n m c off data => Sys2Proof.Machine.execSpadSetWrite d n m c off data s
  | .spadClearWrite d n m c off data => Sys2Proof.Machine.execSpadClearWrite d n m c off data s
  | .opnd d n c => Sys2Proof.Machine.execOpnd d n c s
  | .mason d n c => Sys2Proof.Machine.execMason d n c s
  | .masonStart d n c => Sys2Proof.Machine.execMasonStart d n c s
  | .masonDone d n c => Sys2Proof.Machine.execMasonDone d n c s
  | .plumbCompareDone d => Sys2Proof.Machine.execPlumbCompareDone d s
  | .hod d n c => Sys2Proof.Machine.execHod d n c s
  | .hodDone d n c k => Sys2Proof.Machine.execHodDone d n c k s
  | .transferPlannedDone d n c k => Sys2Proof.Machine.execTransferPlannedDone d n c k s
  | .waitg d n c => Sys2Proof.Machine.execWaitg d n c s
  | .ctxWake d n c => Sys2Proof.Machine.execCtxWake d n c s
  | .signal d n c => Sys2Proof.Machine.execSignal d n c s
  | .loop d n c => Sys2Proof.Machine.execLoop d n c s
  | .fencew d n c => Sys2Proof.Machine.execFencew d n c s
  | .ctxEnd d n c => Sys2Proof.Machine.execCtxEnd d n c s
  | .add d n c => Sys2Proof.Machine.execAdd d n c s
  | .sub d n c => Sys2Proof.Machine.execSub d n c s
  | .mul d n c => Sys2Proof.Machine.execMul d n c s
  | .fma d n c => Sys2Proof.Machine.execFma d n c s
  | .div d n c => Sys2Proof.Machine.execDiv d n c s
  | .sqrt d n c => Sys2Proof.Machine.execSqrt d n c s
  | .min d n c => Sys2Proof.Machine.execMin d n c s
  | .max d n c => Sys2Proof.Machine.execMax d n c s
  | .minnum d n c => Sys2Proof.Machine.execMinnum d n c s
  | .maxnum d n c => Sys2Proof.Machine.execMaxnum d n c s
  | .cmpeq d n c => Sys2Proof.Machine.execCmpeq d n c s
  | .cmplt d n c => Sys2Proof.Machine.execCmplt d n c s
  | .cmple d n c => Sys2Proof.Machine.execCmple d n c s
  | .exp2 d n c => Sys2Proof.Machine.execExp2 d n c s
  | .log2 d n c => Sys2Proof.Machine.execLog2 d n c s
  | .tanh d n c => Sys2Proof.Machine.execTanh d n c s
  | .sigmoid d n c => Sys2Proof.Machine.execSigmoid d n c s
  | .erf d n c => Sys2Proof.Machine.execErf d n c s
  | .sinpi d n c => Sys2Proof.Machine.execSinpi d n c s
  | .cospi d n c => Sys2Proof.Machine.execCospi d n c s
  | .rsqrt d n c => Sys2Proof.Machine.execRsqrt d n c s
  | .vload d n c => Sys2Proof.Machine.execVload d n c s
  | .vstore d n c => Sys2Proof.Machine.execVstore d n c s
  | .vkey d n c => Sys2Proof.Machine.execVkey d n c s
  | .poolMax d n c => Sys2Proof.Machine.execPoolMax d n c s
  | .poolAvgAll d n c => Sys2Proof.Machine.execPoolAvgAll d n c s
  | .poolAvgValid d n c => Sys2Proof.Machine.execPoolAvgValid d n c s
  | .argmax d n c => Sys2Proof.Machine.execArgmax d n c s
  | .argmaxCont d n c => Sys2Proof.Machine.execArgmaxCont d n c s
  | .castAbsmax d n c => Sys2Proof.Machine.execCastAbsmax d n c s
  | .castDelayed d n c => Sys2Proof.Machine.execCastDelayed d n c s
  | .castDecode d n c => Sys2Proof.Machine.execCastDecode d n c s
  | .cvt d n c => Sys2Proof.Machine.execCvt d n c s
  | .vecDone d n c => Sys2Proof.Machine.execVecDone d n c s
  | .lintelRowArrive d n k g => Sys2Proof.Machine.execLintelRowArrive d n k g s
  | .lintelReleaseArrive d n c k count => Sys2Proof.Machine.execLintelReleaseArrive d n c k count s
  | .lintelIssueStart d n c k => Sys2Proof.Machine.execLintelIssueStart d n c k s
  | .plbEnable d v => Sys2Proof.Machine.execPlbEnable d v s
  | .plbDisable d => Sys2Proof.Machine.execPlbDisable d s
  | .ringDoorbell d r tail => Sys2Proof.Machine.execRingDoorbell d r tail s
  | .ringEnable d r v => Sys2Proof.Machine.execRingEnable d r v s
  | .ringDisable d r => Sys2Proof.Machine.execRingDisable d r s
  | .move d r => Sys2Proof.Machine.execMove d r s
  | .run d r => Sys2Proof.Machine.execRun d r s
  | .load d r => Sys2Proof.Machine.execLoad d r s
  | .loadDigestDone d r seq => Sys2Proof.Machine.execLoadDigestDone d r seq s
  | .unload d r => Sys2Proof.Machine.execUnload d r s
  | .abort d r => Sys2Proof.Machine.execAbort d r s
  | .powerOn d r => Sys2Proof.Machine.execPowerOn d r s
  | .powerOff d r => Sys2Proof.Machine.execPowerOff d r s
  | .fence d r => Sys2Proof.Machine.execFence d r s
  | .itemStart d r seq => Sys2Proof.Machine.execItemStart d r seq s
  | .runStart d r seq => Sys2Proof.Machine.execRunStart d r seq s
  | .runEnd d r seq => Sys2Proof.Machine.execRunEnd d r seq s
  | .itemComplete d r seq => Sys2Proof.Machine.execItemComplete d r seq s
  | .fbBatchIdleClose d => Sys2Proof.Machine.execFbBatchIdleClose d s
  | .fbResume d v => Sys2Proof.Machine.execFbResume d v s
  | .invRange u asid => Sys2Proof.Machine.execInvRange u asid s
  | .invAsid u asid => Sys2Proof.Machine.execInvAsid u asid s
  | .invAll u => Sys2Proof.Machine.execInvAll u s
  | .invAck u => Sys2Proof.Machine.execInvAck u s
  | .xltEnable u v => Sys2Proof.Machine.execXltEnable u v s
  | .xltDisable u => Sys2Proof.Machine.execXltDisable u s
  | .pcieRequest k pasid va kind len data => Sys2Proof.Machine.execPcieRequest k pasid va kind len data s
  | .ledgerPeriodEnd d draw temps ftg v => Sys2Proof.Machine.execLedgerPeriodEnd d draw temps ftg v s
  | .calendarSlotEnd d => Sys2Proof.Machine.execCalendarSlotEnd d s
  | .recalWindowEnd d => Sys2Proof.Machine.execRecalWindowEnd d s
  | .reserveExhausted d b => Sys2Proof.Machine.execReserveExhausted d b s
  | .sensorReport d src reads => Sys2Proof.Machine.execSensorReport d src reads s
  | .ldgEnable d => Sys2Proof.Machine.execLdgEnable d s
  | .ldgDisable d => Sys2Proof.Machine.execLdgDisable d s
  | .ldgModuleWrite v => Sys2Proof.Machine.execLdgModuleWrite v s
  | .ldgBudgetWrite d k v => Sys2Proof.Machine.execLdgBudgetWrite d k v s
  | .rowRepairStart h pc bank row => Sys2Proof.Machine.execRowRepairStart h pc bank row s
  | .rowRepairDone h => Sys2Proof.Machine.execRowRepairDone h s
  | .retireRequest h pc => Sys2Proof.Machine.execRetireRequest h pc s
  | .retireCopyStart h => Sys2Proof.Machine.execRetireCopyStart h s
  | .retireDone h => Sys2Proof.Machine.execRetireDone h s
  | .patrolScrubTick h ecc => Sys2Proof.Machine.execPatrolScrubTick h ecc s
  | .sktEvacuate n => Sys2Proof.Machine.execSktEvacuate n s
  | .sktOffline n => Sys2Proof.Machine.execSktOffline n s
  | .sktOnline n => Sys2Proof.Machine.execSktOnline n s
  | .sktStopDone n => Sys2Proof.Machine.execSktStopDone n s
  | .sktTrainDone n ok cap => Sys2Proof.Machine.execSktTrainDone n ok cap s
  | .sktClearDone n => Sys2Proof.Machine.execSktClearDone n s
  | .ftgEnable h => Sys2Proof.Machine.execFtgEnable h s
  | .ftgDisable h => Sys2Proof.Machine.execFtgDisable h s
  | .updateMomentum d r => Sys2Proof.Machine.execUpdateMomentum d r s
  | .updateAdaptive d r => Sys2Proof.Machine.execUpdateAdaptive d r s
  | .updateSigned d r => Sys2Proof.Machine.execUpdateSigned d r s
  | .reduce d r => Sys2Proof.Machine.execReduce d r s
  | .compressTopk d r => Sys2Proof.Machine.execCompressTopk d r s
  | .topkMerge d r => Sys2Proof.Machine.execTopkMerge d r s
  | .compressSign d r => Sys2Proof.Machine.execCompressSign d r s
  | .hash d r => Sys2Proof.Machine.execHash d r s
  | .scrub d r => Sys2Proof.Machine.execScrub d r s
  | .zero d r => Sys2Proof.Machine.execZero d r s
  | .ftgCommandStart h e => Sys2Proof.Machine.execFtgCommandStart h e s
  | .ftgCommandDone h e ecc => Sys2Proof.Machine.execFtgCommandDone h e ecc s
  | .fetchShared home line a tn ecc => Sys2Proof.Machine.execFetchShared home line a tn ecc s
  | .fetchOwned home line a tn ecc => Sys2Proof.Machine.execFetchOwned home line a tn ecc s
  | .ownHeld home line a tn ecc => Sys2Proof.Machine.execOwnHeld home line a tn ecc s
  | .fetchCopy home line a tn ecc => Sys2Proof.Machine.execFetchCopy home line a tn ecc s
  | .fetchClean home line a tn ecc => Sys2Proof.Machine.execFetchClean home line a tn ecc s
  | .putLine home line a tn data => Sys2Proof.Machine.execPutLine home line a tn data s
  | .putBytes home line a tn en data ecc => Sys2Proof.Machine.execPutBytes home line a tn en data ecc s
  | .atomHome home addr a tn op size x y ecc => Sys2Proof.Machine.execAtomHome home addr a tn op size x y ecc s
  | .probeShare a line req => Sys2Proof.Machine.execProbeShare a line req s
  | .probeYield a line req => Sys2Proof.Machine.execProbeYield a line req s
  | .probeDrop a line req => Sys2Proof.Machine.execProbeDrop a line req s
  | .probeCopy a line req => Sys2Proof.Machine.execProbeCopy a line req s
  | .probeFlush a line req => Sys2Proof.Machine.execProbeFlush a line req s
  | .snoopResponse home line a => Sys2Proof.Machine.execSnoopResponse home line a s
  | .writeBack home line a => Sys2Proof.Machine.execWriteBack home line a s
  | .homeQueueServe home line => Sys2Proof.Machine.execHomeQueueServe home line s
  | .deadNotice home a => Sys2Proof.Machine.execDeadNotice home a s
  | .reclaimDone home => Sys2Proof.Machine.execReclaimDone home s
  | .readaheadPurge e line len => Sys2Proof.Machine.execReadaheadPurge e line len s
  | .atomAdd a addr size x => Sys2Proof.Machine.execAtomAdd a addr size x s
  | .atomSmin a addr size x => Sys2Proof.Machine.execAtomSmin a addr size x s
  | .atomSmax a addr size x => Sys2Proof.Machine.execAtomSmax a addr size x s
  | .atomUmin a addr size x => Sys2Proof.Machine.execAtomUmin a addr size x s
  | .atomUmax a addr size x => Sys2Proof.Machine.execAtomUmax a addr size x s
  | .atomSwap a addr size x => Sys2Proof.Machine.execAtomSwap a addr size x s
  | .atomCas a addr size cmp x => Sys2Proof.Machine.execAtomCas a addr size cmp x s
  | .atomAnd a addr size x => Sys2Proof.Machine.execAtomAnd a addr size x s
  | .atomOr a addr size x => Sys2Proof.Machine.execAtomOr a addr size x s
  | .atomXor a addr size x => Sys2Proof.Machine.execAtomXor a addr size x s
  | .atomModeWrite u v => Sys2Proof.Machine.execAtomModeWrite u v s
  | .scopeG a addr len => Sys2Proof.Machine.execScopeG a addr len s
  | .bndEnable u j => Sys2Proof.Machine.execBndEnable u j s
  | .bndDisable u j => Sys2Proof.Machine.execBndDisable u j s
  | .bndRetrain u j => Sys2Proof.Machine.execBndRetrain u j s
  | .ts0Lock u j => Sys2Proof.Machine.execTs0Lock u j s
  | .laneTestDone u j good pol => Sys2Proof.Machine.execLaneTestDone u j good pol s
  | .propose u j t => Sys2Proof.Machine.execPropose u j t s
  | .confirm u j t => Sys2Proof.Machine.execConfirm u j t s
  | .narrowPropose u j t => Sys2Proof.Machine.execNarrowPropose u j t s
  | .narrowConfirm u j t => Sys2Proof.Machine.execNarrowConfirm u j t s
  | .epochTimeout u j => Sys2Proof.Machine.execEpochTimeout u j s
  | .narrowTimeout u j => Sys2Proof.Machine.execNarrowTimeout u j s
  | .flitReceive u j f low => Sys2Proof.Machine.execFlitReceive u j f low s
  | .partnerSilent u j => Sys2Proof.Machine.execPartnerSilent u j s
  | .retrainTimeout u j => Sys2Proof.Machine.execRetrainTimeout u j s
  | .absentNotice u dead => Sys2Proof.Machine.execAbsentNotice u dead s
  | .rejoin d => Sys2Proof.Machine.execRejoin d s
  | .admitDie d => Sys2Proof.Machine.execAdmitDie d s
  | .netPortEnable d n v => Sys2Proof.Machine.execNetPortEnable d n v s
  | .netPortDisable d n => Sys2Proof.Machine.execNetPortDisable d n s
  | .linkUp d n half => Sys2Proof.Machine.execLinkUp d n half s
  | .linkLost d n half => Sys2Proof.Machine.execLinkLost d n half s
  | .netWrite d r => Sys2Proof.Machine.execNetWrite d r s
  | .netRead d r => Sys2Proof.Machine.execNetRead d r s
  | .netSend d r => Sys2Proof.Machine.execNetSend d r s
  | .netRecv d r => Sys2Proof.Machine.execNetRecv d r s
  | .netReg d r => Sys2Proof.Machine.execNetReg d r s
  | .netDereg d r => Sys2Proof.Machine.execNetDereg d r s
  | .rawTx d r => Sys2Proof.Machine.execRawTx d r s
  | .flowSetOpen d r => Sys2Proof.Machine.execFlowSetOpen d r s
  | .flowSetReset d r => Sys2Proof.Machine.execFlowSetReset d r s
  | .flowSetClose d r => Sys2Proof.Machine.execFlowSetClose d r s
  | .nvme d r => Sys2Proof.Machine.execNvme d r s
  | .nvmeResponse d ctx data => Sys2Proof.Machine.execNvmeResponse d ctx data s
  | .roceSend d ctx psn ce seg held data => Sys2Proof.Machine.execRoceSend d ctx psn ce seg held data s
  | .roceWrite d ctx psn ce seg held va key len data => Sys2Proof.Machine.execRoceWrite d ctx psn ce seg held va key len data s
  | .roceReadRequest d ctx psn ce held va key len => Sys2Proof.Machine.execRoceReadRequest d ctx psn ce held va key len s
  | .roceReadResponse d ctx psn ce seg held data => Sys2Proof.Machine.execRoceReadResponse d ctx psn ce seg held data s
  | .roceAck d ctx psn => Sys2Proof.Machine.execRoceAck d ctx psn s
  | .roceNak d ctx psn code => Sys2Proof.Machine.execRoceNak d ctx psn code s
  | .cnp d ctx => Sys2Proof.Machine.execCnp d ctx s
  | .pollekData d ctx ce held pkt => Sys2Proof.Machine.execPollekData d ctx ce held pkt s
  | .pollekAck d ctx psn ece => Sys2Proof.Machine.execPollekAck d ctx psn ece s
  | .pollekNak d ctx psn => Sys2Proof.Machine.execPollekNak d ctx psn s
  | .exceptionFrame d n data => Sys2Proof.Machine.execExceptionFrame d n data s
  | .rxReserveAdmit d n => Sys2Proof.Machine.execRxReserveAdmit d n s
  | .rtoExpire d ctx => Sys2Proof.Machine.execRtoExpire d ctx s
  | .ackTimer d ctx => Sys2Proof.Machine.execAckTimer d ctx s
  | .netBoundExpire d r seq => Sys2Proof.Machine.execNetBoundExpire d r seq s
  | .chainSum d r => Sys2Proof.Machine.execChainSum d r s
  | .chainTopk d r => Sys2Proof.Machine.execChainTopk d r s
  | .chainSign d r => Sys2Proof.Machine.execChainSign d r s
  | .permute d r => Sys2Proof.Machine.execPermute d r s
  | .groupSet d r => Sys2Proof.Machine.execGroupSet d r s
  | .groupClose d r => Sys2Proof.Machine.execGroupClose d r s
  | .helloTimer d g => Sys2Proof.Machine.execHelloTimer d g s
  | .hello d ctx ce pkt => Sys2Proof.Machine.execHello d ctx ce pkt s
  | .redSum d ctx ce pkt => Sys2Proof.Machine.execRedSum d ctx ce pkt s
  | .redTopk d ctx ce pkt => Sys2Proof.Machine.execRedTopk d ctx ce pkt s
  | .redSign d ctx ce pkt => Sys2Proof.Machine.execRedSign d ctx ce pkt s
  | .gather d ctx ce pkt => Sys2Proof.Machine.execGather d ctx ce pkt s
  | .perm d ctx ce pkt => Sys2Proof.Machine.execPerm d ctx ce pkt s
  | .chainBoundExpire d r seq => Sys2Proof.Machine.execChainBoundExpire d r seq s
  | .plnStageWrite d k v => Sys2Proof.Machine.execPlnStageWrite d k v s
  | .idleClear d row => Sys2Proof.Machine.execIdleClear d row s
  | .wdogCtrlWrite k v => Sys2Proof.Machine.execWdogCtrlWrite k v s
  | .wdogKick k => Sys2Proof.Machine.execWdogKick k s
  | .wdogExpire k => Sys2Proof.Machine.execWdogExpire k s
  | .l2WritebackTimeout k cl => Sys2Proof.Machine.execL2WritebackTimeout k cl s
  | .keystoneReturned k => Sys2Proof.Machine.execKeystoneReturned k s
  | .attachEnable d => Sys2Proof.Machine.execAttachEnable d s
  | .attachClaim d v => Sys2Proof.Machine.execAttachClaim d v s
  | .attachFinish d v => Sys2Proof.Machine.execAttachFinish d v s
  | .attachRecordRewrite d => Sys2Proof.Machine.execAttachRecordRewrite d s
  | .holdReplay d => Sys2Proof.Machine.execHoldReplay d s
  | .holdDiscard d => Sys2Proof.Machine.execHoldDiscard d s
  | .holdDrainDone d => Sys2Proof.Machine.execHoldDrainDone d s
  | .holdStallResume d => Sys2Proof.Machine.execHoldStallResume d s
  | .fltEnable d v => Sys2Proof.Machine.execFltEnable d v s
  | .fltDisable d => Sys2Proof.Machine.execFltDisable d s
  | .fltRingEnable d r v => Sys2Proof.Machine.execFltRingEnable d r v s
  | .fltHeadWrite d r v => Sys2Proof.Machine.execFltHeadWrite d r v s
  | .overflowDrain d r => Sys2Proof.Machine.execOverflowDrain d r s
  | .fltFlagsClear d v same => Sys2Proof.Machine.execFltFlagsClear d v same s
  | .pkgSlotRequest u num => Sys2Proof.Machine.execPkgSlotRequest u num s
  | .recoverySlotGrant u num => Sys2Proof.Machine.execRecoverySlotGrant u num s
  | .recoveryActionDone u num ok => Sys2Proof.Machine.execRecoveryActionDone u num ok s
  | .recoveryTimeout u num => Sys2Proof.Machine.execRecoveryTimeout u num s
  | .ckpEnable d v => Sys2Proof.Machine.execCkpEnable d v s
  | .ckpDisable d => Sys2Proof.Machine.execCkpDisable d s
  | .point d r => Sys2Proof.Machine.execPoint d r s
  | .bed d r => Sys2Proof.Machine.execBed d r s
  | .unbed d r => Sys2Proof.Machine.execUnbed d r s
  | .verify d r => Sys2Proof.Machine.execVerify d r s
  | .adopt d r => Sys2Proof.Machine.execAdopt d r s
  | .holdupReady usable => Sys2Proof.Machine.execHoldupReady usable s
  | .persistentStoreStart usable => Sys2Proof.Machine.execPersistentStoreStart usable s
  | .persistentStoreDone usable => Sys2Proof.Machine.execPersistentStoreDone usable s
  | .imgUpdate => Sys2Proof.Machine.execImgUpdate s
  | .imgCheckDone => Sys2Proof.Machine.execImgCheckDone s
  | .imgRaiseSvn => Sys2Proof.Machine.execImgRaiseSvn s
  | .cntInc => Sys2Proof.Machine.execCntInc s
  | .sealExtend v => Sys2Proof.Machine.execSealExtend v s
  | .jrnlEnable d j v => Sys2Proof.Machine.execJrnlEnable d j v s
  | .jrnlDisable d j => Sys2Proof.Machine.execJrnlDisable d j s
  | .getCert ver tag data => Sys2Proof.Machine.execGetCert ver tag data s
  | .getMeasurements ver tag data => Sys2Proof.Machine.execGetMeasurements ver tag data s
  | .getSeal ver tag data => Sys2Proof.Machine.execGetSeal ver tag data s
  | .getTreatment ver tag data => Sys2Proof.Machine.execGetTreatment ver tag data s
  | .entdaa a => Sys2Proof.Machine.execEntdaa a s
  | .setEndpointId eid => Sys2Proof.Machine.execSetEndpointId eid s
  | .getEndpointId => Sys2Proof.Machine.execGetEndpointId s
  | .getMctpVersionSupport typ => Sys2Proof.Machine.execGetMctpVersionSupport typ s
  | .getMessageTypeSupport => Sys2Proof.Machine.execGetMessageTypeSupport s
  | .getStatus ver tag data => Sys2Proof.Machine.execGetStatus ver tag data s
  | .mgmtReset ver tag data => Sys2Proof.Machine.execMgmtReset ver tag data s
  | .setBudget ver tag data => Sys2Proof.Machine.execSetBudget ver tag data s
  | .getFatal ver tag data => Sys2Proof.Machine.execGetFatal ver tag data s
  | .locate ver tag data => Sys2Proof.Machine.execLocate ver tag data s
  | .registerWrite pcie a size v => Sys2Proof.Machine.execRegisterWrite pcie a size v s
  | .pllLock u => Sys2Proof.Machine.execPllLock u s
  | .uncorrectableStateError t k j => Sys2Proof.Machine.execUncorrectableStateError t k j s
  | .hbmLaneFault h pc => Sys2Proof.Machine.execHbmLaneFault h pc s
  | .widthTicketSend u j => Sys2Proof.Machine.execWidthTicketSend u j s
  | .imgReadbackDone => Sys2Proof.Machine.execImgReadbackDone s
  | .groupSetBoundExpire d r seq => Sys2Proof.Machine.execGroupSetBoundExpire d r seq s
  | .stalledItemBoundExpire d r seq => Sys2Proof.Machine.execStalledItemBoundExpire d r seq s
  | .loReadLatch a => Sys2Proof.Machine.execLoReadLatch a s

end Sys2Proof.Machine
end

