-- ==== Sys2Proof/Machine/Tx.lean ====
section
/-! DEFINITION. The messages that the units have sent, in the queues of the Bond joints, and a flit time of every joint (11 R282, 12 R303, R312). -/

namespace Sys2Proof.Machine

/-- Units in service. -/
def liveUnits (s : State) : List Nat := (List.range 6).filter (fun u => !outOf s u)
/-- Every unit in service tells every other. -/
def toAll (s : State) (srcs : List Nat) : List (Nat × Nat) :=
  srcs.flatMap (fun u => ((liveUnits s).filter (· ≠ u)).map (fun v => (u, v)))

/-- Source and destination units of an MGT message (11 R290, R294; 12 R316, R318; 16 R400). -/
def mgtEnds (s : State) : List Nat → List (Nat × Nat)
  | [1, _, _] => toAll s (liveUnits s)
  | [2, a, _] => toAll s (if outOf s (agentUnit a) then liveUnits s else [agentUnit a])
  | [3, u, _] => [(u, cornerstone s)]
  | [4, u, _] => [(cornerstone s, u)]
  | [5, u, v] => [(u, v)]
  | [6, u, c] => [(u, c)]
  | [7, _, _] => toAll s [cornerstone s]
  | [9, _, _, u] => toAll s [u]
  | [10, e, l] => [(if e < 8 then e / 2 else e - 4, homeUnit (lineHome s l))]
  | _ => []

/-- Class of a coherence message (11 R282). -/
def cohClass (code : Nat) (data : List Byte) : Nat := if code < 5 then 1 else if code = 16 then 0 else if data.isEmpty then 2 else 3

/-- The messages over the joints that a sent message stands for: the units and the message, numbered `tn`. -/
def onJoints (s : State) (m : Msg) (tn : Nat) : List TxMsg :=
  match m.kind, m.args with
  | .coherence, [code, _, f, d] =>
    let src := if 64 ≤ f then agentUnit (f - 64) else homeUnit f
    let dst := if 16 ≤ code then homeUnit d else agentUnit d
    [⟨cohClass code m.data, if cohClass code m.data = 3 then 128 else 0, dst, src, tn, false, m.data⟩]
  | .mgt, as => (mgtEnds s as).map (fun p => ⟨5, 0, p.2, p.1, tn, false, []⟩)
  | .bulk, [src, dst, n] => [⟨4, n, dst, src, tn, false, []⟩]
  | _, _ => []

/-- Messages sent since the last flit time are queued at the joint their route leaves by, in the order they were sent. -/
def queueMsgs (s : State) : State :=
  let new := (s.sent.take (s.sent.length - s.txSeen)).reverse.zipIdx
  let t := new.foldl (fun t p => (onJoints s p.1 ((s.txSeen + p.2) % 4096)).foldl (fun t m => if m.src = m.dst then t else sendOn t m.src m) t) s
  t.withTxSeen t.sent.length

/-- Bytes a cycle that accepted items hold of a joint's direction out of unit `u` in the present slot of its calendar (09 R240 row 7). -/
def bulkRate (s : State) (u j : Nat) : Nat := resUsed s (resJoint u j 0) (ctl s u / 8750)

/-- One flit time of every ACTIVE joint end of the units in service. -/
def flitTimes (s : State) : State :=
  (liveUnits s).foldl (fun s u => (List.range 3).foldl (fun s j =>
    if bndState s u j = 4 then flitTime s u j (bulkRate s u j) else s) s) (queueMsgs s)

end Sys2Proof.Machine
end

