-- ==== Sys2Proof/Machine/Idle.lean ====
section
/-! DEFINITION. One CK_CTL cycle in which no command arrives (log entry 10): counters, watchdogs and idle counters (18 R437; 15 R370; 14
R359). -/

namespace Sys2Proof.Machine

/-- The root PLL of unit `u` is locked (18 R436, R437): from step 1 of the boot on. -/
def pllLocked (s : State) (u : Nat) : Bool := decide (1 ≤ fget s Reg.GLB_BOOT_STATUS 6 4) && !s.pllOff.contains u

/-- GLB_CTL_COUNT of each unit with a locked PLL rises by one (18 R437). -/
def tickCounters (s : State) : State :=
  (List.range 6).foldl (fun s u => if pllLocked s u then wrW s (Reg.GLB_CTL_COUNT_LO u) (rdW s (Reg.GLB_CTL_COUNT_LO u) + 1) else s) s

/-- Each armed watchdog counts a cycle (15 R370). -/
def tickWdog (s : State) : State :=
  (List.range 2).foldl (fun s k =>
    if bit s (Reg.GLB_HOST_WDOG_STATUS (4 + k)) 0 && pllLocked s (4 + k) then s.withWdog (tset natDef s.wdog k (tget natDef s.wdog k + 1))
    else s) s

/-- Accepted runs of a plan. -/
def runsOf (s : State) (p : Plan) : List Item := s.items.filter (fun i => i.die == p.die && i.opcode == 2 && i.obj == p.handle)

/-- A declared stage names the plan (14 R358). -/
def staged (s : State) (p : Plan) : Bool :=
  (List.range 16).any (fun i => bit s (Reg.PLN_STAGE p.die i) 20 && fget s (Reg.PLN_STAGE p.die i) 0 16 == p.handle)

/-- Plans that engage their placement: those with an accepted run, and declared stages. -/
def engaging (s : State) (d : Nat) : List Plan := s.plans.filter (fun p => p.die == d && (!(runsOf s p).isEmpty || staged s p))

/-- WAITING contexts of a die, as (Block, context). -/
def waiting (s : State) (d : Nat) : List (Nat × Nat) :=
  s.ctxx.filterMap (fun e =>
    if e.1 / 1152 = d ∧ ctxState s d (e.1 / 4 % 288) (e.1 % 4) = 4 then some (e.1 / 4 % 288, e.1 % 4) else none)

/-- Blocks that are ALLOC, engaged and issuing nothing: no context of theirs RUNNING (14 R359). -/
def idleBlocks (s : State) (d : Nat) : List Nat :=
  (((waiting s d).map (·.1)) ++ (engaging s d).flatMap (fun p => p.place.map (·.1))).eraseDups.filter (fun n =>
    blkState s d n == 0 && (List.range 4).all (fun c => ctxState s d n c != 3))

/-- The cause that an idle Block counts, the first that applies (14 R359): 5 FAULT, the WAIT_CAUSE of the WAITING context whose run began
earliest, 7 PLAN_LOAD, 8 BUBBLE, 4 ENERGY, 3 ADMIT. -/
def idleCause (s : State) (d n : Nat) : Option Nat :=
  let ps := (engaging s d).filter (fun p => p.place.any (fun b => b.1 == n))
  let rs := ps.flatMap (runsOf s)
  let ws := (waiting s d).filter (fun w => w.1 == n)
  let touched := ps.any (fun p => !(runsOf s p).isEmpty && p.place.any (fun b =>
    blkState s d b.1 != 0 || recovering s (.course d (b.1 / 18))))
  if touched then some 5
  else match ws with
    | w :: rest =>
      let first := rest.foldl (fun a b => if (ctxX s d n b.2).began < (ctxX s d n a.2).began then b else a) w
      some (fget s (Reg.BLK_CTX_STATUS d n first.2) 24 4)
    | [] =>
      if ps.any (fun p => p.place.any (fun b => b.1 == n && ctxState s d n b.2 == 1)) then some 7
      else if rs.any (fun i => !i.started && decide (i.start ≤ ctl s d)) || rs.isEmpty then some 8
      else if rs.any (fun i => !i.started && i.eMoved) then some 4
      else if rs.any (fun i => !i.started) then some 3
      else none

/-- Causes that the row of a die counts, more than one at once (14 R359): 3 ADMIT, 1 PEER, 6 HOST, 5 FAULT. -/
def dieCauses (s : State) (d : Nat) : List Nat :=
  let mine := s.items.filter (fun i => i.die == d)
  let wait := s.ringx.any (fun e => decide (e.1 / 2048 = d) && !e.2.obs.isEmpty && !e.2.parked && ringState s d (e.1 % 2048) == 1 &&
    (e.2.waits || !canServe s d (e.1 % 2048)))
  (if wait then [3] else []) ++
  (if mine.any (fun i => decide (0x29 ≤ i.opcode ∧ i.opcode ≤ 0x2C) && i.started) then [1] else []) ++
  (if (pausedRings s d).any (fun p => p.2 == Rsn.HOST_ABSENT) then [6] else []) ++
  (if mine.any (fun i => s.recov.any (fun r => i.uses.any r.dom.pds)) then [5] else [])

/-- An idle counter of a row rises by the CK_ARITH cycles of one CK_CTL cycle. -/
def idleAdd (s : State) (d c k : Nat) : State := wrW s (idleReg d c k) (rdW s (idleReg d c k) + 2)

/-- The idle counters of a die in service whose Mortar is ON. A load that waits for a WAKING Course counts PLAN_LOAD in that Course's row, once a
cycle (03 R103; DESIGN CHOICE, log entry 161). -/
def tickIdle (s : State) (d : Nat) : State :=
  if outOf s d || !mortarOn s d then s
  else
    let s := if s.items.any (fun i => i.die == d && i.opcode == 3 && i.phase == 2) then
        ((List.range 16).filter (fun c => pd s (dCourse d c) == 1)).foldl (fun t c => idleAdd t d c 7) s
      else s
    let s := (idleBlocks s d).foldl (fun t n => match idleCause s d n with
      | some k => if k < 9 then idleAdd t d (n / 18) k else t
      | none => t) s
    (dieCauses s d).foldl (fun t k => idleAdd t d 16 k) s

/-- One CK_CTL cycle without a command: posted register writes take effect, the counters advance, and each ACTIVE joint has one flit time (log entries
172, 174). -/
def idleCycle (s : State) : State := flitTimes ((List.range 4).foldl tickIdle (tickWdog (tickCounters (drainRegs s))))

end Sys2Proof.Machine
end

