-- ==== Sys2Proof/Machine/Step.lean ====
section
/-! DEFINITION. One step: the command at the front of the queue, or one idle CK_CTL cycle. -/

namespace Sys2Proof.Machine

/-- A step takes the front command and runs it with the queue's rest; on an empty queue one CK_CTL cycle passes
(18 R437; DESIGN CHOICE, log entry 10). -/
def step (s : State) : Host.Outcome State Fault Refusal :=
  match s.pending with
  | [] => .next (idleCycle s)
  | c :: cs => exec c (s.withPending cs)

/-- The command that a word spells put at the front of the queue; the table gives no row bits, so no word spells one. -/
def State.withFetchWord (s : State) (nbits w : Nat) : State :=
  match decodeTableWord nbits w with
  | some c => s.withPending (c :: s.pending)
  | none => s

end Sys2Proof.Machine
end

