-- ==== Sys2Proof/WellFormed.lean ====
section
/-! DEFINITION. Which commands a sender can form: the lengths that a rule's field or transfer can hold (03 R95, 11 R286, 12 R306, 15 R365), the
windows that exist (21 R500), and the units that a state error can name (16 R396). -/

namespace Sys2Proof

/-- The command's operands are ones a sender can form. -/
def Instr.wf : Instr → Bool
  | .powerUp _ => true
  | .powerGood => true
  | .modEnFall => true
  | .modResetAssert _ => true
  | .modResetRelease => true
  | .inputHigh _ => true
  | .inputMargin _ => true
  | .inputNormal _ => true
  | .inputLow _ => true
  | .refclkLoss _ => true
  | .pllUnlock _ => true
  | .hwThermTrip => true
  | .thermalTrip _ _ _ => true
  | .coolantWarm _ => true
  | .moduleCold => true
  | .moduleWarm => true
  | .kcore _ _ => true
  | .kfull _ => true
  | .dieWarm _ => true
  | .dieCold _ => true
  | .resetReqModuleWarm _ _ => true
  | .resetReqKcore _ _ => true
  | .resetReqKfull _ _ => true
  | .resetReqDieWarm _ _ => true
  | .resetReqDieCold _ _ => true
  | .romElection _ _ => true
  | .bootStepDone _ _ => true
  | .bootStepTimeout => true
  | .positionCheck _ _ _ _ => true
  | .pdRequestOn u _ => decide (u.val ≠ 6 ∧ u.val ≠ 7)
  | .pdRequestOff u _ => decide (u.val ≠ 6 ∧ u.val ≠ 7)
  | .pdQueueHead _ => true
  | .domainWakeDone _ => true
  | .domainOffDone _ => true
  | .blockFence _ _ => true
  | .blockTest _ _ => true
  | .blockSelftestDone _ _ _ => true
  | .blockClearDone _ _ => true
  | .ctxEnable _ _ _ => true
  | .ctxDisable _ _ _ => true
  | .fpFlagsClear _ _ _ _ _ _ => true
  | .violClear _ _ _ _ => true
  | .spadRead _ _ _ _ _ len => decide (1 ≤ len ∧ len ≤ 256)
  | .spadWrite _ _ _ _ _ data => decide (1 ≤ data.length ∧ data.length ≤ 256)
  | .spadSetWrite _ _ _ _ _ data => decide (1 ≤ data.length ∧ data.length ≤ 256)
  | .spadClearWrite _ _ _ _ _ data => decide (1 ≤ data.length ∧ data.length ≤ 256)
  | .opnd _ _ _ => true
  | .mason _ _ _ => true
  | .masonStart _ _ _ => true
  | .masonDone _ _ _ => true
  | .plumbCompareDone _ => true
  | .hod _ _ _ => true
  | .hodDone _ _ _ _ => true
  | .transferPlannedDone _ _ _ _ => true
  | .waitg _ _ _ => true
  | .ctxWake _ _ _ => true
  | .signal _ _ _ => true
  | .loop _ _ _ => true
  | .fencew _ _ _ => true
  | .ctxEnd _ _ _ => true
  | .add _ _ _ => true
  | .sub _ _ _ => true
  | .mul _ _ _ => true
  | .fma _ _ _ => true
  | .div _ _ _ => true
  | .sqrt _ _ _ => true
  | .min _ _ _ => true
  | .max _ _ _ => true
  | .minnum _ _ _ => true
  | .maxnum _ _ _ => true
  | .cmpeq _ _ _ => true
  | .cmplt _ _ _ => true
  | .cmple _ _ _ => true
  | .exp2 _ _ _ => true
  | .log2 _ _ _ => true
  | .tanh _ _ _ => true
  | .sigmoid _ _ _ => true
  | .erf _ _ _ => true
  | .sinpi _ _ _ => true
  | .cospi _ _ _ => true
  | .rsqrt _ _ _ => true
  | .vload _ _ _ => true
  | .vstore _ _ _ => true
  | .vkey _ _ _ => true
  | .poolMax _ _ _ => true
  | .poolAvgAll _ _ _ => true
  | .poolAvgValid _ _ _ => true
  | .argmax _ _ _ => true
  | .argmaxCont _ _ _ => true
  | .castAbsmax _ _ _ => true
  | .castDelayed _ _ _ => true
  | .castDecode _ _ _ => true
  | .cvt _ _ _ => true
  | .vecDone _ _ _ => true
  | .lintelRowArrive _ _ _ _ => true
  | .lintelReleaseArrive _ _ _ _ _ => true
  | .lintelIssueStart _ _ _ _ => true
  | .plbEnable _ _ => true
  | .plbDisable _ => true
  | .ringDoorbell _ _ _ => true
  | .ringEnable _ _ _ => true
  | .ringDisable _ _ => true
  | .move _ _ => true
  | .run _ _ => true
  | .load _ _ => true
  | .loadDigestDone _ _ _ => true
  | .unload _ _ => true
  | .abort _ _ => true
  | .powerOn _ _ => true
  | .powerOff _ _ => true
  | .fence _ _ => true
  | .itemStart _ _ _ => true
  | .runStart _ _ _ => true
  | .runEnd _ _ _ => true
  | .itemComplete _ _ _ => true
  | .fbBatchIdleClose _ => true
  | .fbResume _ _ => true
  | .invRange _ _ => true
  | .invAsid _ _ => true
  | .invAll _ => true
  | .invAck _ => true
  | .xltEnable _ _ => true
  | .xltDisable _ => true
  | .pcieRequest _ _ _ kind len data =>
    decide ((kind.val = 0 → 1 ≤ len ∧ len ≤ 4096) ∧ (kind.val = 1 → 1 ≤ data.length ∧ data.length ≤ 512))
  | .ledgerPeriodEnd _ _ _ _ _ => true
  | .calendarSlotEnd _ => true
  | .recalWindowEnd _ => true
  | .reserveExhausted _ _ => true
  | .sensorReport _ _ _ => true
  | .ldgEnable _ => true
  | .ldgDisable _ => true
  | .ldgModuleWrite _ => true
  | .ldgBudgetWrite _ _ _ => true
  | .rowRepairStart _ _ _ _ => true
  | .rowRepairDone _ => true
  | .retireRequest _ _ => true
  | .retireCopyStart _ => true
  | .retireDone _ => true
  | .patrolScrubTick _ _ => true
  | .sktEvacuate _ => true
  | .sktOffline _ => true
  | .sktOnline _ => true
  | .sktStopDone _ => true
  | .sktTrainDone _ _ _ => true
  | .sktClearDone _ => true
  | .ftgEnable _ => true
  | .ftgDisable _ => true
  | .updateMomentum _ _ => true
  | .updateAdaptive _ _ => true
  | .updateSigned _ _ => true
  | .reduce _ _ => true
  | .compressTopk _ _ => true
  | .topkMerge _ _ => true
  | .compressSign _ _ => true
  | .hash _ _ => true
  | .scrub _ _ => true
  | .zero _ _ => true
  | .ftgCommandStart _ _ => true
  | .ftgCommandDone _ _ _ => true
  | .fetchShared _ _ _ _ _ => true
  | .fetchOwned _ _ _ _ _ => true
  | .ownHeld _ _ _ _ _ => true
  | .fetchCopy _ _ _ _ _ => true
  | .fetchClean _ _ _ _ _ => true
  | .putLine _ _ _ _ data => decide (data.length = 128)
  | .putBytes _ _ _ _ _ data _ => decide (data.length = 128)
  | .atomHome _ _ _ _ _ _ _ _ _ => true
  | .probeShare _ _ _ => true
  | .probeYield _ _ _ => true
  | .probeDrop _ _ _ => true
  | .probeCopy _ _ _ => true
  | .probeFlush _ _ _ => true
  | .snoopResponse _ _ _ => true
  | .writeBack _ _ _ => true
  | .homeQueueServe _ _ => true
  | .deadNotice _ _ => true
  | .reclaimDone _ => true
  | .readaheadPurge _ _ _ => true
  | .atomAdd _ _ _ _ => true
  | .atomSmin _ _ _ _ => true
  | .atomSmax _ _ _ _ => true
  | .atomUmin _ _ _ _ => true
  | .atomUmax _ _ _ _ => true
  | .atomSwap _ _ _ _ => true
  | .atomCas _ _ _ _ _ => true
  | .atomAnd _ _ _ _ => true
  | .atomOr _ _ _ _ => true
  | .atomXor _ _ _ _ => true
  | .atomModeWrite _ _ => true
  | .scopeG _ _ _ => true
  | .bndEnable _ _ => true
  | .bndDisable _ _ => true
  | .bndRetrain _ _ => true
  | .ts0Lock _ _ => true
  | .laneTestDone _ _ _ _ => true
  | .propose _ _ _ => true
  | .confirm _ _ _ => true
  | .narrowPropose _ _ _ => true
  | .narrowConfirm _ _ _ => true
  | .epochTimeout _ _ => true
  | .narrowTimeout _ _ => true
  | .flitReceive _ _ f _ => decide (f.length = 256)
  | .partnerSilent _ _ => true
  | .retrainTimeout _ _ => true
  | .absentNotice _ _ => true
  | .rejoin _ => true
  | .admitDie _ => true
  | .netPortEnable _ _ _ => true
  | .netPortDisable _ _ => true
  | .linkUp _ _ _ => true
  | .linkLost _ _ _ => true
  | .netWrite _ _ => true
  | .netRead _ _ => true
  | .netSend _ _ => true
  | .netRecv _ _ => true
  | .netReg _ _ => true
  | .netDereg _ _ => true
  | .rawTx _ _ => true
  | .flowSetOpen _ _ => true
  | .flowSetReset _ _ => true
  | .flowSetClose _ _ => true
  | .nvme _ _ => true
  | .nvmeResponse _ _ _ => true
  | .roceSend _ _ _ _ _ _ _ => true
  | .roceWrite _ _ _ _ _ _ _ _ _ _ => true
  | .roceReadRequest _ _ _ _ _ _ _ _ => true
  | .roceReadResponse _ _ _ _ _ _ _ => true
  | .roceAck _ _ _ => true
  | .roceNak _ _ _ _ => true
  | .cnp _ _ => true
  | .pollekData _ _ _ _ _ => true
  | .pollekAck _ _ _ _ => true
  | .pollekNak _ _ _ => true
  | .exceptionFrame _ _ _ => true
  | .rxReserveAdmit _ _ => true
  | .rtoExpire _ _ => true
  | .ackTimer _ _ => true
  | .netBoundExpire _ _ _ => true
  | .chainSum _ _ => true
  | .chainTopk _ _ => true
  | .chainSign _ _ => true
  | .permute _ _ => true
  | .groupSet _ _ => true
  | .groupClose _ _ => true
  | .helloTimer _ _ => true
  | .hello _ _ _ _ => true
  | .redSum _ _ _ _ => true
  | .redTopk _ _ _ _ => true
  | .redSign _ _ _ _ => true
  | .gather _ _ _ _ => true
  | .perm _ _ _ _ => true
  | .chainBoundExpire _ _ _ => true
  | .plnStageWrite _ _ _ => true
  | .idleClear _ _ => true
  | .wdogCtrlWrite _ _ => true
  | .wdogKick _ => true
  | .wdogExpire _ => true
  | .l2WritebackTimeout _ _ => true
  | .keystoneReturned _ => true
  | .attachEnable _ => true
  | .attachClaim _ _ => true
  | .attachFinish _ _ => true
  | .attachRecordRewrite _ => true
  | .holdReplay _ => true
  | .holdDiscard _ => true
  | .holdDrainDone _ => true
  | .holdStallResume _ => true
  | .fltEnable _ _ => true
  | .fltDisable _ => true
  | .fltRingEnable _ _ _ => true
  | .fltHeadWrite _ _ _ => true
  | .overflowDrain _ _ => true
  | .fltFlagsClear _ _ _ => true
  | .pkgSlotRequest _ _ => true
  | .recoverySlotGrant _ _ => true
  | .recoveryActionDone _ _ _ => true
  | .recoveryTimeout _ _ => true
  | .ckpEnable _ _ => true
  | .ckpDisable _ => true
  | .point _ _ => true
  | .bed _ _ => true
  | .unbed _ _ => true
  | .verify _ _ => true
  | .adopt _ _ => true
  | .holdupReady _ => true
  | .persistentStoreStart _ => true
  | .persistentStoreDone _ => true
  | .imgUpdate => true
  | .imgCheckDone => true
  | .imgRaiseSvn => true
  | .cntInc => true
  | .sealExtend _ => true
  | .jrnlEnable _ _ _ => true
  | .jrnlDisable _ _ => true
  | .getCert _ _ _ => true
  | .getMeasurements _ _ _ => true
  | .getSeal _ _ _ => true
  | .getTreatment _ _ _ => true
  | .entdaa _ => true
  | .setEndpointId _ => true
  | .getEndpointId => true
  | .getMctpVersionSupport _ => true
  | .getMessageTypeSupport => true
  | .getStatus _ _ _ => true
  | .mgmtReset _ _ _ => true
  | .setBudget _ _ _ => true
  | .getFatal _ _ _ => true
  | .locate _ _ _ => true
  | .registerWrite _ _ _ _ => true
  | .pllLock _ => true
  | .uncorrectableStateError t i j =>
    match t.val with
    | 0 => decide (i.val < 4)
    | 1 => decide (i.val < 4 ∧ j.val < 3)
    | 2 => true
    | 3 => decide (i.val < 4)
    | _ => decide (i.val < 2)
  | .hbmLaneFault _ _ => true
  | .widthTicketSend _ _ => true
  | .imgReadbackDone => true
  | .groupSetBoundExpire _ _ _ => true
  | .stalledItemBoundExpire _ _ _ => true
  | .loReadLatch _ => true

end Sys2Proof
end

