-- ==== Sys2Proof/Safety.lean ====
section
/-! DEFINITION. What a safe step is, and the forms that every step keeps. -/

namespace Sys2Proof.Machine

/-- The canonical form of the memory: addresses strictly rising, and no entry equal to what an unlisted address reads as. -/
def Memory.wf (m : List Host.Cell) : Bool := twf memDef m

/-- The canonical forms of the memory, the registers, the counters and the latches: equal contents are equal data. -/
structure State.Canon (s : State) : Prop where
  mem : Memory.wf s.mem = true
  regs : twf regDef s.regs = true
  wide : twf wideDef s.wide = true
  latch : twf latchDef s.latch = true

/-- A step answers a next state: it neither faults nor is refused. -/
def safeStep (s : State) : Prop := ∃ t, step s = .next t

/-- A run of `n` steps without a fault or a refusal. -/
def safeRun : Nat → State → Prop
  | 0, _ => True
  | n + 1, s => ∃ t, step s = .next t ∧ safeRun n t

/-- A register write through the window of unit `u` acts: the unit is in service, and a Footing's domain is not OFF (21 R503). -/
abbrev winOpen (s : State) (u : Nat) : Prop := winGone s u = false ∧ ¬ (8 ≤ u ∧ pd s (dFooting (u - 8)) = 0)

end Sys2Proof.Machine
end

