-- ==== Sys2Proof/Certificates/Slice0/Obligations.lean ====
section
/-! DEFINITION. The statements for the provers: that every command completes and with what effect, what the machine keeps at every
step, and rules of the spec on numbers, memory and storage. -/

open Sys2Proof Sys2Proof.Machine

/-- For every command c, every queue cs behind it and every state s, a step of s with the queue c followed by cs answers what exec of c answers
on s with the queue cs: the queue is first in, first out, and exec sees the rest of it. (opcode_table.json, INDEX.md) -/
def Obligations.StepRunsFront : Prop :=
  ∀ (c : Instr) (cs : List Instr) (s : State), step (s.withPending (c :: cs)) = exec c (s.withPending cs)

/-- POWER_UP with the management rail off brings the rails up, closes the switch, samples SLOT_ID, EN reads 1, and memories, items and store
requests are empty while the flash stays. POWER_GOOD with the rails up and MOD_RESET_N high sets REF_OK. MOD_EN falling in NORMAL or MARGIN
raises ABORTED 0xFE, turns every domain OFF and ends an update with the same codes; in LOW or HIGH only EN changes. MOD_RESET_N low for 10
µs or more is MODULE_COLD, at once or after the store in progress; below 1 µs nothing changes; its release is remembered. (R489, R491, R492,
R496) -/
def Obligations.PowerPinsComplete : Prop :=
  (∀ (slot : BitVec 6) (s : State),
      s.modx.rail = false → ∃ t, exec (.powerUp slot) s = .next t ∧ t.modx.rail = true ∧ t.modx.pkgRails = true ∧ t.modx.switch = true ∧ t.modx.powerGood = false ∧
      fget t Reg.GLB_MOD_STATUS 0 6 = slot.toNat ∧ bit t Reg.GLB_MOD_STATUS 6 = true ∧ t.mem = [] ∧ t.items = [] ∧ t.hup.queue = [] ∧ t.flash = s.flash) ∧
  (∀ (s : State),
      s.modx.rail = true → s.modx.pkgRails = true → s.modx.inReset = false → exec .powerGood s = .next (fset (s.withModx { s.modx with powerGood := true }) Reg.GLB_MOD_STATUS 7 1 1)) ∧
  (∀ (s : State),
      s.modx.rail = true → bit s Reg.GLB_MOD_STATUS 6 = true → fget s Reg.GLB_MOD_STATUS 13 2 = 1 ∨ fget s Reg.GLB_MOD_STATUS 13 2 = 2 → let t := allOff (moduleCause (fset s Reg.GLB_MOD_STATUS 6 1 0) Rsn.ABORTED 0xFE)
      exec .modEnFall s = .next (railCheck (if t.update.isSome then imgFail t Rsn.ABORTED 0xFE else t))) ∧
  (∀ (s : State),
      s.modx.rail = true → bit s Reg.GLB_MOD_STATUS 6 = true → fget s Reg.GLB_MOD_STATUS 13 2 = 0 ∨ fget s Reg.GLB_MOD_STATUS 13 2 = 3 → exec .modEnFall s = .next (fset s Reg.GLB_MOD_STATUS 6 1 0)) ∧
  (∀ (ns : Nat) (s : State),
      10000 ≤ ns → s.modx.rail = true → s.hup.cur = none → exec (.modResetAssert ns) s = .next (coldNow (s.withModx { s.modx with inReset := true }))) ∧
  (∀ (ns : Nat) (s : State),
      10000 ≤ ns → s.modx.rail = true → s.hup.cur.isSome → exec (.modResetAssert ns) s = .next ((s.withModx { s.modx with inReset := true }).withModx { s.modx with inReset := true, coldDue := true })) ∧
  (∀ (ns : Nat) (s : State),
      ns < 1000 → exec (.modResetAssert ns) s = .next s) ∧
  (∀ (s : State),
      exec .modResetRelease s = .next (s.withModx { s.modx with inReset := false }))

/-- With the management rail up: HIGH (above 66.00 V) raises ABORTED 0xF9 and, unless the store already is HOLDING, opens the switch and takes
the steps of R453; MARGIN (46.00 V up to below 50.00 V) sets its event flag, and its first period writes NOT_SCHEDULABLE 0xFA; NORMAL (50.00
to 66.00 V) records the band; LOW (below 46.00 V) makes the store HOLDING, raises ABORTED 0x0E, turns every domain OFF and ends an update
with HOLDUP_LOW 0x0F; the hardware trip turns the package rails off at L4; a coolant reading above 45 °C sets COOLANT_WARM and writes
NOT_SCHEDULABLE 0xFD. (R483, R453, R488, R498) -/
def Obligations.InputBandsComplete : Prop :=
  (∀ (v : BitVec 16) (s : State),
      6600 < v.toNat → s.modx.rail = true → let t := moduleCause (setBand (setInput s v.toNat) 3) Rsn.ABORTED 0xF9
      exec (.inputHigh v) s = .next (if holding t then t else railCheck (allOff (setHolding (t.withModx { t.modx with switch := false }))))) ∧
  (∀ (v : BitVec 16) (s : State),
      4600 ≤ v.toNat → v.toNat < 5000 → s.modx.rail = true → let t := modEvent (setBand (setInput s v.toNat) 2) 1
      exec (.inputMargin v) s = .next (if t.modx.marginTold then t else note (t.withModx { t.modx with marginTold := true }) (cornerstone t) Rsn.NOT_SCHEDULABLE 0xFA 13 0 [])) ∧
  (∀ (v : BitVec 16) (s : State),
      5000 ≤ v.toNat → v.toNat ≤ 6600 → s.modx.rail = true → let t := setBand (setInput s v.toNat) 1
      exec (.inputNormal v) s = .next (t.withModx { t.modx with marginTold := false })) ∧
  (∀ (v : BitVec 16) (s : State),
      v.toNat < 4600 → s.modx.rail = true → let t := setHolding (setBand (setInput s v.toNat) 0)
      let t := allOff (moduleCause t Rsn.ABORTED 0x0E)
      exec (.inputLow v) s = .next (railCheck (if t.update.isSome then imgFail t Rsn.HOLDUP_LOW 0x0F else t))) ∧
  (∀ (s : State),
      s.modx.rail = true → let t := if running s then fset (s.withModx { s.modx with tripN := true }) Reg.GLB_MOD_STATUS 10 1 1 else s
      exec .hwThermTrip s = .next (allOff (enterL4 (t.withModx { t.modx with pkgRails := false, powerGood := false })))) ∧
  (∀ (t : BitVec 11) (s : State),
      s.modx.rail = true → let u := fset s Reg.GLB_MOD_COOLANT 0 11 t.toNat
      exec (.coolantWarm t) s = .next (if t.toInt ≤ 180 then u else note (modEvent u 2) (cornerstone u) Rsn.NOT_SCHEDULABLE 0xFD 13 0 []))

/-- A root PLL that loses lock leaves its die out of service with DIE_ABSENT 0x0B at L3 recorded by the Cornerstone (by another die when it is
the Cornerstone's own); a lock makes a DIE_WARM that waits for it proceed; a die that reports the loss of the reference clears REF_OK, and
when all four have, the module takes ABORTED 0x0C; a sensor reading enters its register and from its TRIP limit on drives THERM_TRIP_N with
ABORTED 0x0D. (R436, R448) -/
def Obligations.ClockLossComplete : Prop :=
  (∀ (u : Unit6) (s : State),
      u.val ∉ s.pllOff → let t := s.withPllOff (kins u s.pllOff)
      let o := if cornerstone t = u.val then (otherDies t u).headD (cornerstone t) else cornerstone t
      exec (.pllUnlock u) s = .next (raise t (if u.val < 4 then ⟨o, Rsn.DIE_ABSENT, 0x0B, 3, 14, u, [], .ashlar u⟩
        else ⟨o, Rsn.DIE_ABSENT, 0x0B, 3, 11, u + 8 * 31, [], .keystone (u - 4)⟩) false)) ∧
  (∀ (u : Unit6) (s : State),
      let t := s.withPllOff (s.pllOff.filter (· ≠ u.val))
      exec (.pllLock u) s = .next (if t.resetQ.contains ⟨none, 4, u⟩ then dieWarm t u else t)) ∧
  (∀ (d : Die) (s : State),
      let t := fset (s.withModx { s.modx with refLost := kins d s.modx.refLost }) Reg.GLB_MOD_STATUS 7 1 0
      exec (.refclkLoss d) s = .next (if t.modx.refLost.length = 4 then raise t ⟨cornerstone t, Rsn.ABORTED, 0x0C, 4, 13, 0, [], .module⟩ false else t)) ∧
  (∀ (u : Fin 20) (i : Fin 24) (t : BitVec 11) (s : State),
      u.val < 4 → tq t < 4 * (256 + s.cfg.limits.getD 1 115) → exec (.thermalTrip u i t) s = .next (showTemps (fset s (Reg.GLB_TEMP u i) 0 11 t.toNat) u)) ∧
  (∀ (u : Fin 20) (i : Fin 24) (t : BitVec 11) (s : State),
      u.val < 4 → 4 * (256 + s.cfg.limits.getD 1 115) ≤ tq t → let r := showTemps (fset s (Reg.GLB_TEMP u i) 0 11 t.toNat) u
      let r := fset (r.withModx { r.modx with tripN := true }) Reg.GLB_MOD_STATUS 10 1 1
      exec (.thermalTrip u i t) s = .next (raise r ⟨cornerstone r, Rsn.ABORTED, 0x0D, 4, 13, 0, [], .module⟩ false)) ∧
  (∀ (u : Fin 20) (i : Fin 24) (t : BitVec 11) (s : State),
      8 ≤ u.val → let r := showTemps (fset s (Reg.FTG_TEMP u) 0 11 t.toNat) ((u - 8) / 3)
      let q := fset (r.withModx { r.modx with tripN := true }) Reg.GLB_MOD_STATUS 10 1 1
      exec (.thermalTrip u i t) s = .next (if tq t < 4 * (256 + s.cfg.limits.getD 3 105) then r
        else raise q ⟨cornerstone q, Rsn.ABORTED, 0x0D, 4, 13, 0, [], .module⟩ false))

/-- MODULE_COLD answers the state with every memory byte and item gone and the flash kept; MODULE_WARM, KCORE, KFULL, DIE_WARM and DIE_COLD
answer their reset of exactly the target; KFULL of a Keystone already ABSENT only leaves the queue; KEYSTONE_RETURNED ends a KFULL with the
six domains ON, the boot stores loaded, every hart at its start and the host RETURNED; a cluster that does not write back in time is
reclaimed. (R465, R467, R371, R376, R515) -/
def Obligations.ResetsComplete : Prop :=
  (∀ (s : State),
      exec (.moduleCold) s = .next (moduleCold s)) ∧
  (∀ (s : State),
      (moduleCold s).mem = [] ∧ (moduleCold s).items = [] ∧ (moduleCold s).flash = s.flash ∧ (moduleCold s).pending = s.pending) ∧
  (∀ (s : State),
      exec (.moduleWarm) s = .next (moduleWarm s)) ∧
  (∀ (ks : BitVec 2) (slow : BitVec 24) (s : State),
      let t := resetServed s 2 (fun (t : Nat) => (t == 4 && ks == 1) || (t == 5 && ks == 2) || (t == 6 && ks == 3))
      let u := if ks.getLsbD 0 then kcoreOne t 0 (slow.toNat % 4096) else t
      exec (.kcore ks slow) s = .next (if ks.getLsbD 1 then kcoreOne u 1 (slow.toNat / 4096) else u)) ∧
  (∀ (k : Key) (s : State),
      hostState (resetServed s 3 (fun t => t == 4 + k.val || t == 6)) k ≠ 2 → let t := resetServed s 3 (fun t => t == 4 + k.val || t == 6)
      let u := kfullReset (beginKfull (t.withL2busy (tset natDef t.l2busy k 0)) k) k
      exec (.kfull k) s = .next (if l4Due u then enterL4 u else u)) ∧
  (∀ (k : Key) (s : State),
      hostState (resetServed s 3 (fun t => t == 4 + k.val || t == 6)) k = 2 → exec (.kfull k) s = .next (resetServed s 3 (fun t => t == 4 + k.val || t == 6))) ∧
  (∀ (d : Die) (s : State),
      exec (.dieWarm d) s = .next (dieWarm s d)) ∧
  (∀ (d : Die) (s : State),
      exec (.dieCold d) s = .next (dieCold s d)) ∧
  (∀ (k : Key) (s : State),
      hostState s k = 2 → let t := (List.range 6).foldl (fun s i => setPd s (96 + 6 * k + i) 2) (kfullReset s k)
      let u := t.withAbsent (t.absent.filter (· ≠ 4 + k.val)) |>.withModx { t.modx with perst := t.modx.perst.set k false }
      exec (.keystoneReturned k) s = .next (agentsBack (homesChanged (bondEnable (setHost (hartsStart (loadBoot u k) k) k 3) (4 + k))))) ∧
  (∀ (k : Key) (cl : Fin 12) (s : State),
      (tget natDef s.l2busy k).testBit cl = true → let t := mgt (s.withL2busy (tset natDef s.l2busy k (tget natDef s.l2busy k - 2 ^ cl.val))) 2 (12 * k + cl) 0
      exec (.l2WritebackTimeout k cl) s = .next (if tget natDef t.l2busy k = 0 then kcoreFinish t k else t))

/-- A reset request through an open window is refused with STATE 0x85 while BUSY; with CFG_RANGE 0x8A for a TYPE or TARGET outside the table;
with STATE 0x85 for a KCORE or KFULL of a Keystone in a KFULL; else it is queued at the end of the Cornerstone queue and the register reads
BUSY. (R369, R383) -/
def Obligations.ResetRequestsComplete : Prop :=
  (∀ (d : Die) (target : BitVec 3) (s : State),
      winOpen s d → exec (.resetReqModuleWarm d target) s = .next (resetReq s d 1 target.toNat)) ∧
  (∀ (d : Die) (target : BitVec 3) (s : State),
      winOpen s d → exec (.resetReqKcore d target) s = .next (resetReq s d 2 target.toNat)) ∧
  (∀ (d : Die) (target : BitVec 3) (s : State),
      winOpen s d → exec (.resetReqKfull d target) s = .next (resetReq s d 3 target.toNat)) ∧
  (∀ (d : Die) (target : BitVec 3) (s : State),
      winOpen s d → exec (.resetReqDieWarm d target) s = .next (resetReq s d 4 target.toNat)) ∧
  (∀ (d : Die) (target : BitVec 3) (s : State),
      winOpen s d → exec (.resetReqDieCold d target) s = .next (resetReq s d 5 target.toNat)) ∧
  (∀ (d typ target : Nat) (s : State),
      bit s (Reg.GLB_RESET_CTRL d) 31 = true → resetReq s d typ target = setRD s (Reg.GLB_RESET_CTRL d) 8 Rsn.STATE 0x85) ∧
  (∀ (d typ target : Nat) (s : State),
      bit s (Reg.GLB_RESET_CTRL d) 31 = false → 4 ≤ typ ∧ typ ≤ 5 → target < 4 → resetReq s d typ target = fset (s.withResetQ (s.resetQ ++ [⟨some d, typ, target⟩])) (Reg.GLB_RESET_CTRL d) 31 1 1) ∧
  (∀ (d typ target : Nat) (s : State),
      bit s (Reg.GLB_RESET_CTRL d) 31 = false → 4 ≤ typ ∧ typ ≤ 5 → 4 ≤ target → resetReq s d typ target = setRD s (Reg.GLB_RESET_CTRL d) 8 Rsn.CFG_RANGE 0x8A) ∧
  (∀ (d typ target : Nat) (s : State),
      bit s (Reg.GLB_RESET_CTRL d) 31 = false → typ = 2 ∨ typ = 3 → target = 4 → hostState s 0 = 2 → resetReq s d typ target = setRD s (Reg.GLB_RESET_CTRL d) 8 Rsn.STATE 0x85)

/-- In step 1 the election answers the lowest POS of the dies in service that passed and whose POS no other die reported, every die holds the
POS it read (after a MODULE_WARM the POS it held), and the failed ones leave service; with power good and no stop, a finished step is the
next of R465, or the sequence restarts when the Cornerstone's die failed before step 5; a timeout is ABORTED 0xCC and stops the boot; a die
whose partners agree by more than half enters service, otherwise it is held, its domains off, and recorded DIE_ABSENT 0x49. (R464, R465,
R463, R37) -/
def Obligations.BootCommandsComplete : Prop :=
  (∀ (pass : BitVec 4) (pos : List (Fin 4)) (s : State),
      fget s Reg.GLB_BOOT_STATUS 6 4 = 1 → let ps := if s.modx.warm then heldPos s else pos
      let t := (ps.take 4).zipIdx.foldl (fun s p => samplePos s p.2 p.1) (s.withAbsent (((List.range 4).filter (fun d => !pass.getLsbD d)).foldl (fun l d => kins d l) s.absent))
      exec (.romElection pass pos) s = .next (match sortNat (((ps.zipIdx).filter (fun p => pass.getLsbD p.2 && !outOf s p.2 && (ps.filter (fun x => x == p.1)).length == 1)).map (fun p => p.1.val)) with
        | p :: _ => fset t Reg.GLB_BOOT_STATUS 3 3 p
        | [] => t)) ∧
  (∀ (good : BitVec 20) (caps : List (BitVec 10)) (s : State),
      s.modx.powerGood = true → s.modx.inReset = false → s.modx.faultN = false → fget s Reg.GLB_BOOT_STATUS 6 4 < 9 → exec (.bootStepDone good caps) s = .next (bootStep s (fget s Reg.GLB_BOOT_STATUS 6 4 + 1) good caps)) ∧
  (∀ (s : State),
      fget s Reg.GLB_BOOT_STATUS 6 4 ≠ 9 → exec (.bootStepTimeout) s = .next (bootStop (raise s ⟨cornerstone s, Rsn.ABORTED, 0xCC, 4, 13, 0, [], .module⟩ false))) ∧
  (∀ (d : Die) (j1 j2 kp : Option (Fin 4)) (s : State),
      fget s (Reg.GLB_DIE_IDENT d) 2 2 = 0 → (posVotes j1 j2 kp).length < 2 * ((posVotes j1 j2 kp).filter (fun p => p == fget s (Reg.GLB_DIE_IDENT d) 0 2)).length → exec (.positionCheck d j1 j2 kp) s = .next (fset s (Reg.GLB_DIE_IDENT d) 2 2 1)) ∧
  (∀ (d : Die) (s : State),
      fget s (Reg.GLB_DIE_IDENT d) 2 2 = 0 → let u := fset (holdDie (s.withAbsent (kins d s.absent)) d) (Reg.GLB_DIE_IDENT d) 2 2 3
      let t := recordAt u ⟨cornerstone u, Rsn.DIE_ABSENT, 0x49, 3, 14, d, leBytes 1 (fget s (Reg.GLB_DIE_IDENT d) 0 2) ++ leBytes 1 3, .ashlar d⟩ 3 0 0
      exec (.positionCheck d none none none) s = .next (if l4Due t then enterL4 t else t)) ∧
  (∀ (good : BitVec 20) (caps : List (BitVec 10)) (s : State),
      s.modx.powerGood = true → s.modx.inReset = false → s.modx.faultN = false → 1 ≤ fget s Reg.GLB_BOOT_STATUS 6 4 ∧ fget s Reg.GLB_BOOT_STATUS 6 4 ≤ 3 → good.getLsbD (cornerstone s) = false → (bootGood s good (if fget s Reg.GLB_BOOT_STATUS 6 4 = 2 then [cornerstone s] else [0, 1, 2, 3])).modx.l4 = false → exec (.bootStepDone good caps) s = .next (fset (bootGood s good (if fget s Reg.GLB_BOOT_STATUS 6 4 = 2 then [cornerstone s] else [0, 1, 2, 3])) Reg.GLB_BOOT_STATUS 6 4 1))

/-- A request through an open window is refused while BUSY, answered CFG_RANGE for a domain the window does not name, else queued at its
sequencer; the head of an idle sequencer's queue is refused with STATE under R42 (of a recovery: its fault LATE 0x4B), with STATE 0xAA when
an accepted item uses the domain, complete at once when the domain already is there, and otherwise starts its transition; a transition that
ends leaves the domain ON or OFF. (R43, R42, R44, R102, R41, R248) -/
def Obligations.PowerDomainsComplete : Prop :=
  (∀ (u : Fin 20) (dom : BitVec 7) (s : State),
      winOpen s u → ¬ (u.val = 6 ∨ u.val = 7) → exec (.pdRequestOn u dom) s = .next (pdRequest s u dom.toNat true)) ∧
  (∀ (u : Fin 20) (dom : BitVec 7) (s : State),
      winOpen s u → ¬ (u.val = 6 ∨ u.val = 7) → exec (.pdRequestOff u dom) s = .next (pdRequest s u dom.toNat false)) ∧
  (∀ (u dom : Nat) (on : Bool) (s : State),
      bit s (Reg.GLB_PD_CTRL u) 31 = true → pdRequest s u dom on = emit s .refusal [Rsn.STATE, 0] []) ∧
  (∀ (u dom : Nat) (on : Bool) (s : State),
      bit s (Reg.GLB_PD_CTRL u) 31 = false → winTakes u dom = false → pdRequest s u dom on = fset (fset s (Reg.GLB_PD_CTRL u) 0 7 dom) (Reg.GLB_PD_CTRL u) 16 8 Rsn.CFG_RANGE) ∧
  (∀ (u dom : Nat) (on : Bool) (s : State),
      bit s (Reg.GLB_PD_CTRL u) 31 = false → winTakes u dom = true → let t := fset s (Reg.GLB_PD_CTRL u) 0 7 dom
      let x := tget seqDef s.seqs (seqOf dom)
      pdRequest s u dom on = fset (t.withSeqs (tset seqDef s.seqs (seqOf dom) { x with queue := x.queue ++ [⟨dom, on, .ctrl u⟩] })) (Reg.GLB_PD_CTRL u) 31 1 1) ∧
  (∀ (q : Unit6) (r : PwrReq) (rs : List PwrReq) (s : State),
      tget seqDef s.seqs q = ⟨r :: rs, none⟩ → transOk s r.dom r.on = false → let t := s.withSeqs (tset seqDef s.seqs q ⟨rs, none⟩)
      exec (.pdQueueHead q) s = .next (match r.org with
        | .fault u num => (match recovOf t u num with
          | some v => raise t ⟨u, Rsn.LATE, 0x4B, v.dom.level, v.dom.src.1, v.dom.src.2, [], v.dom⟩ false
          | none => t)
        | _ => pwrDone t r Rsn.STATE 0)) ∧
  (∀ (q : Unit6) (r : PwrReq) (rs : List PwrReq) (s : State),
      tget seqDef s.seqs q = ⟨r :: rs, none⟩ → transOk s r.dom r.on = true → (pd s r.dom = (if r.on then 2 else 0)) → r.on = true ∨ committedTo s r.dom = false → exec (.pdQueueHead q) s = .next (pwrDone (s.withSeqs (tset seqDef s.seqs q ⟨rs, none⟩)) r 0 0)) ∧
  (∀ (q : Unit6) (r : PwrReq) (rs : List PwrReq) (s : State),
      tget seqDef s.seqs q = ⟨r :: rs, none⟩ → transOk s r.dom r.on = true → (pd s r.dom ≠ (if r.on then 2 else 0)) → r.on = true ∨ committedTo s r.dom = false → ∃ t, exec (.pdQueueHead q) s = .next t ∧ tget seqDef t.seqs q = ⟨rs, some r⟩) ∧
  (∀ (dom : Fin 120) (s : State),
      pd s dom = 1 → ∃ t, exec (.domainWakeDone dom) s = .next (transEnd (setPd t dom 2) dom) ∧ t.items = s.items) ∧
  (∀ (dom : Fin 120) (s : State),
      pd s dom = 3 → ¬ (108 ≤ dom.val) → ¬ (dom.val < 96 ∧ 20 ≤ dom.val % 24) → exec (.domainOffDone dom) s = .next (transEnd (setPd s dom 0) dom)) ∧
  (∀ (dom : Fin 120) (s : State),
      pd s dom = 3 → 108 ≤ dom.val → stackFaulted s (dom.val - 108) = false → exec (.domainOffDone dom) s = .next (transEnd (setPd (stackOff s (dom.val - 108)) dom 0) dom)) ∧
  (∀ (q : Unit6) (r : PwrReq) (rs : List PwrReq) (u : Nat) (s : State),
      tget seqDef s.seqs q = ⟨r :: rs, none⟩ → transOk s r.dom r.on = true → r.on = false ∧ r.org = .ctrl u → committedTo s r.dom = true → exec (.pdQueueHead q) s = .next (pwrDone (s.withSeqs (tset seqDef s.seqs q ⟨rs, none⟩)) r Rsn.STATE 0xAA)) ∧
  (∀ (dom : Fin 120) (s : State),
      pd s dom = 3 → dom.val < 96 ∧ 20 ≤ dom.val % 24 → exec (.domainOffDone dom) s = .next (transEnd (setPd (fset s (Reg.BND_STATUS (dom / 24) (dom % 24 - 20)) 0 8 0) dom 0) dom)) ∧
  (∀ (dom : Fin 120) (s : State),
      pd s dom = 3 → 108 ≤ dom.val → stackFaulted s (dom.val - 108) = true → exec (.domainOffDone dom) s = .next (transEnd (setPd (note (stackOff s (dom.val - 108)) ((dom.val - 108) / 3) Rsn.POISON 0x4A 3 (dom.val - 108) []) dom 0) dom))

/-- IMG_UPDATE within range and neither busy nor HOLDING starts VERIFYING the standby slot; refused otherwise with STATE 0xCB or CFG_RANGE 0xCD.
The check of the image in memory, its modified lines written back first, fails it with its codes or requests the erase; the read-back of the
written slot requests the final programming or fails with SEAL_MISMATCH 0xC8. Raising the counter requests one COUNTER store per unit or is
refused; CNT_INC requests one of counter 3; SEAL_EXTEND replaces a register 8-15 by SHA-384 of itself and the data, and refuses any other
index. (R469, R470, R471, R473) -/
def Obligations.ImageUpdateComplete : Prop :=
  (∀ (s : State),
      bit s Reg.GLB_IMG_CTRL 31 = false → s.update = none → holding s = false → 4096 ≤ (rd s Reg.GLB_IMG_LEN).toNat ∧ (rd s Reg.GLB_IMG_LEN).toNat ≤ 130023424 → imgSrc s % 4096 = 0 → let t := s.withUpdate (some ⟨1 - fget s Reg.GLB_BOOT_STATUS 0 1, imgSrc s, (rd s Reg.GLB_IMG_LEN).toNat, shippedImg, []⟩)
      exec (.imgUpdate) s = .next (setRD (fset (fset (fset t Reg.GLB_IMG_CTRL 31 1 1) Reg.GLB_IMG_CTRL 2 3 1) Reg.GLB_IMG_PROGRESS 0 11 0) Reg.GLB_IMG_CTRL 8 0 0)) ∧
  (∀ (s : State),
      bit s Reg.GLB_IMG_CTRL 31 = true → exec (.imgUpdate) s = .next (imgRefuse s Rsn.STATE 0xCB)) ∧
  (∀ (s : State),
      bit s Reg.GLB_IMG_CTRL 31 = false → s.update = none → holding s = false → (rd s Reg.GLB_IMG_LEN).toNat < 4096 → exec (.imgUpdate) s = .next (imgRefuse s Rsn.CFG_RANGE 0xCD)) ∧
  (∀ (u : Update) (s : State),
      s.update = some u → fget s Reg.GLB_IMG_CTRL 2 3 = 1 → let t := cleanPa s u.src u.len
      let i := parseImg (memRead t u.src u.len)
      exec (.imgCheckDone) s = .next (if i.wellFormed then (if i.authentic then (if imgCurrent t i then requestStore (fset (t.withUpdate (some { u with img := i })) Reg.GLB_IMG_CTRL 2 3 2) (.image 0)
          else imgFail t Rsn.CFG_CONFLICT 0xC9) else imgFail t Rsn.SEAL_MISMATCH 0xC8) else imgFail t Rsn.BAD_DESC 0xCA)) ∧
  (∀ (u : Update) (s : State),
      s.update = some u → fget s Reg.GLB_IMG_CTRL 2 3 = 3 → exec (.imgReadbackDone) s = .next (if (parseImg u.written).wellFormed && (parseImg u.written).authentic && (parseImg u.written).digest == u.img.digest then requestStore (s.withUpdate (some { u with img := parseImg u.written })) (.image 10000)
        else imgFail s Rsn.SEAL_MISMATCH 0xC8)) ∧
  (∀ (s : State),
      bit s Reg.GLB_IMG_CTRL 31 = false → s.update = none → s.flash.counters.getD 0 0 < (bootedSlot s).img.svn → exec (.imgRaiseSvn) s = .next (setRD (fset ((List.range ((bootedSlot s).img.svn - s.flash.counters.getD 0 0)).foldl (fun s _ => requestStore s (.counter 0)) s) Reg.GLB_IMG_CTRL 31 1 1) Reg.GLB_IMG_CTRL 8 0 0)) ∧
  (∀ (s : State),
      (bootedSlot s).img.svn ≤ s.flash.counters.getD 0 0 → exec (.imgRaiseSvn) s = .next (imgRefuse s Rsn.STATE 0xCB)) ∧
  (∀ (s : State),
      exec (.cntInc) s = .next (requestStore s (.counter 3))) ∧
  (∀ (v : W32) (s : State),
      getBits v 4 1 = 1 → 8 ≤ getBits v 0 4 → exec (.sealExtend v) s = .next (setMeas s (getBits v 0 4) (sha384 (meas s (getBits v 0 4) ++ (List.range 12).flatMap (fun w => leBytes 4 (rd s (Reg.SEAL_EXT_DATA w)).toNat))))) ∧
  (∀ (v : W32) (s : State),
      getBits v 4 1 = 1 → getBits v 0 4 < 8 → exec (.sealExtend v) s = .next (emit s .refusal [Rsn.CFG_RANGE, 0xCD] [])) ∧
  (∀ (s : State),
      s.update.isSome = true ∨ holding s = true → exec (.imgUpdate) s = .next (imgRefuse s Rsn.STATE 0xCB)) ∧
  (∀ (s : State),
      bit s Reg.GLB_IMG_CTRL 31 = false → s.update = none → holding s = false → 4096 ≤ (rd s Reg.GLB_IMG_LEN).toNat → 130023424 < (rd s Reg.GLB_IMG_LEN).toNat ∨ imgSrc s % 4096 ≠ 0 → exec (.imgUpdate) s = .next (imgRefuse s Rsn.CFG_RANGE 0xCD))

/-- A measured energy of at least the largest class cost plus 20,000 mJ turns CHARGING into READY. The next queued store (LOG, COUNTER, HEALTH,
IMAGE, in arrival order within a class) starts when the energy is at least its cost plus 20,000 mJ and it is no IMAGE store in HOLDING:
STORE_BUSY, HUP_LAST and the count follow; otherwise it is refused with HOLDUP_LOW 0x0F and kept for the retry. A store in progress
completes whatever the energy. (R450, R452, R453, R471) -/
def Obligations.HoldUpStoreComplete : Prop :=
  (∀ (usable : BitVec 16) (s : State),
      fget s Reg.HUP_STATUS 0 2 = 0 → (((List.range 4).map (fun c => fget s (Reg.HUP_COST c) 0 16)).foldl max 0) + 20000 ≤ usable.toNat → exec (.holdupReady usable) s = .next (fset (setUsable s usable) Reg.HUP_STATUS 0 2 1)) ∧
  (∀ (w : StoreWork) (usable : BitVec 16) (s : State),
      s.modx.rail = true → s.hup.cur = none → nextStore s.hup.queue = some w → fget s (Reg.HUP_COST w.cls) 0 16 + 20000 ≤ usable.toNat → ¬ (w.cls = 3 ∧ holding s = true) → ∃ t, exec (.persistentStoreStart usable) s = .next t ∧ t.hup.cur = some w ∧ t.hup.queue = s.hup.queue.erase w ∧ bit t Reg.HUP_STATUS 2 = true ∧ fget t Reg.HUP_LAST 0 2 = w.cls ∧ fget t Reg.HUP_LAST 8 8 = 0 ∧
      fget t Reg.HUP_COUNT 0 16 = (fget s Reg.HUP_COUNT 0 16 + 1) % 65536 ∧ t.flash = s.flash ∧ t.mem = s.mem) ∧
  (∀ (w : StoreWork) (usable : BitVec 16) (s : State),
      s.modx.rail = true → s.hup.cur = none → nextStore s.hup.queue = some w → usable.toNat < fget s (Reg.HUP_COST w.cls) 0 16 + 20000 → holding s = false → bit s Reg.GLB_MOD_STATUS 6 = true → ∃ t, exec (.persistentStoreStart usable) s = .next t ∧ t.hup.cur = none ∧ t.hup.queue = s.hup.queue.erase w ∧ t.hup.retry = s.hup.retry ++ [w] ∧ fget t Reg.HUP_LAST 8 8 = Rsn.HOLDUP_LOW ∧ fget t Reg.HUP_LAST 16 8 = 0x0F ∧ t.flash = s.flash) ∧
  (∀ (w : StoreWork) (usable : BitVec 16) (s : State),
      s.hup.cur = some w → let t := setUsable s usable
      let u := stored (fset (t.withHup { t.hup with cur := none }) Reg.HUP_STATUS 2 1 0) w
      exec (.persistentStoreDone usable) s = .next (railCheck (if u.modx.coldDue then coldNow u else u)))

/-- Through an open window: FLT_ENABLE takes the RWL fields, answers the codes of the first check that fails, and otherwise copies the posted
policy table; FLT_DISABLE is refused with STATE 0x4F while a recovery of the die exists, else clears ENABLE; a fault ring is enabled when
its base is aligned, in the die's own stacks and overlaps no other ring, and waiting FATAL records are then written; a HEAD beyond TAIL is
ignored with STATE 0x4F, another frees entries; FLT_FLAGS clears only what hardware does not set in the same cycle, and a collision counts.
A drain with more than 16 entries free writes the overflow entries. (R391, R392, R403, R404) -/
def Obligations.FaultUnitComplete : Prop :=
  (∀ (d : Die) (v : W32) (s : State),
      winOpen s d → let t := rwlIn s (Reg.FLT_CTRL d) 0xE v
      let u := finishEnable t (Reg.FLT_CTRL d) 8 (fltChecks t d)
      exec (.fltEnable d v) s = .next (if fltChecks t d = none ∧ bit (finishEnable t (Reg.FLT_CTRL d) 8 (fltChecks t d)) (Reg.FLT_CTRL d) 1 = true then u.withPolicy ((policyEntries u d).zipIdx.foldl (fun t p => tset policyDef t (d * 256 + p.2) p.1) u.policy) else u)) ∧
  (∀ (d : Die) (s : State),
      winOpen s d → s.recov.any (fun r => r.owner == d.val) = true → exec (.fltDisable d) s = .next (setRD s (Reg.FLT_CTRL d) 8 Rsn.STATE 0x4F)) ∧
  (∀ (d : Die) (s : State),
      winOpen s d → s.recov.any (fun r => r.owner == d.val) = false → exec (.fltDisable d) s = .next (setRD (fset s (Reg.FLT_CTRL d) 0 1 0) (Reg.FLT_CTRL d) 8 0 0)) ∧
  (∀ (d : Die) (r : Fin 16) (v : W32) (s : State),
      winOpen s d → fringBase (rwlIn s (Reg.FLT_RING_CTRL d r) 2 v) d r % 0x40000 = 0 → inOwnStack (rwlIn s (Reg.FLT_RING_CTRL d r) 2 v) d (fringBase (rwlIn s (Reg.FLT_RING_CTRL d r) 2 v) d r) 0x40000 = true → (∀ q : Fin 16, q ≠ r → bit (rwlIn s (Reg.FLT_RING_CTRL d r) 2 v) (Reg.FLT_RING_CTRL d q) 0 = false) → let t := fset (rwlIn s (Reg.FLT_RING_CTRL d r) 2 v) (Reg.FLT_RING_CTRL d r) 0 1 1
      exec (.fltRingEnable d r v) s = .next (flushFatal t d r (fring t d r).waiting.length)) ∧
  (∀ (d : Die) (r : Fin 16) (v : BitVec 13) (s : State),
      winOpen s d → (v.toNat + 8192 - fget s (Reg.FLT_RING_HEAD d r) 0 13) % 8192 ≤ (fget s (Reg.FLT_RING_TAIL d r) 0 13 + 8192 - fget s (Reg.FLT_RING_HEAD d r) 0 13) % 8192 → let t := fset s (Reg.FLT_RING_HEAD d r) 0 13 v.toNat
      exec (.fltHeadWrite d r v) s = .next (flushFatal t d r (fring t d r).waiting.length)) ∧
  (∀ (d : Die) (r : Fin 16) (v : BitVec 13) (s : State),
      winOpen s d → ¬ ((v.toNat + 8192 - fget s (Reg.FLT_RING_HEAD d r) 0 13) % 8192 ≤ (fget s (Reg.FLT_RING_TAIL d r) 0 13 + 8192 - fget s (Reg.FLT_RING_HEAD d r) 0 13) % 8192) → exec (.fltHeadWrite d r v) s = .next (setRD s (Reg.FLT_RING_CTRL d r) 8 Rsn.STATE 0x4F)) ∧
  (∀ (d : Die) (r : Fin 16) (s : State),
      (fring s d r).ovf.isEmpty = false → (fring s d r).waiting.isEmpty = true → bit s (Reg.FLT_RING_CTRL d r) 0 = true → ¬ (fringFree s d r ≤ 16) → let f := fring s d r
      let keys := if fget s (Reg.FLT_RING_OVF d r) 9 1 = 1 then f.keys else f.ovf.length
      let p := drainAll (setFring s d r { f with keys := keys }) d r f.ovf
      let u := setFring p.1 d r { fring p.1 d r with ovf := p.2 }
      let g := fring u d r
      let v := fset (fringOvfReg (setFring u d r ⟨[], g.waiting, 0, 0, 0, 0⟩) d r) (Reg.FLT_RING_OVF d r) 9 1 0
      exec (.overflowDrain d r) s = .next (if p.2.isEmpty then recordCount v ⟨d, Rsn.OVERFLOW, 0x43, 7, 15, d, leBytes 8 g.loSeq ++ leBytes 8 g.hiSeq ++ leBytes 2 keys ++ leBytes 1 r, .module⟩ g.total
        else fset (fringOvfReg u d r) (Reg.FLT_RING_OVF d r) 9 1 1)) ∧
  (∀ (d : Die) (v : W32) (same : BitVec 4) (s : State),
      winOpen s d → let t := wr s (Reg.FLT_FLAGS d) (w1c (rd s (Reg.FLT_FLAGS d)) 0xF v (same.zeroExtend 32)).1
      exec (.fltFlagsClear d v same) s = .next (if (w1c (rd s (Reg.FLT_FLAGS d)) 0xF v (same.zeroExtend 32)).2 then holdAdd t (Reg.FLT_FLAGS d) 24 8 1 else t))

/-- A request for a package slot joins the queue, marked as having waited when four are in use; a recovery that holds every slot it needs starts
its action; one verified leaves with an informational DONE 0x4C record and its slots go on, one not verified is a fault in its domain; a
timeout is LATE 0x4B in its domain; an uncorrectable error in the state of a Course, Bay, Footing, Mortar or Keystone is raised with
ECC_UNCORR 0x44-0x48 at L2 or L3. (R394, R395, R396, R400, R405) -/
def Obligations.RecoveriesComplete : Prop :=
  (∀ (u : Unit6) (num : Nat) (r : Recovery) (s : State),
      recovOf s u num = some r → ¬ (r.pkgSlot = true ∨ s.pkgQ.contains (u.val, num) = true) → let t := if decide (4 ≤ (s.recov.filter (·.pkgSlot)).length) then putRecov (s.withPkgQ (s.pkgQ ++ [(u.val, num)])) u num (fun r => { r with waited := true }) else s.withPkgQ (s.pkgQ ++ [(u.val, num)])
      exec (.pkgSlotRequest u num) s = .next (recovReg (grantPkg t t.pkgQ.length) u)) ∧
  (∀ (u : Unit6) (num : Nat) (r : Recovery) (s : State),
      recovOf s u num = some r → ¬ (r.running = true ∨ (r.dom.slots.1 = true ∧ (!r.dieSlot) = true) ∨ (r.dom.slots.2 = true ∧ (!r.pkgSlot) = true)) → exec (.recoverySlotGrant u num) s = .next (recovReg (startAction (putRecov s u num (fun q => { q with running := true, start := ctl s u })) r) u)) ∧
  (∀ (u : Unit6) (num : Nat) (r : Recovery) (s : State),
      recovOf s u num = some r → r.running = true → exec (.recoveryActionDone u num false) s = .next (raise s ⟨u, r.reason, r.detail, r.dom.level, r.dom.src.1, r.dom.src.2, [], r.dom⟩ false)) ∧
  (∀ (u : Unit6) (num : Nat) (r : Recovery) (s : State),
      recovOf s u num = some r → r.running = true → let t := s.withRecov (s.recov.filter (fun q => ¬ (q.owner = u.val ∧ q.num = num)))
      let a := recordAt t ⟨u, Rsn.DONE, 0x4C, 7, 15, if u.val < 4 then u.val else cornerstone t, recovData t r, r.dom⟩ 7 (if r.waited then 16 else 0) num
      let b := if u.val < 4 then wrapAdd a (Reg.FLT_RECOVERY u) 16 16 1 else a
      let c := match r.dom with
        | .socket n => fset b (Reg.GLB_SKT_STATUS (4 + n / 3) (n % 3)) 0 4 1
        | _ => b
      exec (.recoveryActionDone u num true) s = .next (recovReg (grantPkg (takeSlots (figures c r) u) 64) u)) ∧
  (∀ (u : Unit6) (num : Nat) (r : Recovery) (s : State),
      recovOf s u num = some r → exec (.recoveryTimeout u num) s = .next (raise s ⟨u, Rsn.LATE, 0x4B, r.dom.level, r.dom.src.1, r.dom.src.2, [], r.dom⟩ false)) ∧
  (∀ (i : Fin 12) (j : Fin 16) (s : State),
      i.val < 4 → exec (.uncorrectableStateError 0 i j) s = .next (raise s ⟨i, Rsn.ECC_UNCORR, 0x44, 2, 1, i + 8 * j, [], .course i j⟩ (unitHeld s (.course i j)))) ∧
  (∀ (i : Fin 12) (j : Fin 16) (s : State),
      i.val < 4 → j.val < 3 → exec (.uncorrectableStateError 1 i j) s = .next (raise s ⟨i, Rsn.ECC_UNCORR, 0x45, 2, 2, i + 8 * j, [], .bay i j⟩ (unitHeld s (.bay i j)))) ∧
  (∀ (i : Fin 12) (j : Fin 16) (s : State),
      exec (.uncorrectableStateError 2 i j) s = .next (raise s ⟨i / 3, Rsn.ECC_UNCORR, 0x46, 2, 3, i, [], .footing i⟩ (unitHeld s (.footing i)))) ∧
  (∀ (i : Fin 12) (j : Fin 16) (s : State),
      i.val < 4 → exec (.uncorrectableStateError 3 i j) s = .next (raise s ⟨i, Rsn.ECC_UNCORR, 0x47, 3, 10, i, [], .ashlar i⟩ (unitHeld s (.ashlar i)))) ∧
  (∀ (i : Fin 12) (j : Fin 16) (s : State),
      i.val < 2 → exec (.uncorrectableStateError 4 i j) s = .next (raise s ⟨4 + i, Rsn.ECC_UNCORR, 0x48, 3, 11, 4 + i + 8 * 31, [], .keystone i⟩ (unitHeld s (.keystone i))))

/-- Through an open window: LDG_ENABLE answers STATE 0x94 with the Mortar not ON, CFG_RANGE 0x06 for LDG_MODULE out of range, CFG_CONFLICT 0x07
at the Cornerstone when the quotas break R440, else ENABLE is 1; LDG_DISABLE is refused with STATE 0x08 while commitments exist; LDG_MODULE
and LDG_BUDGET take their value, the one before staying in effect until the boundary, or refuse the write with CFG_RANGE 0x06, CFG_CONFLICT
0x07 or STATE 0x08. (R440, R454, R455) -/
def Obligations.LedgerWritesComplete : Prop :=
  (∀ (d : Die) (s : State),
      winOpen s d → exec (.ldgEnable d) s = .next (finishEnable s (Reg.LDG_CTRL d) 8 (firstFail [(mortarOn s d, Rsn.STATE, 0x94), (moduleRange (rd s Reg.LDG_MODULE).toNat, Rsn.CFG_RANGE, 0x06),
        (cornerstone s ≠ d.val || quotaSum ((List.range 4).map (fun p => fget s (Reg.LDG_BUDGET p 20) 0 24)) (rd s Reg.LDG_MODULE).toNat, Rsn.CFG_CONFLICT, 0x07)]))) ∧
  (∀ (d : Die) (s : State),
      winOpen s d → (s.items.any (fun i => i.charges.any (fun c => c.budget / 32 == d.val && decide (0 < c.uj))) || (ledgerX s d).kept.any (fun c => decide (0 < c.uj))) = false → exec (.ldgDisable d) s = .next (setRD (fset s (Reg.LDG_CTRL d) 0 1 0) (Reg.LDG_CTRL d) 8 0 0)) ∧
  (∀ (d : Die) (s : State),
      winOpen s d → (s.items.any (fun i => i.charges.any (fun c => c.budget / 32 == d.val && decide (0 < c.uj))) || (ledgerX s d).kept.any (fun c => decide (0 < c.uj))) = true → exec (.ldgDisable d) s = .next (setRD s (Reg.LDG_CTRL d) 8 Rsn.STATE 0x08)) ∧
  (∀ (v : W32) (s : State),
      let c := cornerstone s
      let m := v.toNat % 8192 + v.toNat / 65536 % 1024 * 65536
      exec (.ldgModuleWrite v) s = .next (match moduleChk s m with
        | some (r, e) => setRD s (Reg.LDG_CTRL c) 8 r e
        | none => setRD (wr (setLedgerX s c ((ledgerX s c).hold pendModule (rd s Reg.LDG_MODULE).toNat)) Reg.LDG_MODULE (BitVec.ofNat 32 m)) (Reg.LDG_CTRL c) 8 0 0)) ∧
  (∀ (d : Die) (i : Fin 21) (v : W32) (s : State),
      winOpen s d → let b := v.toNat % 0x1000000
      let qs := (List.range 4).map (fun p => if p = d.val then b else fget s (Reg.LDG_BUDGET p 20) 0 24)
      exec (.ldgBudgetWrite d i v) s = .next (if i.val = 20 ∧ quotaSum qs (rd s Reg.LDG_MODULE).toNat = false then setRD s (Reg.LDG_CTRL d) 8 Rsn.CFG_CONFLICT 0x07
        else if (chargedPeriods s d).all (fun p => decide (p < period s d) || decide (committed s d i p ≤ b)) then
          setRD (fset (setLedgerX s d ((ledgerX s d).hold i (fget s (Reg.LDG_BUDGET d i) 0 24))) (Reg.LDG_BUDGET d i) 0 24 b) (Reg.LDG_CTRL d) 8 0 0
        else setRD s (Reg.LDG_CTRL d) 8 Rsn.STATE 0x08))

/-- A ledger period end puts the die's counter on the next multiple of 131,250 cycles and takes the metered draws and the readings, tells each
ring neighbour the highest readings of the sensors that face it, ends the stalls of the last period and derates anew; a recalibration window
end recalibrates the budgets whose draw averaged at least half of them, starts new sums and counts the window; an exhausted reserve stalls
its domain once per period, its RUNNING contexts waiting and its items late; a neighbour's sensor report joins the readings of the next
period; a calendar slot end puts the counter on the next slot boundary. (R332, R443, R445, R447, R449) -/
def Obligations.LedgerEventsComplete : Prop :=
  (∀ (d : Die) (draw : List Nat) (temps ftg : List (BitVec 11)) (v : BitVec 16) (s : State),
      ∃ t, exec (.ledgerPeriodEnd d draw temps ftg v) s = .next t ∧ rdW t (Reg.GLB_CTL_COUNT_LO d) = BitVec.ofNat 64 ((ctl s d / 131250 + 1) * 131250)) ∧
  (∀ (d : Die) (s : State),
      let a := (List.range 21).foldl (fun t i => if 32 * effBudget t d i ≤ (ledgerX s d).winM.getD i 0 then recalLoad t d i else t) s
      let b := wrapAdd (setLedgerX a d { ledgerX a d with winM := List.replicate 21 0, winP := List.replicate 21 0 }) (Reg.LDG_STATUS d) 16 16 1
      exec (.recalWindowEnd d) s = .next (fset b (Reg.LDG_STATUS d) 0 1 (if (List.range 21).all (fun i => bit b (Reg.LDG_SCALE d i) 12) then 1 else 0))) ∧
  (∀ (d : Die) (b : Fin 21) (s : State),
      (ledgerX s d).stalled.contains b.val = false → ∃ t, exec (.reserveExhausted d b) s = .next (if b.val < 16 then note t d Rsn.LATE 0x09 1 (d + 8 * b) []
        else if b.val < 19 then note t d Rsn.LATE 0x09 2 (d + 8 * (b - 16)) [] else note t d Rsn.LATE 0x09 10 d []) ∧ t.mem = s.mem) ∧
  (∀ (d src : Die) (reads : List (Fin 24 × BitVec 11)) (s : State),
      outOf s src = false → exec (.sensorReport d src reads) s = .next (setLedgerX s d { ledgerX s d with nbrNext := (ledgerX s d).nbrNext ++ (reads.filter (fun r => sensorEdge r.1 == (if src.val = (d.val + 1) % 4 then 2 else if src.val = (d.val + 3) % 4 then 1 else 9))).map (fun r => (src.val, tq r.2)) })) ∧
  (∀ (d : Die) (s : State),
      outOf s d = false → s.pllOff.contains d.val = false → exec (.calendarSlotEnd d) s = .next (slotEnd (wrW s (Reg.GLB_CTL_COUNT_LO d) (BitVec.ofNat 64 ((ctl s d / 8750 + 1) * 8750))) d)) ∧
  (∀ (d : Die) (draw : List Nat) (temps ftg : List (BitVec 11)) (v : BitVec 16) (s : State),
      let a := wrW s (Reg.GLB_CTL_COUNT_LO d) (BitVec.ofNat 64 ((ctl s d / 131250 + 1) * 131250))
      let a := (List.range 21).foldl (fun s i => fset s (Reg.LDG_METER d i) 0 24 (holdAt 0xFFFFFF (draw.getD i 0))) a
      let x := ledgerX a d
      let a := setLedgerX a d { x with winM := (x.winM.zipIdx).map (fun p => p.1 + draw.getD p.2 0), kept := x.kept.filter (fun c => decide (period a d ≤ c.period)), nbr := x.nbrNext, nbrNext := [], stalled := [] }
      let a := edgeReports a d temps
      let a := ((temps.take 24).zipIdx).foldl (fun s p => fset s (Reg.GLB_TEMP d p.2) 0 11 p.1.toNat) a
      let a := ((ftg.take 3).zipIdx).foldl (fun s p => fset s (Reg.FTG_TEMP (8 + 3 * d + p.2)) 0 11 p.1.toNat) a
      let a := x.stalled.foldl (fun s b => (stallCourses b).foldl (fun s c => wakeEnergy s d c) (recal s d b)) a
      let a := (List.range 21).foldl (fun s i => budgetTemp s d i) a
      let a := fset a (Reg.LDG_STATUS d) 1 1 (if x.stalled.isEmpty then 0 else 1)
      let a := applyPending (fset a (Reg.LDG_STATUS d) 2 1 (if (List.range 21).any (fun i => decide (fget a (Reg.LDG_TEMP d i) 8 5 < 16)) then 1 else 0)) d
      exec (.ledgerPeriodEnd d draw temps ftg v) s = .next (if cornerstone a = d.val then
        (inputRead a v.toNat).withModx { a.modx with vPrev := min a.modx.vNow v.toNat, vNow := 65535 } |>.withHup { a.hup with queue := a.hup.queue ++ a.hup.retry, retry := [] }
      else a)) ∧
  (∀ (d : Die) (b : Fin 21) (s : State),
      (ledgerX s d).stalled.contains b.val = false → let t := setLedgerX s d { ledgerX s d with stalled := b :: (ledgerX s d).stalled }
      let t := (stallCourses b).foldl (fun s c => (List.range 72).foldl (fun s i =>
        if fget s (Reg.BLK_CTX_STATUS d (c * 18 + i / 4) (i % 4)) 0 3 = 3 then fset (fset s (Reg.BLK_CTX_STATUS d (c * 18 + i / 4) (i % 4)) 0 3 4) (Reg.BLK_CTX_STATUS d (c * 18 + i / 4) (i % 4)) 24 4 4 else s) s) t
      let t := t.withItems (t.items.map (fun i => if (i.die == d.val && (b.val == 20 || b.val == 19 || (b.val < 16 && i.uses.contains (dCourse d b)) || (decide (16 ≤ b.val) && i.uses.contains (dBay d (b - 16))))) && i.late == 0 then { i with late := 0xA9 } else i))
      exec (.reserveExhausted d b) s = .next (if b.val < 16 then note t d Rsn.LATE 0x09 1 (d + 8 * b) []
        else if b.val < 19 then note t d Rsn.LATE 0x09 2 (d + 8 * (b - 16)) [] else note t d Rsn.LATE 0x09 10 d [])) ∧
  (∀ (d : Die) (b : Fin 21) (s : State),
      (ledgerX s d).stalled.contains b.val = true → exec (.reserveExhausted d b) s = .next s) ∧
  (∀ (d src : Die) (reads : List (Fin 24 × BitVec 11)) (s : State),
      outOf s src = true → exec (.sensorReport d src reads) s = .next s)

/-- A due row of a working Footing whose bank has a repair left and whose stack started none in the last 64 periods is under repair, one of a
bank without a repair left retires its pseudo-channel; its end is DONE 0x6D at L0. A retirement request through an open window while not
BUSY, for an ACTIVE pseudo-channel with a reserve free, sets BUSY and begins or queues; the refusals carry STATE 0x68, STATE 0x7C and
NOT_SCHEDULABLE 0x62. A copy starts when nothing that began before it is left; its end retires the pseudo-channel, with DONE 0x6E when it
was planned, and the next one queued begins. A lane fault on an ON Footing forces the retirement. (R160, R162, R163, R164, R165, R166) -/
def Obligations.RepairAndRetirementComplete : Prop :=
  (∀ (h : Stack) (pc bank : Fin 64) (row : Nat) (s : State),
      footingUp s h = true → (stackX s h).cur = none → (stackX s h).due.contains (pc.val, bank.val, row) = true → (stackX s h).last.all (fun p => decide (p + 64 ≤ period s (h / 3))) = true → ¬ (4 ≤ tget natDef (stackX s h).used (pc.val * 64 + bank.val)) → let x := stackX s h
      let k := (pc.val, bank.val, row)
      let rest := x.due.filter (fun j => j ≠ k)
      let used := tset natDef x.used (pc.val * 64 + bank.val) (tget natDef x.used (pc.val * 64 + bank.val) + 1)
      exec (.rowRepairStart h pc bank row) s = .next (ftgStatus (setStackX s h { x with due := rest, cur := some k, used := used, last := some (period s (h / 3)) }) h)) ∧
  (∀ (h : Stack) (k : Nat × Nat × Nat) (s : State),
      (stackX s h).cur = some k → let t := setStackX s h { stackX s h with cur := none, seen := (stackX s h).seen.filter (fun c => (c.1, c.2.1, c.2.2.1) != k) }
      let t := ftgStatus (newCells t h (· == k)) h
      exec (.rowRepairDone h) s = .next (raise t ⟨h / 3, Rsn.DONE, 0x6D, 0, 3, h, stackData 0 k, .footing h⟩ false)) ∧
  (∀ (h : Stack) (pc : Fin 64) (s : State),
      winOpen s (8 + h) → bit s (Reg.FTG_RETIRE_CTRL (8 + h)) 31 = true → exec (.retireRequest h pc) s = .next (emit s .refusal [Rsn.STATE, 0x68] [])) ∧
  (∀ (h : Stack) (pc : Fin 64) (s : State),
      winOpen s (8 + h) → bit s (Reg.FTG_RETIRE_CTRL (8 + h)) 31 = false → pcState (fset s (Reg.FTG_RETIRE_CTRL (8 + h)) 0 6 pc) h pc = 0 → stackFaulted (fset s (Reg.FTG_RETIRE_CTRL (8 + h)) 0 6 pc) h = false → retiringPc (fset s (Reg.FTG_RETIRE_CTRL (8 + h)) 0 6 pc) h pc = false → reserveFree (fset s (Reg.FTG_RETIRE_CTRL (8 + h)) 0 6 pc) h = true → exec (.retireRequest h pc) s = .next (fset (retireAsk (fset s (Reg.FTG_RETIRE_CTRL (8 + h)) 0 6 pc) h ⟨pc, false, true, false, []⟩) (Reg.FTG_RETIRE_CTRL (8 + h)) 31 1 1)) ∧
  (∀ (h : Stack) (r : Retire) (s : State),
      (stackX s h).ret = some r → footingUp s h = true → outOf s (h / 3) = false → r.forced = true ∨ r.before.all (fun k => (findItem s k.1 k.2.1 k.2.2).isNone) = true → let f := takeFree s
      exec (.retireCopyStart h) s = .next (ftgStatus (fset (setStackX f.2 h { stackX s h with ret := some { r with copying := true } }) (Reg.FTG_RETIRE_PROGRESS (8 + h)) 0 23 (f.1 % (copyCount s h r.pc + 1))) h)) ∧
  (∀ (h : Stack) (r : Retire) (s : State),
      (stackX s h).ret = some r → r.copying = true → outOf s (h / 3) = false → footingUp s h = true → let t := fset s (Reg.FTG_RETIRE_PROGRESS (8 + h)) 0 23 (copyCount s h r.pc)
      let t := ftgStatus (retirePc (newCells t h (fun w => w.1 == r.pc)) h r.pc) h
      let t := if r.reg then fset (fset t (Reg.FTG_RETIRE_CTRL (8 + h)) 16 8 0) (Reg.FTG_RETIRE_CTRL (8 + h)) 31 1 0 else t
      let t := if r.forced then t else raise t ⟨h / 3, Rsn.DONE, 0x6E, 0, 3, h, stackData 0 (r.pc, 0, 0), .footing h⟩ false
      exec (.retireDone h) s = .next (match (stackX t h).queue with
        | q :: qs => retireBegin (setStackX t h { stackX t h with queue := qs }) h q
        | [] => t)) ∧
  (∀ (h : Stack) (pc : Fin 64) (s : State),
      isOn s (dFooting h) = true → exec (.hbmLaneFault h pc) s = .next (forceRetire s h 0 (pc, 0, 0))) ∧
  (∀ (h : Stack) (pc : Fin 64) (s : State),
      winOpen s (8 + h) → bit s (Reg.FTG_RETIRE_CTRL (8 + h)) 31 = false → pcState (fset s (Reg.FTG_RETIRE_CTRL (8 + h)) 0 6 pc) h pc ≠ 0 → exec (.retireRequest h pc) s = .next (emit (fset (fset s (Reg.FTG_RETIRE_CTRL (8 + h)) 0 6 pc) (Reg.FTG_RETIRE_CTRL (8 + h)) 16 8 Rsn.STATE) .refusal [Rsn.STATE, 0x68] [])) ∧
  (∀ (h : Stack) (pc : Fin 64) (s : State),
      winOpen s (8 + h) → bit s (Reg.FTG_RETIRE_CTRL (8 + h)) 31 = false → pcState (fset s (Reg.FTG_RETIRE_CTRL (8 + h)) 0 6 pc) h pc = 0 → stackFaulted (fset s (Reg.FTG_RETIRE_CTRL (8 + h)) 0 6 pc) h = true → exec (.retireRequest h pc) s = .next (emit (fset (fset s (Reg.FTG_RETIRE_CTRL (8 + h)) 0 6 pc) (Reg.FTG_RETIRE_CTRL (8 + h)) 16 8 Rsn.STATE) .refusal [Rsn.STATE, 0x7C] [])) ∧
  (∀ (h : Stack) (pc : Fin 64) (s : State),
      winOpen s (8 + h) → bit s (Reg.FTG_RETIRE_CTRL (8 + h)) 31 = false → pcState (fset s (Reg.FTG_RETIRE_CTRL (8 + h)) 0 6 pc) h pc = 0 → stackFaulted (fset s (Reg.FTG_RETIRE_CTRL (8 + h)) 0 6 pc) h = false → retiringPc (fset s (Reg.FTG_RETIRE_CTRL (8 + h)) 0 6 pc) h pc = false → reserveFree (fset s (Reg.FTG_RETIRE_CTRL (8 + h)) 0 6 pc) h = false → exec (.retireRequest h pc) s = .next (emit (fset (fset s (Reg.FTG_RETIRE_CTRL (8 + h)) 0 6 pc) (Reg.FTG_RETIRE_CTRL (8 + h)) 16 8 Rsn.NOT_SCHEDULABLE) .refusal [Rsn.NOT_SCHEDULABLE, 0x62] [])) ∧
  (∀ (h : Stack) (pc bank : Fin 64) (row : Nat) (s : State),
      footingUp s h = true → (stackX s h).cur = none → (stackX s h).due.contains (pc.val, bank.val, row) = true → (stackX s h).last.all (fun p => decide (p + 64 ≤ period s (h / 3))) = true → 4 ≤ tget natDef (stackX s h).used (pc.val * 64 + bank.val) → exec (.rowRepairStart h pc bank row) s = .next (autoRetire (setStackX s h { stackX s h with due := (stackX s h).due.filter (fun j => j ≠ (pc.val, bank.val, row)) }) h pc))

/-- Through an open window while not BUSY: an ONLINE socket is EVACUATING when every other is ONLINE or EMPTY; an idle EVACUATING one starts to
stop, one not idle is refused with STATE 0x63; an EVACUATING one is ONLINE again at once, an OFFLINE or FAILED one trains; another state
refuses with STATE 0x64. A stop ends OFFLINE and SAFE; a training ends CLEARING, OFFLINE with CFG_CONFLICT 0x65 for another capacity, or
FAILED with LINK_FAIL 0x6B at L2; a cleared socket is ONLINE with its module zero. (R170, R171, R172) -/
def Obligations.SocketServiceComplete : Prop :=
  (∀ (n : Socket) (s : State),
      winOpen s (4 + n / 3) → bit s (sktCtrl n) 31 = true → exec (.sktEvacuate n) s = .next (emit s .refusal [Rsn.STATE, 0x64] [])) ∧
  (∀ (n : Socket) (s : State),
      winOpen s (4 + n / 3) → bit s (sktCtrl n) 31 = false → sktState s n = 1 → (List.range 6).all (fun m => m == n.val || decide (sktState s m ≤ 1)) = true → exec (.sktEvacuate n) s = .next (setRD (setSkt s n 2 false) (sktCtrl n) 8 0 0)) ∧
  (∀ (n : Socket) (s : State),
      winOpen s (4 + n / 3) → bit s (sktCtrl n) 31 = false → sktState s n = 2 → exec (.sktOffline n) s = .next (if sktIdle s n then fset (setRD s (sktCtrl n) 8 0 0) (sktCtrl n) 31 1 1 else setRD s (sktCtrl n) 8 Rsn.STATE 0x63)) ∧
  (∀ (n : Socket) (s : State),
      winOpen s (4 + n / 3) → bit s (sktCtrl n) 31 = false → sktState s n = 2 → exec (.sktOnline n) s = .next (setRD (setSkt s n 1 false) (sktCtrl n) 8 0 0)) ∧
  (∀ (n : Socket) (s : State),
      winOpen s (4 + n / 3) → bit s (sktCtrl n) 31 = false → sktState s n = 3 ∨ sktState s n = 6 → exec (.sktOnline n) s = .next (fset (setRD (setSkt s n 4 false) (sktCtrl n) 8 0 0) (sktCtrl n) 31 1 1)) ∧
  (∀ (n : Socket) (s : State),
      bit s (sktCtrl n) 31 = true → sktState s n = 2 → exec (.sktStopDone n) s = .next (fset (setSkt s n 3 true) (sktCtrl n) 31 1 0)) ∧
  (∀ (n : Socket) (cap : BitVec 10) (s : State),
      bit s (sktCtrl n) 31 = true → sktState s n = 4 → let t := fset s (Reg.GLB_SKT_STATUS (4 + n / 3) (n % 3)) 4 10 cap.toNat
      exec (.sktTrainDone n true cap) s = .next (if cammCap cap.toNat = true ∧ bootCap s = cap.toNat then setSkt t n 5 false
        else fset (setRD (setSkt t n 3 true) (sktCtrl n) 8 Rsn.CFG_CONFLICT 0x65) (sktCtrl n) 31 1 0)) ∧
  (∀ (n : Socket) (cap : BitVec 10) (s : State),
      bit s (sktCtrl n) 31 = true → sktState s n = 4 ∨ sktState s n = 5 → exec (.sktTrainDone n false cap) s = .next (raise (fset (setRD (setSkt s n 6 true) (sktCtrl n) 8 Rsn.LINK_FAIL 0x6B) (sktCtrl n) 31 1 0) ⟨4 + n / 3, Rsn.LINK_FAIL, 0x6B, 2, 4, n, [], .socket n⟩ false)) ∧
  (∀ (n : Socket) (s : State),
      sktState s n = 5 → let other : Nat → Bool := fun a => decide (0x030000000000 ≤ a) || socketOf s a != n.val
      let t := s.withMem (s.mem.filter (fun c => other c.1)) |>.withPoison (s.poison.filter other)
      exec (.sktClearDone n) s = .next (fset (setRD (setSkt t n 1 false) (sktCtrl n) 8 0 0) (sktCtrl n) 31 1 0)) ∧
  (∀ (n : Socket) (s : State),
      winOpen s (4 + n / 3) → bit s (sktCtrl n) 31 = false → sktState s n ≠ 2 → exec (.sktOffline n) s = .next (setRD s (sktCtrl n) 8 Rsn.STATE 0x64)) ∧
  (∀ (n : Socket) (s : State),
      winOpen s (4 + n / 3) → bit s (sktCtrl n) 31 = false → sktState s n ≠ 2 ∧ sktState s n ≠ 3 ∧ sktState s n ≠ 6 → exec (.sktOnline n) s = .next (setRD s (sktCtrl n) 8 Rsn.STATE 0x64)) ∧
  (∀ (n : Socket) (s : State),
      winOpen s (4 + n / 3) → bit s (sktCtrl n) 31 = false → ¬ (sktState s n = 1 ∧ (List.range 6).all (fun m => m == n.val || decide (sktState s m ≤ 1)) = true) → exec (.sktEvacuate n) s = .next (setRD s (sktCtrl n) 8 Rsn.STATE 0x64)) ∧
  (∀ (n : Socket) (s : State),
      winOpen s (4 + n / 3) → bit s (sktCtrl n) 31 = true → exec (.sktOffline n) s = .next (emit s .refusal [Rsn.STATE, 0x64] []) ∧ exec (.sktOnline n) s = .next (emit s .refusal [Rsn.STATE, 0x64] []))

/-- Through an open window a fence fences the Block; a test of a FENCED Block starts its self-test unless one is under way and any other is
refused with STATE 0x19; a finished self-test starts the clearing, whose end makes the Block SPARE after a pass and BAD after a failure, its
registers reset and its scratchpad zero; an enable answers the codes of the first check of R100 that fails, else the context is READY; a
disable is refused with STATE 0x18 in a run, else READY or HALTED becomes LOADED. (R78, R100, R102, R104, R105) -/
def Obligations.BlockControlComplete : Prop :=
  (∀ (d : Die) (n : Blk) (s : State),
      winOpen s d → exec (.blockFence d n) s = .next (fenceBlock s d n 0 0)) ∧
  (∀ (d : Die) (n : Blk) (s : State),
      winOpen s d → blkState s d n = 2 → tget natDef (setRD s (Reg.BLK_CTRL d n) 8 0 0).btest (d * 288 + n) = 0 → exec (.blockTest d n) s = .next ((setRD s (Reg.BLK_CTRL d n) 8 0 0).withBtest (tset natDef (setRD s (Reg.BLK_CTRL d n) 8 0 0).btest (d * 288 + n) 1))) ∧
  (∀ (d : Die) (n : Blk) (s : State),
      winOpen s d → blkState s d n ≠ 2 → exec (.blockTest d n) s = .next (setRD s (Reg.BLK_CTRL d n) 8 Rsn.STATE 0x19)) ∧
  (∀ (d : Die) (n : Blk) (pass : Bool) (s : State),
      tget natDef s.btest (d * 288 + n) = 1 → exec (.blockSelftestDone d n pass) s = .next (fset (fset (s.withBtest (tset natDef s.btest (d * 288 + n) (if pass then 2 else 3))) (Reg.BLK_STATE d n) 0 3 4) (Reg.BLK_CTRL d n) 0 1 0)) ∧
  (∀ (d : Die) (n : Blk) (s : State),
      2 ≤ tget natDef s.btest (d * 288 + n) → exec (.blockClearDone d n) s = .next (recount (mapChange (zeroSpad (clearBlockRegs (s.withBtest (tset natDef s.btest (d * 288 + n) 0)) d n) d n) d n (if tget natDef s.btest (d * 288 + n) = 2 then 1 else 3)) d)) ∧
  (∀ (d : Die) (n : Blk) (c : Ctx) (s : State),
      winOpen s d → ctxChecks s d n c = none → ctxState (setRD (fset s (Reg.BLK_CTX_CTRL d n c) 0 1 1) (Reg.BLK_CTX_STATUS d n c) 8 0 0) d n c = 1 → exec (.ctxEnable d n c) s = .next (setCtxState (setRD (fset s (Reg.BLK_CTX_CTRL d n c) 0 1 1) (Reg.BLK_CTX_STATUS d n c) 8 0 0) d n c 2)) ∧
  (∀ (d n c : Nat) (r t : Nat) (s : State),
      ctxChecks s d n c = some (r, t) → ctxEnable s d n c = setRD s (Reg.BLK_CTX_STATUS d n c) 8 r t) ∧
  (∀ (d : Die) (n : Blk) (c : Ctx) (s : State),
      winOpen s d → inRun s d n c = true → exec (.ctxDisable d n c) s = .next (setRD s (Reg.BLK_CTX_STATUS d n c) 8 Rsn.STATE 0x18)) ∧
  (∀ (d : Die) (n : Blk) (c : Ctx) (s : State),
      winOpen s d → inRun s d n c = false → ctxState (fset s (Reg.BLK_CTX_CTRL d n c) 0 1 0) d n c = 2 → exec (.ctxDisable d n c) s = .next (setCtxState (fset s (Reg.BLK_CTX_CTRL d n c) 0 1 0) d n c 1)) ∧
  (∀ (d : Die) (n : Blk) (s : State),
      winOpen s d → blkState s d n = 2 → tget natDef (setRD s (Reg.BLK_CTRL d n) 8 0 0).btest (d * 288 + n) ≠ 0 → exec (.blockTest d n) s = .next (setRD s (Reg.BLK_CTRL d n) 8 0 0)) ∧
  (∀ (d : Die) (n : Blk) (c : Ctx) (s : State),
      winOpen s d → exec (.ctxEnable d n c) s = .next (ctxEnable s d n c))

/-- An access of 1 to 256 bytes to a reachable ALLOC Block whose region check grants it completes: a read answers the bytes that stand there and
counts the single-bit errors it corrects, a write stores the data, a set-alias write stores old OR data and a clear-alias write old AND NOT
data; an outside access that the Block's state refuses is answered with its codes, one that the regions refuse is recorded too; a Block's
own master is answered likewise through its own regions. (R95, R96, R99, R103) -/
def Obligations.ScratchpadAccessComplete : Prop :=
  (∀ (d : Die) (n : Blk) (m : Fin 5) (c : Ctx) (off : BitVec 21) (len : Nat) (s : State),
      0 < len ∧ len ≤ 256 → m.val = 4 → blockRefusal s d n = none → accCheck s d n 4 0 0 off.toNat len = none → poisonedAt s (spadAddr d n off.toNat) len = false → exec (.spadRead d n m c off len) s = .next (emit (countCe s d n off.toNat len) .response [0, 0] (spadBytes s d n off.toNat len))) ∧
  (∀ (d : Die) (n : Blk) (m : Fin 5) (c : Ctx) (off : BitVec 21) (data : List Byte) (s : State),
      0 < data.length ∧ data.length ≤ 256 → m.val = 4 → blockRefusal s d n = none → accCheck s d n 4 0 1 off.toNat data.length = none → exec (.spadWrite d n m c off data) s = .next (emit (memWriteAt s (spadAddr d n off.toNat) (data)) .response [0, 0] [])) ∧
  (∀ (d : Die) (n : Blk) (m : Fin 5) (c : Ctx) (off : BitVec 21) (data : List Byte) (s : State),
      0 < data.length ∧ data.length ≤ 256 → m.val = 4 → blockRefusal s d n = none → accCheck s d n 4 0 2 off.toNat data.length = none → exec (.spadSetWrite d n m c off data) s = .next (emit (memWriteAt s (spadAddr d n off.toNat) ((spadBytes s d n off.toNat data.length).zipWith (· ||| ·) data)) .response [0, 0] [])) ∧
  (∀ (d : Die) (n : Blk) (m : Fin 5) (c : Ctx) (off : BitVec 21) (data : List Byte) (s : State),
      0 < data.length ∧ data.length ≤ 256 → m.val = 4 → blockRefusal s d n = none → accCheck s d n 4 0 3 off.toNat data.length = none → exec (.spadClearWrite d n m c off data) s = .next (emit (memWriteAt s (spadAddr d n off.toNat) ((spadBytes s d n off.toNat data.length).zipWith (fun o x => o &&& ~~~x) data)) .response [0, 0] [])) ∧
  (∀ (d : Die) (n : Blk) (m : Fin 5) (c : Ctx) (off : BitVec 21) (data : List Byte) (r t : Nat) (s : State),
      0 < data.length ∧ data.length ≤ 256 → blockRefusal s d n = some (r, t) → exec (.spadWrite d n m c off data) s = .next (emit s .errorResponse [r, t] [])) ∧
  (∀ (d : Die) (n : Blk) (m : Fin 5) (c : Ctx) (off : BitVec 21) (len : Nat) (bs : List Byte) (t s : State),
      0 < len ∧ len ≤ 256 → m.val ≠ 4 → blockRefusal s d n = none → ownRead s d n m c off.toNat len = .ok t bs → exec (.spadRead d n m c off len) s = .next (emit t .response [0, 0] bs)) ∧
  (∀ (d : Die) (n : Blk) (m : Fin 5) (c : Ctx) (off : BitVec 21) (data : List Byte) (t : State) (bs : List Byte) (s : State),
      0 < data.length ∧ data.length ≤ 256 → m.val ≠ 4 → blockRefusal s d n = none → ownWrite s d n m c 1 off.toNat data = .ok t bs → exec (.spadWrite d n m c off data) s = .next (emit t .response [0, 0] [])) ∧
  (∀ (d : Die) (n : Blk) (m : Fin 5) (c : Ctx) (off : BitVec 21) (len r a b : Nat) (s : State),
      0 < len ∧ len ≤ 256 → m.val = 4 → blockRefusal s d n = none → accCheck s d n 4 0 0 off.toNat len = some (r, a, b) → exec (.spadRead d n m c off len) s = .next (emit (recordViol s d n 4 0 0 a b) .errorResponse [r, a] []))

/-- Through an open window: a clear of FP_FLAGS clears the named flags that hardware does not set in the same cycle, SAT_COUNT with its flag,
and counts a collision; a clear of VIOL with VALID written 1 zeroes the register unless a refusal is recorded in the same cycle, which
stands and counts a collision; with VALID written 0 nothing is cleared, and a refusal recorded in the same cycle is kept where none stood.
(R69, R101, R403) -/
def Obligations.BlockFlagClearsComplete : Prop :=
  (∀ (d : Die) (n : Blk) (c : Ctx) (v : W32) (same : BitVec 7) (sat : BitVec 16) (s : State),
      winOpen s d → v.toNat % 128 &&& same.toNat = 0 → (v.toNat % 128).testBit 5 = false → same.toNat.testBit 5 = false → exec (.fpFlagsClear d n c v same sat) s = .next (fset s (Reg.BLK_FP_FLAGS d n c) 0 7 ((fget s (Reg.BLK_FP_FLAGS d n c) 0 7 &&& (127 - v.toNat % 128)) ||| same.toNat))) ∧
  (∀ (d : Die) (n : Blk) (v : W32) (s : State),
      winOpen s d → v.getLsbD 31 = true → exec (.violClear d n v none) s = .next (wr s (Reg.BLK_VIOL d n) 0)) ∧
  (∀ (d : Die) (n : Blk) (v q : W32) (s : State),
      winOpen s d → v.getLsbD 31 = true → exec (.violClear d n v (some q)) s = .next (holdAdd (wr s (Reg.BLK_VIOL d n) ((q &&& 0x0FFF7FFF) ||| 0x80000000)) (Reg.BLK_W1C_EVENTS d n) 24 6 1)) ∧
  (∀ (d : Die) (n : Blk) (c : Ctx) (v : W32) (same : BitVec 7) (sat : BitVec 16) (s : State),
      winOpen s d → let a := Reg.BLK_FP_FLAGS d n c
      let cl := v.toNat % 128
      let t := fset s a 0 7 ((fget s a 0 7 &&& (127 - cl)) ||| same.toNat)
      let t := if cl.testBit 5 then fset t a 16 16 0 else t
      let t := if same.toNat.testBit 5 then holdAdd t a 16 16 sat.toNat else t
      exec (.fpFlagsClear d n c v same sat) s = .next (if cl &&& same.toNat ≠ 0 then holdAdd t (Reg.BLK_W1C_EVENTS d n) (6 * c.val) 6 1 else t)) ∧
  (∀ (d : Die) (n : Blk) (v : W32) (s : State),
      winOpen s d → v.getLsbD 31 = false → exec (.violClear d n v none) s = .next s) ∧
  (∀ (d : Die) (n : Blk) (v q : W32) (s : State),
      winOpen s d → v.getLsbD 31 = false → exec (.violClear d n v (some q)) s = .next (if bit s (Reg.BLK_VIOL d n) 31 then s else wr s (Reg.BLK_VIOL d n) ((q &&& 0x0FFF7FFF) ||| 0x80000000)))

/-- A RUNNING context whose next word is OPND, MASON, SIGNAL, LOOP, END, WAITG, FENCEW or HOD does what R118 says: the operand set-up, an
operation queued with its ordinal, a counter raised, a loop opened, the context READY, on to the next word when the target is met or all is
done, WAITING with its cause otherwise; a satisfied wait resumes. (R76, R118) -/
def Obligations.IssuerComplete : Prop :=
  (∀ (d : Die) (n : Blk) (c : Ctx) (x : CtxX) (w : Nat) (s : State),
      issuing s d n c 0x01 = some (x, w) → exec (.opnd d n c) s = .next (setCtxX s d n c { x with as := wbits w 0 11, bs := wbits w 11 11, ring := wbits w 22 11, rlen := wbits w 33 11 }.advance)) ∧
  (∀ (d : Die) (n : Blk) (c : Ctx) (x : CtxX) (w : Nat) (s : State),
      issuing s d n c 0x02 = some (x, w) → exec (.mason d n c) s = .next (setCtxX s d n c { x with mason := x.mason ++ [MOp.mk w x.as x.bs x.ring x.rlen false x.nMason], nMason := x.nMason + 1 }.advance)) ∧
  (∀ (d : Die) (n : Blk) (c : Ctx) (x : CtxX) (w : Nat) (s : State),
      issuing s d n c 0x06 = some (x, w) → exec (.signal d n c) s = .next (setCtxX s d n c ((x.count (wbits w 0 4) (wbits w 4 12)).advance))) ∧
  (∀ (d : Die) (n : Blk) (c : Ctx) (x : CtxX) (w : Nat) (s : State),
      issuing s d n c 0x07 = some (x, w) → exec (.loop d n c) s = .next (setCtxX s d n c (closeLoops 5 { x with pc := x.pc + 1, loops := (x.pc + 1, wbits w 16 12, 0, wbits w 0 16) :: x.loops }))) ∧
  (∀ (d : Die) (n : Blk) (c : Ctx) (x : CtxX) (w : Nat) (s : State),
      issuing s d n c 0x3F = some (x, w) → exec (.ctxEnd d n c) s = .next (setCtxState (setCtxX s d n c { x with ended := true }) d n c 2)) ∧
  (∀ (d : Die) (n : Blk) (c : Ctx) (x : CtxX) (w : Nat) (s : State),
      issuing s d n c 0x05 = some (x, w) → waitMet x w = true → exec (.waitg d n c) s = .next (setCtxX s d n c x.advance)) ∧
  (∀ (d : Die) (n : Blk) (c : Ctx) (x : CtxX) (w : Nat) (s : State),
      issuing s d n c 0x05 = some (x, w) → waitMet x w = false → exec (.waitg d n c) s = .next (enterWait s d n c (waitCause s d x (wbits w 0 4)))) ∧
  (∀ (d : Die) (n : Blk) (c : Ctx) (x : CtxX) (w : Nat) (s : State),
      issuing s d n c 0x08 = some (x, w) → allDone x = true → exec (.fencew d n c) s = .next (setCtxX s d n c x.advance)) ∧
  (∀ (d : Die) (n : Blk) (c : Ctx) (x : CtxX) (w : Nat) (s : State),
      issuing s d n c 0x08 = some (x, w) → allDone x = false → exec (.fencew d n c) s = .next (enterWait s d n c (if x.hods.isEmpty then none else some 2))) ∧
  (∀ (d : Die) (n : Blk) (c : Ctx) (x : CtxX) (w : Nat) (p : Plan) (s : State),
      issuing s d n c 0x04 = some (x, w) → planOf s d x.plan = some p → let i := wbits w 0 12
      let lin := (p.hod i).lintel
      let g := if lin then tget natDef x.gens i + 1 else 0
      let held := lin && decide (p.depth + tget natDef x.rel i < g)
      exec (.hod d n c) s = .next (setCtxX s d n c { x with hods := x.hods ++ [HodOp.mk x.nHod (iCtr w) i g held false false], nHod := x.nHod + 1, gens := if lin then tset natDef x.gens i g else x.gens }.advance)) ∧
  (∀ (d : Die) (n : Blk) (c : Ctx) (w : Nat) (s : State),
      ctxState s d n c = 4 → fget s (Reg.BLK_CTX_STATUS d n c) 24 4 ≠ 4 → courseStalled s d (n / 18) = false → (ctxX s d n c).prog[(ctxX s d n c).pc]? = some w → iOp w = 5 → waitMet (ctxX s d n c) w = true → exec (.ctxWake d n c) s = .next (setCtxState s d n c 3))

/-- In a run, the planned completion of a transfer is noted, and with its actual one its counter rises and its destination is signalled; a
transfer moves its rows, bytes of a bound slot too, and is then actually complete, or halts its context where a row is refused or poisoned;
a lintel transfer is actually complete once the last generation of each of its rows has arrived; a release count seen by the producer only
rises, up to the rows' generations that the consumer has released; a held lintel issue starts when the count admits its generation; a lintel
row of the awaited generation that its producer has issued and sent in order is read, and where the region check grants it stored, its tag
and counter following; a refused one is recorded and halts the producer, one of another generation is OVERRUN 0x53, and one its producer has
not sent moves nothing. (R120, R121, R137, R138, R139, R140) -/
def Obligations.TransfersComplete : Prop :=
  (∀ (d : Die) (n : Blk) (c : Ctx) (i : Nat) (s : State),
      inRun s d n c = true → exec (.transferPlannedDone d n c i) s = .next (hodFinish (setHod s d n c i (fun o => { o with planned := true })) d n c i)) ∧
  (∀ (d : Die) (n : Blk) (c : Ctx) (i : Nat) (o : HodOp) (p : Plan) (s : State),
      inRun s d n c = true → (ctxX s d n c).hods.find? (fun o => o.id == i && !o.held && !o.actual) = some o → planOf s d (ctxX s d n c).plan = some p → (p.hod o.desc).lintel = false → (opKind (p.hod o.desc).src ≠ 0 → ∀ it, runItem s d (ctxX s d n c).plan = some it → ∀ k < (p.hod o.desc).rows, extAway s d it.extents (slotAddr it (opSlot (p.hod o.desc).src) + opOff (p.hod o.desc).src + k * (p.hod o.desc).sstr) (p.hod o.desc).rowBytes = false) → exec (.hodDone d n c i) s = .next (drainRegs (match moveRows s d n c (runItem s d (ctxX s d n c).plan) (p.hod o.desc) (destBlocks p (p.hod o.desc)) 0 (p.hod o.desc).rows with
        | .ok t _ => hodFinish (setHod t d n c i (fun o => { o with actual := true })) d n c i
        | .stop t => t
        | .bad t r => halt t d n c r.1 r.2))) ∧
  (∀ (d : Die) (n : Blk) (c : Ctx) (i : Nat) (count : BitVec 20) (p : Plan) (s : State),
      planOf s d (ctxX s d n c).plan = some p → inRun s d n c = true → exec (.lintelReleaseArrive d n c i count) s = .next (setCtxX s d n c { ctxX s d n c with rel := tset natDef (ctxX s d n c).rel i (max (tget natDef (ctxX s d n c).rel i) (min count.toNat (released s p i))) })) ∧
  (∀ (d : Die) (n : Blk) (c : Ctx) (i : Nat) (p : Plan) (s : State),
      planOf s d (ctxX s d n c).plan = some p → inRun s d n c = true → let x := ctxX s d n c
      exec (.lintelIssueStart d n c i) s = .next (setCtxX s d n c { x with hods := x.hods.map (fun o => if (o.desc == i && o.held && decide (o.gen ≤ p.depth + tget natDef x.rel i)) = true then { o with held := false } else o) })) ∧
  (∀ (d : Die) (n : Blk) (i : Fin 64) (g : BitVec 20) (c desc slot row : Nat) (p : Plan) (s : State),
      tagCtx s d n i = some (c, p, desc, slot, row) → ¬ ((g.toNat ≤ p.depth ∧ fget s (Reg.BLK_LINTEL_TAG d n i) 0 20 = 0) ∨ (p.depth < g.toNat ∧ fget s (Reg.BLK_LINTEL_TAG d n i) 0 20 = g.toNat - p.depth)) → let data := blockData s d n c ((opOff (p.hod desc).dst + (slot * (p.hod desc).rows + row) * (p.hod desc).dstr) / 256)
      exec (.lintelRowArrive d n i g) s = .next (raise (halt s d n c Rsn.OVERRUN 0x53) ⟨d, Rsn.OVERRUN, 0x53, 1, 0, d + 8 * n, data, .block d n⟩ false)) ∧
  (∀ (d : Die) (n : Blk) (i : Fin 64) (g : BitVec 20) (c desc slot row : Nat) (p : Plan) (s : State),
      tagCtx s d n i = some (c, p, desc, slot, row) → (g.toNat ≤ p.depth ∧ fget s (Reg.BLK_LINTEL_TAG d n i) 0 20 = 0) ∨ (p.depth < g.toNat ∧ fget s (Reg.BLK_LINTEL_TAG d n i) 0 20 = g.toNat - p.depth) → rowSent s p desc g.toNat slot row = true → (opKind (p.hod desc).src = 0 ∨ ∃ it, runItem s d p.handle = some it ∧ extAway s d it.extents (slotAddr it (opSlot (p.hod desc).src) + opOff (p.hod desc).src + row * (p.hod desc).sstr) (p.hod desc).rowBytes = false) → accCheck s d n 4 0 1 (opOff (p.hod desc).dst + (slot * (p.hod desc).rows + row) * (p.hod desc).dstr) (p.hod desc).rowBytes = none → let h := p.hod desc
      let b := p.phys (p.run h.run).src.2
      let a := Reg.BLK_LINTEL_TAG d n i
      exec (.lintelRowArrive d n i g) s = .next (match rowRead s d b.1 b.2 (runItem s d p.handle) h.src (row * h.sstr) h.rowBytes with
        | .ok t bs =>
          let v := fset (fset (memWriteAt t (spadAddr d n (opOff h.dst + (slot * h.rows + row) * h.dstr)) bs) a 0 20 g.toNat) a 20 4 h.sigCtr
          setCtxX v d n c ((ctxX v d n c).count h.sigCtr 1)
        | .stop t => t
        | .bad t r => halt t d b.1 b.2 r.1 r.2)) ∧
  (∀ (d : Die) (n : Blk) (c : Ctx) (i : Nat) (o : HodOp) (p : Plan) (s : State),
      inRun s d n c = true → (ctxX s d n c).hods.find? (fun o => o.id == i && !o.held && !o.actual) = some o → planOf s d (ctxX s d n c).plan = some p → (p.hod o.desc).lintel = true → exec (.hodDone d n c i) s = .next (drainRegs (if lintelIn s p o then hodFinish (setHod s d n c i (fun o => { o with actual := true })) d n c i else s))) ∧
  (∀ (d : Die) (n : Blk) (i : Fin 64) (g : BitVec 20) (c desc slot row : Nat) (p : Plan) (r : Nat × Nat × Nat) (s : State),
      tagCtx s d n i = some (c, p, desc, slot, row) → (g.toNat ≤ p.depth ∧ fget s (Reg.BLK_LINTEL_TAG d n i) 0 20 = 0) ∨ (p.depth < g.toNat ∧ fget s (Reg.BLK_LINTEL_TAG d n i) 0 20 = g.toNat - p.depth) → rowSent s p desc g.toNat slot row = true → opKind (p.hod desc).src = 0 → accCheck s d n 4 0 1 (opOff (p.hod desc).dst + (slot * (p.hod desc).rows + row) * (p.hod desc).dstr) (p.hod desc).rowBytes = some r → let b := p.phys (p.run (p.hod desc).run).src.2
      exec (.lintelRowArrive d n i g) s = .next (halt (recordViol s d n 4 0 1 r.2.1 r.2.2) d b.1 b.2 r.1 r.2.1)) ∧
  (∀ (d : Die) (n : Blk) (i : Fin 64) (g : BitVec 20) (c desc slot row : Nat) (p : Plan) (s : State),
      tagCtx s d n i = some (c, p, desc, slot, row) → (g.toNat ≤ p.depth ∧ fget s (Reg.BLK_LINTEL_TAG d n i) 0 20 = 0) ∨ (p.depth < g.toNat ∧ fget s (Reg.BLK_LINTEL_TAG d n i) 0 20 = g.toNat - p.depth) → rowSent s p desc g.toNat slot row = false → exec (.lintelRowArrive d n i g) s = .next s)

/-- The first waiting Mason operation starts while fewer than two are in the array, and when its plan has it selected for the sampler, is
sampled by an idle sampler and counted as skipped by a busy one; the one in front that has started and passes its region and error checks
leaves, its tile stored in bank C and its exceptions signalled, and one that fails them halts the context with its codes; a compared sample
enters the plan's numerics entry with its agreements, its tile's worst and its low count, and writes NUMERIC 0x83 where the low count
reaches a power of two; PLB enable answers its checks and zeroes the entries of resident plans; disable discards a sample in hand. (R80,
R82, R83, R220, R222, R225) -/
def Obligations.MasonAndPlumbComplete : Prop :=
  (∀ (d : Die) (n : Blk) (c : Ctx) (o : MOp) (s : State),
      inRun s d n c = true → ((ctxX s d n c).mason.filter (·.started)).length < 2 → (ctxX s d n c).mason.find? (fun o => !o.started) = some o → let x := ctxX s d n c
      let t := setCtxX s d n c { x with mason := x.mason.map (fun q => if q.ord = o.ord then { q with started := true } else q) }
      exec (.masonStart d n c) s = .next (match planOf t d x.plan with
        | some p => if (eligible t d o && selected t d x p.runNo o) = true then
            if fget t (Reg.PLB_STATUS d) 0 2 = 0 then
              wrapAdd (fset (fset (t.withPlumb (tset plumbDef t.plumb d (some ⟨n, c, x.plan, x.lb, p.runNo, o.ord, [], []⟩))) (Reg.PLB_STATUS d) 0 2 1) (Reg.PLB_STATUS d) 16 16 x.plan) (Reg.PLB_SAMPLED d) 0 32 1
            else wrapAdd t (Reg.PLB_SKIPPED d) 0 32 1
          else t
        | none => t)) ∧
  (∀ (d : Die) (n : Blk) (c : Ctx) (o : MOp) (os : List MOp) (s : State),
      (ctxX s d n c).mason = o :: os → o.started = true → inRun s d n c = true → masonCheck s d n c o = (none, none) → let t := masonTile s d n c o
      let bs := t.1.flatMap (fun r => leBytes (if (mfld o.word).ks = 1 then 8 else 4) r.1)
      let u := memWriteAt s (spadAddr d n (256 * (mfld o.word).tile)) bs
      let g := captureEnd (signal u d n c (t.1.foldl (fun f r => f ||| r.2) 0) 0) d n c o (t.1.map (·.1)) t.2.1
      exec (.masonDone d n c) s = .next (setCtxX g d n c ({ ctxX s d n c with mason := os }.done (iCtr o.word)))) ∧
  (∀ (d : Die) (x : Sample) (s : State),
      tget plumbDef s.plumb d = some x → fget s (Reg.PLB_STATUS d) 0 2 = 2 → let as := x.got.zipWith (agreement (ulpExp x.want)) x.want
      let t := ((List.range 25).filter (fun b => decide ((as.filter (fun k => decide (k < b))).length ≤ 64))).foldl max 0
      let a := plbBase s d + 128 * x.handle
      let low := if t < fget s (Reg.PLB_CTRL d) 6 5 then hold32 (memNat s (a + 0x14) 4 + 1) else memNat s (a + 0x14) 4
      let line := memRead s a 16 ++ leBytes 4 (hold32 (memNat s (a + 0x10) 4 + 1)) ++ leBytes 4 low ++ leBytes 1 (min (memNat s (a + 0x18) 1) t) ++ leBytes 1 t ++ leBytes 2 0 ++
        (List.range 25).flatMap (fun k => leBytes 4 (hold32 (memNat s (a + (0x1C + 4 * k)) 4 + (as.filter (fun j => j == k)).length)))
      let u := fset ((memWrite s a line).withPlumb (tset plumbDef (memWrite s a line).plumb d none)) (Reg.PLB_STATUS d) 0 2 0
      exec (.plumbCompareDone d) s = .next (if low ≠ memNat s (a + 0x14) 4 ∧ 2 ^ Nat.log2 low = low then
        note u d Rsn.NUMERIC 0x83 9 (d + 8 * x.handle) (leBytes 2 x.lb ++ leBytes 2 0 ++ leBytes 4 x.run ++ leBytes 4 x.ord ++ leBytes 1 t) else u)) ∧
  (∀ (d : Die) (v : W32) (s : State),
      winOpen s d → plbChecks (rwlIn s (Reg.PLB_CTRL d) 0xFFE v) d = none → let t := finishEnable (rwlIn s (Reg.PLB_CTRL d) 0xFFE v) (Reg.PLB_CTRL d) 16 none
      exec (.plbEnable d v) s = .next ((t.plans.filter (fun p => p.die == d.val)).foldl (fun s p => numFresh s d p.handle) t)) ∧
  (∀ (d : Die) (s : State),
      winOpen s d → exec (.plbDisable d) s = .next (dropSample (setRD (fset s (Reg.PLB_CTRL d) 0 1 0) (Reg.PLB_CTRL d) 16 0 0) d)) ∧
  (∀ (d : Die) (n : Blk) (c : Ctx) (o : MOp) (os : List MOp) (r : AccKind × Nat × Nat × Nat) (w : Option Nat) (s : State),
      (ctxX s d n c).mason = o :: os → o.started = true → inRun s d n c = true → masonCheck s d n c o = (some r, w) → exec (.masonDone d n c) s = .next (denyOwn s d n 0 c r.1 r.2)) ∧
  (∀ (d : Die) (n : Blk) (c : Ctx) (o : MOp) (os : List MOp) (w : Nat) (s : State),
      (ctxX s d n c).mason = o :: os → o.started = true → inRun s d n c = true → masonCheck s d n c o = (none, some w) → exec (.masonDone d n c) s = .next (eccHalt s d n c w)) ∧
  (∀ (d : Die) (v : W32) (r e : Nat) (s : State),
      winOpen s d → plbChecks (rwlIn s (Reg.PLB_CTRL d) 0xFFE v) d = some (r, e) → exec (.plbEnable d v) s = .next (finishEnable (rwlIn s (Reg.PLB_CTRL d) 0xFFE v) (Reg.PLB_CTRL d) 16 (some (r, e))))

/-- A RUNNING context whose next word is a legal vec instruction of an elementwise code (ADD, SUB, MUL, FMA, DIV, SQRT, MIN, MAX, MINNUM,
MAXNUM, CMPEQ, CMPLT, CMPLE, EXP2, LOG2, TANH, SIGMOID, ERF, SINPI, COSPI, RSQRT) applies it to its words in ascending order and is issued
with its counter, the issuer going on; a refused scratchpad access leaves what it halted at. For a one-word operation over words the regions
grant, the destination word takes the elements of the two sources combined. (R87, R88, R89, R118) -/
def Obligations.VectorElementwiseComplete : Prop :=
  (∀ (mk : Die → Blk → Ctx → Instr) (base : Nat) (d : Die) (n : Blk) (c : Ctx) (x : CtxX) (w : Nat) (s : State),
      ((mk, base) ∈ ([(Instr.add, 0x00), (Instr.sub, 0x04), (Instr.mul, 0x08), (Instr.fma, 0x0C), 
      (Instr.div, 0x10), (Instr.sqrt, 0x14), (Instr.min, 0x18), (Instr.max, 0x1C), (Instr.minnum, 0x20), (Instr.maxnum, 0x24), 
      (Instr.cmpeq, 0x28), (Instr.cmplt, 0x2C), (Instr.cmple, 0x30), (Instr.exp2, 0x34), (Instr.log2, 0x38), (Instr.tanh, 0x3C), (Instr.sigmoid, 0x40), (Instr.erf, 0x44), (Instr.sinpi, 0x48), (Instr.cospi, 0x4C), (Instr.rsqrt, 0x50)] : List ((Die → Blk → Ctx → Instr) × Nat))) → issuing s d n c 0x03 = some (x, w) → vecLegal (planSlots s d x) w = true → vOp w < 0x54 ∧ vOp w / 4 * 4 = base → exec (mk d n c) s = .next (vecAfter d n c w (vecWords d n c w s 0 (vLen w)))) ∧
  (∀ (d n c w : Nat) (as bs : List Byte) (t u : State) (s : State),
      vLen w = 1 → unary (vOp w / 4 * 4) = false → isReg (vAux w) = false → vOp w / 4 * 4 ≠ 0x0C → ownRead s d n 1 c (256 * vSrc w) 256 = .ok t as → ownRead t d n 1 c (256 * vAux w) 256 = .ok u bs → let f := vFmt (vOp w % 4)
      let rs := vecWord (vOp w / 4 * 4) f (elems (f.bits / 8) as) (elems (f.bits / 8) bs) (elems (f.bits / 8) as)
      vecWords d n c w s 0 (vLen w) = (match vecPut u d n c (vDst w) (rs.flatMap (fun r => leBytes (f.bits / 8) r.1))
          (rs.foldl (fun a r => a ||| r.2) 0) 0 with
        | .ok v _ => .ok v []
        | .stop v => .stop v))

/-- A RUNNING context whose next word is a legal vec instruction of VLOAD, VSTORE, VKEY, CVT, CAST_ABSMAX, CAST_DELAYED, CAST_DECODE, POOL_MAX,
POOL_AVG_ALL, POOL_AVG_VALID, ARGMAX or ARGMAX_CONT applies it and is issued with its counter, the issuer going on; VEC_DONE completes the
operation issued longest and raises its counter. A loaded register takes the word its region grants; a stored word takes the register. (R88,
R118, R134, R143, R145, R146, R147, R209, R210, R211, R213) -/
def Obligations.VectorOthersComplete : Prop :=
  (∀ (d : Die) (n : Blk) (c : Ctx) (x : CtxX) (w : Nat) (s : State),
      issuing s d n c 0x03 = some (x, w) → vecLegal (planSlots s d x) w = true → vOp w = 0x54 → exec (.vload d n c) s = .next (vecAfter d n c w (vloadRun d n c s w))) ∧
  (∀ (d : Die) (n : Blk) (c : Ctx) (x : CtxX) (w : Nat) (s : State),
      issuing s d n c 0x03 = some (x, w) → vecLegal (planSlots s d x) w = true → vOp w = 0x58 → exec (.vstore d n c) s = .next (vecAfter d n c w (vstoreRun d n c s w))) ∧
  (∀ (d : Die) (n : Blk) (c : Ctx) (x : CtxX) (w : Nat) (s : State),
      issuing s d n c 0x03 = some (x, w) → vecLegal (planSlots s d x) w = true → vOp w = 0x5C → exec (.vkey d n c) s = .next (vecAfter d n c w (vkeyRun d n c s w))) ∧
  (∀ (d : Die) (n : Blk) (c : Ctx) (x : CtxX) (w : Nat) (s : State),
      issuing s d n c 0x03 = some (x, w) → vecLegal (planSlots s d x) w = true → 0x80 ≤ vOp w → exec (.cvt d n c) s = .next (vecAfter d n c w (cvtRun d n c s w))) ∧
  (∀ (d : Die) (n : Blk) (c : Ctx) (x : CtxX) (w : Nat) (f : Fmt) (s : State),
      issuing s d n c 0x03 = some (x, w) → vecLegal (planSlots s d x) w = true → vOp w = 0x68 → srcFmt s d n c = some f → exec (.castAbsmax d n c) s = .next (vecAfter d n c w (castRun d n c false f s w))) ∧
  (∀ (d : Die) (n : Blk) (c : Ctx) (x : CtxX) (w : Nat) (f : Fmt) (s : State),
      issuing s d n c 0x03 = some (x, w) → vecLegal (planSlots s d x) w = true → vOp w = 0x69 → srcFmt s d n c = some f → exec (.castDelayed d n c) s = .next (vecAfter d n c w (castRun d n c true f s w))) ∧
  (∀ (d : Die) (n : Blk) (c : Ctx) (x : CtxX) (w : Nat) (s : State),
      issuing s d n c 0x03 = some (x, w) → vecLegal (planSlots s d x) w = true → vOp w = 0x6A → exec (.castDecode d n c) s = .next (vecAfter d n c w (decodeRun d n c s w))) ∧
  (∀ (d : Die) (n : Blk) (c : Ctx) (x : CtxX) (w : Nat) (f : Fmt) (s : State),
      issuing s d n c 0x03 = some (x, w) → vecLegal (planSlots s d x) w = true → vOp w = 0x60 → srcFmt s d n c = some f → exec (.poolMax d n c) s = .next (vecAfter d n c w (poolRun d n c 0 f s w))) ∧
  (∀ (d : Die) (n : Blk) (c : Ctx) (x : CtxX) (w : Nat) (f : Fmt) (s : State),
      issuing s d n c 0x03 = some (x, w) → vecLegal (planSlots s d x) w = true → vOp w = 0x61 → srcFmt s d n c = some f → exec (.poolAvgAll d n c) s = .next (vecAfter d n c w (poolRun d n c 1 f s w))) ∧
  (∀ (d : Die) (n : Blk) (c : Ctx) (x : CtxX) (w : Nat) (f : Fmt) (s : State),
      issuing s d n c 0x03 = some (x, w) → vecLegal (planSlots s d x) w = true → vOp w = 0x62 → srcFmt s d n c = some f → exec (.poolAvgValid d n c) s = .next (vecAfter d n c w (poolRun d n c 2 f s w))) ∧
  (∀ (d : Die) (n : Blk) (c : Ctx) (x : CtxX) (w : Nat) (f : Fmt) (s : State),
      issuing s d n c 0x03 = some (x, w) → vecLegal (planSlots s d x) w = true → vOp w = 0x63 → srcFmt s d n c = some f → exec (.argmax d n c) s = .next (vecAfter d n c w (argRun d n c false f s w))) ∧
  (∀ (d : Die) (n : Blk) (c : Ctx) (x : CtxX) (w : Nat) (f : Fmt) (s : State),
      issuing s d n c 0x03 = some (x, w) → vecLegal (planSlots s d x) w = true → vOp w = 0x64 → srcFmt s d n c = some f → exec (.argmaxCont d n c) s = .next (vecAfter d n c w (argRun d n c true f s w))) ∧
  (∀ (d : Die) (n : Blk) (c : Ctx) (k : Nat) (ks : List Nat) (s : State),
      (ctxX s d n c).vec = k :: ks → inRun s d n c = true → exec (.vecDone d n c) s = .next (setCtxX s d n c ({ ctxX s d n c with vec := ks }.done k))) ∧
  (∀ (d n c w : Nat) (bs : List Byte) (t s : State),
      ownRead s d n 1 c (256 * vSrc w) 256 = .ok t bs → vloadRun d n c s w = .ok (setCtxX t d n c ((elems 4 bs).zipIdx.foldl (fun x p => x.setLane (vReg w) p.2 p.1) (ctxX t d n c))) []) ∧
  (∀ (d n c : Nat) (run : Fmt → State → Nat → Got) (detail w : Nat) (s : State),
      withSrc d n c detail run s w = (match srcFmt s d n c with | some f => run f s w | none => .stop (halt s d n c Rsn.CFG_CONFLICT detail)))

/-- With the rail on, VER 1, the operands in range and (but for GET_STATUS and GET_FATAL) initialisation over: GET_CERT answers the bytes asked;
GET_MEASUREMENTS, GET_SEAL and GET_TREATMENT answer signed; GET_STATUS answers five registers and clears the event flags it returned; RESET
queues the reset or answers its codes; SET_BUDGET writes LDG_MODULE; GET_FATAL answers an entry of the log; LOCATE sets its
bit. (R474, R475, R476, R477, R478, R494) -/
def Obligations.ManagementComplete : Prop :=
  (∀ (ver : Byte) (tag : BitVec 16) (data : List Byte) (s : State),
      s.modx.rail = true → ver = 1 → ready s = true → data.length = 6 ∧ 1 ≤ fld data 4 2 ∧ fld data 4 2 ≤ 1024 ∧ fld data 0 4 + fld data 4 2 ≤ 0x100000 → exec (.getCert ver tag data) s = .next (frameOut s 0x81 tag.toNat ((List.range (fld data 4 2)).map (fun i => Config.certByte (fld data 0 4 + i))))) ∧
  (∀ (ver : Byte) (tag : BitVec 16) (data : List Byte) (s : State),
      s.modx.rail = true → ver = 1 → ready s = true → data.length = 32 → exec (.getMeasurements ver tag data) s = .next (signedOut s 0x02 tag data ((List.range 16).flatMap (meas s) ++ stateBlock s))) ∧
  (∀ (ver : Byte) (tag : BitVec 16) (data : List Byte) (s : State),
      s.modx.rail = true → ver = 1 → ready s = true → data.length = 32 → exec (.getSeal ver tag data) s = .next (signedOut s 0x03 tag data ((List.range 12).flatMap (sealOf s)))) ∧
  (∀ (ver : Byte) (tag : BitVec 16) (data : List Byte) (s : State),
      s.modx.rail = true → ver = 1 → ready s = true → data.length = 36 ∧ fld data 32 1 < 4 ∧ fld data 33 1 < 4 → outOf s (fld data 32 1) = false → bit s (Reg.SEAL_JRNL_CTRL (fld data 32 1) (fld data 33 1)) 0 = true → exec (.getTreatment ver tag data) s = .next (signedOut s 0x04 tag data (treatment s (fld data 32 1) (fld data 33 1) (fld data 34 2)))) ∧
  (∀ (ver : Byte) (tag : BitVec 16) (data : List Byte) (s : State),
      s.modx.rail = true → ver = 1 → data.length = 0 → let r : Nat → List Byte := fun a => leBytes 4 (rd s a).toNat
      exec (.getStatus ver tag data) s = .next (fset (fset (frameOut s 0x90 tag.toNat (r Reg.GLB_MOD_STATUS ++ r Reg.GLB_MOD_INPUT ++ r Reg.GLB_MOD_COOLANT ++ r Reg.GLB_MOD_EVENTS ++ r Reg.GLB_BOOT_STATUS)) Reg.GLB_MOD_EVENTS 0 4 0) Reg.GLB_MOD_STATUS 9 1 0)) ∧
  (∀ (ver : Byte) (tag : BitVec 16) (data : List Byte) (s : State),
      s.modx.rail = true → ver = 1 → ready s = true → data.length = 2 ∧ fld data 0 1 ≠ 0 → resetChk s (fld data 0 1) (fld data 1 1) = none → exec (.mgmtReset ver tag data) s = .next (frameOut (s.withResetQ (s.resetQ ++ [⟨none, fld data 0 1, fld data 1 1⟩])) 0x91 tag.toNat [])) ∧
  (∀ (ver : Byte) (tag : BitVec 16) (data : List Byte) (s : State),
      s.modx.rail = true → ver = 1 → ready s = true → data.length = 2 ∧ fld data 0 1 ≠ 0 → resetChk s (fld data 0 1) (fld data 1 1) = some (Rsn.CFG_RANGE, 0x8A) → exec (.mgmtReset ver tag data) s = .next (frameErr s tag.toNat Rsn.CFG_RANGE 0x8A)) ∧
  (∀ (ver : Byte) (tag : BitVec 16) (data : List Byte) (s : State),
      s.modx.rail = true → ver = 1 → ready s = true → data.length = 4 → fld data 0 2 < 8192 ∧ fld data 2 2 < 1024 → moduleChk s (fld data 0 2 + fld data 2 2 * 65536) = none →
      exec (.setBudget ver tag data) s = .next (frameOut (setModule s (fld data 0 2 + fld data 2 2 * 65536)) 0x92 tag.toNat [])) ∧
  (∀ (ver : Byte) (tag : BitVec 16) (data : List Byte) (s : State),
      s.modx.rail = true → ver = 1 → data.length = 1 ∧ fld data 0 1 < 64 → exec (.getFatal ver tag data) s = .next (frameOut s 0x93 tag.toNat ((List.range 16).flatMap (fun k => leBytes 4 (rd s (Reg.FLT_LOG (cornerstone s) (fld data 0 1) k)).toNat)))) ∧
  (∀ (ver : Byte) (tag : BitVec 16) (data : List Byte) (s : State),
      s.modx.rail = true → ver = 1 → ready s = true → data.length = 1 ∧ fld data 0 1 ≤ 1 → exec (.locate ver tag data) s = .next (frameOut (fset s Reg.GLB_MOD_STATUS 12 1 (fld data 0 1)) 0x94 tag.toNat [])) ∧
  (∀ (ver : Byte) (tag : BitVec 16) (data : List Byte) (s : State),
      s.modx.rail = true → ver = 1 → data.length ≠ 6 → exec (.getCert ver tag data) s = .next (frameErr s tag.toNat Rsn.BAD_DESC 0xCE))

/-- With the rail on: ENTDAA assigns a dynamic address to a module that holds none and answers its provisional identifier, most significant byte
first; SET_ENDPOINT_ID stores an identifier and answers it; GET_ENDPOINT_ID answers the stored one, or 0x20 plus the slot number before any
is set; version support of a carried type answers with completion code 0; the message types are answered as 0x7F. The completion codes and
the refused identifiers 0 and 0xFF are the model's presumption (log entry 28). (R493) -/
def Obligations.I3cAndMctpComplete : Prop :=
  (∀ (a : BitVec 7) (s : State),
      s.modx.rail = true → s.modx.i3c = none → exec (.entdaa a) s = .next (emit (s.withModx { s.modx with i3c := some a.toNat }) .frame [0x07, a.toNat] (leBytes 6 (provId s)).reverse)) ∧
  (∀ (e : Byte) (s : State),
      s.modx.rail = true → e ≠ 0 ∧ e ≠ 0xFF → exec (.setEndpointId e) s = .next (control (s.withModx { s.modx with eid := some e.toNat }) 1 0 [e])) ∧
  (∀ (s : State),
      s.modx.rail = true → exec (.getEndpointId) s = .next (control s 2 0 (leBytes 1 (s.modx.eid.getD (0x20 + fget s Reg.GLB_MOD_STATUS 0 6))))) ∧
  (∀ (t : Byte) (s : State),
      s.modx.rail = true → t = 0xFF ∨ t = 0 ∨ t = 0x7F → exec (.getMctpVersionSupport t) s = .next (control (takeFree s).2 4 0 (1 :: leBytes 4 (takeFree s).1))) ∧
  (∀ (s : State),
      s.modx.rail = true → exec (.getMessageTypeSupport) s = .next (control s 5 0 [1, 0x7F]))

/-- An aligned write of 4 bytes through an open window takes the effect of that register, which is a plain store of its writable fields where no
command of the table stands behind it; one of 8 bytes writes the lower then the upper; another size or alignment, a window out of service
and an address outside the windows are refused with an access fault; a read of a LO register answers the live value's low half and latches
its upper half. A journal whose checks pass is enabled with an empty chain, one enabled already keeps its chain, and one whose checks fail
answers their codes; disable is refused with STATE 0xCB while TAIL differs from HEAD. (R13, R14, R501, R503, R480, R513) -/
def Obligations.RegisterAccessComplete : Prop :=
  (∀ (pcie : Bool) (a : BitVec 52) (u : Nat) (q : Win × Nat) (v : W64) (s : State),
      winOf a.toNat = some (u, q) → winGone s u = false → a.toNat % 4 = 0 → exec (.registerWrite pcie a 4 v) s = .next (regStore s a.toNat (v.setWidth 32))) ∧
  (∀ (pcie : Bool) (a : BitVec 52) (u : Nat) (q : Win × Nat) (v : W64) (s : State),
      winOf a.toNat = some (u, q) → winGone s u = false → a.toNat % 8 = 0 → exec (.registerWrite pcie a 8 v) s = .next (regStore (regStore s a.toNat (v.setWidth 32)) (a.toNat + 4) ((v >>> 32).setWidth 32))) ∧
  (∀ (pcie : Bool) (a : BitVec 52) (z : Nat) (v : W64) (s : State),
      (winOf a.toNat = none ∨ (∃ u q, winOf a.toNat = some (u, q) ∧ winGone s u = true) ∨ ¬ (z = 4 ∧ a.toNat % 4 = 0 ∨ z = 8 ∧ a.toNat % 8 = 0)) → exec (.registerWrite pcie a z v) s = .next (emit s .accessFault [if pcie then 1 else 0] [])) ∧
  (∀ (a : BitVec 52) (u : Nat) (q : Win × Nat) (w : W64) (s : State),
      winOf a.toNat = some (u, q) → winGone s u = false → livePair s a.toNat = some w → exec (.loReadLatch a) s = .next (emit (s.withLatch (tset latchDef s.latch a.toNat ((w >>> 32).setWidth 32))) .readValue [a.toNat, (w.setWidth 32).toNat] [])) ∧
  (∀ (d : Die) (j : Fin 4) (v : W32) (s : State),
      winOpen s d → bit s (Reg.SEAL_JRNL_CTRL d j) 0 = false → jrnlChecks (rwlIn s (Reg.SEAL_JRNL_CTRL d j) 0xFFFF003E v) d j = none → exec (.jrnlEnable d j v) s = .next (setJournal (fset (rwlIn s (Reg.SEAL_JRNL_CTRL d j) 0xFFFF003E v) (Reg.SEAL_JRNL_CTRL d j) 0 1 1) d j ⟨[], 0, 0, []⟩)) ∧
  (∀ (d : Die) (j : Fin 4) (s : State),
      winOpen s d → rd s (Reg.SEAL_JRNL_TAIL d j) = rd s (Reg.SEAL_JRNL_HEAD d j) → exec (.jrnlDisable d j) s = .next (fset s (Reg.SEAL_JRNL_CTRL d j) 0 1 0)) ∧
  (∀ (d : Die) (j : Fin 4) (s : State),
      winOpen s d → rd s (Reg.SEAL_JRNL_TAIL d j) ≠ rd s (Reg.SEAL_JRNL_HEAD d j) → exec (.jrnlDisable d j) s = .next (emit s .refusal [Rsn.STATE, 0xCB] [])) ∧
  (∀ (a u o : Nat) (k : Win) (v : W32) (r : RegRow) (is : List Nat) (s : State),
      winOf a = some (u, k, o) → regAt (canonReg a) = some (u, r, is) → ringStore s u (canonReg a) r.name (is.getD 0 0) v = none → unitStore s u (canonReg a) r.name (is.getD 0 0) (is.getD 1 0) v = none → linkStore s u (canonReg a) r.name (is.getD 0 0) v = none → hostStore s u (canonReg a) r.name (is.getD 0 0) v = none → regStore s a v = regWrite4 s a v) ∧
  (∀ (d : Die) (j : Fin 4) (v : W32) (s : State),
      winOpen s d → bit s (Reg.SEAL_JRNL_CTRL d j) 0 = true → jrnlChecks (rwlIn s (Reg.SEAL_JRNL_CTRL d j) 0xFFFF003E v) d j = none → exec (.jrnlEnable d j v) s = .next (rwlIn s (Reg.SEAL_JRNL_CTRL d j) 0xFFFF003E v)) ∧
  (∀ (d : Die) (j : Fin 4) (v : W32) (r e : Nat) (s : State),
      winOpen s d → jrnlChecks (rwlIn s (Reg.SEAL_JRNL_CTRL d j) 0xFFFF003E v) d j = some (r, e) → exec (.jrnlEnable d j v) s = .next (emit (rwlIn s (Reg.SEAL_JRNL_CTRL d j) 0xFFFF003E v) .refusal [r, e] [])) ∧
  (∀ (a : BitVec 52) (s : State),
      (winOf a.toNat = none ∨ ∃ u q, winOf a.toNat = some (u, q) ∧ winGone s u = true) → exec (.loReadLatch a) s = .next (emit s .accessFault [0] []))

/-- Where the ring is the one the admission unit serves and its entry reads as a descriptor of opcode 1-5, 7 or 8, the command of that opcode
(MOVE, RUN, LOAD, UNLOAD, ABORT, POWER on or off, FENCE) completes: its checks run in order, and the verdict refuses it with a REFUSE
record, makes it wait or parks its ring, or searches the calendar and accepts it with an ACCEPT record. (R234, R235, R239, R244) -/
def Obligations.PlainItemsAdmitted : Prop :=
  (∀ (d : Die) (r : Ring) (t : State) (desc : List Byte) (s : State),
      frontEntry s d r = .inr (t, desc) → dOp desc = 1 → exec (.move d r) s = .next (settle t d r desc (verdict t d r [] (moveItemAsk t d r desc)))) ∧
  (∀ (d : Die) (r : Ring) (t : State) (desc : List Byte) (s : State),
      frontEntry s d r = .inr (t, desc) → dOp desc = 2 → exec (.run d r) s = .next (settle t d r desc (verdict t d r [] (runItemAsk t d r desc)))) ∧
  (∀ (d : Die) (r : Ring) (t : State) (desc : List Byte) (s : State),
      frontEntry s d r = .inr (t, desc) → dOp desc = 3 → exec (.load d r) s = .next (settle t d r desc (verdict t d r [] (loadAsk t d r desc)))) ∧
  (∀ (d : Die) (r : Ring) (t : State) (desc : List Byte) (s : State),
      frontEntry s d r = .inr (t, desc) → dOp desc = 4 → exec (.unload d r) s = .next (settle t d r desc (verdict t d r [] (unloadAsk t d r desc)))) ∧
  (∀ (d : Die) (r : Ring) (t : State) (desc : List Byte) (s : State),
      frontEntry s d r = .inr (t, desc) → dOp desc = 5 → exec (.abort d r) s = .next (settle t d r desc (verdict t d r [] (abortAsk t d r desc)))) ∧
  (∀ (d : Die) (r : Ring) (t : State) (desc : List Byte) (s : State),
      frontEntry s d r = .inr (t, desc) → dOp desc = 7 ∧ dfld desc 0x11 1 ≠ 2 → exec (.powerOn d r) s = .next (settle t d r desc (verdict t d r [] (powerAsk t d r desc)))) ∧
  (∀ (d : Die) (r : Ring) (t : State) (desc : List Byte) (s : State),
      frontEntry s d r = .inr (t, desc) → dOp desc = 7 ∧ dfld desc 0x11 1 = 2 → exec (.powerOff d r) s = .next (settle t d r desc (verdict t d r [] (powerAsk t d r desc)))) ∧
  (∀ (d : Die) (r : Ring) (t : State) (desc : List Byte) (s : State),
      frontEntry s d r = .inr (t, desc) → dOp desc = 8 → exec (.fence d r) s = .next (settle t d r desc (verdict t d r [] (fenceAsk t d r desc))))

/-- Where the ring is the one the admission unit serves and its entry is a FOOTING descriptor whose parameter block names the command's
operation, the command (an update, REDUCE, a compressor, TOPK_MERGE, HASH, SCRUB or ZERO) completes with the verdict of its checks: refused,
waiting, parked, or accepted by the calendar. (R176, R177, R179, R234, R239) -/
def Obligations.FootingCommandsAdmitted : Prop :=
  (∀ (d : Die) (r : Ring) (t : State) (desc : List Byte) (s : State),
      frontEntry s d r = .inr (t, desc) → ftgMine d r 0x01 t desc = true → exec (.updateMomentum d r) s = .next (settle t d r desc (verdict t d r [] (ftgAsk t d r desc)))) ∧
  (∀ (d : Die) (r : Ring) (t : State) (desc : List Byte) (s : State),
      frontEntry s d r = .inr (t, desc) → ftgMine d r 0x02 t desc = true → exec (.updateAdaptive d r) s = .next (settle t d r desc (verdict t d r [] (ftgAsk t d r desc)))) ∧
  (∀ (d : Die) (r : Ring) (t : State) (desc : List Byte) (s : State),
      frontEntry s d r = .inr (t, desc) → ftgMine d r 0x03 t desc = true → exec (.updateSigned d r) s = .next (settle t d r desc (verdict t d r [] (ftgAsk t d r desc)))) ∧
  (∀ (d : Die) (r : Ring) (t : State) (desc : List Byte) (s : State),
      frontEntry s d r = .inr (t, desc) → ftgMine d r 0x10 t desc = true → exec (.reduce d r) s = .next (settle t d r desc (verdict t d r [] (ftgAsk t d r desc)))) ∧
  (∀ (d : Die) (r : Ring) (t : State) (desc : List Byte) (s : State),
      frontEntry s d r = .inr (t, desc) → ftgMine d r 0x20 t desc = true → exec (.compressTopk d r) s = .next (settle t d r desc (verdict t d r [] (ftgAsk t d r desc)))) ∧
  (∀ (d : Die) (r : Ring) (t : State) (desc : List Byte) (s : State),
      frontEntry s d r = .inr (t, desc) → ftgMine d r 0x21 t desc = true → exec (.topkMerge d r) s = .next (settle t d r desc (verdict t d r [] (ftgAsk t d r desc)))) ∧
  (∀ (d : Die) (r : Ring) (t : State) (desc : List Byte) (s : State),
      frontEntry s d r = .inr (t, desc) → ftgMine d r 0x22 t desc = true → exec (.compressSign d r) s = .next (settle t d r desc (verdict t d r [] (ftgAsk t d r desc)))) ∧
  (∀ (d : Die) (r : Ring) (t : State) (desc : List Byte) (s : State),
      frontEntry s d r = .inr (t, desc) → ftgMine d r 0x30 t desc = true → exec (.hash d r) s = .next (settle t d r desc (verdict t d r [] (ftgAsk t d r desc)))) ∧
  (∀ (d : Die) (r : Ring) (t : State) (desc : List Byte) (s : State),
      frontEntry s d r = .inr (t, desc) → ftgMine d r 0x40 t desc = true → exec (.scrub d r) s = .next (settle t d r desc (verdict t d r [] (ftgAsk t d r desc)))) ∧
  (∀ (d : Die) (r : Ring) (t : State) (desc : List Byte) (s : State),
      frontEntry s d r = .inr (t, desc) → ftgMine d r 0x41 t desc = true → exec (.zero d r) s = .next (settle t d r desc (verdict t d r [] (ftgAsk t d r desc))))

/-- Where the ring is the one the admission unit serves and its entry reads as a descriptor of opcode 0x20-0x2E, the command of that opcode
completes with the verdict of its checks. A refused entry leaves its ring with a REFUSE record of the codes, one that must wait stays with
its ring passed over, one whose pages are missing stays and parks its ring, and an accepted one whose search finds a start and whose
completion ring has room becomes an item of that start and bound. FLOW_SET is the command of its ACTION: RESET of action 2, CLOSE of action
3, OPEN of action 1, and OPEN refuses any other action. (R234, R239, R333, R334, R346) -/
def Obligations.NetworkItemsAdmitted : Prop :=
  (∀ (d : Die) (r : Ring) (t : State) (desc : List Byte) (s : State),
      frontEntry s d r = .inr (t, desc) → dOp desc = 0x20 → exec (.netWrite d r) s = .next (settle t d r desc (verdict t d r [] (netXferAsk t d r 0x20 desc)))) ∧
  (∀ (d : Die) (r : Ring) (t : State) (desc : List Byte) (s : State),
      frontEntry s d r = .inr (t, desc) → dOp desc = 0x21 → exec (.netRead d r) s = .next (settle t d r desc (verdict t d r [] (netXferAsk t d r 0x21 desc)))) ∧
  (∀ (d : Die) (r : Ring) (t : State) (desc : List Byte) (s : State),
      frontEntry s d r = .inr (t, desc) → dOp desc = 0x22 → exec (.netSend d r) s = .next (settle t d r desc (verdict t d r [] (netXferAsk t d r 0x22 desc)))) ∧
  (∀ (d : Die) (r : Ring) (t : State) (desc : List Byte) (s : State),
      frontEntry s d r = .inr (t, desc) → dOp desc = 0x23 → exec (.netRecv d r) s = .next (settle t d r desc (verdict t d r [] (netRecvAsk t d r desc)))) ∧
  (∀ (d : Die) (r : Ring) (t : State) (desc : List Byte) (s : State),
      frontEntry s d r = .inr (t, desc) → dOp desc = 0x24 → exec (.netReg d r) s = .next (settle t d r desc (verdict t d r [] (netRegAsk t d r desc)))) ∧
  (∀ (d : Die) (r : Ring) (t : State) (desc : List Byte) (s : State),
      frontEntry s d r = .inr (t, desc) → dOp desc = 0x25 → exec (.netDereg d r) s = .next (settle t d r desc (verdict t d r [] (netDeregAsk t d r desc)))) ∧
  (∀ (d : Die) (r : Ring) (t : State) (desc : List Byte) (s : State),
      frontEntry s d r = .inr (t, desc) → dOp desc = 0x26 → exec (.rawTx d r) s = .next (settle t d r desc (verdict t d r [] (rawTxAsk t d r desc)))) ∧
  (∀ (d : Die) (r : Ring) (t : State) (desc : List Byte) (s : State),
      frontEntry s d r = .inr (t, desc) → dOp desc = 0x28 → exec (.nvme d r) s = .next (settle t d r desc (verdict t d r [] (nvmeAsk t d r desc)))) ∧
  (∀ (d : Die) (r : Ring) (t : State) (desc : List Byte) (s : State),
      frontEntry s d r = .inr (t, desc) → dOp desc = 0x29 → exec (.chainSum d r) s = .next (settle t d r desc (verdict t d r [] (chainAsk t d r 0x29 desc)))) ∧
  (∀ (d : Die) (r : Ring) (t : State) (desc : List Byte) (s : State),
      frontEntry s d r = .inr (t, desc) → dOp desc = 0x2A → exec (.chainTopk d r) s = .next (settle t d r desc (verdict t d r [] (chainAsk t d r 0x2A desc)))) ∧
  (∀ (d : Die) (r : Ring) (t : State) (desc : List Byte) (s : State),
      frontEntry s d r = .inr (t, desc) → dOp desc = 0x2B → exec (.chainSign d r) s = .next (settle t d r desc (verdict t d r [] (chainAsk t d r 0x2B desc)))) ∧
  (∀ (d : Die) (r : Ring) (t : State) (desc : List Byte) (s : State),
      frontEntry s d r = .inr (t, desc) → dOp desc = 0x2C → exec (.permute d r) s = .next (settle t d r desc (verdict t d r [] (permuteAsk t d r desc)))) ∧
  (∀ (d : Die) (r : Ring) (t : State) (desc : List Byte) (s : State),
      frontEntry s d r = .inr (t, desc) → dOp desc = 0x2D → exec (.groupSet d r) s = .next (settle t d r desc (verdict t d r [] (groupSetAsk t d r desc)))) ∧
  (∀ (d : Die) (r : Ring) (t : State) (desc : List Byte) (s : State),
      frontEntry s d r = .inr (t, desc) → dOp desc = 0x2E → exec (.groupClose d r) s = .next (settle t d r desc (verdict t d r [] (groupCloseAsk t d r desc)))) ∧
  (∀ (d : Die) (r : Ring) (t : State) (desc : List Byte) (s : State),
      frontEntry s d r = .inr (t, desc) → dOp desc = 0x27 ∧ dfld desc 0x14 1 ≠ 2 ∧ dfld desc 0x14 1 ≠ 3 → exec (.flowSetOpen d r) s = .next (settle t d r desc (verdict t d r [] (flowSetAsk t d r desc)))) ∧
  (∀ (d : Die) (r : Ring) (t : State) (desc : List Byte) (s : State),
      frontEntry s d r = .inr (t, desc) → dOp desc = 0x27 ∧ dfld desc 0x14 1 = 2 → exec (.flowSetReset d r) s = .next (settle t d r desc (verdict t d r [] (flowSetAsk t d r desc)))) ∧
  (∀ (d : Die) (r : Ring) (t : State) (desc : List Byte) (s : State),
      frontEntry s d r = .inr (t, desc) → dOp desc = 0x27 ∧ dfld desc 0x14 1 = 3 → exec (.flowSetClose d r) s = .next (settle t d r desc (verdict t d r [] (flowSetAsk t d r desc)))) ∧
  (∀ (d r a b : Nat) (desc : List Byte) (w : Nat × Nat) (t : State),
      settle t d r desc (.refuse t a b w) = refuseFront (refusalNote t d r (dTag desc) (dOp desc) a b w) d r (dTag desc) (dScope desc) a b) ∧
  (∀ (d r : Nat) (desc : List Byte) (t : State),
      settle t d r desc .wait = setRingX t d r { ringX t d r with waits := true }) ∧
  (∀ (d r : Nat) (desc : List Byte) (miss : List (Nat × Nat × Nat)) (t : State),
      settle t d r desc (.park t miss) = park t d r (dTag desc) (some desc) miss) ∧
  (∀ (d r : Nat) (desc : List Byte) (w : Want) (f : Item → Item) (ext : List Extent) (t : State),
      settle t d r desc (.accept t w f ext) = (if extAbsent t d ext then refuseFront t d r (dTag desc) (dScope desc) Rsn.HOST_ABSENT 0x87 else (decideItem t d r desc w f ext).1)) ∧
  (∀ (d r : Nat) (desc : List Byte) (w : Want) (f : Item → Item) (ext : List Extent) (start : Nat) (sh : Shape) (t : State),
      searchF t d w (itemLimit t d desc ((ringX t d r).obs.headD 0)).1 (itemLimit t d desc ((ringX t d r).obs.headD 0)).2 none (max (ctl t d) w.after) true 256 = .inl (start, sh) → cqRoom t d r = true → (t.items.filter (fun i => i.die == d)).length < 131072 → ∃ it : Item, it.die = d ∧ it.ring = r ∧ it.desc = desc ∧ it.extents = ext ∧ it.start = start ∧ it.bound = start + sh.dur + sh.allow ∧ it.started = false ∧ f it ∈ (decideItem t d r desc w f ext).1.items) ∧
  (∀ (d : Die) (r : Ring) (t : State) (desc : List Byte) (s : State),
      frontEntry s d r = .inr (t, desc) → dOp desc = 0x27 → dfld desc 0x14 1 = 0 ∨ 4 ≤ dfld desc 0x14 1 → ∃ a b, flowSetAsk t d r desc = .refuse a b ∧ exec (.flowSetOpen d r) s = .next (settle t d r desc (.refuse t a b (0, 0))))

/-- Where the ring is the one the admission unit serves and its entry reads as a descriptor of opcode 0x30-0x34, the command of that opcode
(POINT, BED, UNBED, VERIFY, ADOPT) completes with the verdict of its checks. A verdict of codes consumes the entry with a REFUSE record; an
accepted want whose search finds a start and whose completion ring has room becomes an item of that start and bound, with an ACCEPT record.
(R234, R236, R239, R413, R416, R419, R425, R426) -/
def Obligations.CheckpointItemsAdmitted : Prop :=
  (∀ (d : Die) (r : Ring) (t : State) (desc : List Byte) (s : State),
      frontEntry s d r = .inr (t, desc) → dOp desc = 0x30 → exec (.point d r) s = .next (settle t d r desc (verdict t d r [] (pointAsk t d r desc)))) ∧
  (∀ (d : Die) (r : Ring) (t : State) (desc : List Byte) (s : State),
      frontEntry s d r = .inr (t, desc) → dOp desc = 0x31 → exec (.bed d r) s = .next (settle t d r desc (verdict t d r [] (bedAsk t d r desc)))) ∧
  (∀ (d : Die) (r : Ring) (t : State) (desc : List Byte) (s : State),
      frontEntry s d r = .inr (t, desc) → dOp desc = 0x32 → exec (.unbed d r) s = .next (settle t d r desc (verdict t d r [] (unbedAsk t d r desc)))) ∧
  (∀ (d : Die) (r : Ring) (t : State) (desc : List Byte) (s : State),
      frontEntry s d r = .inr (t, desc) → dOp desc = 0x33 → exec (.verify d r) s = .next (settle t d r desc (verdict t d r [] (verifyAsk t d r desc)))) ∧
  (∀ (d : Die) (r : Ring) (t : State) (desc : List Byte) (s : State),
      frontEntry s d r = .inr (t, desc) → dOp desc = 0x34 → exec (.adopt d r) s = .next (settle t d r desc (verdict t d r [] (adoptAsk t d r desc)))) ∧
  (∀ (d r : Nat) (desc : List Byte) (a b : Nat) (w : Nat × Nat) (t u s : State),
      settle s d r desc (.refuse t a b w) = u → u = refuseFront (refusalNote t d r (dTag desc) (dOp desc) a b w) d r (dTag desc) (dScope desc) a b) ∧
  (∀ (d r : Nat) (desc : List Byte) (w : Want) (f : Item → Item) (t : Nat) (sh : Shape) (s : State),
      searchF s d w (itemLimit s d desc ((ringX s d r).obs.headD 0)).1 (itemLimit s d desc ((ringX s d r).obs.headD 0)).2 none (max (ctl s d) w.after) true 256 = .inl (t, sh) → cqRoom s d r = true → (s.items.filter (fun i => i.die == d)).length < 131072 → ∃ it : Item, it.die = d ∧ it.ring = r ∧ it.seq = (rd s (Reg.RING_SEQ d r)).toNat ∧ it.desc = desc ∧ it.start = t ∧ it.bound = t + sh.dur + sh.allow ∧
      it.started = false ∧ f it ∈ (decideItem s d r desc w f []).1.items ∧
      rd (decideItem s d r desc w f []).1 (Reg.RING_SEQ d r) = rd s (Reg.RING_SEQ d r) + 1)

/-- Through an open window: a tail that covers 0 to 2^SQ_LOG2 entries is stored, entries covered for the first time taking their observation
time and the entries it no longer covers losing theirs, and any other is ignored with BAD_DESC 0xA5 and a record; a ring whose checks pass
is enabled and ACTIVE, one whose checks fail shows their codes; a ring with nothing outstanding is disabled, another refused with STATE
0x95; an open batch closes on idleness; a resume of the oldest batch takes its responses to the parked items they name and makes their rings
go on, any other is refused with STATE 0xB7. (R230, R232, R266, R268) -/
def Obligations.RingsComplete : Prop :=
  (∀ (d : Die) (r : Ring) (tail : BitVec 17) (k : Nat) (s : State),
      winOpen s d → (tail.toNat % (2 * sqEntries s d r) + 2 * sqEntries s d r - fget s (Reg.RING_SQ_HEAD d r) 0 17 % (2 * sqEntries s d r)) % (2 * sqEntries s d r) = k → k ≤ sqEntries s d r → let u := fset s (Reg.RING_SQ_TAIL d r) 0 17 (tail.toNat % (2 * sqEntries s d r))
      exec (.ringDoorbell d r tail) s = .next (setRingX u d r { ringX s d r with obs := (ringX s d r).obs.take k ++ List.replicate (k - (ringX s d r).obs.length) (ctl u d) })) ∧
  (∀ (d : Die) (r : Ring) (v : W32) (s : State),
      winOpen s d → ringChecks (rwlIn s (Reg.RING_CFG d r) 0xFFFFFFFE v) d r = none → ringState (fset (rwlIn s (Reg.RING_CFG d r) 0xFFFFFFFE v) (Reg.RING_CFG d r) 0 1 1) d r = 0 → exec (.ringEnable d r v) s = .next (ringCodes (fset (fset (rwlIn s (Reg.RING_CFG d r) 0xFFFFFFFE v) (Reg.RING_CFG d r) 0 1 1) (Reg.RING_STATUS d r) 0 2 1) d r 0 0)) ∧
  (∀ (d : Die) (r : Ring) (v : W32) (a b : Nat) (s : State),
      winOpen s d → ringChecks (rwlIn s (Reg.RING_CFG d r) 0xFFFFFFFE v) d r = some (a, b) → exec (.ringEnable d r v) s = .next (setRD (rwlIn s (Reg.RING_CFG d r) 0xFFFFFFFE v) (Reg.RING_STATUS d r) 8 a b)) ∧
  (∀ (d : Die) (r : Ring) (s : State),
      winOpen s d → fget s (Reg.RING_OUTSTANDING d r) 0 17 = 0 → let u := fset (fset s (Reg.RING_CFG d r) 0 1 0) (Reg.RING_STATUS d r) 0 2 0
      exec (.ringDisable d r) s = .next (parkedReg (setRingX u d r { ringX u d r with parked := false, waits := false, desc := none, denied := false }) d)) ∧
  (∀ (d : Die) (r : Ring) (s : State),
      winOpen s d → fget s (Reg.RING_OUTSTANDING d r) 0 17 ≠ 0 → exec (.ringDisable d r) s = .next (ringCodes s d r Rsn.STATE 0x95)) ∧
  (∀ (d : Die) (s : State),
      (xunit s d).batch.isEmpty = false → exec (.fbBatchIdleClose d) s = .next (closeBatch s d 2)) ∧
  (∀ (d : Die) (v : W32) (recs : List PFRec) (rest : List (Nat × List PFRec)) (s : State),
      winOpen s d → (xunit s d).closed = (v.toNat, recs) :: rest → let resp := recs.zipIdx.map (fun p => (p.1.ring, p.1.seq, memNat s (fbRec s d (v.toNat % fbSlots s d) + 32 * p.2 + 0x12) 1 != 0))
      let t := (recs.map (·.ring)).eraseDups.foldl (fun s r => if resp.any (fun p => p.1 == r && p.2.1 == (rd s (Reg.RING_SEQ d r)).toNat) = true then
          answered s d r (resp.any (fun p => p.1 == r && p.2.1 == (rd s (Reg.RING_SEQ d r)).toNat && p.2.2)) else s) (fbOldest (setXunit s d { xunit s d with closed := rest }) d)
      exec (.fbResume d v) s = .next (parkedReg (unparkLoose t d) d)) ∧
  (∀ (d : Die) (v : W32) (n : Nat) (recs : List PFRec) (rest : List (Nat × List PFRec)) (s : State),
      winOpen s d → (xunit s d).closed = (n, recs) :: rest → v.toNat ≠ n → exec (.fbResume d v) s = .next (emit s .refusal [Rsn.STATE, 0xB7] [])) ∧
  (∀ (d : Die) (r : Ring) (tail : BitVec 17) (s : State),
      winOpen s d → sqEntries s d r < (tail.toNat % (2 * sqEntries s d r) + 2 * sqEntries s d r - fget s (Reg.RING_SQ_HEAD d r) 0 17 % (2 * sqEntries s d r)) % (2 * sqEntries s d r) → let u := ringCodes s d r Rsn.BAD_DESC 0xA5
      exec (.ringDoorbell d r tail) s = .next (note u d Rsn.BAD_DESC 0xA5 7 (ringSrc d r) (ringData (rd u (Reg.RING_SEQ d r)).toNat 0 0))) ∧
  (∀ (d : Die) (v : W32) (s : State),
      winOpen s d → (xunit s d).closed = [] → exec (.fbResume d v) s = .next (emit s .refusal [Rsn.STATE, 0xB7] [])) ∧
  (∀ (d : Die) (s : State),
      (xunit s d).batch.isEmpty = true → exec (.fbBatchIdleClose d) s = .next s)

/-- Through an open window: an invalidation of a range, an address space or everything, posted on a queue that is not full (a full one refuses
it with STATE 0xB6), takes the next number, drops the cache entries it covers and notes the items and registered regions that hold an
overlapping translation; the oldest is acknowledged, in XLT_INV_DONE, once none of those remains; an enable shows the codes of its first
failing check or sets ENABLE; a disable clears it unless a ring, or the root port, is enabled, when it shows STATE 0xBC. (R269, R273) -/
def Obligations.TranslationUnitsComplete : Prop :=
  (∀ (u : Unit6) (asid : BitVec 16) (s : State),
      winOpen s u → (xunit s u).inv.length < 16 → let x := xunit s u
      let n := (rd s (Reg.XLT_INV_SEQ u)).toNat + 1
      let va := fget s (Reg.XLT_INV_VA_LO u) 12 20 * 4096 + fget s (Reg.XLT_INV_VA_HI u) 0 25 * 0x100000000
      let i0 : Inv := ⟨n % 2 ^ 32, 1, asid.toNat, va, (rd s (Reg.XLT_INV_PAGES u)).toNat, [], []⟩
      let i : Inv := { i0 with items := (s.items.filter (fun it => it.die == u.val && it.extents.any (fun e => invHits i0 it.asid e.va e.len))).map (fun it => (it.die, it.ring, it.seq)), regions := (s.netRegs.filter (fun g => g.die == u.val && g.extents.any (fun e => invHits i0 g.asid e.va e.len))).map (fun g => (g.die, g.key)) }
      exec (.invRange u asid) s = .next (queuedReg (setXunit (wr s (Reg.XLT_INV_SEQ u) (BitVec.ofNat 32 n)) u { x with cache := x.cache.filter (fun e => !invHits i e.asid e.va e.size), inv := x.inv ++ [i] }) u)) ∧
  (∀ (u : Unit6) (asid : BitVec 16) (s : State),
      winOpen s u → (xunit s u).inv.length < 16 → let x := xunit s u
      let n := (rd s (Reg.XLT_INV_SEQ u)).toNat + 1
      let va := fget s (Reg.XLT_INV_VA_LO u) 12 20 * 4096 + fget s (Reg.XLT_INV_VA_HI u) 0 25 * 0x100000000
      let i0 : Inv := ⟨n % 2 ^ 32, 2, asid.toNat, va, (rd s (Reg.XLT_INV_PAGES u)).toNat, [], []⟩
      let i : Inv := { i0 with items := (s.items.filter (fun it => it.die == u.val && it.extents.any (fun e => invHits i0 it.asid e.va e.len))).map (fun it => (it.die, it.ring, it.seq)), regions := (s.netRegs.filter (fun g => g.die == u.val && g.extents.any (fun e => invHits i0 g.asid e.va e.len))).map (fun g => (g.die, g.key)) }
      exec (.invAsid u asid) s = .next (queuedReg (setXunit (wr s (Reg.XLT_INV_SEQ u) (BitVec.ofNat 32 n)) u { x with cache := x.cache.filter (fun e => !invHits i e.asid e.va e.size), inv := x.inv ++ [i] }) u)) ∧
  (∀ (u : Unit6) (s : State),
      winOpen s u → (xunit s u).inv.length < 16 → let x := xunit s u
      let n := (rd s (Reg.XLT_INV_SEQ u)).toNat + 1
      let va := fget s (Reg.XLT_INV_VA_LO u) 12 20 * 4096 + fget s (Reg.XLT_INV_VA_HI u) 0 25 * 0x100000000
      let i0 : Inv := ⟨n % 2 ^ 32, 3, 0, va, (rd s (Reg.XLT_INV_PAGES u)).toNat, [], []⟩
      let i : Inv := { i0 with items := (s.items.filter (fun it => it.die == u.val && it.extents.any (fun e => invHits i0 it.asid e.va e.len))).map (fun it => (it.die, it.ring, it.seq)), regions := (s.netRegs.filter (fun g => g.die == u.val && g.extents.any (fun e => invHits i0 g.asid e.va e.len))).map (fun g => (g.die, g.key)) }
      exec (.invAll u) s = .next (queuedReg (setXunit (wr s (Reg.XLT_INV_SEQ u) (BitVec.ofNat 32 n)) u { x with cache := x.cache.filter (fun e => !invHits i e.asid e.va e.size), inv := x.inv ++ [i] }) u)) ∧
  (∀ (u : Unit6) (i : Inv) (rest : List Inv) (s : State),
      (xunit s u).inv = i :: rest → invHeld s i = false → exec (.invAck u) s = .next (queuedReg (wr (setXunit s u { xunit s u with inv := rest }) (Reg.XLT_INV_DONE u) (BitVec.ofNat 32 i.seq)) u)) ∧
  (∀ (u : Unit6) (v : W32) (s : State),
      winOpen s u → let t := if u.val < 4 then rwlIn s (Reg.XLT_CTRL u) 0x1E v else s
      exec (.xltEnable u v) s = .next (finishEnable t (Reg.XLT_CTRL u) 16 (xltChecks t u))) ∧
  (∀ (u : Unit6) (s : State),
      winOpen s u → (if u.val < 4 then enabledRings s u = [] else rootPortOn s (u - 4) = false) → exec (.xltDisable u) s = .next (setRD (fset s (Reg.XLT_CTRL u) 0 1 0) (Reg.XLT_CTRL u) 16 0 0)) ∧
  (∀ (u : Unit6) (asid : BitVec 16) (s : State),
      winOpen s u → 16 ≤ (xunit s u).inv.length → exec (.invRange u asid) s = .next (emit s .refusal [Rsn.STATE, 0xB6] []) ∧ exec (.invAsid u asid) s = .next (emit s .refusal [Rsn.STATE, 0xB6] []) ∧ exec (.invAll u) s = .next (emit s .refusal [Rsn.STATE, 0xB6] [])) ∧
  (∀ (u : Unit6) (s : State),
      winOpen s u → ¬ (if u.val < 4 then enabledRings s u = [] else rootPortOn s (u - 4) = false) → exec (.xltDisable u) s = .next (setRD s (Reg.XLT_CTRL u) 16 Rsn.STATE 0xBC))

/-- An accepted item whose committed start has come, on a die in service and off a stalled stack, begins as its opcode asks; a started one
completes as its opcode asks: an UNLOAD removes its plan, a FENCE ends once nothing accepted before it remains; the die's oldest load, its
digest known, takes its checks in order and becomes resident; a run whose Blocks are placed and quiet starts their contexts and counts; a
run whose contexts have all executed end ends. (R125, R127, R241, R247, R249) -/
def Obligations.ItemsBeginAndEnd : Prop :=
  (∀ (d : Die) (r : Ring) (seq : W32) (it : Item) (s : State),
      findItem s d r seq.toNat = some it → it.started = false ∧ it.start ≤ ctl s d → outOf s d = false → startStalled s it = false → exec (.itemStart d r seq) s = .next (itemStart s it)) ∧
  (∀ (it : Item) (s : State),
      it.opcode = 4 ∨ it.opcode = 5 ∨ it.opcode = 8 ∨ it.opcode = 0x2E ∨ it.opcode = 0x31 ∨ it.opcode = 0x32 ∨ it.opcode = 0x34 → itemStart s it = putItem s { it with started := true }) ∧
  (∀ (d : Die) (r : Ring) (seq : W32) (it : Item) (s : State),
      findItem s d r seq.toNat = some it → it.started = true → outOf s d = false → exec (.itemComplete d r seq) s = .next (itemComplete s it)) ∧
  (∀ (it : Item) (s : State),
      it.opcode = 8 → fenceMet s it = true → itemComplete s it = endItem s it 0 0) ∧
  (∀ (it : Item) (s : State),
      it.opcode = 4 → itemComplete s it = endItem (unloadPlan s it.die it.obj) it 0 0) ∧
  (∀ (it : Item) (s : State),
      it.opcode = 1 → itemWaits s it = false → itemComplete s it = moveDone drainRegs s it) ∧
  (∀ (d : Die) (r : Ring) (seq : W32) (it : Item) (s : State),
      findItem s d r seq.toNat = some it → it.opcode = 3 ∧ it.started = true → itemWaits s it = false → (s.items.find? (fun i => i.die == d.val && i.opcode == 3)).map (fun i => (i.ring, i.seq)) = some (r.val, seq.toNat) → exec (.loadDigestDone d r seq) s = .next (loadEnd s it)) ∧
  (∀ (d : Die) (r : Ring) (seq : W32) (it : Item) (p q : Plan) (u s : State),
      findItem s d r seq.toNat = some it → it.opcode = 2 ∧ it.started = false ∧ it.start ≤ ctl s d → planOf s d it.obj = some p → replacePlan s p (runFree (s.withItems (s.items.filter (fun i => ¬ (i.die = it.die ∧ i.ring = it.ring ∧ i.seq = it.seq)))) d it.start (ceilDiv p.cycles 2)) = some (u, q) → (∀ b ∈ q.place, (∀ c < 4, inRun u d b.1 c = false) ∧ ctxState u d b.1 b.2 = 2 ∧ courseStalled u d (b.1 / 18) = false) → let j := rebook it d (p.place.map (·.1)) (q.place.map (·.1))
      let v := q.place.foldl (fun s b => startCtx s d b.1 b.2) (putItem u j)
      exec (.runStart d r seq) s = .next (putItem (putPlan v { q with runNo := q.runNo + 1 }) { j with started := true })) ∧
  (∀ (d : Die) (r : Ring) (seq : W32) (it : Item) (p : Plan) (s : State),
      findItem s d r seq.toNat = some it → planOf s d it.obj = some p → it.opcode = 2 ∧ it.started = true → p.place.all (fun b => (ctxX s d b.1 b.2).ended && !inRun s d b.1 b.2) = true → exec (.runEnd d r seq) s = .next (endItem s it 0 0))

/-- A request of a type the root port does not serve completes with Unsupported Request. With translation enabled, a read of 1 to 4,096 bytes
whose every page translates with its right, outside the control windows and at present homes, completes with the bytes that stand there; a
write of 1 to 512 bytes of the same kind stores its bytes. Poisoned data completes with Completer Abort. An aligned FetchAdd, Swap or CAS of
4 or 8 bytes whose page translates is performed at the home; one of another size or alignment, an address space 0 or beyond 0xFFFF, and a
page that does not translate fail with the codes of the rule, Unsupported Request for a non-posted one. (R254, R264, R276, R287) -/
def Obligations.PcieRequestsComplete : Prop :=
  (∀ (k : Key) (pasid : Option (BitVec 20)) (va : BitVec 64) (kind : Fin 13) (len : Nat) (data : List Byte) (s : State),
      outOf s (4 + k.val) = false ∧ isOn s (dKio k) = true ∧ s.modx.perst.getD k false = false → kind.val = 12 → exec (.pcieRequest k pasid va kind len data) s = .next (pcieDone s k 1 [])) ∧
  (∀ (k : Key) (pasid : Option (BitVec 20)) (va : BitVec 64) (len asid : Nat) (data bs : List Byte) (t : Xlated) (u s : State),
      outOf s (4 + k.val) = false ∧ isOn s (dKio k) = true ∧ s.modx.perst.getD k false = false → (asid = (match pasid with | some p => p.toNat | none => fget s (Reg.XLT_PCIE_ASID (4 + k.val)) 0 16) ∧ 1 ≤ asid ∧ asid ≤ 0xFFFF) → 1 ≤ len ∧ len ≤ 4096 → bit t.s (Reg.XLT_CTRL (4 + k.val)) 0 = true → xlatAll s (4 + k.val) 3 asid true [(va.toNat, len, 1)] = t → t.bad = none ∧ t.miss = [] → (∀ p ∈ extPages t.ext, (∀ a b, place t.s p.1 ≠ .ctrl a b) ∧ homeGone t.s p.1 = none) → pcieRead t.s (extPages t.ext) [] false = .ok u bs false → exec (.pcieRequest k pasid va 0 len data) s = .next (pcieDone (u.withRahead (tset raheadDef u.rahead (8 + k) [])) k 0 bs)) ∧
  (∀ (k : Key) (pasid : Option (BitVec 20)) (va : BitVec 64) (len asid : Nat) (data : List Byte) (t : Xlated) (s : State),
      outOf s (4 + k.val) = false ∧ isOn s (dKio k) = true ∧ s.modx.perst.getD k false = false → (asid = (match pasid with | some p => p.toNat | none => fget s (Reg.XLT_PCIE_ASID (4 + k.val)) 0 16) ∧ 1 ≤ asid ∧ asid ≤ 0xFFFF) → 1 ≤ data.length ∧ data.length ≤ 512 → bit t.s (Reg.XLT_CTRL (4 + k.val)) 0 = true → xlatAll s (4 + k.val) 3 asid true [(va.toNat, data.length, 3)] = t → t.bad = none ∧ t.miss = [] → (∀ p ∈ extPages t.ext, (∀ a b, place t.s p.1 ≠ .ctrl a b) ∧ homeGone t.s p.1 = none) → exec (.pcieRequest k pasid va 1 len data) s = .next (pcieWrite t.s (extPages t.ext) data)) ∧
  (∀ (k : Key) (pasid : Option (BitVec 20)) (va : BitVec 64) (len asid : Nat) (data bs : List Byte) (t : Xlated) (u s : State),
      outOf s (4 + k.val) = false ∧ isOn s (dKio k) = true ∧ s.modx.perst.getD k false = false → (asid = (match pasid with | some p => p.toNat | none => fget s (Reg.XLT_PCIE_ASID (4 + k.val)) 0 16) ∧ 1 ≤ asid ∧ asid ≤ 0xFFFF) → 1 ≤ len ∧ len ≤ 4096 → bit t.s (Reg.XLT_CTRL (4 + k.val)) 0 = true → xlatAll s (4 + k.val) 3 asid true [(va.toNat, len, 1)] = t → t.bad = none ∧ t.miss = [] → (∀ p ∈ extPages t.ext, (∀ a b, place t.s p.1 ≠ .ctrl a b) ∧ homeGone t.s p.1 = none) → pcieRead t.s (extPages t.ext) [] false = .ok u bs true → exec (.pcieRequest k pasid va 0 len data) s = .next (pcieDone (u.withRahead (tset raheadDef u.rahead (8 + k) [])) k 2 [])) ∧
  (∀ (k : Key) (pasid : Option (BitVec 20)) (va : BitVec 64) (kind : Fin 13) (len asid : Nat) (data : List Byte) (t : Xlated) (s : State),
      outOf s (4 + k.val) = false ∧ isOn s (dKio k) = true ∧ s.modx.perst.getD k false = false → (asid = (match pasid with | some p => p.toNat | none => fget s (Reg.XLT_PCIE_ASID (4 + k.val)) 0 16) ∧ 1 ≤ asid ∧ asid ≤ 0xFFFF) → kind.val = 2 ∨ kind.val = 7 ∨ kind.val = 8 → (len = 4 ∨ len = 8) ∧ va.toNat % len = 0 → bit t.s (Reg.XLT_CTRL (4 + k.val)) 0 = true → xlatAll s (4 + k.val) 3 asid true [(va.toNat, len, 7)] = t → t.bad = none ∧ t.miss = [] → exec (.pcieRequest k pasid va kind len data) s = .next (pcieAtom t.s k va.toNat asid (kind.val - 2) len ((extPages t.ext).headD (0, 0)).1 data)) ∧
  (∀ (k : Key) (pasid : Option (BitVec 20)) (va : BitVec 64) (kind : Fin 13) (len asid : Nat) (data : List Byte) (s : State),
      outOf s (4 + k.val) = false ∧ isOn s (dKio k) = true ∧ s.modx.perst.getD k false = false → asid = (match pasid with | some p => p.toNat | none => fget s (Reg.XLT_PCIE_ASID (4 + k.val)) 0 16) → kind.val = 2 ∨ kind.val = 7 ∨ kind.val = 8 → len ≠ 4 ∧ len ≠ 8 ∨ va.toNat % len ≠ 0 → exec (.pcieRequest k pasid va kind len data) s = .next (pcieFail s k kind va.toNat asid Rsn.BAD_DESC 0xC1)) ∧
  (∀ (k : Key) (pasid : Option (BitVec 20)) (va : BitVec 64) (kind : Fin 13) (len asid : Nat) (data : List Byte) (s : State),
      outOf s (4 + k.val) = false ∧ isOn s (dKio k) = true ∧ s.modx.perst.getD k false = false → asid = (match pasid with | some p => p.toNat | none => fget s (Reg.XLT_PCIE_ASID (4 + k.val)) 0 16) → asid = 0 ∨ 0xFFFF < asid → kind.val = 0 ∧ 1 ≤ len ∧ len ≤ 4096 ∨ kind.val = 1 ∧ 1 ≤ data.length ∧ data.length ≤ 512 → exec (.pcieRequest k pasid va kind len data) s = .next (pcieFail s k kind va.toNat asid Rsn.RIGHTS 0xB9)) ∧
  (∀ (k : Key) (pasid : Option (BitVec 20)) (va : BitVec 64) (len asid a b : Nat) (data : List Byte) (t : Xlated) (s : State),
      outOf s (4 + k.val) = false ∧ isOn s (dKio k) = true ∧ s.modx.perst.getD k false = false → (asid = (match pasid with | some p => p.toNat | none => fget s (Reg.XLT_PCIE_ASID (4 + k.val)) 0 16) ∧ 1 ≤ asid ∧ asid ≤ 0xFFFF) → 1 ≤ len ∧ len ≤ 4096 → bit t.s (Reg.XLT_CTRL (4 + k.val)) 0 = true → xlatAll s (4 + k.val) 3 asid true [(va.toNat, len, 1)] = t → t.bad = some (a, b) → exec (.pcieRequest k pasid va 0 len data) s = .next (pcieFail t.s k 0 va.toNat asid a b t.met.1))

/-- Through an open window: an enable shows the codes of its first failing check or sets ENABLE; a disable clears it unless commands are queued
or running, when it is refused with STATE 0x7D. An engine's oldest command whose start has come begins when no earlier overlapping command
is outstanding, else stands WAITING; a started command runs to its end and ends with its codes, a VERIFY with those of its comparison; a
patrol tick reads the next granule, corrects its single errors, poisons at a double one and moves on, and waits while a started command
touches it. (R180, R181, R183, R205, R206) -/
def Obligations.FootingsComplete : Prop :=
  (∀ (h : Stack) (s : State),
      winOpen s (8 + h) → exec (.ftgEnable h) s = .next (finishEnable s (Reg.FTG_CTRL (8 + h)) 8 (firstFail [(isOn s (dFooting h), Rsn.STATE, 0x76), (!stackFaulted s h, Rsn.STATE, 0x7C)]))) ∧
  (∀ (h : Stack) (s : State),
      winOpen s (8 + h) → stackItems s h = [] → exec (.ftgDisable h) s = .next (setRD (fset s (Reg.FTG_CTRL (8 + h)) 0 1 0) (Reg.FTG_CTRL (8 + h)) 8 0 0)) ∧
  (∀ (h : Stack) (s : State),
      winOpen s (8 + h) → stackItems s h ≠ [] → exec (.ftgDisable h) s = .next (setRD s (Reg.FTG_CTRL (8 + h)) 8 Rsn.STATE 0x7D)) ∧
  (∀ (h : Stack) (e : Fin 5) (it : Item) (its : List Item) (s : State),
      engineItems s h e = it :: its → it.started = false ∧ it.start ≤ ctl s (h / 3) → enginesUp s h = true ∧ outOf s (h / 3) = false ∧ bayStalled s h = false → cmdWaits s h it = false → exec (.ftgCommandStart h e) s = .next (ftgStatus (putItem s { it with started := true }) h)) ∧
  (∀ (h : Stack) (e : Fin 5) (ecc : List (Nat × Bool)) (it : Item) (s : State),
      (engineItems s h e).find? (·.started) = some it → outOf s (h / 3) = false ∧ footingUp s h = true → let q := cmdFinish s h it ecc
      let r := if it.opcode = 0x33 then verifyEnd q.1 h q.2.1 q.2.2 else q
      exec (.ftgCommandDone h e ecc) s = .next (endItem (putItem r.1 r.2.1) { r.2.1 with phase := 1 } r.2.2.1 r.2.2.2)) ∧
  (∀ (h : Stack) (ecc : Fin 17) (s : State),
      bit s (Reg.FTG_CTRL (8 + h)) 1 = true → enginesUp s h = true ∧ outOf s (h / 3) = false → ((stackItems s h).filter (·.started)).any (fun i => piecesMeet (cmdPieces i false ++ cmdPieces i true) [(hbmAddr h (256 * fget s (Reg.FTG_PATROL_POS (8 + h)) 0 29), 256)]) = false → let g := fget s (Reg.FTG_PATROL_POS (8 + h)) 0 29
      let t := fset s (Reg.FTG_PATROL_POS (8 + h)) 0 29 (if 256 * (g + 1) < stackSize s h then g + 1 else 0)
      exec (.patrolScrubTick h ecc) s = .next (rewritten (lineError (readErrors t (hbmAddr h (256 * g)) 256) (hbmAddr h (256 * g)) 8 ecc) (hbmAddr h (256 * g)) 256)) ∧
  (∀ (h : Stack) (e : Fin 5) (it : Item) (its : List Item) (s : State),
      engineItems s h e = it :: its → it.started = false ∧ it.start ≤ ctl s (h / 3) → enginesUp s h = true ∧ outOf s (h / 3) = false ∧ bayStalled s h = false → cmdWaits s h it = true → exec (.ftgCommandStart h e) s = .next (ftgStatus s h)) ∧
  (∀ (h : Stack) (ecc : Fin 17) (s : State),
      bit s (Reg.FTG_CTRL (8 + h)) 1 = true → enginesUp s h = true ∧ outOf s (h / 3) = false → ((stackItems s h).filter (·.started)).any (fun i => piecesMeet (cmdPieces i false ++ cmdPieces i true) [(hbmAddr h (256 * fget s (Reg.FTG_PATROL_POS (8 + h)) 0 29), 256)]) = true → exec (.patrolScrubTick h ecc) s = .next s)

/-- A request of an agent that may send it completes at its home: at an active home, from a living requester, for a line that is the home's, not
answered or waiting before and neither BUSY nor waited for, it begins; one that needs no other agent's copy is finished at once; one that
does sends its probes and stands as a transaction. An agent that holds the line in E or M asks nobody. (R276, R277, R278, R280, R284, R285,
R286) -/
def Obligations.RequestsAtHomesComplete : Prop :=
  (∀ (home : Fin 18) (line : Nat) (a : Fin 64) (tn : BitVec 12) (ecc : Fin 9) (s : State),
      a.val < 40 → owns s a line = false → exec (.fetchShared home line a tn ecc) s = .next (atHome s (plainReq s home line a tn.toNat 0 ecc))) ∧
  (∀ (home : Fin 18) (line : Nat) (a : Fin 64) (tn : BitVec 12) (ecc : Fin 9) (s : State),
      a.val < 28 → owns s a line = false → exec (.fetchOwned home line a tn ecc) s = .next (atHome s (plainReq s home line a tn.toNat 1 ecc))) ∧
  (∀ (home : Fin 18) (line : Nat) (a : Fin 64) (tn : BitVec 12) (ecc : Fin 9) (s : State),
      a.val < 28 → owns s a line = false → exec (.ownHeld home line a tn ecc) s = .next (atHome s (plainReq s home line a tn.toNat 2 ecc))) ∧
  (∀ (home : Fin 18) (line : Nat) (a : Fin 64) (tn : BitVec 12) (ecc : Fin 9) (s : State),
      nonCaching home a = true → exec (.fetchCopy home line a tn ecc) s = .next (atHome s (plainReq s home line a tn.toNat 3 ecc))) ∧
  (∀ (home : Fin 18) (line : Nat) (a : Fin 64) (tn : BitVec 12) (ecc : Fin 9) (s : State),
      a.val < 62 → reaching home a = true → exec (.fetchClean home line a tn ecc) s = .next (atHome s (plainReq s home line a tn.toNat 4 ecc))) ∧
  (∀ (home : Fin 18) (line : Nat) (a : Fin 64) (tn : BitVec 12) (data : List Byte) (s : State),
      nonCaching home a = true → data.length = 128 → exec (.putLine home line a tn data) s = .next (atHome s { plainReq s home line a tn.toNat 5 0 with data := data })) ∧
  (∀ (home : Fin 18) (line : Nat) (a : Fin 64) (tn : BitVec 12) (en : BitVec 128) (data : List Byte) (ecc : Fin 9) (s : State),
      nonCaching home a = true → data.length = 128 → exec (.putBytes home line a tn en data ecc) s = .next (atHome s { plainReq s home line a tn.toNat 6 ecc with data := data, en := en.toNat })) ∧
  (∀ (home : Fin 18) (addr : Nat) (a : Fin 64) (tn : BitVec 12) (op : Fin 10) (size : Fin 2) (v w : W64) (ecc : Fin 9) (s : State),
      atomOk s addr size = true → a.val < 62 → reaching home a = true → exec (.atomHome home addr a tn op size v w ecc) s = .next (atHome s (atomReq s home a addr tn.toNat 7 op size v.toNat w.toNat ecc))) ∧
  (∀ (s : State) (r : Req),
      lineHome s r.line = r.home ∧ homed s r.line = true ∧ rangeCode s r.home r.line = none → homeAbsent s r.home = false ∧ isDead s r.home r.a = false → s.answers = [] ∧ s.waitq = [] ∧ s.txns = [] → atHome s r = startReq (toHome (touchSkt s (r.line * 128)) 16 r.line r.a r.home []) r) ∧
  (∀ (s : State) (r : Req),
      r.kind ≠ 5 ∧ r.done = none → (((r.kind ≤ 2 ∨ r.kind = 8) ∧ dirOf s r.line = none) → (dirSetOf s r.home r.line).length < dirWays) → (snoopsOf (readLine s r) r).2 = [] → startReq s r = finishReq (readLine s r) r none false none) ∧
  (∀ (s : State) (r : Req) (code : Nat) (as : List Nat),
      r.kind ≠ 5 ∧ r.done = none → (((r.kind ≤ 2 ∨ r.kind = 8) ∧ dirOf s r.line = none) → (dirSetOf s r.home r.line).length < dirWays) → snoopsOf (readLine s r) r = (code, as) → as ≠ [] → startReq s r = sendProbes (readLine s r) ⟨r.home, r.line, some r, code, as, none, false, none⟩) ∧
  (∀ (s : State) (r : Req),
      r.kind = 5 ∧ r.done = none → startReq s r = if (snoopsOf s r).2.isEmpty then finishReq s r none false none else sendProbes s ⟨r.home, r.line, some r, (snoopsOf s r).1, (snoopsOf s r).2, none, false, none⟩) ∧
  (∀ (home : Fin 18) (line : Nat) (a : Fin 64) (tn : BitVec 12) (ecc : Fin 9) (s : State),
      owns s a line = true → exec (.fetchShared home line a tn ecc) s = .next s ∧ exec (.fetchOwned home line a tn ecc) s = .next s ∧ exec (.ownHeld home line a tn ecc) s = .next s)

/-- An atomic of a core agent with an aligned operand in memory is performed near, at the home, in mode 1 and where the predictor of mode 0
stands at 2 or more, and far otherwise: in its cache when it holds the line in E or M, where the line is left in M with the new value and
the old one is answered, else after the line is owned through the home; a bad target is the core's own access fault. The new value follows
the operation. Mode 0, 1 or 2 is stored; 3 is refused with CFG_RANGE 0xC6. (R287, R288, R297) -/
def Obligations.AtomicsComplete : Prop :=
  (∀ (mk : Fin 40 → Nat → Fin 2 → W64 → Instr) (op : Nat) (a : Fin 40) (addr : Nat) (size : Fin 2) (v : W64) (s : State),
      ((mk, op) ∈ ([(Instr.atomAdd, 0), (Instr.atomSmin, 1), (Instr.atomSmax, 2), (Instr.atomUmin, 3), 
      (Instr.atomUmax, 4), (Instr.atomSwap, 5), (Instr.atomAnd, 7), (Instr.atomOr, 8), (Instr.atomXor, 9)] : List ((Fin 40 → Nat → Fin 2 → W64 → Instr) × Nat))) → exec (mk a addr size v) s = .next (atomIssue s a addr size op v.toNat 0)) ∧
  (∀ (a : Fin 40) (addr : Nat) (size : Fin 2) (cmp v : W64) (s : State),
      exec (.atomCas a addr size cmp v) s = .next (atomIssue s a addr size 6 cmp.toNat v.toNat)) ∧
  (∀ (s : State) (a addr size op v w : Nat),
      a < 28 → atomOk s addr size = false → atomIssue s a addr size op v w = emit s .accessFault [0] []) ∧
  (∀ (s : State) (a addr size op v w : Nat),
      a < 28 → atomOk s addr size = true → fget s (Reg.COH_ATOM_CTRL (agentUnit a)) 0 2 = 1 → atomIssue s a addr size op v w = atHome s (atomReq s (lineHome s (home s addr / 128)) a addr 4096 7 op size v w 0)) ∧
  (∀ (s : State) (a addr size op v w : Nat) (c : Copy),
      a < 28 → atomOk s addr size = true → fget s (Reg.COH_ATOM_CTRL (agentUnit a)) 0 2 = 2 → copyOf s a (home s addr / 128) = some c → 2 ≤ c.st → atomIssue s a addr size op v w = predMove (atomFar s (atomReq s (lineHome s (home s addr / 128)) a addr 4096 8 op size v w 0) c.data) a (home s addr) false true) ∧
  (∀ (old v : Nat),
      old < 2 ^ 32 ∧ v < 2 ^ 32 → atomNew 0 4 old v 0 = (old + v) % 2 ^ 32 ∧ atomNew 3 4 old v 0 = min old v ∧ atomNew 4 4 old v 0 = max old v ∧ atomNew 5 4 old v 0 = v ∧
      atomNew 7 4 old v 0 = old &&& v ∧ atomNew 8 4 old v 0 = old ||| v ∧ atomNew 9 4 old v 0 = old ^^^ v ∧ (∀ w, w < 2 ^ 32 → atomNew 6 4 old v w = if old = v then w else old)) ∧
  (∀ (u : Unit6) (v : W32) (s : State),
      winOpen s u → getBits v 0 2 ≠ 3 → exec (.atomModeWrite u v) s = .next (fset (fset s (Reg.COH_ATOM_CTRL u) 0 2 (getBits v 0 2)) (Reg.COH_ATOM_CTRL u) 8 8 0)) ∧
  (∀ (u : Unit6) (v : W32) (s : State),
      winOpen s u → getBits v 0 2 = 3 → exec (.atomModeWrite u v) s = .next (emit (fset s (Reg.COH_ATOM_CTRL u) 8 8 Rsn.CFG_RANGE) .refusal [Rsn.CFG_RANGE, 0xC6] [])) ∧
  (∀ (s : State) (a addr size op v w : Nat),
      a < 28 → atomOk s addr size = true → fget s (Reg.COH_ATOM_CTRL (agentUnit a)) 0 2 = 0 → 2 ≤ tget predDef s.pred (predKey a (home s addr)) → atomIssue s a addr size op v w = atHome s (atomReq s (lineHome s (home s addr / 128)) a addr 4096 7 op size v w 0)) ∧
  (∀ (s : State) (a addr size op v w : Nat),
      a < 28 → atomOk s addr size = true → fget s (Reg.COH_ATOM_CTRL (agentUnit a)) 0 2 = 2 ∨ (fget s (Reg.COH_ATOM_CTRL (agentUnit a)) 0 2 = 0 ∧ tget predDef s.pred (predKey a (home s addr)) < 2) → (∀ c, copyOf s a (home s addr / 128) = some c → c.st < 2) → atomIssue s a addr size op v w = atHome s (atomReq s (lineHome s (home s addr / 128)) a addr 4096 8 op size v w 0)) ∧
  (∀ (s : State) (r : Req) (d : List Byte),
      operandPoisoned (atomCount s r.a 16) r = false → let u := atomCount s r.a 16
      atomFar s r d = cohMsg (putCopy u ⟨r.a, r.line, 3, r.after false d⟩) 9 r.line (64 + r.a) r.a (leBytes r.size (r.old d))) ∧
  (∀ (mk : Fin 40 → Nat → Fin 2 → W64 → Instr) (a : Fin 40) (addr : Nat) (size : Fin 2) (v : W64) (s : State),
      28 ≤ a.val → mk ∈ [Instr.atomAdd, Instr.atomSmin, Instr.atomSmax, Instr.atomUmin, Instr.atomUmax, Instr.atomSwap, Instr.atomAnd, Instr.atomOr, Instr.atomXor] → exec (mk a addr size v) s = .next s)

/-- An agent snooped for a line answers, without data when it holds none: a modified copy's data goes along unless the line is wholly
overwritten, and the copy keeps the state of the probe (S, none, none, its own, E); a response reaches its home, which ends the transaction
with the last; a modified copy written back to an active home crosses a snoop as its data, or is stored and the line freed of its owner, and
one of an absent home is dropped as an orphan; a waiting request begins when its line is free. (R280, R284, R296) -/
def Obligations.SnoopsComplete : Prop :=
  (∀ (mk : Fin 40 → Nat → Fin 64 → Instr) (code keep : Nat) (a : Fin 40) (line : Nat) (q : Fin 64) (s : State),
      ((mk, code, keep) ∈ ([(Instr.probeShare, 0, 1), (Instr.probeYield, 1, 0), (Instr.probeDrop, 2, 0), (Instr.probeCopy, 3, 3), (Instr.probeFlush, 4, 2)] : List ((Fin 40 → Nat → Fin 64 → Instr) × Nat × Nat))) → exec (mk a line q) s = .next (snoopAnswer s a line code keep)) ∧
  (∀ (s : State) (a line code keep : Nat) (c : Copy),
      snooped s a (canonLine s line) code = true → copyOf s a (canonLine s line) = some c → c.st = 3 ∧ code ≠ 2 ∧ code ≠ 3 → 0 < keep ∧ keep < 3 → let u := putCopy s { c with st := keep }
      snoopAnswer s a line code keep = toHome (u.withResps (u.resps ++ [⟨a, canonLine s line, 3, c.data⟩])) (if c.data.isEmpty then 17 else 18) (canonLine s line) a (lineHome s (canonLine s line)) c.data) ∧
  (∀ (home : Fin 18) (line : Nat) (a : Fin 40) (t : Txn) (c : Copy) (s : State),
      s.txns.find? (fun t => t.home == home.val && t.line == canonLine s line && t.wait.contains a.val) = some t → (respsOf s home a).find? (fun c => c.line == canonLine s line) = some c ∧ (respsOf s home a).find? (fun x => x.data.isEmpty == c.data.isEmpty) = some c → let u := s.withResps (s.resps.filter (fun x => ¬ (x.agent = a.val ∧ x.line = canonLine s line)))
      exec (.snoopResponse home line a) s = .next (putTxn u { t with wait := t.wait.filter (· ≠ c.agent), dat := if c.st = 3 then some c.data else t.dat, took := t.took || (c.st != 0 && !t.req.any (fun r => r.a == c.agent)), fwd := if c.data ≠ [] ∧ t.probe ≠ 4 then some c.agent else t.fwd })) ∧
  (∀ (home : Fin 18) (line : Nat) (a : Fin 40) (c : Copy) (e : DirEnt) (s : State),
      lineHome s (canonLine s line) = home.val → copyOf s a (canonLine s line) = some c → c.st = 3 → homeAbsent s home = false ∧ isDead s home a = false → s.txns = [] ∧ s.resps = [] → dirOf s (canonLine s line) = some e → e.excl = a.val + 1 → exec (.writeBack home line a) s = .next (dropDir (lineBack (toHome (dropCopy s a (canonLine s line)) 19 (canonLine s line) a home c.data) (canonLine s line) c.data) home (canonLine s line))) ∧
  (∀ (home : Fin 18) (line : Nat) (r : Req) (s : State),
      lineBusy s (canonLine s line) = false → s.waitq.find? (fun r => r.home == home.val && r.line == canonLine s line) = some r → exec (.homeQueueServe home line) s = .next (startReq (queuedAt (s.withWaitq (s.waitq.erase r)) home) r)) ∧
  (∀ (s : State) (a line code keep : Nat),
      snooped s a (canonLine s line) code = true → copyOf s a (canonLine s line) = none → snoopAnswer s a line code keep = toHome (s.withResps (s.resps ++ [⟨a, canonLine s line, 0, []⟩])) 17 (canonLine s line) a (lineHome s (canonLine s line)) []) ∧
  (∀ (s : State) (a line code keep : Nat) (c : Copy),
      snooped s a (canonLine s line) code = true → copyOf s a (canonLine s line) = some c → let r : Copy := if c.st = 3 ∧ code ≠ 2 then ⟨a, canonLine s line, 3, c.data⟩ else if c.st = 2 ∧ code ≠ 2 then ⟨a, canonLine s line, 1, c.data⟩ else ⟨a, canonLine s line, 2, []⟩
      let k := if code = 3 then c.st else min c.st keep
      let u := if k = 0 then dropCopy s a (canonLine s line) else putCopy s { c with st := k }
      snoopAnswer s a line code keep = toHome (u.withResps (u.resps ++ [r])) (if r.data.isEmpty then 17 else 18) (canonLine s line) a (lineHome s (canonLine s line)) r.data) ∧
  (∀ (s : State) (a line code keep : Nat),
      snooped s a (canonLine s line) code = false → snoopAnswer s a line code keep = s) ∧
  (∀ (home : Fin 18) (line : Nat) (a : Fin 40) (c : Copy) (t : Txn) (s : State),
      lineHome s (canonLine s line) = home.val → copyOf s a (canonLine s line) = some c → c.st = 3 ∧ (respsOf s home a).any (fun c => !c.data.isEmpty) = false → homeAbsent s home = false ∧ isDead s home a = false → s.txns.find? (fun t => t.line == canonLine s line && t.wait.contains a.val) = some t → exec (.writeBack home line a) s = .next (putTxn (toHome (dropCopy s a (canonLine s line)) 19 (canonLine s line) a home c.data) { t with dat := some c.data, took := t.took || !t.req.any (fun r => r.a == a.val) })) ∧
  (∀ (home : Fin 18) (line : Nat) (a : Fin 40) (c : Copy) (s : State),
      lineHome s (canonLine s line) = home.val → copyOf s a (canonLine s line) = some c → c.st = 3 ∧ (respsOf s home a).any (fun c => !c.data.isEmpty) = false → homeAbsent s home = true → exec (.writeBack home line a) s = .next (orphanDrop (toHome (dropCopy s a (canonLine s line)) 19 (canonLine s line) a home c.data) a (canonLine s line)))

/-- At an active home without a transaction under way a notice of a dead agent leaves every line it owned there poisoned and UNCACHED, its
copies of those lines gone, and the home RECLAIMING; the reclaim's end is counted, recorded with POISON 0xC3, and returns the home to
ACTIVE. A purge drops the named lines of an engine's buffer and answers. SCOPE.G of a core agent over memory writes its modified lines back,
keeps them in E, purges the read-ahead buffers and answers; a range outside memory is an access fault. (R290, R291, R294, R364) -/
def Obligations.ReclaimsComplete : Prop :=
  (∀ (home : Fin 18) (a : Fin 40) (s : State),
      homeAbsent s home = false ∧ s.txns = [] → ∃ t, exec (.deadNotice home a) s = .next t ∧ (∀ c ∈ t.copies, c.agent = a.val → lineHome s c.line ≠ home.val) ∧ (∀ e ∈ t.dir, e.home = home.val → e.excl ≠ a.val + 1) ∧
      (home.val, a.val) ∈ t.reclaims.map (fun r => (r.1, r.2.1)) ∧ fget t (homeReg home) 0 2 = 2 ∧
      (∀ e ∈ s.dir, e.home = home.val → e.excl = a.val + 1 → ∀ i < 4, e.line * 128 + 32 * i ∈ t.poison)) ∧
  (∀ (home : Fin 18) (r : Nat × Nat × Nat) (s : State),
      s.reclaims.find? (fun r => r.1 == home.val) = some r → s.reclaims.erase r = [] → let u := s.withReclaims []
      let v := fset (fset u (homeReg home + 12) 0 6 r.2.1) (homeReg home + 12) 8 24 (holdAt 0xFFFFFF r.2.2)
      let w := note v (homeUnit home) Rsn.POISON 0xC3 12 home (homeData r.2.1 r.2.2 0)
      exec (.reclaimDone home) s = .next (agentsBack (if w.reclaims.any (fun q => q.1 == home.val) then w else fset w (homeReg home) 0 2 1))) ∧
  (∀ (e : Fin 10) (line len : Nat) (s : State),
      0 < len → exec (.readaheadPurge e line len) s = .next (emit (s.withRahead (tset raheadDef s.rahead e ((tget raheadDef s.rahead e).filter (fun x => ¬ (line ≤ x ∧ x ≤ line + (len - 1) / 128))))) .mgt [10, e, line] [])) ∧
  (∀ (a : Fin 40) (addr len : Nat) (s : State),
      a.val < 24 → 0 < len ∧ len ≤ 2 ^ 32 → (List.range ((addr % 4096 + len - 1) / 4096 + 1)).all (fun i => homed s ((addr / 4096 + i) * 32)) = true → ∃ t, exec (.scopeG a addr len) s = .next t ∧ t.sent.head? = some ⟨.mgt, [9, addr, len, agentUnit a], []⟩ ∧ t.dir = s.dir ∧
      (∀ i ≤ (addr % 128 + len - 1) / 128, fget s (homeReg (lineHome s (canonLine s (addr / 128 + i)))) 0 2 ≠ 0 → ∀ c, copyOf t a (canonLine s (addr / 128 + i)) = some c → c.st ≠ 3)) ∧
  (∀ (a : Fin 40) (addr len : Nat) (s : State),
      a.val < 24 → 0 < len ∧ len ≤ 2 ^ 32 → (List.range ((addr % 4096 + len - 1) / 4096 + 1)).all (fun i => homed s ((addr / 4096 + i) * 32)) = false → exec (.scopeG a addr len) s = .next (emit s .accessFault [0] []))

/-- Through an open window: a connected joint end whose domain is ON is enabled, and an OFF end goes to DETECT, an end that is not connected is
refused with CFG_RANGE 0xD9, one whose domain is not ON with STATE 0xD8; a disable or a retrain is refused with STATE 0xDA while admitted
items reserve the joint, else the end is OFF, or an ACTIVE end retrains, one that is not ACTIVE being refused with STATE 0xD8; the fourth
joint, which a Keystone lacks, changes nothing. TS0 takes DETECT or ABSENT to LANE_TEST in a fresh session; an epoch that runs out is
abandoned; an exchange's ticket is sent again, CONFIRM once it has been answered. (R304, R305, R307, R308, R314, R315, R320) -/
def Obligations.JointControlComplete : Prop :=
  (∀ (u : Unit6) (j : Joint) (s : State),
      winOpen s u → noJoint u j = false → connected j = true ∧ isOn s (jointDom u j) = true → bndState (bndLast (fset s (Reg.BND_CTRL u j) 0 1 1) u j 0 0) u j = 0 → exec (.bndEnable u j) s = .next (setBnd (bndLast (fset s (Reg.BND_CTRL u j) 0 1 1) u j 0 0) u j 1)) ∧
  (∀ (u : Unit6) (j : Joint) (s : State),
      winOpen s u → noJoint u j = false → jointHeld s u j = false → exec (.bndDisable u j) s = .next (bndLast (endSession (setBnd (fset s (Reg.BND_CTRL u j) 0 1 0) u j 0) u j) u j 0 0)) ∧
  (∀ (u : Unit6) (j : Joint) (s : State),
      winOpen s u → noJoint u j = false → jointHeld s u j = false → bndState s u j = 4 → exec (.bndRetrain u j) s = .next (bndLast (retrain s u j 0) u j 0 0)) ∧
  (∀ (u : Unit6) (j : Joint) (s : State),
      winOpen s u → noJoint u j = false → jointHeld s u j = true → exec (.bndDisable u j) s = .next (bndLast s u j Rsn.STATE 0xDA) ∧ exec (.bndRetrain u j) s = .next (bndLast s u j Rsn.STATE 0xDA)) ∧
  (∀ (u : Unit6) (j : Joint) (s : State),
      connected j = true ∧ isOn s (jointDom u j) = true → bndState s u j = 1 ∨ bndState s u j = 6 → let t := endSession (setBnd s u j 2) u j
      exec (.ts0Lock u j) s = .next (setBondX t u j { bondX t u j with pLast := ts0 t u j })) ∧
  (∀ (u : Unit6) (j : Joint) (good pol : BitVec 26) (s : State),
      bndState s u j = 2 ∨ bndState s u j = 3 → (bondX s u j).own = 0 → pol = 0 → 8 ≤ (goodList good.toNat).length → let t := fset s (Reg.BND_RX_GOOD u j) 0 26 good.toNat
      exec (.laneTestDone u j good pol) s = .next (propose (setBondX (setBnd t u j 3) u j { bondX s u j with e := firstEpoch (if (bondX s u j).fresh then none else some (fget t (Reg.BND_STATUS u j) 8 8)) (bondX s u j).pLast, own := widthOf (goodList good.toNat).length, sentW := none, gotW := none, gave := 0 }) u j)) ∧
  (∀ (u : Unit6) (j : Joint) (good : BitVec 26) (s : State),
      bndState s u j = 2 → (goodList good.toNat).length < 8 → exec (.laneTestDone u j good 0) s = .next (bndDown (fset s (Reg.BND_RX_GOOD u j) 0 26 good.toNat) u j 0xD4)) ∧
  (∀ (u : Unit6) (j : Joint) (s : State),
      bndState s u j = 3 ∨ bndState s u j = 5 → (bondX s u j).own ≠ 0 → exec (.epochTimeout u j) s = .next (abandon s u j ((bondX s u j).e + 1))) ∧
  (∀ (u : Unit6) (j : Joint) (s : State),
      bndState s u j = 3 ∨ bndState s u j = 5 → (bondX s u j).own ≠ 0 → (bondX s u j).sentW = none → exec (.widthTicketSend u j) s = .next (propose s u j)) ∧
  (∀ (u : Unit6) (j : Joint) (s : State),
      bndState s u j = 4 → exec (.partnerSilent u j) s = .next (bndAbsent s u j)) ∧
  (∀ (u : Unit6) (j : Joint) (s : State),
      bndState s u j = 5 → exec (.retrainTimeout u j) s = .next (bndAbsent s u j)) ∧
  (∀ (u : Unit6) (j : Joint) (s : State),
      winOpen s u → noJoint u j = false → connected j = false → exec (.bndEnable u j) s = .next (bndLast s u j Rsn.CFG_RANGE 0xD9)) ∧
  (∀ (u : Unit6) (j : Joint) (s : State),
      winOpen s u → noJoint u j = false → connected j = true ∧ isOn s (jointDom u j) = false → exec (.bndEnable u j) s = .next (bndLast s u j Rsn.STATE 0xD8)) ∧
  (∀ (u : Unit6) (j : Joint) (s : State),
      winOpen s u → noJoint u j = false → jointHeld s u j = false → bndState s u j ≠ 4 → exec (.bndRetrain u j) s = .next (bndLast s u j Rsn.STATE 0xD8)) ∧
  (∀ (u : Unit6) (j : Joint) (s : State),
      winOpen s u → noJoint u j = true → exec (.bndEnable u j) s = .next s ∧ exec (.bndDisable u j) s = .next s ∧ exec (.bndRetrain u j) s = .next s) ∧
  (∀ (u : Unit6) (j : Joint) (w : Nat) (s : State),
      bndState s u j = 3 ∨ bndState s u j = 5 → (bondX s u j).own ≠ 0 → (bondX s u j).sentW = some w → exec (.widthTicketSend u j) s = .next (sendTicket s u j 2 (bondX s u j).e w (fget s (Reg.BND_RX_GOOD u j) 0 26) 0)) ∧
  (∀ (u : Unit6) (j : Joint) (s : State),
      connected j = true ∧ isOn s (jointDom u j) = true → bndState s u j = 4 → exec (.ts0Lock u j) s = .next (retrain s u j 0))

/-- In an exchange a good PROPOSE of its epoch from the partner as wired is answered with CONFIRM of the smaller width, one from another end
takes the joint to DOWN with 0xD7 and one of a width below 8 with 0xD4; a good CONFIRM of the epoch is noted; both ends hold the epoch at
one width and are ACTIVE. In ACTIVE a good NARROW_PROPOSE of the next epoch is answered with NARROW_CONFIRM and a SWITCH, a NARROW_CONFIRM
fixes the partner's; one not completed in time, or of more than one step, retrains with 0xD3. A good flit of the expected SEQ and epoch
returns what it acknowledges, its slots are taken in and it is delivered; a bad one is counted, and one far out of sequence retrains with
0xD2. (R302, R303, R306, R308, R310, R313) -/
def Obligations.TicketsAndFlitsComplete : Prop :=
  (∀ (u : Unit6) (j : Joint) (t : List Byte) (s : State),
      bndState s u j = 3 ∨ bndState s u j = 5 → (bondX s u j).own ≠ 0 → ticketOk t 1 = true → dfld t 1 1 = (bondX s u j).e → identOk s u j (dfld t 3 1 % 8) (dfld t 3 1 / 8 % 4) = true → 8 ≤ dfld t 2 1 → let y := notePartner s u j t
      let x := bondX s u j
      let w := min x.own (widthOf (dfld t 2 1))
      exec (.propose u j t) s = .next (tryHold (sendTicket (setBondX y u j { x with sentW := some w, pGood := dfld t 4 4 % 2 ^ 26 }) u j 2 (dfld t 1 1) w (fget y (Reg.BND_RX_GOOD u j) 0 26) 0) u j)) ∧
  (∀ (u : Unit6) (j : Joint) (t : List Byte) (s : State),
      bndState s u j = 3 ∨ bndState s u j = 5 → (bondX s u j).own ≠ 0 → ticketOk t 2 = true → dfld t 1 1 = (bondX s u j).e → identOk s u j (dfld t 3 1 % 8) (dfld t 3 1 / 8 % 4) = true → 8 ≤ dfld t 2 1 → exec (.confirm u j t) s = .next (tryHold (setBondX (notePartner s u j t) u j { bondX s u j with gotW := some (dfld t 2 1), pGood := dfld t 4 4 % 2 ^ 26 }) u j)) ∧
  (∀ (s : State) (u j w : Nat),
      (bondX s u j).sentW = some w ∧ (bondX s u j).gotW = some w → 8 ≤ w ∧ w < 32 → bndState (tryHold s u j) u j = 4 ∧ fget (tryHold s u j) (Reg.BND_STATUS u j) 3 5 = w ∧ fget (tryHold s u j) (Reg.BND_STATUS u j) 8 8 = (bondX s u j).e % 256) ∧
  (∀ (u : Unit6) (j : Joint) (t : List Byte) (s : State),
      bndState s u j = 4 → ticketOk t 3 = true → dfld t 1 1 = (fget s (Reg.BND_STATUS u j) 8 8 + 1) % 256 → (bondX s u j).narrow = none → fget s (Reg.BND_STATUS u j) 3 5 ≤ min (fget s (Reg.BND_STATUS u j) 3 5) (widthOf (dfld t 2 1)) + 4 → 0 < min (fget s (Reg.BND_STATUS u j) 3 5) (widthOf (dfld t 2 1)) → let w := min (fget s (Reg.BND_STATUS u j) 3 5) (widthOf (dfld t 2 1))
      let g := fget s (Reg.BND_RX_GOOD u j) 0 26
      let sw := switchSeq (bondX s u j).next
      exec (.narrowPropose u j t) s = .next (sendTicket (setBondX s u j { bondX s u j with pGood := dfld t 4 4 % 2 ^ 26, narrow := some ⟨g, w, false, some sw, none⟩ }) u j 4 (dfld t 1 1) w g sw)) ∧
  (∀ (u : Unit6) (j : Joint) (t : List Byte) (n : Narrow) (q : Nat) (s : State),
      bndState s u j = 4 → ticketOk t 4 = true → dfld t 1 1 = (fget s (Reg.BND_STATUS u j) 8 8 + 1) % 256 → (bondX s u j).narrow = some n → n.rxSwitch = none ∧ n.txSwitch = some q → fget s (Reg.BND_STATUS u j) 3 5 ≤ min n.width (widthOf (dfld t 2 1)) + 4 ∧ 0 < min n.width (widthOf (dfld t 2 1)) → exec (.narrowConfirm u j t) s = .next (narrowEnd (setBondX s u j { bondX s u j with pGood := dfld t 4 4 % 2 ^ 26, narrow := some { n with width := min n.width (widthOf (dfld t 2 1)), txSwitch := some q, rxSwitch := some (dfld t 8 2) } }) u j)) ∧
  (∀ (u : Unit6) (j : Joint) (n : Narrow) (s : State),
      (bondX s u j).narrow = some n → bndState s u j = 4 → n.txSwitch = none ∨ n.rxSwitch = none → exec (.narrowTimeout u j) s = .next (retrain s u j 0xD3)) ∧
  (∀ (u : Unit6) (j : Joint) (f : List Byte) (s : State),
      f.length = 256 → flitCrc f ≠ leNat (f.drop 248) → bndState s u j = 4 → exec (.flitReceive u j f none) s = .next (countFlit (holdAdd s (Reg.BND_ERR u j) 0 16 1) u j true)) ∧
  (∀ (u : Unit6) (j : Joint) (f : List Byte) (s : State),
      f.length = 256 → flitCrc f = leNat (f.drop 248) → bndState s u j = 4 → flitFld f 61 1 = 0 ∧ flitFld f 33 1 = 0 → flitFld f 0 16 = (bondX s u j).expect → (bondX s u j).narrow = none → flitFld f 34 8 = fget s (Reg.BND_STATUS u j) 8 8 → let y := countFlit s u j false
      let x := bondX y u j
      exec (.flitReceive u j f none) s = .next (emit (takeSlotsIn (flitBack (setBondX y u j { x with expect := (x.expect + 1) % 65536, naks := 0 }) u j f) u j f) .flit [u, j, 0, flitFld f 0 16] ((f.drop 8).take 240))) ∧
  (∀ (u : Unit6) (j : Joint) (t : List Byte) (s : State),
      bndState s u j = 3 ∨ bndState s u j = 5 → (bondX s u j).own ≠ 0 → dfld t 1 1 = (bondX s u j).e → identOk s u j (dfld t 3 1 % 8) (dfld t 3 1 / 8 % 4) = false → (ticketOk t 1 = true → later (bondX s u j).e (dfld t 1 1) = false → exec (.propose u j t) s = .next (bndDown s u j 0xD7)) ∧ (ticketOk t 2 = true → exec (.confirm u j t) s = .next (bndDown s u j 0xD7))) ∧
  (∀ (u : Unit6) (j : Joint) (t : List Byte) (s : State),
      bndState s u j = 3 ∨ bndState s u j = 5 → (bondX s u j).own ≠ 0 → ticketOk t 2 = true → dfld t 1 1 = (bondX s u j).e → identOk s u j (dfld t 3 1 % 8) (dfld t 3 1 / 8 % 4) = true → dfld t 2 1 < 8 → exec (.confirm u j t) s = .next (bndDown s u j 0xD4)) ∧
  (∀ (u : Unit6) (j : Joint) (t : List Byte) (n : Narrow) (s : State),
      bndState s u j = 4 → ticketOk t 4 = true → dfld t 1 1 = (fget s (Reg.BND_STATUS u j) 8 8 + 1) % 256 → (bondX s u j).narrow = some n → n.rxSwitch = none → min n.width (widthOf (dfld t 2 1)) + 4 < fget s (Reg.BND_STATUS u j) 3 5 ∨ min n.width (widthOf (dfld t 2 1)) = 0 → exec (.narrowConfirm u j t) s = .next (retrain s u j 0xD3)) ∧
  (∀ (u : Unit6) (j : Joint) (f : List Byte) (s : State),
      f.length = 256 → flitCrc f = leNat (f.drop 248) → bndState s u j = 4 → flitFld f 61 1 = 0 → (bondX s u j).narrow = none → flitFld f 34 8 = fget s (Reg.BND_STATUS u j) 8 8 → 2048 < (flitFld f 0 16 + 65536 - (bondX s u j).expect) % 65536 ∧ (flitFld f 0 16 + 65536 - (bondX s u j).expect) % 65536 < 65536 - 2048 → exec (.flitReceive u j f none) s = .next (retrain (countFlit s u j false) u j 0xD2))

/-- A unit that no joint end reaches any more leaves service at an absence notice, recorded as DIE_ABSENT 0x49; a lost die that has trained with
a partner rejoins at the Cornerstone; once every home has reclaimed the agents of dies and the position check has confirmed it, an admitted
die is in service again with a record LINK_FAIL 0xD8. (R315, R316, R318) -/
def Obligations.DiesLeaveAndReturn : Prop :=
  (∀ (u dead : Unit6) (s : State),
      u ≠ dead → outOf s u = false → cutOff s dead = true → exec (.absentNotice u dead) s = .next (lostUnit s dead)) ∧
  (∀ (s : State) (v : Nat),
      outOf s v = true → lostUnit s v = s) ∧
  (∀ (d : Unit6) (j : Nat) (s : State),
      d.val < 4 → outOf s d = true ∧ s.pllOff.contains d.val = false → j < 3 ∧ bndState s d j = 4 → exec (.rejoin d) s = .next (mgt (s.withRejoins (kins d s.rejoins)) 6 d (cornerstone s))) ∧
  (∀ (d : Unit6) (s : State),
      s.rejoins.contains d.val = true → s.reclaims.any (fun r => decide (24 ≤ r.2.1 ∧ r.2.1 < 40)) = false → fget s (Reg.GLB_DIE_IDENT d) 2 2 = 1 → let t := (s.withAbsent (s.absent.filter (· ≠ d.val))).withRejoins (s.rejoins.filter (· ≠ d.val))
      let v := mgt (agentsBack (homesChanged (recount t d))) 7 d 0
      exec (.admitDie d) s = .next (note v (cornerstone v) Rsn.LINK_FAIL 0xD8 14 d []))

/-- Through an open window: a port whose checks pass is enabled and its link trains, one whose checks fail shows their codes; a port with no
READY context and no item on it is disabled, its links DOWN, another refused with STATE 0xED. A training link comes UP; a link lost trains
again, with a fault LINK_FAIL 0xEE at L2 on the port. (R324, R341) -/
def Obligations.PortsComplete : Prop :=
  (∀ (d : Die) (n : Fin 2) (v : W32) (s : State),
      winOpen s d → portChecks (rwlIn s (Reg.NET_PORT_CFG d n) 0x1F1F06 v) d n = none → bit (rwlIn s (Reg.NET_PORT_CFG d n) 0x1F1F06 v) (Reg.NET_PORT_CFG d n) 0 = false → s.modx.l4 = false → let t := setRD (fset (rwlIn s (Reg.NET_PORT_CFG d n) 0x1F1F06 v) (Reg.NET_PORT_CFG d n) 0 1 1) (Reg.NET_PORT_STATUS d n) 8 0 0
      let w := fset t (Reg.NET_PORT_STATUS d n) 0 2 1
      exec (.netPortEnable d n v) s = .next (if bit w (Reg.NET_PORT_CFG d n) 1 then fset w (Reg.NET_PORT_STATUS d n) 2 2 1 else w)) ∧
  (∀ (d : Die) (n : Fin 2) (v : W32) (a b : Nat) (s : State),
      winOpen s d → portChecks (rwlIn s (Reg.NET_PORT_CFG d n) 0x1F1F06 v) d n = some (a, b) → exec (.netPortEnable d n v) s = .next (setRD (rwlIn s (Reg.NET_PORT_CFG d n) 0x1F1F06 v) (Reg.NET_PORT_STATUS d n) 8 a b)) ∧
  (∀ (d : Die) (n : Fin 2) (s : State),
      winOpen s d → (∀ c ∈ ctxsOf s d, (flow s c).st = 1 → cPort s c ≠ n.val) → (∀ i ∈ s.items, i.die = d.val → i.uses.contains (400 + 2 * d.val + n.val) = false) → exec (.netPortDisable d n) s = .next (setRD (fset (fset (fset s (Reg.NET_PORT_CFG d n) 0 1 0) (Reg.NET_PORT_STATUS d n) 0 2 0) (Reg.NET_PORT_STATUS d n) 2 2 0) (Reg.NET_PORT_STATUS d n) 8 0 0)) ∧
  (∀ (d : Die) (n : Fin 2) (c : Nat) (s : State),
      winOpen s d → c ∈ ctxsOf s d → (flow s c).st = 1 ∧ cPort s c = n.val → exec (.netPortDisable d n) s = .next (setRD s (Reg.NET_PORT_STATUS d n) 8 Rsn.STATE 0xED)) ∧
  (∀ (d : Die) (n half : Fin 2) (s : State),
      linkState s d n half = 1 → outOf s d = false ∧ s.modx.l4 = false → exec (.linkUp d n half) s = .next (fset s (Reg.NET_PORT_STATUS d n) (2 * half) 2 2)) ∧
  (∀ (d : Die) (n half : Fin 2) (s : State),
      linkState s d n half = 2 → exec (.linkLost d n half) s = .next (raise (fset s (Reg.NET_PORT_STATUS d n) (2 * half) 2 1) ⟨d, Rsn.LINK_FAIL, 0xEE, 2, 6, 2 * d.val + n.val + 8 * half.val, leBytes 1 1, .port (2 * d.val + n.val)⟩ false))

/-- On a live context: an acknowledgement retires what it covers and its items go on; a NAK acknowledges what is before it, then the first two
kinds retry and the others take the context to ERROR with LINK_FAIL 0xE8; a notification is noted for the slot; a timeout with
unacknowledged packets retries; an acknowledgement owed is sent; at its bound an item that needs acknowledgement takes its context to ERROR
with 0xE5, and a NET_RECV ends with ABORTED 0xE9. (R328, R331, R332, R337) -/
def Obligations.TransportsComplete : Prop :=
  (∀ (d : Die) (c : Fin 262144) (psn : BitVec 24) (s : State),
      ctxLive s d c = true → cKind s c ≠ 1 → exec (.roceAck d c psn) s = .next (ctxProgress (retire s c psn.toNat) c)) ∧
  (∀ (d : Die) (c : Fin 262144) (psn : BitVec 24) (s : State),
      ctxLive s d c = true → cKind s c ≠ 1 → (flow (acked s c ((psn.toNat + 2 ^ 24 - 1) % 2 ^ 24)) c).st = 1 → exec (.roceNak d c psn 0) s = .next (retry (acked s c ((psn.toNat + 2 ^ 24 - 1) % 2 ^ 24)) c false 0xE6)) ∧
  (∀ (d : Die) (c : Fin 262144) (psn : BitVec 24) (code : Fin 4) (s : State),
      ctxLive s d c = true → cKind s c ≠ 1 → (flow (acked s c ((psn.toNat + 2 ^ 24 - 1) % 2 ^ 24)) c).st = 1 → 2 ≤ code.val → exec (.roceNak d c psn code) s = .next (ctxError (acked s c ((psn.toNat + 2 ^ 24 - 1) % 2 ^ 24)) c Rsn.LINK_FAIL 0xE8)) ∧
  (∀ (d : Die) (c : Fin 262144) (s : State),
      ctxLive s d c = true → cKind s c ≠ 3 → exec (.cnp d c) s = .next (setFlow s c { flow s c with notified := true })) ∧
  (∀ (d : Die) (c : Fin 262144) (psn : BitVec 32) (ece : Bool) (s : State),
      ctxLive s d c = true → cKind s c = 1 → exec (.pollekAck d c psn ece) s = .next (acked (if ece then setFlow s c { flow s c with notified := true } else s) c psn.toNat)) ∧
  (∀ (d : Die) (c : Fin 262144) (psn : BitVec 32) (s : State),
      ctxLive s d c = true → cKind s c = 1 → (flow (acked s c psn.toNat) c).st = 1 → exec (.pollekNak d c psn) s = .next (retry (acked s c psn.toNat) c false 0xE6)) ∧
  (∀ (d : Die) (c : Fin 262144) (s : State),
      (flow s c).st = 1 ∧ c / 65536 = d.val ∧ outOf s d = false → (flow s c).tx ≠ [] → exec (.rtoExpire d c) s = .next (retry s c false 0xE6)) ∧
  (∀ (s : State) (c : Nat),
      cf s c 0x44 1 = 7 ∨ (flow s c).tries < cf s c 0x44 1 → retry s c false 0xE6 = resend (setFlow s c { flow s c with tries := (flow s c).tries + 1 }) c) ∧
  (∀ (d : Die) (c : Fin 262144) (s : State),
      ctxLive s d c = true → 0 < (flow s c).unacked → exec (.ackTimer d c) s = .next (sendAck s c)) ∧
  (∀ (d : Die) (r : Ring) (seq : W32) (it : Item) (s : State),
      findItem s d r seq.toNat = some it → it.bound ≤ ctl s d → it.opcode = 0x23 → exec (.netBoundExpire d r seq) s = .next (endItem s it Rsn.ABORTED 0xE9)) ∧
  (∀ (d : Die) (r : Ring) (seq : W32) (it : Item) (s : State),
      findItem s d r seq.toNat = some it → it.bound ≤ ctl s d → it.opcode = 0x20 ∨ it.opcode = 0x21 ∨ it.opcode = 0x22 ∨ it.opcode = 0x28 ∨ it.opcode = 0x30 → exec (.netBoundExpire d r seq) s = .next (ctxError s it.obj Rsn.LINK_FAIL 0xE5))

/-- A packet that its standing reserve admits, for a READY context of its transport on a link that is UP, is handed to the transport: a RoCEv2
SEND, WRITE, READ request or READ response, or a Pollek DATA packet of a message or a collective; one not admitted yet waits in its port's
buffer, whose oldest is handed on when its reserve admits it. A frame without a receive on the RAW context of its port, a PAUSE or PFC frame
and one of a wrong size are dropped and counted. (R327, R328, R329, R330, R331, R336, R339, R352) -/
def Obligations.InboundPacketsComplete : Prop :=
  (∀ (d : Die) (c : Fin 262144) (psn : BitVec 24) (ce : Bool) (seg : Fin 4) (data : List Byte) (s : State),
      c / 65536 = d.val ∧ outOf s d = false → (flow s c).st = 1 ∧ ctxUp s c = true → tget rxbufDef s.rxbuf (2 * d + cPort s c) = [] → cKind s c ≠ 1 ∧ cKind s c ≠ 3 → exec (.roceSend d c psn ce seg false data) s = .next (roceSendIn s c psn.toNat ce seg data)) ∧
  (∀ (d : Die) (c : Fin 262144) (psn : BitVec 24) (ce : Bool) (seg : Fin 4) (va : BitVec 64) (key len : BitVec 32) (data : List Byte) (s : State),
      c / 65536 = d.val ∧ outOf s d = false → (flow s c).st = 1 ∧ ctxUp s c = true → tget rxbufDef s.rxbuf (2 * d + cPort s c) = [] → cKind s c ≠ 1 ∧ cKind s c ≠ 3 → exec (.roceWrite d c psn ce seg false va key len data) s = .next (roceWriteIn s c psn.toNat ce seg va.toNat key.toNat len.toNat data)) ∧
  (∀ (d : Die) (c : Fin 262144) (psn : BitVec 24) (ce : Bool) (va : BitVec 64) (key len : BitVec 32) (s : State),
      c / 65536 = d.val ∧ outOf s d = false → (flow s c).st = 1 ∧ ctxUp s c = true → tget rxbufDef s.rxbuf (2 * d + cPort s c) = [] → cKind s c ≠ 1 ∧ cKind s c ≠ 3 → exec (.roceReadRequest d c psn ce false va key len) s = .next (roceReadIn s c psn.toNat ce va.toNat key.toNat len.toNat)) ∧
  (∀ (d : Die) (c : Fin 262144) (psn : BitVec 24) (ce : Bool) (seg : Fin 4) (data : List Byte) (s : State),
      c / 65536 = d.val ∧ outOf s d = false → (flow s c).st = 1 ∧ ctxUp s c = true → tget rxbufDef s.rxbuf (2 * d + cPort s c) = [] → cKind s c ≠ 1 ∧ cKind s c ≠ 3 → exec (.roceReadResponse d c psn ce seg false data) s = .next (roceRespIn (marked s c ce) c psn.toNat data)) ∧
  (∀ (d : Die) (c : Fin 262144) (ce : Bool) (pkt : List Byte) (s : State),
      c / 65536 = d.val ∧ outOf s d = false → (flow s c).st = 1 ∧ ctxUp s c = true → tget rxbufDef s.rxbuf (2 * d + cPort s c) = [] → cKind s c = 1 → exec (.pollekData d c ce false pkt) s = .next (pollekIn s c ce pkt)) ∧
  (∀ (s : State) (c : Nat) (ce : Bool) (pkt : List Byte),
      pollekRead pkt true = none → pollekIn s c ce pkt = holdAdd s (Reg.NET_PORT_DROPS (c / 65536) (cPort s c)) 16 16 1) ∧
  (∀ (mk : Die → Option (Fin 262144) → Bool → List Byte → Instr) (d : Die) (c : Fin 262144) (ce : Bool) (pkt : List Byte) (s : State),
      (mk ∈ ([Instr.hello, Instr.redSum, Instr.redTopk, Instr.redSign, Instr.gather, Instr.perm] : List (Die → Option (Fin 262144) → Bool → List Byte → Instr))) → c / 65536 = d.val ∧ outOf s d = false → (flow s c).st = 1 ∧ ctxUp s c = true → cKind s c = 1 → exec (mk d (some c) ce pkt) s = .next (pollekIn s c ce pkt)) ∧
  (∀ (mk : Die → Option (Fin 262144) → Bool → List Byte → Instr) (d : Die) (h : PHdr) (ce : Bool) (pkt : List Byte) (s : State),
      (mk ∈ ([Instr.hello, Instr.redSum, Instr.redTopk, Instr.redSign, Instr.gather, Instr.perm] : List (Die → Option (Fin 262144) → Bool → List Byte → Instr))) → outOf s d = false → pollekRead pkt false = some h → 2 ≤ h.op → exec (mk d none ce pkt) s = .next (groupIn s d none h).1) ∧
  (∀ (d : Die) (n : Fin 2) (i : Instr) (is : List Instr) (s : State),
      tget rxbufDef s.rxbuf (2 * d + n) = i :: is → exec (.rxReserveAdmit d n) s = .next (inNow (s.withRxbuf (tset rxbufDef s.rxbuf (2 * d + n) is)) i)) ∧
  (∀ (d : Die) (c : Fin 262144) (psn : BitVec 24) (ce : Bool) (seg : Fin 4) (data : List Byte) (s : State),
      c / 65536 = d.val ∧ outOf s d = false → (flow s c).st = 1 ∧ ctxUp s c = true → cKind s c ≠ 1 ∧ cKind s c ≠ 3 → ((tget rxbufDef s.rxbuf (2 * d + cPort s c)).map inBytes).sum + data.length ≤ 2097152 → exec (.roceSend d c psn ce seg true data) s = .next (s.withRxbuf (tset rxbufDef s.rxbuf (2 * d + cPort s c) (tget rxbufDef s.rxbuf (2 * d + cPort s c) ++ [.roceSend d c psn ce seg true data])))) ∧
  (∀ (d : Die) (c : Fin 262144) (data : List Byte) (it : Item) (s : State),
      ctxLive s d c = true → cKind s c = 2 → data.length = 16 → s.items.find? (fun i => ofCtx i d c && i.opcode == 0x28 && i.started && i.phase == dfld data 12 2) = some it → dfld data 14 2 / 2 = 0 → let t := took s c 1 true
      let u := setFlow t c { flow t c with tx := (flow t c).tx.filter (fun p => ¬ (p.ring = it.ring ∧ p.seq = it.seq)) }
      let v := extWrite u it (dfld it.desc 0x28 8) data
      exec (.nvmeResponse d c data) s = .next (endItem v (itNow v it) 0 0)) ∧
  (∀ (d : Die) (n : Fin 2) (data : List Byte) (s : State),
      outOf s d = false → rawCtxs s d n = [] → exec (.exceptionFrame d n data) s = .next (holdAdd s (Reg.NET_PORT_DROPS d n) 16 16 1)) ∧
  (∀ (d : Die) (n : Fin 2) (c : Nat) (data : List Byte) (it : Item) (s : State),
      outOf s d = false → frameOk data = true → (ctxsOf s d).filter (fun c => (flow s c).st == 1 && cKind s c == 3 && cPort s c == n.val && ctxUp s c) = [c] → recvOf s c = some it → data.length ≤ dfld it.desc 0x20 4 → let t := extWrite s it (dfld it.desc 0x18 8) data
      exec (.exceptionFrame d n data) s = .next (recvDone t (itNow t it) data.length)) ∧
  (∀ (d : Die) (n : Fin 2) (data : List Byte) (s : State),
      outOf s d = false → (rawCtxs s d n).length ≤ 1 → data.length < 60 ∨ 9216 < data.length ∨ (data.drop 12).take 2 = [0x88, 0x08] → exec (.exceptionFrame d n data) s = .next (holdAdd s (Reg.NET_PORT_DROPS d n) 16 16 1))

/-- Through an open window: a watchdog write stores period and action and starts the count anew, an action of 3 is refused with CFG_RANGE; a
kick restarts the count; an armed watchdog that expires is disarmed, recorded with HOST_ABSENT 0x8C, and queues the reset its action names.
A claim of the next epoch makes every host REATTACHING, any other is refused with STATE 0x86; a finish with no host ABSENT and nothing held
makes them PRESENT again; a changed attach record is rewritten with its generation raised by 2. (R370, R373, R374, R375, R383) -/
def Obligations.HostAttachmentComplete : Prop :=
  (∀ (k : Key) (v : W32) (s : State),
      winOpen s (4 + k) → getBits v 16 2 ≠ 3 → let t := fset (fset (fset s (Reg.GLB_HOST_WDOG_CTRL (4 + k)) 0 16 (getBits v 0 16)) (Reg.GLB_HOST_WDOG_CTRL (4 + k)) 16 2 (getBits v 16 2)) (Reg.GLB_HOST_WDOG_CTRL (4 + k)) 24 8 Rsn.DONE
      exec (.wdogCtrlWrite k v) s = .next (fset (t.withWdog (tdel k t.wdog)) (Reg.GLB_HOST_WDOG_STATUS (4 + k)) 0 1 (if getBits v 0 16 = 0 then 0 else 1))) ∧
  (∀ (k : Key) (v : W32) (s : State),
      winOpen s (4 + k) → getBits v 16 2 = 3 → exec (.wdogCtrlWrite k v) s = .next (fset s (Reg.GLB_HOST_WDOG_CTRL (4 + k)) 24 8 Rsn.CFG_RANGE)) ∧
  (∀ (k : Key) (s : State),
      winOpen s (4 + k) → exec (.wdogKick k) s = .next (s.withWdog (tdel k s.wdog))) ∧
  (∀ (k : Key) (s : State),
      bit s (Reg.GLB_HOST_WDOG_STATUS (4 + k)) 0 = true → fget s (Reg.GLB_HOST_WDOG_CTRL (4 + k)) 16 2 = 1 → let t := note (fset (s.withWdog (tdel k s.wdog)) (Reg.GLB_HOST_WDOG_STATUS (4 + k)) 0 1 0) (4 + k) Rsn.HOST_ABSENT 0x8C 11 (4 + k + 8 * 31) []
      exec (.wdogExpire k) s = .next (t.withResetQ (t.resetQ ++ [⟨none, 2, 6⟩]))) ∧
  (∀ (d : Die) (s : State),
      winOpen s d → exec (.attachEnable d) s = .next (markAttach (finishEnable s (Reg.GLB_ATTACH_CTRL d) 8 (firstFail [(decide (attachBase s d % 4096 = 0 ∧ holdBase s d % 0x4000000 = 0), Rsn.CFG_ALIGN, 0x89), (inOwnStack s d (attachBase s d) 4096 && inOwnStack s d (holdBase s d) 0x4000000, Rsn.CFG_RANGE, 0x8A), (!overlap (attachBase s d) 4096 (holdBase s d) 0x4000000, Rsn.CFG_CONFLICT, 0x8A)])) d)) ∧
  (∀ (d : Die) (v : W32) (s : State),
      winOpen s d → v = rd s Reg.GLB_ATTACH_EPOCH + 1 → (∀ k < 2, tget natDef s.l2busy k = 0 ∧ hostState s k ≠ 2) → exec (.attachClaim d v) s = .next (setRD ((List.range 4).foldl direct ((List.range 2).foldl (fun s k => setHost s k 4) (wr s Reg.GLB_ATTACH_EPOCH v))) (Reg.GLB_ATTACH_CTRL d) 8 0 0)) ∧
  (∀ (d : Die) (v : W32) (s : State),
      winOpen s d → v ≠ rd s Reg.GLB_ATTACH_EPOCH + 1 → exec (.attachClaim d v) s = .next (setRD s (Reg.GLB_ATTACH_CTRL d) 8 Rsn.STATE 0x86)) ∧
  (∀ (d : Die) (v : W32) (s : State),
      winOpen s d → v.getLsbD 0 = true → (∀ k < 2, hostState s k ≠ 2) → (∀ p < 4, outOf s p = false → holdsAny s p = false) → ∃ t, exec (.attachFinish d v) s = .next t ∧ (∀ k < 2, hostState t k = 0) ∧ fget t (Reg.GLB_ATTACH_CTRL d) 8 16 = 0) ∧
  (∀ (d : Die) (s : State),
      bit s (Reg.GLB_ATTACH_CTRL d) 0 = true → outOf s d = false → (tget hostxDef s.hostx d).dirty = true → ∃ t, exec (.attachRecordRewrite d) s = .next t ∧ (tget hostxDef t.hostx d).gen = (tget hostxDef s.hostx d).gen + 2 ∧ (tget hostxDef t.hostx d).dirty = false)

/-- Through an open window, with a returned Keystone and not BUSY, replay or discard is under way; else it is refused with STATE 0x88. With no
host ABSENT, a drain under way ends with nothing held and BUSY cleared. Stalled writes are tried again, and items that waited for nothing
else end; an item stalled at its bound ends with HOST_ABSENT 0xAC. (R376, R380, R381) -/
def Obligations.HoldingAreaComplete : Prop :=
  (∀ (d : Die) (s : State),
      winOpen s d → (∃ k < 2, hostState s k = 3 ∨ hostState s k = 4) → bit s (Reg.GLB_HOLD_CTRL d) 31 = false → exec (.holdReplay d) s = .next (fset (fset (setRD s (Reg.GLB_HOLD_CTRL d) 8 0 0) (Reg.GLB_HOLD_CTRL d) 2 2 2) (Reg.GLB_HOLD_CTRL d) 31 1 1) ∧
      exec (.holdDiscard d) s = .next (fset (fset (setRD s (Reg.GLB_HOLD_CTRL d) 8 0 0) (Reg.GLB_HOLD_CTRL d) 2 2 3) (Reg.GLB_HOLD_CTRL d) 31 1 1)) ∧
  (∀ (d : Die) (s : State),
      winOpen s d → (∀ k < 2, hostState s k ≠ 3 ∧ hostState s k ≠ 4) → exec (.holdReplay d) s = .next (setRD s (Reg.GLB_HOLD_CTRL d) 8 Rsn.STATE 0x88) ∧
      exec (.holdDiscard d) s = .next (setRD s (Reg.GLB_HOLD_CTRL d) 8 Rsn.STATE 0x88)) ∧
  (∀ (d : Die) (s : State),
      bit s (Reg.GLB_HOLD_CTRL d) 31 = true → outOf s d = false → (∀ k < 2, hostState s k ≠ 2) → (∀ i ∈ s.items, i.opcode ≠ 0x30) → ∃ t, exec (.holdDrainDone d) s = .next t ∧ bit t (Reg.GLB_HOLD_CTRL d) 31 = false ∧ fget t (Reg.GLB_HOLD_USED d) 0 26 = 0 ∧ fget t (Reg.GLB_HOLD_RECORDS d) 0 18 = 0 ∧ (∀ i ∈ t.items, i.die = d.val → i.held = false)) ∧
  (∀ (d : Die) (s : State),
      let t := retryStalled s d
      exec (.holdStallResume d) s = .next ((holdX t d).ending.foldl (fun s e => match findItem s d e.1 e.2 with
        | some it => endItem s it 0 0
        | none => s) t)) ∧
  (∀ (d : Die) (r : Ring) (seq : W32) (it : Item) (s : State),
      findItem s d r seq.toNat = some it → it.bound ≤ ctl s d → (holdX s d).stalled.any (fun w => w.1 == r.val && w.2.1 == seq.toNat) = true ∨ itemWaits s it = true → exec (.stalledItemBoundExpire d r seq) s = .next (endItem s it Rsn.HOST_ABSENT 0xAC))

/-- Through an open window: with no checkpoint item outstanding, CKP enable clears VERIFIED, takes its fields, and sets ENABLE and ROLE or shows
the codes of its checks, and disable clears both; with one outstanding both are refused with STATE 0x2F. A stage entry is written unless it
would be VALID without a resident plan, when it is refused with STATE 0xA2; the idle counters of a row are cleared together. A PENDING
group's HELLOs go out again; a collective item at its bound ends with LINK_FAIL 0xF3, and a GROUP_SET leaves its group CLOSED. (R345, R354,
R358, R360, R426, R433) -/
def Obligations.CheckpointAndStagesComplete : Prop :=
  (∀ (d : Die) (v : W32) (s : State),
      winOpen s d → ckpBusy s d = false → ckpChecks (rwlIn (fset s (Reg.CKP_STATUS d) 2 3 0) (Reg.CKP_CTRL d) 0xE v) d = none → let t := finishEnable (rwlIn (fset s (Reg.CKP_STATUS d) 2 3 0) (Reg.CKP_CTRL d) 0xE v) (Reg.CKP_CTRL d) 8 none
      exec (.ckpEnable d v) s = .next (spareReg (fset t (Reg.CKP_STATUS d) 0 2 (if bit t (Reg.CKP_CTRL d) 1 then 1 else 0)))) ∧
  (∀ (d : Die) (s : State),
      winOpen s d → ckpBusy s d = false → exec (.ckpDisable d) s = .next (setRD (fset (fset s (Reg.CKP_STATUS d) 2 3 0) (Reg.CKP_CTRL d) 0 1 0) (Reg.CKP_CTRL d) 8 0 0)) ∧
  (∀ (d : Die) (v : W32) (s : State),
      winOpen s d → ckpBusy s d = true → exec (.ckpEnable d v) s = .next (setRD s (Reg.CKP_CTRL d) 8 Rsn.STATE 0x2F) ∧ exec (.ckpDisable d) s = .next (setRD s (Reg.CKP_CTRL d) 8 Rsn.STATE 0x2F)) ∧
  (∀ (d : Die) (i : Fin 16) (v : W32) (s : State),
      winOpen s d → v.getLsbD 20 = false ∨ (planOf s d (getBits v 0 16)).isSome = true → exec (.plnStageWrite d i v) s = .next (wr s (Reg.PLN_STAGE d i) (v &&& 0x1FFFFF))) ∧
  (∀ (d : Die) (row : Fin 17) (s : State),
      winOpen s d → exec (.idleClear d row) s = .next ((List.range 9).foldl (fun s k => wrW s (idleReg d row k) 0) s)) ∧
  (∀ (d : Die) (g : W32) (x : Group) (s : State),
      groupOf s d g.toNat = some x → x.st = 1 → outOf s d = false → exec (.helloTimer d g) s = .next (sendHello s x)) ∧
  (∀ (d : Die) (r : Ring) (seq : W32) (it : Item) (s : State),
      findItem s d r seq.toNat = some it → it.bound ≤ ctl s d → 0x29 ≤ it.opcode ∧ it.opcode ≤ 0x2C → exec (.chainBoundExpire d r seq) s = .next (endItem s it Rsn.LINK_FAIL 0xF3)) ∧
  (∀ (d : Die) (r : Ring) (seq : W32) (it : Item) (s : State),
      findItem s d r seq.toNat = some it → it.bound ≤ ctl s d → it.opcode = 0x2D → exec (.groupSetBoundExpire d r seq) s = .next (endItem (closeGroup s d it.obj) it Rsn.LINK_FAIL 0xF3)) ∧
  (∀ (d : Die) (v : W32) (r e : Nat) (s : State),
      winOpen s d → ckpBusy s d = false → ckpChecks (rwlIn (fset s (Reg.CKP_STATUS d) 2 3 0) (Reg.CKP_CTRL d) 0xE v) d = some (r, e) → exec (.ckpEnable d v) s = .next (finishEnable (rwlIn (fset s (Reg.CKP_STATUS d) 2 3 0) (Reg.CKP_CTRL d) 0xE v) (Reg.CKP_CTRL d) 8 (some (r, e)))) ∧
  (∀ (d : Die) (i : Fin 16) (v : W32) (s : State),
      winOpen s d → v.getLsbD 20 = true → planOf s d (getBits v 0 16) = none → exec (.plnStageWrite d i v) s = .next (emit s .refusal [Rsn.STATE, 0xA2] []))

/-- For every command c and every state s, when exec of c on s answers a next state t, the queue of t is the queue of s: a command is never
dropped, repeated or put in by another one. Every command that a sender can form (Instr.wf) answers a next state in every state: no command
ends a run. (opcode_table.json, INDEX.md) -/
def Obligations.QueueKept : Prop :=
  (∀ (c : Instr) (s t : State), exec c s = .next t → t.pending = s.pending) ∧
  (∀ (c : Instr) (s : State), c.wf = true → ∃ t, exec c s = .next t ∧ t.pending = s.pending)

/-- With no command waiting, a step answers a next state with no command waiting. Where no posted register write waits to take effect, each
unit's CK_CTL counter has risen by one if the unit's root PLL is locked and is unchanged if not, memory, poison marks, items, contexts and
the agents' copies of lines are unchanged, and so are the registers and the messages sent while no joint is ACTIVE. That a step on an empty
queue is one CK_CTL cycle, and that an ACTIVE joint has one flit time in it, is the model's choice (log entries 10 and 174). (R437) -/
def Obligations.EmptyQueueIdles : Prop :=
  ∀ s : State, s.pending = [] → ∃ t, step s = .next t ∧ t.pending = [] ∧
    (s.regq = [] →
      (∀ u < 6, rdW t (Reg.GLB_CTL_COUNT_LO u) = rdW s (Reg.GLB_CTL_COUNT_LO u) + (if pllLocked s u then 1 else 0)) ∧
      t.mem = s.mem ∧ t.poison = s.poison ∧ t.items = s.items ∧ t.ctxx = s.ctxx ∧ t.copies = s.copies ∧
      ((∀ u < 6, ∀ j < 3, bndState s u j ≠ 4) → t.regs = s.regs ∧ t.sent = s.sent))

/-- Right after reset no command waits, memory lists nothing, nothing is poisoned, no item is outstanding, no plan is resident, no agent holds a
line, and the forms of State.Canon hold. The CK_CTL counters read 0. No boot step is complete, DOWNSHIFT is NORMAL, EN reads 1, every
context is EMPTY, every ring DISABLED, every fault unit's sequence 0, every sequencer idle, every translation unit disabled, every joint end
without an epoch, every port link down. That a byte of memory that nothing has written reads 0 is the model's choice (log entry 6). (R437,
R497, 21_register_reference.md) -/
def Obligations.ResetLeaves : Prop :=
  State.reset.Canon ∧ State.reset.pending = [] ∧ State.reset.mem = [] ∧ State.reset.poison = [] ∧ State.reset.items = [] ∧
    State.reset.plans = [] ∧ State.reset.copies = [] ∧ State.reset.dir = [] ∧ State.reset.sent = [] ∧
    (∀ u < 6, rdW State.reset (Reg.GLB_CTL_COUNT_LO u) = 0) ∧ (∀ a, rdByte State.reset.mem a = 0) ∧ (∀ k, tget seqDef State.reset.seqs k = ⟨[], none⟩) ∧
    fget State.reset Reg.GLB_BOOT_STATUS 6 4 = 0 ∧ fget State.reset Reg.GLB_MOD_STATUS 13 2 = 1 ∧ bit State.reset Reg.GLB_MOD_STATUS 6 = true ∧
    (∀ (d : Die) (r : Ring), ringState State.reset d r = 0) ∧ (∀ (d : Die) (n : Blk) (c : Ctx), ctxState State.reset d n c = 0)

/-- For every state s whose memory, register table, counter table and latch table are in canonical form (addresses strictly rising, no entry
equal to what an unlisted address reads as), if a step of s answers a next state s', then those of s' are in canonical form: equal contents
stay equal data. (06_memory_tiers.md, 21_register_reference.md) -/
def Obligations.StepKeepsCanon : Prop :=
  ∀ s t : State, s.Canon → step s = .next t → t.Canon

/-- Into an integer format of the range lo to hi: a NaN gives 0 and signals invalid; an infinity gives the bound of its sign and signals
invalid; a finite value is rounded to the nearest integer, ties to even; where the rounded value is below lo the result is lo, above hi it
is hi, both with invalid, and else it is the rounded value with no exception signalled. The vector unit's conversions of binary32 to signed
8-bit, unsigned 8-bit, signed 16-bit and signed 32-bit integers are this with those bounds. (R63) -/
def Obligations.IntegerConversion : Prop :=
  (∀ (f : Fmt) (x : Nat) (lo hi : Int), f.dec x = .nan → toInt f x lo hi = (0, fNV)) ∧
  (∀ (f : Fmt) (x : Nat) (lo hi : Int) (n : Bool), f.dec x = .inf n → toInt f x lo hi = (if n then lo else hi, fNV)) ∧
  (∀ (f : Fmt) (x m : Nat) (lo hi e : Int) (n : Bool), f.dec x = .num n m e →
    ∃ r : Nat, 2 * |(r : ℚ) - m * 2 ^ e| ≤ 1 ∧ (2 * |(r : ℚ) - m * 2 ^ e| = 1 → r % 2 = 0) ∧
      let v : Int := if n then -(r : Int) else r
      (v < lo → toInt f x lo hi = (lo, fNV)) ∧ (lo ≤ v → hi < v → toInt f x lo hi = (hi, fNV)) ∧
      (lo ≤ v → v ≤ hi → toInt f x lo hi = (v, 0))) ∧
  (∀ (x : Nat) (u : Option Nat),
    cvtElem 0 4 x u = (uInt 8 (toInt b32 x (-128) 127).1, (toInt b32 x (-128) 127).2) ∧
    cvtElem 0 5 x u = (uInt 8 (toInt b32 x 0 255).1, (toInt b32 x 0 255).2) ∧
    cvtElem 0 6 x u = (uInt 16 (toInt b32 x (-32768) 32767).1, (toInt b32 x (-32768) 32767).2) ∧
    cvtElem 0 7 x u = (uInt 32 (toInt b32 x (-2147483648) 2147483647).1, (toInt b32 x (-2147483648) 2147483647).2))

/-- The striped view spans 12 times the smallest populated size S_min of the twelve stacks. For o below that span, with t = o >> 12, the byte at
offset o lies in stack t mod 12 at per-stack offset (t / 12) * 4096 + (o & 0xFFF), below S_min. An access within the span is admitted; one
that begins or runs beyond it is refused with CFG_RANGE and detail 0x60. The view reaches the offsets below S_min of every stack, and every
offset of a stack is reached through its per-stack window. With k = 1 on every stack the view ends at 0x1CD4_A000_0000. (R157) -/
def Obligations.StripedView : Prop :=
  (∀ s : State, (∀ h < 12, stackMin s ≤ stackSize s h) ∧ ∃ h < 12, stackMin s = stackSize s h) ∧
  (∀ (s : State) (o : Nat), o < 12 * stackMin s →
    place s (0x1C0000000000 + o) = .hbm ((o >>> 12) % 12) ((o >>> 12) / 12 * 4096 + (o &&& 0xFFF)) ∧
    (o >>> 12) / 12 * 4096 + (o &&& 0xFFF) < stackMin s) ∧
  (∀ (s : State) (priv : Bool) (o n : Nat), 0 < n → o + n ≤ 12 * stackMin s → physCheck s priv (0x1C0000000000 + o) n = none) ∧
  (∀ (s : State) (priv : Bool) (o n : Nat), o < 0xD800000000 → 0 < n → 12 * stackMin s < o + n →
    physCheck s priv (0x1C0000000000 + o) n = some (Rsn.CFG_RANGE, 0x60)) ∧
  (∀ (s : State) (h x : Nat), h < 12 → x < stackMin s → ∃ o < 12 * stackMin s, place s (0x1C0000000000 + o) = .hbm h x) ∧
  (∀ (s : State) (h x : Nat), h < 12 → x < 0x2000000000 → place s (0x100000000000 + h * 0x2000000000 + x) = .hbm h x) ∧
  (∀ s : State, (∀ h < 12, fget s (Reg.FTG_HBM_STATUS (8 + h)) 0 2 = 1) → 0x1C0000000000 + 12 * stackMin s = 0x1CD4A0000000)

/-- The granule g = o >> 8 of a per-stack window lies in pseudo-channel (g ^ (g >> 6) ^ (g >> 12)) & 63 at local index g >> 6. For each local
index the 64 granules map to 64 different pseudo-channels, and every pseudo-channel is one of theirs. The local indexes of a stack's
populated bytes are 0 to (1,152 - 18k) MiB / 256 - 1, and an index of a retired pseudo-channel is moved to a row of the reserve above that
range in another pseudo-channel. (R156) -/
def Obligations.PseudoChannels : Prop :=
  (∀ g : Nat, granulePc g = ((g ^^^ (g >>> 6) ^^^ (g >>> 12)) &&& 63, g >>> 6)) ∧
  (∀ L a b : Nat, a < 64 → b < 64 → granulePc (64 * L + a) = granulePc (64 * L + b) → a = b) ∧
  (∀ L pc : Nat, pc < 64 → ∃ a < 64, granulePc (64 * L + a) = (pc, L)) ∧
  (∀ (s : State) (h o : Nat), o < stackSize s h →
    (granulePc (o >>> 8)).2 ≤ (1152 - 18 * fget s (Reg.FTG_HBM_STATUS (8 + h)) 0 2) * 1048576 / 256 - 1) ∧
  (∀ (s : State) (h pc L : Nat), pc < 64 → L ≤ (1152 - 18 * fget s (Reg.FTG_HBM_STATUS (8 + h)) 0 2) * 1048576 / 256 - 1 →
    ∃ o < stackSize s h, granulePc (o >>> 8) = (pc, L)) ∧
  (∀ k r l : Nat, 1 ≤ k → k ≤ 2 → r < 64 → l < (1152 - 18 * k) * 4096 →
    (physIndex k [r] r l).1 ≠ r ∧ (physIndex k [r] r l).1 < 64 ∧
    (1152 - 18 * k) * 4096 ≤ (physIndex k [r] r l).2 ∧ (physIndex k [r] r l).2 < 1152 * 4096)

/-- Writing the bytes bs from home address a on: the i-th byte reads as bs's i-th, every address outside a to a + length reads as before, and
the memory stays in canonical form. Where no agent holds a modified line, and none is on its way and no request waits, the same holds of the
coherent read of a byte and of the write of a non-caching agent, and a poisoned unit that the write does not cover whole stays poisoned.
(R159, R284) -/
def Obligations.MemoryReadAfterWrite : Prop :=
  (∀ (m : List Host.Cell) (a i : Nat) (bs : List Byte), i < bs.length → rdByte (wrBytes m a bs) (a + i) = bs.getD i 0) ∧
  (∀ (m : List Host.Cell) (a x : Nat) (bs : List Byte), (x < a ∨ a + bs.length ≤ x) → rdByte (wrBytes m a bs) x = rdByte m x) ∧
  (∀ (m : List Host.Cell) (a : Nat) (bs : List Byte), Memory.wf m = true → Memory.wf (wrBytes m a bs) = true) ∧
  (∀ (s : State) (a : Nat) (bs : List Byte), s.copies = [] → s.txns = [] → s.wbs = [] → s.resps = [] → s.waitq = [] →
    (∀ i < bs.length, cohByte (memWriteAt s a bs) (a + i) = bs.getD i 0) ∧
    (∀ x, (x < a ∨ a + bs.length ≤ x) → cohByte (memWriteAt s a bs) x = cohByte s x) ∧
    (∀ u ∈ s.poison, (u < a ∨ a + bs.length < u + (if 0xE00000000000 ≤ u then 8 else 32)) → u ∈ (memWriteAt s a bs).poison) ∧
    (s.dir = [] → (memWriteAt s a bs).regs = s.regs) ∧ (memWriteAt s a bs).items = s.items ∧ (memWriteAt s a bs).pending = s.pending)

/-- OPND, MASON, WAITG, SIGNAL, LOOP, FENCEW, CTX_END, the disable of a context, the clears of FP_FLAGS and VIOL, the watchdog kick and write,
the writes of the atomic mode and of a stage entry, the clear of idle counters and LINK_UP: when one answers a next state, every address of
memory reads as before, the poison marks, the agents' copies of lines, the outstanding items and the queue are unchanged. (R69, R74, R76,
R118, R360, R370) -/
def Obligations.CommandsThatStoreNothing : Prop :=
  ∀ (d : Die) (n : Blk) (c : Ctx) (u : Unit6) (k : Key) (i : Fin 16) (row : Fin 17) (p half : Fin 2) (v : W32) (same : BitVec 7) (sat : BitVec 16)
    (vs : Option W32) (x : Instr) (s t : State),
    x ∈ [.opnd d n c, .mason d n c, .waitg d n c, .signal d n c, .loop d n c, .fencew d n c, .ctxEnd d n c, .ctxDisable d n c, .fpFlagsClear d n c v same sat, .violClear d n v vs, .wdogKick k, .wdogCtrlWrite k v, .atomModeWrite u v, .plnStageWrite d i v, .idleClear d row, .linkUp d p half] →
    exec x s = .next t →
    (∀ a, rdByte t.mem a = rdByte s.mem a) ∧ t.mem = s.mem ∧ t.poison = s.poison ∧ t.copies = s.copies ∧ t.items = s.items ∧ t.pending = s.pending

/-- The request the Plinth takes next from a queue is one of the queue; no request of an earlier class in the order LOG, COUNTER, HEALTH, IMAGE
is in the queue, and no request of its own class stands before it. Nothing is taken exactly when the queue is empty. (R452) -/
def Obligations.NextStore : Prop :=
  (∀ q : List StoreWork, nextStore q = none ↔ q = []) ∧
  (∀ (q : List StoreWork) (w : StoreWork), nextStore q = some w →
    ∃ l r, q = l ++ w :: r ∧ (∀ x ∈ l, x.cls ≠ w.cls) ∧
      (∀ x ∈ q, [1, 0, 2, 3].idxOf w.cls ≤ [1, 0, 2, 3].idxOf x.cls))

/-- Each command that writes a register through a control window, when the window's unit is out of service, answers the state with an access
fault reported and nothing else changed; one to the window of a Footing whose domain is OFF changes nothing. (R503) -/
def Obligations.WindowsOutOfService : Prop :=
  ∀ (u : Unit6) (v : W32) (d : Die) (n : Blk) (j : Joint) (c : Ctx) (b4 : BitVec 4) (i16 : Fin 16) (b13 : BitVec 13) (b7 : BitVec 7) (b16 : BitVec 16) (h : Stack) (i17 : Fin 17) (i4 : Fin 4) (i21 : Fin 21) (i2 : Fin 2) (w : Fin 20) (b3 : BitVec 3) (i64 : Fin 64) (r : Ring) (b17 : BitVec 17) (ov : Option W32) (k : Key) (x : Instr) (s : State),
    (winGone s (u) = true → x ∈ [.atomModeWrite u v, .bndDisable u j, .bndEnable u j, .bndRetrain u j, .invAll u, .invAsid u b16, .invRange u b16, .xltDisable u, .xltEnable u v] → exec x s = .next (emit s .accessFault [0] [])) ∧
    (winGone s (d) = true → x ∈ [.attachClaim d v, .attachEnable d, .attachFinish d v, .blockFence d n, .blockTest d n, .ckpDisable d, .ckpEnable d v, .ctxDisable d n c, .ctxEnable d n c, .fbResume d v, .fltDisable d, .fltEnable d v, .fltFlagsClear d v b4, .fltHeadWrite d i16 b13, .fltRingEnable d i16 v, .fpFlagsClear d n c v b7 b16, .holdDiscard d, .holdReplay d, .idleClear d i17, .jrnlDisable d i4, .jrnlEnable d i4 v, .ldgBudgetWrite d i21 v, .ldgDisable d, .ldgEnable d, .netPortDisable d i2, .netPortEnable d i2 v, .plbDisable d, .plbEnable d v, .plnStageWrite d i16 v, .resetReqDieCold d b3, .resetReqDieWarm d b3, .resetReqKcore d b3, .resetReqKfull d b3, .resetReqModuleWarm d b3, .ringDisable d r, .ringDoorbell d r b17, .ringEnable d r v, .violClear d n v ov] → exec x s = .next (emit s .accessFault [0] [])) ∧
    (winGone s (8 + h) = true → x ∈ [.ftgDisable h, .ftgEnable h, .retireRequest h i64] → exec x s = .next (emit s .accessFault [0] [])) ∧
    (winGone s (w) = true → x ∈ [.pdRequestOff w b7, .pdRequestOn w b7] → exec x s = .next (emit s .accessFault [0] [])) ∧
    (winGone s (4 + k) = true → x ∈ [.wdogCtrlWrite k v, .wdogKick k] → exec x s = .next (emit s .accessFault [0] [])) ∧
    (winGone s (8 + h) = false → pd s (dFooting h) = 0 → x ∈ [.ftgDisable h, .ftgEnable h, .retireRequest h i64] → exec x s = .next s)
end

