-- ==== Sys2Proof/Laws/Exec.lean ====
section
/-! SUPPORT. What exec and step are: the one meaning each command calls, the front of the queue, and an open window. -/

namespace Sys2Proof.Machine

/-- A write through an open window acts. -/
theorem viaWin_open {s : State} {u : Nat} {f : State → Out} (h : winOpen s u) : viaWin s u f = f s := by
  simp only [viaWin, h.1, Bool.false_eq_true, if_false, h.2]

/-- A write through the window of a unit out of service is an access fault. -/
theorem viaWin_gone {s : State} {u : Nat} {f : State → Out} (h : winGone s u = true) :
    viaWin s u f = .next (emit s .accessFault [0] []) := by simp only [viaWin, h, if_true]

/-- A step with a command in front runs it with the queue's rest. -/
theorem step_cons (s : State) (c : Instr) (cs : List Instr) (h : s.pending = c :: cs) : step s = exec c (s.withPending cs) := by
  simp only [step, h]

/-- A step on an empty queue. -/
theorem step_nil (s : State) (h : s.pending = []) : step s = .next (idleCycle s) := by simp only [step, h]

theorem exec_powerUp (slot : BitVec 6) (s : State) : exec (.powerUp slot) s = execPowerUp slot s := rfl
theorem exec_powerGood (s : State) : exec .powerGood s = execPowerGood s := rfl
theorem exec_modEnFall (s : State) : exec .modEnFall s = execModEnFall s := rfl
theorem exec_modResetAssert (ns : Nat) (s : State) : exec (.modResetAssert ns) s = execModResetAssert ns s := rfl
theorem exec_modResetRelease (s : State) : exec .modResetRelease s = execModResetRelease s := rfl
theorem exec_inputHigh (v : BitVec 16) (s : State) : exec (.inputHigh v) s = execInputHigh v s := rfl
theorem exec_inputMargin (v : BitVec 16) (s : State) : exec (.inputMargin v) s = execInputMargin v s := rfl
theorem exec_inputNormal (v : BitVec 16) (s : State) : exec (.inputNormal v) s = execInputNormal v s := rfl
theorem exec_inputLow (v : BitVec 16) (s : State) : exec (.inputLow v) s = execInputLow v s := rfl
theorem exec_refclkLoss (d : Die) (s : State) : exec (.refclkLoss d) s = execRefclkLoss d s := rfl
theorem exec_pllUnlock (u : Unit6) (s : State) : exec (.pllUnlock u) s = execPllUnlock u s := rfl
theorem exec_hwThermTrip (s : State) : exec .hwThermTrip s = execHwThermTrip s := rfl
theorem exec_thermalTrip (u : Fin 20) (i : Fin 24) (t : BitVec 11) (s : State) : exec (.thermalTrip u i t) s = execThermalTrip u i t s := rfl
theorem exec_coolantWarm (t : BitVec 11) (s : State) : exec (.coolantWarm t) s = execCoolantWarm t s := rfl
theorem exec_moduleCold (s : State) : exec .moduleCold s = execModuleCold s := rfl
theorem exec_moduleWarm (s : State) : exec .moduleWarm s = execModuleWarm s := rfl
theorem exec_kcore (ks : BitVec 2) (slow : BitVec 24) (s : State) : exec (.kcore ks slow) s = execKcore ks slow s := rfl
theorem exec_kfull (k : Key) (s : State) : exec (.kfull k) s = execKfull k s := rfl
theorem exec_dieWarm (d : Die) (s : State) : exec (.dieWarm d) s = execDieWarm d s := rfl
theorem exec_dieCold (d : Die) (s : State) : exec (.dieCold d) s = execDieCold d s := rfl
theorem exec_resetReqModuleWarm (d : Die) (target : BitVec 3) (s : State) : exec (.resetReqModuleWarm d target) s = execResetReqModuleWarm d target s := rfl
theorem exec_resetReqKcore (d : Die) (target : BitVec 3) (s : State) : exec (.resetReqKcore d target) s = execResetReqKcore d target s := rfl
theorem exec_resetReqKfull (d : Die) (target : BitVec 3) (s : State) : exec (.resetReqKfull d target) s = execResetReqKfull d target s := rfl
theorem exec_resetReqDieWarm (d : Die) (target : BitVec 3) (s : State) : exec (.resetReqDieWarm d target) s = execResetReqDieWarm d target s := rfl
theorem exec_resetReqDieCold (d : Die) (target : BitVec 3) (s : State) : exec (.resetReqDieCold d target) s = execResetReqDieCold d target s := rfl
theorem exec_romElection (pass : BitVec 4) (pos : List (Fin 4)) (s : State) : exec (.romElection pass pos) s = execRomElection pass pos s := rfl
theorem exec_bootStepDone (good : BitVec 20) (caps : List (BitVec 10)) (s : State) : exec (.bootStepDone good caps) s = execBootStepDone good caps s := rfl
theorem exec_bootStepTimeout (s : State) : exec .bootStepTimeout s = execBootStepTimeout s := rfl
theorem exec_positionCheck (d : Die) (j1 : Option (Fin 4)) (j2 : Option (Fin 4)) (kp : Option (Fin 4)) (s : State) : exec (.positionCheck d j1 j2 kp) s = execPositionCheck d j1 j2 kp s := rfl
theorem exec_pdRequestOn (u : Fin 20) (dom : BitVec 7) (s : State) : exec (.pdRequestOn u dom) s = execPdRequestOn u dom s := rfl
theorem exec_pdRequestOff (u : Fin 20) (dom : BitVec 7) (s : State) : exec (.pdRequestOff u dom) s = execPdRequestOff u dom s := rfl
theorem exec_pdQueueHead (q : Unit6) (s : State) : exec (.pdQueueHead q) s = execPdQueueHead q s := rfl
theorem exec_domainWakeDone (dom : Fin 120) (s : State) : exec (.domainWakeDone dom) s = execDomainWakeDone dom s := rfl
theorem exec_domainOffDone (dom : Fin 120) (s : State) : exec (.domainOffDone dom) s = execDomainOffDone dom s := rfl
theorem exec_blockFence (d : Die) (n : Blk) (s : State) : exec (.blockFence d n) s = execBlockFence d n s := rfl
theorem exec_blockTest (d : Die) (n : Blk) (s : State) : exec (.blockTest d n) s = execBlockTest d n s := rfl
theorem exec_blockSelftestDone (d : Die) (n : Blk) (pass : Bool) (s : State) : exec (.blockSelftestDone d n pass) s = execBlockSelftestDone d n pass s := rfl
theorem exec_blockClearDone (d : Die) (n : Blk) (s : State) : exec (.blockClearDone d n) s = execBlockClearDone d n s := rfl
theorem exec_ctxEnable (d : Die) (n : Blk) (c : Ctx) (s : State) : exec (.ctxEnable d n c) s = execCtxEnable d n c s := rfl
theorem exec_ctxDisable (d : Die) (n : Blk) (c : Ctx) (s : State) : exec (.ctxDisable d n c) s = execCtxDisable d n c s := rfl
theorem exec_fpFlagsClear (d : Die) (n : Blk) (c : Ctx) (v : W32) (same : BitVec 7) (sat : BitVec 16) (s : State) : exec (.fpFlagsClear d n c v same sat) s = execFpFlagsClear d n c v same sat s := rfl
theorem exec_violClear (d : Die) (n : Blk) (v : W32) (same : Option W32) (s : State) : exec (.violClear d n v same) s = execViolClear d n v same s := rfl
theorem exec_spadRead (d : Die) (n : Blk) (m : Fin 5) (c : Ctx) (off : BitVec 21) (len : Nat) (s : State) : exec (.spadRead d n m c off len) s = execSpadRead d n m c off len s := rfl
theorem exec_spadWrite (d : Die) (n : Blk) (m : Fin 5) (c : Ctx) (off : BitVec 21) (data : List Byte) (s : State) : exec (.spadWrite d n m c off data) s = execSpadWrite d n m c off data s := rfl
theorem exec_spadSetWrite (d : Die) (n : Blk) (m : Fin 5) (c : Ctx) (off : BitVec 21) (data : List Byte) (s : State) : exec (.spadSetWrite d n m c off data) s = execSpadSetWrite d n m c off data s := rfl
theorem exec_spadClearWrite (d : Die) (n : Blk) (m : Fin 5) (c : Ctx) (off : BitVec 21) (data : List Byte) (s : State) : exec (.spadClearWrite d n m c off data) s = execSpadClearWrite d n m c off data s := rfl
theorem exec_opnd (d : Die) (n : Blk) (c : Ctx) (s : State) : exec (.opnd d n c) s = execOpnd d n c s := rfl
theorem exec_mason (d : Die) (n : Blk) (c : Ctx) (s : State) : exec (.mason d n c) s = execMason d n c s := rfl
theorem exec_masonStart (d : Die) (n : Blk) (c : Ctx) (s : State) : exec (.masonStart d n c) s = execMasonStart d n c s := rfl
theorem exec_masonDone (d : Die) (n : Blk) (c : Ctx) (s : State) : exec (.masonDone d n c) s = execMasonDone d n c s := rfl
theorem exec_plumbCompareDone (d : Die) (s : State) : exec (.plumbCompareDone d) s = execPlumbCompareDone d s := rfl
theorem exec_hod (d : Die) (n : Blk) (c : Ctx) (s : State) : exec (.hod d n c) s = execHod d n c s := rfl
theorem exec_hodDone (d : Die) (n : Blk) (c : Ctx) (i : Nat) (s : State) : exec (.hodDone d n c i) s = execHodDone d n c i s := rfl
theorem exec_transferPlannedDone (d : Die) (n : Blk) (c : Ctx) (i : Nat) (s : State) : exec (.transferPlannedDone d n c i) s = execTransferPlannedDone d n c i s := rfl
theorem exec_waitg (d : Die) (n : Blk) (c : Ctx) (s : State) : exec (.waitg d n c) s = execWaitg d n c s := rfl
theorem exec_ctxWake (d : Die) (n : Blk) (c : Ctx) (s : State) : exec (.ctxWake d n c) s = execCtxWake d n c s := rfl
theorem exec_signal (d : Die) (n : Blk) (c : Ctx) (s : State) : exec (.signal d n c) s = execSignal d n c s := rfl
theorem exec_loop (d : Die) (n : Blk) (c : Ctx) (s : State) : exec (.loop d n c) s = execLoop d n c s := rfl
theorem exec_fencew (d : Die) (n : Blk) (c : Ctx) (s : State) : exec (.fencew d n c) s = execFencew d n c s := rfl
theorem exec_ctxEnd (d : Die) (n : Blk) (c : Ctx) (s : State) : exec (.ctxEnd d n c) s = execCtxEnd d n c s := rfl
theorem exec_add (d : Die) (n : Blk) (c : Ctx) (s : State) : exec (.add d n c) s = execAdd d n c s := rfl
theorem exec_sub (d : Die) (n : Blk) (c : Ctx) (s : State) : exec (.sub d n c) s = execSub d n c s := rfl
theorem exec_mul (d : Die) (n : Blk) (c : Ctx) (s : State) : exec (.mul d n c) s = execMul d n c s := rfl
theorem exec_fma (d : Die) (n : Blk) (c : Ctx) (s : State) : exec (.fma d n c) s = execFma d n c s := rfl
theorem exec_div (d : Die) (n : Blk) (c : Ctx) (s : State) : exec (.div d n c) s = execDiv d n c s := rfl
theorem exec_sqrt (d : Die) (n : Blk) (c : Ctx) (s : State) : exec (.sqrt d n c) s = execSqrt d n c s := rfl
theorem exec_min (d : Die) (n : Blk) (c : Ctx) (s : State) : exec (.min d n c) s = execMin d n c s := rfl
theorem exec_max (d : Die) (n : Blk) (c : Ctx) (s : State) : exec (.max d n c) s = execMax d n c s := rfl
theorem exec_minnum (d : Die) (n : Blk) (c : Ctx) (s : State) : exec (.minnum d n c) s = execMinnum d n c s := rfl
theorem exec_maxnum (d : Die) (n : Blk) (c : Ctx) (s : State) : exec (.maxnum d n c) s = execMaxnum d n c s := rfl
theorem exec_cmpeq (d : Die) (n : Blk) (c : Ctx) (s : State) : exec (.cmpeq d n c) s = execCmpeq d n c s := rfl
theorem exec_cmplt (d : Die) (n : Blk) (c : Ctx) (s : State) : exec (.cmplt d n c) s = execCmplt d n c s := rfl
theorem exec_cmple (d : Die) (n : Blk) (c : Ctx) (s : State) : exec (.cmple d n c) s = execCmple d n c s := rfl
theorem exec_exp2 (d : Die) (n : Blk) (c : Ctx) (s : State) : exec (.exp2 d n c) s = execExp2 d n c s := rfl
theorem exec_log2 (d : Die) (n : Blk) (c : Ctx) (s : State) : exec (.log2 d n c) s = execLog2 d n c s := rfl
theorem exec_tanh (d : Die) (n : Blk) (c : Ctx) (s : State) : exec (.tanh d n c) s = execTanh d n c s := rfl
theorem exec_sigmoid (d : Die) (n : Blk) (c : Ctx) (s : State) : exec (.sigmoid d n c) s = execSigmoid d n c s := rfl
theorem exec_erf (d : Die) (n : Blk) (c : Ctx) (s : State) : exec (.erf d n c) s = execErf d n c s := rfl
theorem exec_sinpi (d : Die) (n : Blk) (c : Ctx) (s : State) : exec (.sinpi d n c) s = execSinpi d n c s := rfl
theorem exec_cospi (d : Die) (n : Blk) (c : Ctx) (s : State) : exec (.cospi d n c) s = execCospi d n c s := rfl
theorem exec_rsqrt (d : Die) (n : Blk) (c : Ctx) (s : State) : exec (.rsqrt d n c) s = execRsqrt d n c s := rfl
theorem exec_vload (d : Die) (n : Blk) (c : Ctx) (s : State) : exec (.vload d n c) s = execVload d n c s := rfl
theorem exec_vstore (d : Die) (n : Blk) (c : Ctx) (s : State) : exec (.vstore d n c) s = execVstore d n c s := rfl
theorem exec_vkey (d : Die) (n : Blk) (c : Ctx) (s : State) : exec (.vkey d n c) s = execVkey d n c s := rfl
theorem exec_poolMax (d : Die) (n : Blk) (c : Ctx) (s : State) : exec (.poolMax d n c) s = execPoolMax d n c s := rfl
theorem exec_poolAvgAll (d : Die) (n : Blk) (c : Ctx) (s : State) : exec (.poolAvgAll d n c) s = execPoolAvgAll d n c s := rfl
theorem exec_poolAvgValid (d : Die) (n : Blk) (c : Ctx) (s : State) : exec (.poolAvgValid d n c) s = execPoolAvgValid d n c s := rfl
theorem exec_argmax (d : Die) (n : Blk) (c : Ctx) (s : State) : exec (.argmax d n c) s = execArgmax d n c s := rfl
theorem exec_argmaxCont (d : Die) (n : Blk) (c : Ctx) (s : State) : exec (.argmaxCont d n c) s = execArgmaxCont d n c s := rfl
theorem exec_castAbsmax (d : Die) (n : Blk) (c : Ctx) (s : State) : exec (.castAbsmax d n c) s = execCastAbsmax d n c s := rfl
theorem exec_castDelayed (d : Die) (n : Blk) (c : Ctx) (s : State) : exec (.castDelayed d n c) s = execCastDelayed d n c s := rfl
theorem exec_castDecode (d : Die) (n : Blk) (c : Ctx) (s : State) : exec (.castDecode d n c) s = execCastDecode d n c s := rfl
theorem exec_cvt (d : Die) (n : Blk) (c : Ctx) (s : State) : exec (.cvt d n c) s = execCvt d n c s := rfl
theorem exec_vecDone (d : Die) (n : Blk) (c : Ctx) (s : State) : exec (.vecDone d n c) s = execVecDone d n c s := rfl
theorem exec_lintelRowArrive (d : Die) (n : Blk) (i : Fin 64) (g : BitVec 20) (s : State) : exec (.lintelRowArrive d n i g) s = execLintelRowArrive d n i g s := rfl
theorem exec_lintelReleaseArrive (d : Die) (n : Blk) (c : Ctx) (i : Nat) (count : BitVec 20) (s : State) : exec (.lintelReleaseArrive d n c i count) s = execLintelReleaseArrive d n c i count s := rfl
theorem exec_lintelIssueStart (d : Die) (n : Blk) (c : Ctx) (i : Nat) (s : State) : exec (.lintelIssueStart d n c i) s = execLintelIssueStart d n c i s := rfl
theorem exec_plbEnable (d : Die) (v : W32) (s : State) : exec (.plbEnable d v) s = execPlbEnable d v s := rfl
theorem exec_plbDisable (d : Die) (s : State) : exec (.plbDisable d) s = execPlbDisable d s := rfl
theorem exec_ringDoorbell (d : Die) (r : Ring) (tail : BitVec 17) (s : State) : exec (.ringDoorbell d r tail) s = execRingDoorbell d r tail s := rfl
theorem exec_ringEnable (d : Die) (r : Ring) (v : W32) (s : State) : exec (.ringEnable d r v) s = execRingEnable d r v s := rfl
theorem exec_ringDisable (d : Die) (r : Ring) (s : State) : exec (.ringDisable d r) s = execRingDisable d r s := rfl
theorem exec_move (d : Die) (r : Ring) (s : State) : exec (.move d r) s = execMove d r s := rfl
theorem exec_run (d : Die) (r : Ring) (s : State) : exec (.run d r) s = execRun d r s := rfl
theorem exec_load (d : Die) (r : Ring) (s : State) : exec (.load d r) s = execLoad d r s := rfl
theorem exec_loadDigestDone (d : Die) (r : Ring) (seq : W32) (s : State) : exec (.loadDigestDone d r seq) s = execLoadDigestDone d r seq s := rfl
theorem exec_unload (d : Die) (r : Ring) (s : State) : exec (.unload d r) s = execUnload d r s := rfl
theorem exec_abort (d : Die) (r : Ring) (s : State) : exec (.abort d r) s = execAbort d r s := rfl
theorem exec_powerOn (d : Die) (r : Ring) (s : State) : exec (.powerOn d r) s = execPowerOn d r s := rfl
theorem exec_powerOff (d : Die) (r : Ring) (s : State) : exec (.powerOff d r) s = execPowerOff d r s := rfl
theorem exec_fence (d : Die) (r : Ring) (s : State) : exec (.fence d r) s = execFence d r s := rfl
theorem exec_itemStart (d : Die) (r : Ring) (seq : W32) (s : State) : exec (.itemStart d r seq) s = execItemStart d r seq s := rfl
theorem exec_runStart (d : Die) (r : Ring) (seq : W32) (s : State) : exec (.runStart d r seq) s = execRunStart d r seq s := rfl
theorem exec_runEnd (d : Die) (r : Ring) (seq : W32) (s : State) : exec (.runEnd d r seq) s = execRunEnd d r seq s := rfl
theorem exec_itemComplete (d : Die) (r : Ring) (seq : W32) (s : State) : exec (.itemComplete d r seq) s = execItemComplete d r seq s := rfl
theorem exec_fbBatchIdleClose (d : Die) (s : State) : exec (.fbBatchIdleClose d) s = execFbBatchIdleClose d s := rfl
theorem exec_fbResume (d : Die) (v : W32) (s : State) : exec (.fbResume d v) s = execFbResume d v s := rfl
theorem exec_invRange (u : Unit6) (asid : BitVec 16) (s : State) : exec (.invRange u asid) s = execInvRange u asid s := rfl
theorem exec_invAsid (u : Unit6) (asid : BitVec 16) (s : State) : exec (.invAsid u asid) s = execInvAsid u asid s := rfl
theorem exec_invAll (u : Unit6) (s : State) : exec (.invAll u) s = execInvAll u s := rfl
theorem exec_invAck (u : Unit6) (s : State) : exec (.invAck u) s = execInvAck u s := rfl
theorem exec_xltEnable (u : Unit6) (v : W32) (s : State) : exec (.xltEnable u v) s = execXltEnable u v s := rfl
theorem exec_xltDisable (u : Unit6) (s : State) : exec (.xltDisable u) s = execXltDisable u s := rfl
theorem exec_pcieRequest (k : Key) (pasid : Option (BitVec 20)) (va : BitVec 64) (kind : Fin 13) (len : Nat) (data : List Byte) (s : State) : exec (.pcieRequest k pasid va kind len data) s = execPcieRequest k pasid va kind len data s := rfl
theorem exec_ledgerPeriodEnd (d : Die) (draw : List Nat) (temps : List (BitVec 11)) (ftg : List (BitVec 11)) (v : BitVec 16) (s : State) : exec (.ledgerPeriodEnd d draw temps ftg v) s = execLedgerPeriodEnd d draw temps ftg v s := rfl
theorem exec_calendarSlotEnd (d : Die) (s : State) : exec (.calendarSlotEnd d) s = execCalendarSlotEnd d s := rfl
theorem exec_recalWindowEnd (d : Die) (s : State) : exec (.recalWindowEnd d) s = execRecalWindowEnd d s := rfl
theorem exec_reserveExhausted (d : Die) (b : Fin 21) (s : State) : exec (.reserveExhausted d b) s = execReserveExhausted d b s := rfl
theorem exec_sensorReport (d : Die) (src : Die) (reads : List (Fin 24 × BitVec 11)) (s : State) : exec (.sensorReport d src reads) s = execSensorReport d src reads s := rfl
theorem exec_ldgEnable (d : Die) (s : State) : exec (.ldgEnable d) s = execLdgEnable d s := rfl
theorem exec_ldgDisable (d : Die) (s : State) : exec (.ldgDisable d) s = execLdgDisable d s := rfl
theorem exec_ldgModuleWrite (v : W32) (s : State) : exec (.ldgModuleWrite v) s = execLdgModuleWrite v s := rfl
theorem exec_ldgBudgetWrite (d : Die) (i : Fin 21) (v : W32) (s : State) : exec (.ldgBudgetWrite d i v) s = execLdgBudgetWrite d i v s := rfl
theorem exec_rowRepairStart (h : Stack) (pc : Fin 64) (bank : Fin 64) (row : Nat) (s : State) : exec (.rowRepairStart h pc bank row) s = execRowRepairStart h pc bank row s := rfl
theorem exec_rowRepairDone (h : Stack) (s : State) : exec (.rowRepairDone h) s = execRowRepairDone h s := rfl
theorem exec_retireRequest (h : Stack) (pc : Fin 64) (s : State) : exec (.retireRequest h pc) s = execRetireRequest h pc s := rfl
theorem exec_retireCopyStart (h : Stack) (s : State) : exec (.retireCopyStart h) s = execRetireCopyStart h s := rfl
theorem exec_retireDone (h : Stack) (s : State) : exec (.retireDone h) s = execRetireDone h s := rfl
theorem exec_patrolScrubTick (h : Stack) (ecc : Fin 17) (s : State) : exec (.patrolScrubTick h ecc) s = execPatrolScrubTick h ecc s := rfl
theorem exec_sktEvacuate (n : Socket) (s : State) : exec (.sktEvacuate n) s = execSktEvacuate n s := rfl
theorem exec_sktOffline (n : Socket) (s : State) : exec (.sktOffline n) s = execSktOffline n s := rfl
theorem exec_sktOnline (n : Socket) (s : State) : exec (.sktOnline n) s = execSktOnline n s := rfl
theorem exec_sktStopDone (n : Socket) (s : State) : exec (.sktStopDone n) s = execSktStopDone n s := rfl
theorem exec_sktTrainDone (n : Socket) (ok : Bool) (cap : BitVec 10) (s : State) : exec (.sktTrainDone n ok cap) s = execSktTrainDone n ok cap s := rfl
theorem exec_sktClearDone (n : Socket) (s : State) : exec (.sktClearDone n) s = execSktClearDone n s := rfl
theorem exec_ftgEnable (h : Stack) (s : State) : exec (.ftgEnable h) s = execFtgEnable h s := rfl
theorem exec_ftgDisable (h : Stack) (s : State) : exec (.ftgDisable h) s = execFtgDisable h s := rfl
theorem exec_updateMomentum (d : Die) (r : Ring) (s : State) : exec (.updateMomentum d r) s = execUpdateMomentum d r s := rfl
theorem exec_updateAdaptive (d : Die) (r : Ring) (s : State) : exec (.updateAdaptive d r) s = execUpdateAdaptive d r s := rfl
theorem exec_updateSigned (d : Die) (r : Ring) (s : State) : exec (.updateSigned d r) s = execUpdateSigned d r s := rfl
theorem exec_reduce (d : Die) (r : Ring) (s : State) : exec (.reduce d r) s = execReduce d r s := rfl
theorem exec_compressTopk (d : Die) (r : Ring) (s : State) : exec (.compressTopk d r) s = execCompressTopk d r s := rfl
theorem exec_topkMerge (d : Die) (r : Ring) (s : State) : exec (.topkMerge d r) s = execTopkMerge d r s := rfl
theorem exec_compressSign (d : Die) (r : Ring) (s : State) : exec (.compressSign d r) s = execCompressSign d r s := rfl
theorem exec_hash (d : Die) (r : Ring) (s : State) : exec (.hash d r) s = execHash d r s := rfl
theorem exec_scrub (d : Die) (r : Ring) (s : State) : exec (.scrub d r) s = execScrub d r s := rfl
theorem exec_zero (d : Die) (r : Ring) (s : State) : exec (.zero d r) s = execZero d r s := rfl
theorem exec_ftgCommandStart (h : Stack) (e : Fin 5) (s : State) : exec (.ftgCommandStart h e) s = execFtgCommandStart h e s := rfl
theorem exec_ftgCommandDone (h : Stack) (e : Fin 5) (ecc : List (Nat × Bool)) (s : State) : exec (.ftgCommandDone h e ecc) s = execFtgCommandDone h e ecc s := rfl
theorem exec_fetchShared (home : Fin 18) (line : Nat) (a : Fin 64) (tn : BitVec 12) (ecc : Fin 9) (s : State) : exec (.fetchShared home line a tn ecc) s = execFetchShared home line a tn ecc s := rfl
theorem exec_fetchOwned (home : Fin 18) (line : Nat) (a : Fin 64) (tn : BitVec 12) (ecc : Fin 9) (s : State) : exec (.fetchOwned home line a tn ecc) s = execFetchOwned home line a tn ecc s := rfl
theorem exec_ownHeld (home : Fin 18) (line : Nat) (a : Fin 64) (tn : BitVec 12) (ecc : Fin 9) (s : State) : exec (.ownHeld home line a tn ecc) s = execOwnHeld home line a tn ecc s := rfl
theorem exec_fetchCopy (home : Fin 18) (line : Nat) (a : Fin 64) (tn : BitVec 12) (ecc : Fin 9) (s : State) : exec (.fetchCopy home line a tn ecc) s = execFetchCopy home line a tn ecc s := rfl
theorem exec_fetchClean (home : Fin 18) (line : Nat) (a : Fin 64) (tn : BitVec 12) (ecc : Fin 9) (s : State) : exec (.fetchClean home line a tn ecc) s = execFetchClean home line a tn ecc s := rfl
theorem exec_putLine (home : Fin 18) (line : Nat) (a : Fin 64) (tn : BitVec 12) (data : List Byte) (s : State) : exec (.putLine home line a tn data) s = execPutLine home line a tn data s := rfl
theorem exec_putBytes (home : Fin 18) (line : Nat) (a : Fin 64) (tn : BitVec 12) (en : BitVec 128) (data : List Byte) (ecc : Fin 9) (s : State) : exec (.putBytes home line a tn en data ecc) s = execPutBytes home line a tn en data ecc s := rfl
theorem exec_atomHome (home : Fin 18) (addr : Nat) (a : Fin 64) (tn : BitVec 12) (op : Fin 10) (size : Fin 2) (x : W64) (y : W64) (ecc : Fin 9) (s : State) : exec (.atomHome home addr a tn op size x y ecc) s = execAtomHome home addr a tn op size x y ecc s := rfl
theorem exec_probeShare (a : Fin 40) (line : Nat) (req : Fin 64) (s : State) : exec (.probeShare a line req) s = execProbeShare a line req s := rfl
theorem exec_probeYield (a : Fin 40) (line : Nat) (req : Fin 64) (s : State) : exec (.probeYield a line req) s = execProbeYield a line req s := rfl
theorem exec_probeDrop (a : Fin 40) (line : Nat) (req : Fin 64) (s : State) : exec (.probeDrop a line req) s = execProbeDrop a line req s := rfl
theorem exec_probeCopy (a : Fin 40) (line : Nat) (req : Fin 64) (s : State) : exec (.probeCopy a line req) s = execProbeCopy a line req s := rfl
theorem exec_probeFlush (a : Fin 40) (line : Nat) (req : Fin 64) (s : State) : exec (.probeFlush a line req) s = execProbeFlush a line req s := rfl
theorem exec_snoopResponse (home : Fin 18) (line : Nat) (a : Fin 40) (s : State) : exec (.snoopResponse home line a) s = execSnoopResponse home line a s := rfl
theorem exec_writeBack (home : Fin 18) (line : Nat) (a : Fin 40) (s : State) : exec (.writeBack home line a) s = execWriteBack home line a s := rfl
theorem exec_homeQueueServe (home : Fin 18) (line : Nat) (s : State) : exec (.homeQueueServe home line) s = execHomeQueueServe home line s := rfl
theorem exec_deadNotice (home : Fin 18) (a : Fin 40) (s : State) : exec (.deadNotice home a) s = execDeadNotice home a s := rfl
theorem exec_reclaimDone (home : Fin 18) (s : State) : exec (.reclaimDone home) s = execReclaimDone home s := rfl
theorem exec_readaheadPurge (e : Fin 10) (line : Nat) (len : Nat) (s : State) : exec (.readaheadPurge e line len) s = execReadaheadPurge e line len s := rfl
theorem exec_atomAdd (a : Fin 40) (addr : Nat) (size : Fin 2) (x : W64) (s : State) : exec (.atomAdd a addr size x) s = execAtomAdd a addr size x s := rfl
theorem exec_atomSmin (a : Fin 40) (addr : Nat) (size : Fin 2) (x : W64) (s : State) : exec (.atomSmin a addr size x) s = execAtomSmin a addr size x s := rfl
theorem exec_atomSmax (a : Fin 40) (addr : Nat) (size : Fin 2) (x : W64) (s : State) : exec (.atomSmax a addr size x) s = execAtomSmax a addr size x s := rfl
theorem exec_atomUmin (a : Fin 40) (addr : Nat) (size : Fin 2) (x : W64) (s : State) : exec (.atomUmin a addr size x) s = execAtomUmin a addr size x s := rfl
theorem exec_atomUmax (a : Fin 40) (addr : Nat) (size : Fin 2) (x : W64) (s : State) : exec (.atomUmax a addr size x) s = execAtomUmax a addr size x s := rfl
theorem exec_atomSwap (a : Fin 40) (addr : Nat) (size : Fin 2) (x : W64) (s : State) : exec (.atomSwap a addr size x) s = execAtomSwap a addr size x s := rfl
theorem exec_atomCas (a : Fin 40) (addr : Nat) (size : Fin 2) (cmp : W64) (x : W64) (s : State) : exec (.atomCas a addr size cmp x) s = execAtomCas a addr size cmp x s := rfl
theorem exec_atomAnd (a : Fin 40) (addr : Nat) (size : Fin 2) (x : W64) (s : State) : exec (.atomAnd a addr size x) s = execAtomAnd a addr size x s := rfl
theorem exec_atomOr (a : Fin 40) (addr : Nat) (size : Fin 2) (x : W64) (s : State) : exec (.atomOr a addr size x) s = execAtomOr a addr size x s := rfl
theorem exec_atomXor (a : Fin 40) (addr : Nat) (size : Fin 2) (x : W64) (s : State) : exec (.atomXor a addr size x) s = execAtomXor a addr size x s := rfl
theorem exec_atomModeWrite (u : Unit6) (v : W32) (s : State) : exec (.atomModeWrite u v) s = execAtomModeWrite u v s := rfl
theorem exec_scopeG (a : Fin 40) (addr : Nat) (len : Nat) (s : State) : exec (.scopeG a addr len) s = execScopeG a addr len s := rfl
theorem exec_bndEnable (u : Unit6) (j : Joint) (s : State) : exec (.bndEnable u j) s = execBndEnable u j s := rfl
theorem exec_bndDisable (u : Unit6) (j : Joint) (s : State) : exec (.bndDisable u j) s = execBndDisable u j s := rfl
theorem exec_bndRetrain (u : Unit6) (j : Joint) (s : State) : exec (.bndRetrain u j) s = execBndRetrain u j s := rfl
theorem exec_ts0Lock (u : Unit6) (j : Joint) (s : State) : exec (.ts0Lock u j) s = execTs0Lock u j s := rfl
theorem exec_laneTestDone (u : Unit6) (j : Joint) (good : BitVec 26) (pol : BitVec 26) (s : State) : exec (.laneTestDone u j good pol) s = execLaneTestDone u j good pol s := rfl
theorem exec_propose (u : Unit6) (j : Joint) (t : List Byte) (s : State) : exec (.propose u j t) s = execPropose u j t s := rfl
theorem exec_confirm (u : Unit6) (j : Joint) (t : List Byte) (s : State) : exec (.confirm u j t) s = execConfirm u j t s := rfl
theorem exec_narrowPropose (u : Unit6) (j : Joint) (t : List Byte) (s : State) : exec (.narrowPropose u j t) s = execNarrowPropose u j t s := rfl
theorem exec_narrowConfirm (u : Unit6) (j : Joint) (t : List Byte) (s : State) : exec (.narrowConfirm u j t) s = execNarrowConfirm u j t s := rfl
theorem exec_epochTimeout (u : Unit6) (j : Joint) (s : State) : exec (.epochTimeout u j) s = execEpochTimeout u j s := rfl
theorem exec_narrowTimeout (u : Unit6) (j : Joint) (s : State) : exec (.narrowTimeout u j) s = execNarrowTimeout u j s := rfl
theorem exec_flitReceive (u : Unit6) (j : Joint) (f : List Byte) (low : Option (Fin 24)) (s : State) : exec (.flitReceive u j f low) s = execFlitReceive u j f low s := rfl
theorem exec_partnerSilent (u : Unit6) (j : Joint) (s : State) : exec (.partnerSilent u j) s = execPartnerSilent u j s := rfl
theorem exec_retrainTimeout (u : Unit6) (j : Joint) (s : State) : exec (.retrainTimeout u j) s = execRetrainTimeout u j s := rfl
theorem exec_absentNotice (u : Unit6) (dead : Unit6) (s : State) : exec (.absentNotice u dead) s = execAbsentNotice u dead s := rfl
theorem exec_rejoin (d : Unit6) (s : State) : exec (.rejoin d) s = execRejoin d s := rfl
theorem exec_admitDie (d : Unit6) (s : State) : exec (.admitDie d) s = execAdmitDie d s := rfl
theorem exec_netPortEnable (d : Die) (n : Fin 2) (v : W32) (s : State) : exec (.netPortEnable d n v) s = execNetPortEnable d n v s := rfl
theorem exec_netPortDisable (d : Die) (n : Fin 2) (s : State) : exec (.netPortDisable d n) s = execNetPortDisable d n s := rfl
theorem exec_linkUp (d : Die) (n : Fin 2) (half : Fin 2) (s : State) : exec (.linkUp d n half) s = execLinkUp d n half s := rfl
theorem exec_linkLost (d : Die) (n : Fin 2) (half : Fin 2) (s : State) : exec (.linkLost d n half) s = execLinkLost d n half s := rfl
theorem exec_netWrite (d : Die) (r : Ring) (s : State) : exec (.netWrite d r) s = execNetWrite d r s := rfl
theorem exec_netRead (d : Die) (r : Ring) (s : State) : exec (.netRead d r) s = execNetRead d r s := rfl
theorem exec_netSend (d : Die) (r : Ring) (s : State) : exec (.netSend d r) s = execNetSend d r s := rfl
theorem exec_netRecv (d : Die) (r : Ring) (s : State) : exec (.netRecv d r) s = execNetRecv d r s := rfl
theorem exec_netReg (d : Die) (r : Ring) (s : State) : exec (.netReg d r) s = execNetReg d r s := rfl
theorem exec_netDereg (d : Die) (r : Ring) (s : State) : exec (.netDereg d r) s = execNetDereg d r s := rfl
theorem exec_rawTx (d : Die) (r : Ring) (s : State) : exec (.rawTx d r) s = execRawTx d r s := rfl
theorem exec_flowSetOpen (d : Die) (r : Ring) (s : State) : exec (.flowSetOpen d r) s = execFlowSetOpen d r s := rfl
theorem exec_flowSetReset (d : Die) (r : Ring) (s : State) : exec (.flowSetReset d r) s = execFlowSetReset d r s := rfl
theorem exec_flowSetClose (d : Die) (r : Ring) (s : State) : exec (.flowSetClose d r) s = execFlowSetClose d r s := rfl
theorem exec_nvme (d : Die) (r : Ring) (s : State) : exec (.nvme d r) s = execNvme d r s := rfl
theorem exec_nvmeResponse (d : Die) (ctx : Fin 262144) (data : List Byte) (s : State) : exec (.nvmeResponse d ctx data) s = execNvmeResponse d ctx data s := rfl
theorem exec_roceSend (d : Die) (ctx : Fin 262144) (psn : BitVec 24) (ce : Bool) (seg : Fin 4) (held : Bool) (data : List Byte) (s : State) : exec (.roceSend d ctx psn ce seg held data) s = execRoceSend d ctx psn ce seg held data s := rfl
theorem exec_roceWrite (d : Die) (ctx : Fin 262144) (psn : BitVec 24) (ce : Bool) (seg : Fin 4) (held : Bool) (va : BitVec 64) (key : BitVec 32) (len : BitVec 32) (data : List Byte) (s : State) : exec (.roceWrite d ctx psn ce seg held va key len data) s = execRoceWrite d ctx psn ce seg held va key len data s := rfl
theorem exec_roceReadRequest (d : Die) (ctx : Fin 262144) (psn : BitVec 24) (ce : Bool) (held : Bool) (va : BitVec 64) (key : BitVec 32) (len : BitVec 32) (s : State) : exec (.roceReadRequest d ctx psn ce held va key len) s = execRoceReadRequest d ctx psn ce held va key len s := rfl
theorem exec_roceReadResponse (d : Die) (ctx : Fin 262144) (psn : BitVec 24) (ce : Bool) (seg : Fin 4) (held : Bool) (data : List Byte) (s : State) : exec (.roceReadResponse d ctx psn ce seg held data) s = execRoceReadResponse d ctx psn ce seg held data s := rfl
theorem exec_roceAck (d : Die) (ctx : Fin 262144) (psn : BitVec 24) (s : State) : exec (.roceAck d ctx psn) s = execRoceAck d ctx psn s := rfl
theorem exec_roceNak (d : Die) (ctx : Fin 262144) (psn : BitVec 24) (code : Fin 4) (s : State) : exec (.roceNak d ctx psn code) s = execRoceNak d ctx psn code s := rfl
theorem exec_cnp (d : Die) (ctx : Fin 262144) (s : State) : exec (.cnp d ctx) s = execCnp d ctx s := rfl
theorem exec_pollekData (d : Die) (ctx : Fin 262144) (ce : Bool) (held : Bool) (pkt : List Byte) (s : State) : exec (.pollekData d ctx ce held pkt) s = execPollekData d ctx ce held pkt s := rfl
theorem exec_pollekAck (d : Die) (ctx : Fin 262144) (psn : BitVec 32) (ece : Bool) (s : State) : exec (.pollekAck d ctx psn ece) s = execPollekAck d ctx psn ece s := rfl
theorem exec_pollekNak (d : Die) (ctx : Fin 262144) (psn : BitVec 32) (s : State) : exec (.pollekNak d ctx psn) s = execPollekNak d ctx psn s := rfl
theorem exec_exceptionFrame (d : Die) (n : Fin 2) (data : List Byte) (s : State) : exec (.exceptionFrame d n data) s = execExceptionFrame d n data s := rfl
theorem exec_rxReserveAdmit (d : Die) (n : Fin 2) (s : State) : exec (.rxReserveAdmit d n) s = execRxReserveAdmit d n s := rfl
theorem exec_rtoExpire (d : Die) (ctx : Fin 262144) (s : State) : exec (.rtoExpire d ctx) s = execRtoExpire d ctx s := rfl
theorem exec_ackTimer (d : Die) (ctx : Fin 262144) (s : State) : exec (.ackTimer d ctx) s = execAckTimer d ctx s := rfl
theorem exec_netBoundExpire (d : Die) (r : Ring) (seq : W32) (s : State) : exec (.netBoundExpire d r seq) s = execNetBoundExpire d r seq s := rfl
theorem exec_chainSum (d : Die) (r : Ring) (s : State) : exec (.chainSum d r) s = execChainSum d r s := rfl
theorem exec_chainTopk (d : Die) (r : Ring) (s : State) : exec (.chainTopk d r) s = execChainTopk d r s := rfl
theorem exec_chainSign (d : Die) (r : Ring) (s : State) : exec (.chainSign d r) s = execChainSign d r s := rfl
theorem exec_permute (d : Die) (r : Ring) (s : State) : exec (.permute d r) s = execPermute d r s := rfl
theorem exec_groupSet (d : Die) (r : Ring) (s : State) : exec (.groupSet d r) s = execGroupSet d r s := rfl
theorem exec_groupClose (d : Die) (r : Ring) (s : State) : exec (.groupClose d r) s = execGroupClose d r s := rfl
theorem exec_helloTimer (d : Die) (g : W32) (s : State) : exec (.helloTimer d g) s = execHelloTimer d g s := rfl
theorem exec_hello (d : Die) (ctx : Option (Fin 262144)) (ce : Bool) (pkt : List Byte) (s : State) : exec (.hello d ctx ce pkt) s = execHello d ctx ce pkt s := rfl
theorem exec_redSum (d : Die) (ctx : Option (Fin 262144)) (ce : Bool) (pkt : List Byte) (s : State) : exec (.redSum d ctx ce pkt) s = execRedSum d ctx ce pkt s := rfl
theorem exec_redTopk (d : Die) (ctx : Option (Fin 262144)) (ce : Bool) (pkt : List Byte) (s : State) : exec (.redTopk d ctx ce pkt) s = execRedTopk d ctx ce pkt s := rfl
theorem exec_redSign (d : Die) (ctx : Option (Fin 262144)) (ce : Bool) (pkt : List Byte) (s : State) : exec (.redSign d ctx ce pkt) s = execRedSign d ctx ce pkt s := rfl
theorem exec_gather (d : Die) (ctx : Option (Fin 262144)) (ce : Bool) (pkt : List Byte) (s : State) : exec (.gather d ctx ce pkt) s = execGather d ctx ce pkt s := rfl
theorem exec_perm (d : Die) (ctx : Option (Fin 262144)) (ce : Bool) (pkt : List Byte) (s : State) : exec (.perm d ctx ce pkt) s = execPerm d ctx ce pkt s := rfl
theorem exec_chainBoundExpire (d : Die) (r : Ring) (seq : W32) (s : State) : exec (.chainBoundExpire d r seq) s = execChainBoundExpire d r seq s := rfl
theorem exec_plnStageWrite (d : Die) (i : Fin 16) (v : W32) (s : State) : exec (.plnStageWrite d i v) s = execPlnStageWrite d i v s := rfl
theorem exec_idleClear (d : Die) (row : Fin 17) (s : State) : exec (.idleClear d row) s = execIdleClear d row s := rfl
theorem exec_wdogCtrlWrite (k : Key) (v : W32) (s : State) : exec (.wdogCtrlWrite k v) s = execWdogCtrlWrite k v s := rfl
theorem exec_wdogKick (k : Key) (s : State) : exec (.wdogKick k) s = execWdogKick k s := rfl
theorem exec_wdogExpire (k : Key) (s : State) : exec (.wdogExpire k) s = execWdogExpire k s := rfl
theorem exec_l2WritebackTimeout (k : Key) (cl : Fin 12) (s : State) : exec (.l2WritebackTimeout k cl) s = execL2WritebackTimeout k cl s := rfl
theorem exec_keystoneReturned (k : Key) (s : State) : exec (.keystoneReturned k) s = execKeystoneReturned k s := rfl
theorem exec_attachEnable (d : Die) (s : State) : exec (.attachEnable d) s = execAttachEnable d s := rfl
theorem exec_attachClaim (d : Die) (v : W32) (s : State) : exec (.attachClaim d v) s = execAttachClaim d v s := rfl
theorem exec_attachFinish (d : Die) (v : W32) (s : State) : exec (.attachFinish d v) s = execAttachFinish d v s := rfl
theorem exec_attachRecordRewrite (d : Die) (s : State) : exec (.attachRecordRewrite d) s = execAttachRecordRewrite d s := rfl
theorem exec_holdReplay (d : Die) (s : State) : exec (.holdReplay d) s = execHoldReplay d s := rfl
theorem exec_holdDiscard (d : Die) (s : State) : exec (.holdDiscard d) s = execHoldDiscard d s := rfl
theorem exec_holdDrainDone (d : Die) (s : State) : exec (.holdDrainDone d) s = execHoldDrainDone d s := rfl
theorem exec_holdStallResume (d : Die) (s : State) : exec (.holdStallResume d) s = execHoldStallResume d s := rfl
theorem exec_fltEnable (d : Die) (v : W32) (s : State) : exec (.fltEnable d v) s = execFltEnable d v s := rfl
theorem exec_fltDisable (d : Die) (s : State) : exec (.fltDisable d) s = execFltDisable d s := rfl
theorem exec_fltRingEnable (d : Die) (r : Fin 16) (v : W32) (s : State) : exec (.fltRingEnable d r v) s = execFltRingEnable d r v s := rfl
theorem exec_fltHeadWrite (d : Die) (r : Fin 16) (v : BitVec 13) (s : State) : exec (.fltHeadWrite d r v) s = execFltHeadWrite d r v s := rfl
theorem exec_overflowDrain (d : Die) (r : Fin 16) (s : State) : exec (.overflowDrain d r) s = execOverflowDrain d r s := rfl
theorem exec_fltFlagsClear (d : Die) (v : W32) (same : BitVec 4) (s : State) : exec (.fltFlagsClear d v same) s = execFltFlagsClear d v same s := rfl
theorem exec_pkgSlotRequest (u : Unit6) (num : Nat) (s : State) : exec (.pkgSlotRequest u num) s = execPkgSlotRequest u num s := rfl
theorem exec_recoverySlotGrant (u : Unit6) (num : Nat) (s : State) : exec (.recoverySlotGrant u num) s = execRecoverySlotGrant u num s := rfl
theorem exec_recoveryActionDone (u : Unit6) (num : Nat) (ok : Bool) (s : State) : exec (.recoveryActionDone u num ok) s = execRecoveryActionDone u num ok s := rfl
theorem exec_recoveryTimeout (u : Unit6) (num : Nat) (s : State) : exec (.recoveryTimeout u num) s = execRecoveryTimeout u num s := rfl
theorem exec_ckpEnable (d : Die) (v : W32) (s : State) : exec (.ckpEnable d v) s = execCkpEnable d v s := rfl
theorem exec_ckpDisable (d : Die) (s : State) : exec (.ckpDisable d) s = execCkpDisable d s := rfl
theorem exec_point (d : Die) (r : Ring) (s : State) : exec (.point d r) s = execPoint d r s := rfl
theorem exec_bed (d : Die) (r : Ring) (s : State) : exec (.bed d r) s = execBed d r s := rfl
theorem exec_unbed (d : Die) (r : Ring) (s : State) : exec (.unbed d r) s = execUnbed d r s := rfl
theorem exec_verify (d : Die) (r : Ring) (s : State) : exec (.verify d r) s = execVerify d r s := rfl
theorem exec_adopt (d : Die) (r : Ring) (s : State) : exec (.adopt d r) s = execAdopt d r s := rfl
theorem exec_holdupReady (usable : BitVec 16) (s : State) : exec (.holdupReady usable) s = execHoldupReady usable s := rfl
theorem exec_persistentStoreStart (usable : BitVec 16) (s : State) : exec (.persistentStoreStart usable) s = execPersistentStoreStart usable s := rfl
theorem exec_persistentStoreDone (usable : BitVec 16) (s : State) : exec (.persistentStoreDone usable) s = execPersistentStoreDone usable s := rfl
theorem exec_imgUpdate (s : State) : exec .imgUpdate s = execImgUpdate s := rfl
theorem exec_imgCheckDone (s : State) : exec .imgCheckDone s = execImgCheckDone s := rfl
theorem exec_imgRaiseSvn (s : State) : exec .imgRaiseSvn s = execImgRaiseSvn s := rfl
theorem exec_cntInc (s : State) : exec .cntInc s = execCntInc s := rfl
theorem exec_sealExtend (v : W32) (s : State) : exec (.sealExtend v) s = execSealExtend v s := rfl
theorem exec_jrnlEnable (d : Die) (j : Fin 4) (v : W32) (s : State) : exec (.jrnlEnable d j v) s = execJrnlEnable d j v s := rfl
theorem exec_jrnlDisable (d : Die) (j : Fin 4) (s : State) : exec (.jrnlDisable d j) s = execJrnlDisable d j s := rfl
theorem exec_getCert (ver : Byte) (tag : BitVec 16) (data : List Byte) (s : State) : exec (.getCert ver tag data) s = execGetCert ver tag data s := rfl
theorem exec_getMeasurements (ver : Byte) (tag : BitVec 16) (data : List Byte) (s : State) : exec (.getMeasurements ver tag data) s = execGetMeasurements ver tag data s := rfl
theorem exec_getSeal (ver : Byte) (tag : BitVec 16) (data : List Byte) (s : State) : exec (.getSeal ver tag data) s = execGetSeal ver tag data s := rfl
theorem exec_getTreatment (ver : Byte) (tag : BitVec 16) (data : List Byte) (s : State) : exec (.getTreatment ver tag data) s = execGetTreatment ver tag data s := rfl
theorem exec_entdaa (a : BitVec 7) (s : State) : exec (.entdaa a) s = execEntdaa a s := rfl
theorem exec_setEndpointId (eid : Byte) (s : State) : exec (.setEndpointId eid) s = execSetEndpointId eid s := rfl
theorem exec_getEndpointId (s : State) : exec .getEndpointId s = execGetEndpointId s := rfl
theorem exec_getMctpVersionSupport (typ : Byte) (s : State) : exec (.getMctpVersionSupport typ) s = execGetMctpVersionSupport typ s := rfl
theorem exec_getMessageTypeSupport (s : State) : exec .getMessageTypeSupport s = execGetMessageTypeSupport s := rfl
theorem exec_getStatus (ver : Byte) (tag : BitVec 16) (data : List Byte) (s : State) : exec (.getStatus ver tag data) s = execGetStatus ver tag data s := rfl
theorem exec_mgmtReset (ver : Byte) (tag : BitVec 16) (data : List Byte) (s : State) : exec (.mgmtReset ver tag data) s = execMgmtReset ver tag data s := rfl
theorem exec_setBudget (ver : Byte) (tag : BitVec 16) (data : List Byte) (s : State) : exec (.setBudget ver tag data) s = execSetBudget ver tag data s := rfl
theorem exec_getFatal (ver : Byte) (tag : BitVec 16) (data : List Byte) (s : State) : exec (.getFatal ver tag data) s = execGetFatal ver tag data s := rfl
theorem exec_locate (ver : Byte) (tag : BitVec 16) (data : List Byte) (s : State) : exec (.locate ver tag data) s = execLocate ver tag data s := rfl
theorem exec_registerWrite (pcie : Bool) (a : BitVec 52) (size : Nat) (v : W64) (s : State) : exec (.registerWrite pcie a size v) s = execRegisterWrite pcie a size v s := rfl
theorem exec_pllLock (u : Unit6) (s : State) : exec (.pllLock u) s = execPllLock u s := rfl
theorem exec_uncorrectableStateError (t : Fin 5) (i : Fin 12) (j : Fin 16) (s : State) : exec (.uncorrectableStateError t i j) s = execUncorrectableStateError t i j s := rfl
theorem exec_hbmLaneFault (h : Stack) (pc : Fin 64) (s : State) : exec (.hbmLaneFault h pc) s = execHbmLaneFault h pc s := rfl
theorem exec_widthTicketSend (u : Unit6) (j : Joint) (s : State) : exec (.widthTicketSend u j) s = execWidthTicketSend u j s := rfl
theorem exec_imgReadbackDone (s : State) : exec .imgReadbackDone s = execImgReadbackDone s := rfl
theorem exec_groupSetBoundExpire (d : Die) (r : Ring) (seq : W32) (s : State) : exec (.groupSetBoundExpire d r seq) s = execGroupSetBoundExpire d r seq s := rfl
theorem exec_stalledItemBoundExpire (d : Die) (r : Ring) (seq : W32) (s : State) : exec (.stalledItemBoundExpire d r seq) s = execStalledItemBoundExpire d r seq s := rfl
theorem exec_loReadLatch (a : BitVec 52) (s : State) : exec (.loReadLatch a) s = execLoReadLatch a s := rfl

end Sys2Proof.Machine
end

