-- ==== Sys2Proof/Laws/Tab.lean ====
section
/-! SUPPORT. Laws of the sparse tables: a read after a write, and the canonical form that every operation keeps. -/

namespace Sys2Proof.Machine

variable {α : Type}

theorem tget_tdel_same (d : Nat → α) (t : Tab α) (k : Nat) : tget d (tdel k t) k = d k := by
  induction t with
  | nil => rfl
  | cons e t ih =>
    simp only [tdel]
    split
    · exact ih
    · next h => simp [tget, h, ih]

theorem tget_tdel_ne (d : Nat → α) (t : Tab α) {k j : Nat} (h : j ≠ k) : tget d (tdel k t) j = tget d t j := by
  induction t with
  | nil => rfl
  | cons e t ih =>
    simp only [tdel]
    split
    · next hk =>
      have : e.1 ≠ j := fun c => h (c.symm.trans hk)
      simp [tget, this, ih]
    · simp only [tget, ih]

theorem tget_tins_same (d : Nat → α) (t : Tab α) (k : Nat) (v : α) (h : ∀ e ∈ t, e.1 ≠ k) : tget d (tins k v t) k = v := by
  induction t with
  | nil => simp [tins, tget]
  | cons e t ih =>
    simp only [tins]
    split
    · simp [tget]
    · have h1 : e.1 ≠ k := h e (by simp)
      simp [tget, h1, ih (fun x hx => h x (by simp [hx]))]

theorem tget_tins_ne (d : Nat → α) (t : Tab α) {k j : Nat} (v : α) (h : j ≠ k) : tget d (tins k v t) j = tget d t j := by
  induction t with
  | nil => simp [tins, tget, Ne.symm h]
  | cons e t ih =>
    simp only [tins]
    split
    · simp [tget, Ne.symm h]
    · simp only [tget, ih]

theorem tdel_ne (t : Tab α) (k : Nat) : ∀ e ∈ tdel k t, e.1 ≠ k := by
  induction t with
  | nil => simp [tdel]
  | cons e t ih =>
    simp only [tdel]
    split
    · exact ih
    · next h =>
      intro x hx
      rcases List.mem_cons.mp hx with hx | hx
      · subst hx; exact h
      · exact ih x hx

/-- A read of the key just written. -/
@[simp] theorem tget_tset_same [DecidableEq α] (d : Nat → α) (t : Tab α) (k : Nat) (v : α) : tget d (tset d t k v) k = v := by
  simp only [tset]
  split
  · next h => rw [tget_tdel_same, h]
  · exact tget_tins_same d _ k v (tdel_ne t k)

/-- A write leaves every other key. -/
theorem tget_tset_ne [DecidableEq α] (d : Nat → α) (t : Tab α) {k j : Nat} (v : α) (h : j ≠ k) :
    tget d (tset d t k v) j = tget d t j := by
  simp only [tset]
  split
  · exact tget_tdel_ne d t h
  · rw [tget_tins_ne d _ v h, tget_tdel_ne d t h]

theorem rising_mono {t : Tab α} {a b : Nat} (hab : a ≤ b) (h : rising b t = true) : rising a t = true := by
  cases t with
  | nil => rfl
  | cons e t =>
    simp only [rising, Bool.and_eq_true, decide_eq_true_eq] at h ⊢
    exact ⟨le_trans hab h.1, h.2⟩

theorem rising_tdel {t : Tab α} {a : Nat} (k : Nat) (h : rising a t = true) : rising a (tdel k t) = true := by
  induction t generalizing a with
  | nil => rfl
  | cons e t ih =>
    simp only [rising, Bool.and_eq_true, decide_eq_true_eq] at h
    simp only [tdel]
    split
    · exact rising_mono (by omega) (ih h.2)
    · simp only [rising, Bool.and_eq_true, decide_eq_true_eq]
      exact ⟨h.1, ih h.2⟩

theorem rising_tins {t : Tab α} {a k : Nat} (v : α) (hk : a ≤ k) (hne : ∀ e ∈ t, e.1 ≠ k) (h : rising a t = true) :
    rising a (tins k v t) = true := by
  induction t generalizing a with
  | nil => simp [tins, rising, hk]
  | cons e t ih =>
    simp only [rising, Bool.and_eq_true, decide_eq_true_eq] at h
    have h1 : e.1 ≠ k := hne e (by simp)
    simp only [tins]
    split
    · next hlt =>
      simp only [rising, Bool.and_eq_true, decide_eq_true_eq]
      exact ⟨hk, by omega, h.2⟩
    · next hlt =>
      simp only [rising, Bool.and_eq_true, decide_eq_true_eq]
      exact ⟨h.1, ih (by omega) (fun x hx => hne x (by simp [hx])) h.2⟩

theorem rising_filter {t : Tab α} {a : Nat} (p : Nat × α → Bool) (h : rising a t = true) : rising a (t.filter p) = true := by
  induction t generalizing a with
  | nil => rfl
  | cons e t ih =>
    simp only [rising, Bool.and_eq_true, decide_eq_true_eq] at h
    simp only [List.filter_cons]
    split
    · simp only [rising, Bool.and_eq_true, decide_eq_true_eq]
      exact ⟨h.1, ih h.2⟩
    · exact rising_mono (by omega) (ih h.2)

theorem mem_tins {t : Tab α} {k : Nat} {v : α} {e : Nat × α} (h : e ∈ tins k v t) : e = (k, v) ∨ e ∈ t := by
  induction t with
  | nil => simpa [tins] using h
  | cons x t ih =>
    simp only [tins] at h
    split at h
    · simpa using h
    · rcases List.mem_cons.mp h with h | h
      · exact .inr (by simp [h])
      · rcases ih h with h | h
        · exact .inl h
        · exact .inr (by simp [h])

theorem mem_tdel {t : Tab α} {k : Nat} {e : Nat × α} (h : e ∈ tdel k t) : e ∈ t := by
  induction t with
  | nil => simp [tdel] at h
  | cons x t ih =>
    simp only [tdel] at h
    split at h
    · exact List.mem_cons_of_mem _ (ih h)
    · rcases List.mem_cons.mp h with h | h
      · simp [h]
      · exact List.mem_cons_of_mem _ (ih h)

/-- The canonical form of the empty table. -/
@[simp] theorem twf_nil [DecidableEq α] (d : Nat → α) : twf d [] = true := rfl

/-- A deletion keeps the canonical form. -/
theorem twf_tdel [DecidableEq α] {d : Nat → α} {t : Tab α} (k : Nat) (h : twf d t = true) : twf d (tdel k t) = true := by
  simp only [twf, Bool.and_eq_true, List.all_eq_true] at h ⊢
  exact ⟨rising_tdel k h.1, fun e he => h.2 e (mem_tdel he)⟩

/-- A write keeps the canonical form. -/
theorem twf_tset [DecidableEq α] {d : Nat → α} {t : Tab α} (k : Nat) (v : α) (h : twf d t = true) : twf d (tset d t k v) = true := by
  simp only [tset]
  split
  · exact twf_tdel k h
  · next hv =>
    have hd := twf_tdel (d := d) k h
    simp only [twf, Bool.and_eq_true, List.all_eq_true] at hd ⊢
    refine ⟨rising_tins v (Nat.zero_le k) (tdel_ne t k) hd.1, fun e he => ?_⟩
    rcases mem_tins he with he | he
    · subst he; simpa using hv
    · exact hd.2 e he

/-- A filter keeps the canonical form. -/
theorem twf_filter [DecidableEq α] {d : Nat → α} {t : Tab α} (p : Nat × α → Bool) (h : twf d t = true) :
    twf d (t.filter p) = true := by
  simp only [twf, Bool.and_eq_true, List.all_eq_true] at h ⊢
  exact ⟨rising_filter p h.1, fun e he => h.2 e (List.mem_of_mem_filter he)⟩

/-- A filter by key keeps the canonical form. -/
theorem twf_tfilter [DecidableEq α] {d : Nat → α} {t : Tab α} (p : Nat → Bool) (h : twf d t = true) : twf d (tfilter p t) = true :=
  twf_filter _ h

end Sys2Proof.Machine
end

