-- ==== Sys2Proof/Laws/State.lean ====
section
/-! SUPPORT. Laws of the named operations over State: what each leaves as it is, field by field, and what a register holds after a write. -/

namespace Sys2Proof.Machine

@[simp] theorem wr_wide (s : State) (a : Nat) (v : W32) : (wr s a v).wide = s.wide := rfl
@[simp] theorem wr_latch (s : State) (a : Nat) (v : W32) : (wr s a v).latch = s.latch := rfl
@[simp] theorem wr_mem (s : State) (a : Nat) (v : W32) : (wr s a v).mem = s.mem := rfl
@[simp] theorem wr_poison (s : State) (a : Nat) (v : W32) : (wr s a v).poison = s.poison := rfl
@[simp] theorem wr_sent (s : State) (a : Nat) (v : W32) : (wr s a v).sent = s.sent := rfl
@[simp] theorem wr_fresh (s : State) (a : Nat) (v : W32) : (wr s a v).fresh = s.fresh := rfl
@[simp] theorem wr_pending (s : State) (a : Nat) (v : W32) : (wr s a v).pending = s.pending := rfl
@[simp] theorem wr_absent (s : State) (a : Nat) (v : W32) : (wr s a v).absent = s.absent := rfl
@[simp] theorem wr_pllOff (s : State) (a : Nat) (v : W32) : (wr s a v).pllOff = s.pllOff := rfl
@[simp] theorem wr_seqs (s : State) (a : Nat) (v : W32) : (wr s a v).seqs = s.seqs := rfl
@[simp] theorem wr_fring (s : State) (a : Nat) (v : W32) : (wr s a v).fring = s.fring := rfl
@[simp] theorem wr_policy (s : State) (a : Nat) (v : W32) : (wr s a v).policy = s.policy := rfl
@[simp] theorem wr_recov (s : State) (a : Nat) (v : W32) : (wr s a v).recov = s.recov := rfl
@[simp] theorem wr_recNum (s : State) (a : Nat) (v : W32) : (wr s a v).recNum = s.recNum := rfl
@[simp] theorem wr_pkgQ (s : State) (a : Nat) (v : W32) : (wr s a v).pkgQ = s.pkgQ := rfl
@[simp] theorem wr_items (s : State) (a : Nat) (v : W32) : (wr s a v).items = s.items := rfl
@[simp] theorem wr_ringx (s : State) (a : Nat) (v : W32) : (wr s a v).ringx = s.ringx := rfl
@[simp] theorem wr_served (s : State) (a : Nat) (v : W32) : (wr s a v).served = s.served := rfl
@[simp] theorem wr_xlt (s : State) (a : Nat) (v : W32) : (wr s a v).xlt = s.xlt := rfl
@[simp] theorem wr_cfg (s : State) (a : Nat) (v : W32) : (wr s a v).cfg = s.cfg := rfl
@[simp] theorem wr_flash (s : State) (a : Nat) (v : W32) : (wr s a v).flash = s.flash := rfl
@[simp] theorem wr_update (s : State) (a : Nat) (v : W32) : (wr s a v).update = s.update := rfl
@[simp] theorem wr_journals (s : State) (a : Nat) (v : W32) : (wr s a v).journals = s.journals := rfl
@[simp] theorem wr_signed (s : State) (a : Nat) (v : W32) : (wr s a v).signed = s.signed := rfl
@[simp] theorem wr_modx (s : State) (a : Nat) (v : W32) : (wr s a v).modx = s.modx := rfl
@[simp] theorem wr_ledger (s : State) (a : Nat) (v : W32) : (wr s a v).ledger = s.ledger := rfl
@[simp] theorem wr_hup (s : State) (a : Nat) (v : W32) : (wr s a v).hup = s.hup := rfl
@[simp] theorem wr_resetQ (s : State) (a : Nat) (v : W32) : (wr s a v).resetQ = s.resetQ := rfl
@[simp] theorem wr_copies (s : State) (a : Nat) (v : W32) : (wr s a v).copies = s.copies := rfl
@[simp] theorem wr_hold (s : State) (a : Nat) (v : W32) : (wr s a v).hold = s.hold := rfl
@[simp] theorem wr_hostx (s : State) (a : Nat) (v : W32) : (wr s a v).hostx = s.hostx := rfl
@[simp] theorem wr_l2busy (s : State) (a : Nat) (v : W32) : (wr s a v).l2busy = s.l2busy := rfl
@[simp] theorem wr_dir (s : State) (a : Nat) (v : W32) : (wr s a v).dir = s.dir := rfl
@[simp] theorem wr_health (s : State) (a : Nat) (v : W32) : (wr s a v).health = s.health := rfl
@[simp] theorem wr_ctxx (s : State) (a : Nat) (v : W32) : (wr s a v).ctxx = s.ctxx := rfl
@[simp] theorem wr_btest (s : State) (a : Nat) (v : W32) : (wr s a v).btest = s.btest := rfl
@[simp] theorem wr_plans (s : State) (a : Nat) (v : W32) : (wr s a v).plans = s.plans := rfl
@[simp] theorem wr_plumb (s : State) (a : Nat) (v : W32) : (wr s a v).plumb = s.plumb := rfl
@[simp] theorem wr_stackx (s : State) (a : Nat) (v : W32) : (wr s a v).stackx = s.stackx := rfl
@[simp] theorem wr_sktLast (s : State) (a : Nat) (v : W32) : (wr s a v).sktLast = s.sktLast := rfl
@[simp] theorem wr_txns (s : State) (a : Nat) (v : W32) : (wr s a v).txns = s.txns := rfl
@[simp] theorem wr_waitq (s : State) (a : Nat) (v : W32) : (wr s a v).waitq = s.waitq := rfl
@[simp] theorem wr_resps (s : State) (a : Nat) (v : W32) : (wr s a v).resps = s.resps := rfl
@[simp] theorem wr_wbs (s : State) (a : Nat) (v : W32) : (wr s a v).wbs = s.wbs := rfl
@[simp] theorem wr_answers (s : State) (a : Nat) (v : W32) : (wr s a v).answers = s.answers := rfl
@[simp] theorem wr_reclaims (s : State) (a : Nat) (v : W32) : (wr s a v).reclaims = s.reclaims := rfl
@[simp] theorem wr_named (s : State) (a : Nat) (v : W32) : (wr s a v).named = s.named := rfl
@[simp] theorem wr_pred (s : State) (a : Nat) (v : W32) : (wr s a v).pred = s.pred := rfl
@[simp] theorem wr_rahead (s : State) (a : Nat) (v : W32) : (wr s a v).rahead = s.rahead := rfl
@[simp] theorem wr_bondx (s : State) (a : Nat) (v : W32) : (wr s a v).bondx = s.bondx := rfl
@[simp] theorem wr_rejoins (s : State) (a : Nat) (v : W32) : (wr s a v).rejoins = s.rejoins := rfl
@[simp] theorem wr_netRegs (s : State) (a : Nat) (v : W32) : (wr s a v).netRegs = s.netRegs := rfl
@[simp] theorem wr_flows (s : State) (a : Nat) (v : W32) : (wr s a v).flows = s.flows := rfl
@[simp] theorem wr_rxbuf (s : State) (a : Nat) (v : W32) : (wr s a v).rxbuf = s.rxbuf := rfl
@[simp] theorem wr_groups (s : State) (a : Nat) (v : W32) : (wr s a v).groups = s.groups := rfl
@[simp] theorem wr_chains (s : State) (a : Nat) (v : W32) : (wr s a v).chains = s.chains := rfl
@[simp] theorem wr_wdog (s : State) (a : Nat) (v : W32) : (wr s a v).wdog = s.wdog := rfl
@[simp] theorem wr_sitesOut (s : State) (a : Nat) (v : W32) : (wr s a v).sitesOut = s.sitesOut := rfl
@[simp] theorem wr_flips (s : State) (a : Nat) (v : W32) : (wr s a v).flips = s.flips := rfl
@[simp] theorem wr_regq (s : State) (a : Nat) (v : W32) : (wr s a v).regq = s.regq := rfl
@[simp] theorem wr_privStore (s : State) (a : Nat) (v : W32) : (wr s a v).privStore = s.privStore := rfl
@[simp] theorem wr_bootStore (s : State) (a : Nat) (v : W32) : (wr s a v).bootStore = s.bootStore := rfl
@[simp] theorem wr_harts (s : State) (a : Nat) (v : W32) : (wr s a v).harts = s.harts := rfl
@[simp] theorem wr_txSeen (s : State) (a : Nat) (v : W32) : (wr s a v).txSeen = s.txSeen := rfl

@[simp] theorem wrW_regs (s : State) (a : Nat) (v : W64) : (wrW s a v).regs = s.regs := rfl
@[simp] theorem wrW_latch (s : State) (a : Nat) (v : W64) : (wrW s a v).latch = s.latch := rfl
@[simp] theorem wrW_mem (s : State) (a : Nat) (v : W64) : (wrW s a v).mem = s.mem := rfl
@[simp] theorem wrW_poison (s : State) (a : Nat) (v : W64) : (wrW s a v).poison = s.poison := rfl
@[simp] theorem wrW_sent (s : State) (a : Nat) (v : W64) : (wrW s a v).sent = s.sent := rfl
@[simp] theorem wrW_fresh (s : State) (a : Nat) (v : W64) : (wrW s a v).fresh = s.fresh := rfl
@[simp] theorem wrW_pending (s : State) (a : Nat) (v : W64) : (wrW s a v).pending = s.pending := rfl
@[simp] theorem wrW_absent (s : State) (a : Nat) (v : W64) : (wrW s a v).absent = s.absent := rfl
@[simp] theorem wrW_pllOff (s : State) (a : Nat) (v : W64) : (wrW s a v).pllOff = s.pllOff := rfl
@[simp] theorem wrW_seqs (s : State) (a : Nat) (v : W64) : (wrW s a v).seqs = s.seqs := rfl
@[simp] theorem wrW_fring (s : State) (a : Nat) (v : W64) : (wrW s a v).fring = s.fring := rfl
@[simp] theorem wrW_policy (s : State) (a : Nat) (v : W64) : (wrW s a v).policy = s.policy := rfl
@[simp] theorem wrW_recov (s : State) (a : Nat) (v : W64) : (wrW s a v).recov = s.recov := rfl
@[simp] theorem wrW_recNum (s : State) (a : Nat) (v : W64) : (wrW s a v).recNum = s.recNum := rfl
@[simp] theorem wrW_pkgQ (s : State) (a : Nat) (v : W64) : (wrW s a v).pkgQ = s.pkgQ := rfl
@[simp] theorem wrW_items (s : State) (a : Nat) (v : W64) : (wrW s a v).items = s.items := rfl
@[simp] theorem wrW_ringx (s : State) (a : Nat) (v : W64) : (wrW s a v).ringx = s.ringx := rfl
@[simp] theorem wrW_served (s : State) (a : Nat) (v : W64) : (wrW s a v).served = s.served := rfl
@[simp] theorem wrW_xlt (s : State) (a : Nat) (v : W64) : (wrW s a v).xlt = s.xlt := rfl
@[simp] theorem wrW_cfg (s : State) (a : Nat) (v : W64) : (wrW s a v).cfg = s.cfg := rfl
@[simp] theorem wrW_flash (s : State) (a : Nat) (v : W64) : (wrW s a v).flash = s.flash := rfl
@[simp] theorem wrW_update (s : State) (a : Nat) (v : W64) : (wrW s a v).update = s.update := rfl
@[simp] theorem wrW_journals (s : State) (a : Nat) (v : W64) : (wrW s a v).journals = s.journals := rfl
@[simp] theorem wrW_signed (s : State) (a : Nat) (v : W64) : (wrW s a v).signed = s.signed := rfl
@[simp] theorem wrW_modx (s : State) (a : Nat) (v : W64) : (wrW s a v).modx = s.modx := rfl
@[simp] theorem wrW_ledger (s : State) (a : Nat) (v : W64) : (wrW s a v).ledger = s.ledger := rfl
@[simp] theorem wrW_hup (s : State) (a : Nat) (v : W64) : (wrW s a v).hup = s.hup := rfl
@[simp] theorem wrW_resetQ (s : State) (a : Nat) (v : W64) : (wrW s a v).resetQ = s.resetQ := rfl
@[simp] theorem wrW_copies (s : State) (a : Nat) (v : W64) : (wrW s a v).copies = s.copies := rfl
@[simp] theorem wrW_hold (s : State) (a : Nat) (v : W64) : (wrW s a v).hold = s.hold := rfl
@[simp] theorem wrW_hostx (s : State) (a : Nat) (v : W64) : (wrW s a v).hostx = s.hostx := rfl
@[simp] theorem wrW_l2busy (s : State) (a : Nat) (v : W64) : (wrW s a v).l2busy = s.l2busy := rfl
@[simp] theorem wrW_dir (s : State) (a : Nat) (v : W64) : (wrW s a v).dir = s.dir := rfl
@[simp] theorem wrW_health (s : State) (a : Nat) (v : W64) : (wrW s a v).health = s.health := rfl
@[simp] theorem wrW_ctxx (s : State) (a : Nat) (v : W64) : (wrW s a v).ctxx = s.ctxx := rfl
@[simp] theorem wrW_btest (s : State) (a : Nat) (v : W64) : (wrW s a v).btest = s.btest := rfl
@[simp] theorem wrW_plans (s : State) (a : Nat) (v : W64) : (wrW s a v).plans = s.plans := rfl
@[simp] theorem wrW_plumb (s : State) (a : Nat) (v : W64) : (wrW s a v).plumb = s.plumb := rfl
@[simp] theorem wrW_stackx (s : State) (a : Nat) (v : W64) : (wrW s a v).stackx = s.stackx := rfl
@[simp] theorem wrW_sktLast (s : State) (a : Nat) (v : W64) : (wrW s a v).sktLast = s.sktLast := rfl
@[simp] theorem wrW_txns (s : State) (a : Nat) (v : W64) : (wrW s a v).txns = s.txns := rfl
@[simp] theorem wrW_waitq (s : State) (a : Nat) (v : W64) : (wrW s a v).waitq = s.waitq := rfl
@[simp] theorem wrW_resps (s : State) (a : Nat) (v : W64) : (wrW s a v).resps = s.resps := rfl
@[simp] theorem wrW_wbs (s : State) (a : Nat) (v : W64) : (wrW s a v).wbs = s.wbs := rfl
@[simp] theorem wrW_answers (s : State) (a : Nat) (v : W64) : (wrW s a v).answers = s.answers := rfl
@[simp] theorem wrW_reclaims (s : State) (a : Nat) (v : W64) : (wrW s a v).reclaims = s.reclaims := rfl
@[simp] theorem wrW_named (s : State) (a : Nat) (v : W64) : (wrW s a v).named = s.named := rfl
@[simp] theorem wrW_pred (s : State) (a : Nat) (v : W64) : (wrW s a v).pred = s.pred := rfl
@[simp] theorem wrW_rahead (s : State) (a : Nat) (v : W64) : (wrW s a v).rahead = s.rahead := rfl
@[simp] theorem wrW_bondx (s : State) (a : Nat) (v : W64) : (wrW s a v).bondx = s.bondx := rfl
@[simp] theorem wrW_rejoins (s : State) (a : Nat) (v : W64) : (wrW s a v).rejoins = s.rejoins := rfl
@[simp] theorem wrW_netRegs (s : State) (a : Nat) (v : W64) : (wrW s a v).netRegs = s.netRegs := rfl
@[simp] theorem wrW_flows (s : State) (a : Nat) (v : W64) : (wrW s a v).flows = s.flows := rfl
@[simp] theorem wrW_rxbuf (s : State) (a : Nat) (v : W64) : (wrW s a v).rxbuf = s.rxbuf := rfl
@[simp] theorem wrW_groups (s : State) (a : Nat) (v : W64) : (wrW s a v).groups = s.groups := rfl
@[simp] theorem wrW_chains (s : State) (a : Nat) (v : W64) : (wrW s a v).chains = s.chains := rfl
@[simp] theorem wrW_wdog (s : State) (a : Nat) (v : W64) : (wrW s a v).wdog = s.wdog := rfl
@[simp] theorem wrW_sitesOut (s : State) (a : Nat) (v : W64) : (wrW s a v).sitesOut = s.sitesOut := rfl
@[simp] theorem wrW_flips (s : State) (a : Nat) (v : W64) : (wrW s a v).flips = s.flips := rfl
@[simp] theorem wrW_regq (s : State) (a : Nat) (v : W64) : (wrW s a v).regq = s.regq := rfl
@[simp] theorem wrW_privStore (s : State) (a : Nat) (v : W64) : (wrW s a v).privStore = s.privStore := rfl
@[simp] theorem wrW_bootStore (s : State) (a : Nat) (v : W64) : (wrW s a v).bootStore = s.bootStore := rfl
@[simp] theorem wrW_harts (s : State) (a : Nat) (v : W64) : (wrW s a v).harts = s.harts := rfl
@[simp] theorem wrW_txSeen (s : State) (a : Nat) (v : W64) : (wrW s a v).txSeen = s.txSeen := rfl

@[simp] theorem emit_regs (s : State) (k : MK) (args : List Nat) (data : List Byte) : (emit s k args data).regs = s.regs := rfl
@[simp] theorem emit_wide (s : State) (k : MK) (args : List Nat) (data : List Byte) : (emit s k args data).wide = s.wide := rfl
@[simp] theorem emit_latch (s : State) (k : MK) (args : List Nat) (data : List Byte) : (emit s k args data).latch = s.latch := rfl
@[simp] theorem emit_mem (s : State) (k : MK) (args : List Nat) (data : List Byte) : (emit s k args data).mem = s.mem := rfl
@[simp] theorem emit_poison (s : State) (k : MK) (args : List Nat) (data : List Byte) : (emit s k args data).poison = s.poison := rfl
@[simp] theorem emit_fresh (s : State) (k : MK) (args : List Nat) (data : List Byte) : (emit s k args data).fresh = s.fresh := rfl
@[simp] theorem emit_pending (s : State) (k : MK) (args : List Nat) (data : List Byte) : (emit s k args data).pending = s.pending := rfl
@[simp] theorem emit_absent (s : State) (k : MK) (args : List Nat) (data : List Byte) : (emit s k args data).absent = s.absent := rfl
@[simp] theorem emit_pllOff (s : State) (k : MK) (args : List Nat) (data : List Byte) : (emit s k args data).pllOff = s.pllOff := rfl
@[simp] theorem emit_seqs (s : State) (k : MK) (args : List Nat) (data : List Byte) : (emit s k args data).seqs = s.seqs := rfl
@[simp] theorem emit_fring (s : State) (k : MK) (args : List Nat) (data : List Byte) : (emit s k args data).fring = s.fring := rfl
@[simp] theorem emit_policy (s : State) (k : MK) (args : List Nat) (data : List Byte) : (emit s k args data).policy = s.policy := rfl
@[simp] theorem emit_recov (s : State) (k : MK) (args : List Nat) (data : List Byte) : (emit s k args data).recov = s.recov := rfl
@[simp] theorem emit_recNum (s : State) (k : MK) (args : List Nat) (data : List Byte) : (emit s k args data).recNum = s.recNum := rfl
@[simp] theorem emit_pkgQ (s : State) (k : MK) (args : List Nat) (data : List Byte) : (emit s k args data).pkgQ = s.pkgQ := rfl
@[simp] theorem emit_items (s : State) (k : MK) (args : List Nat) (data : List Byte) : (emit s k args data).items = s.items := rfl
@[simp] theorem emit_ringx (s : State) (k : MK) (args : List Nat) (data : List Byte) : (emit s k args data).ringx = s.ringx := rfl
@[simp] theorem emit_served (s : State) (k : MK) (args : List Nat) (data : List Byte) : (emit s k args data).served = s.served := rfl
@[simp] theorem emit_xlt (s : State) (k : MK) (args : List Nat) (data : List Byte) : (emit s k args data).xlt = s.xlt := rfl
@[simp] theorem emit_cfg (s : State) (k : MK) (args : List Nat) (data : List Byte) : (emit s k args data).cfg = s.cfg := rfl
@[simp] theorem emit_flash (s : State) (k : MK) (args : List Nat) (data : List Byte) : (emit s k args data).flash = s.flash := rfl
@[simp] theorem emit_update (s : State) (k : MK) (args : List Nat) (data : List Byte) : (emit s k args data).update = s.update := rfl
@[simp] theorem emit_journals (s : State) (k : MK) (args : List Nat) (data : List Byte) : (emit s k args data).journals = s.journals := rfl
@[simp] theorem emit_signed (s : State) (k : MK) (args : List Nat) (data : List Byte) : (emit s k args data).signed = s.signed := rfl
@[simp] theorem emit_modx (s : State) (k : MK) (args : List Nat) (data : List Byte) : (emit s k args data).modx = s.modx := rfl
@[simp] theorem emit_ledger (s : State) (k : MK) (args : List Nat) (data : List Byte) : (emit s k args data).ledger = s.ledger := rfl
@[simp] theorem emit_hup (s : State) (k : MK) (args : List Nat) (data : List Byte) : (emit s k args data).hup = s.hup := rfl
@[simp] theorem emit_resetQ (s : State) (k : MK) (args : List Nat) (data : List Byte) : (emit s k args data).resetQ = s.resetQ := rfl
@[simp] theorem emit_copies (s : State) (k : MK) (args : List Nat) (data : List Byte) : (emit s k args data).copies = s.copies := rfl
@[simp] theorem emit_hold (s : State) (k : MK) (args : List Nat) (data : List Byte) : (emit s k args data).hold = s.hold := rfl
@[simp] theorem emit_hostx (s : State) (k : MK) (args : List Nat) (data : List Byte) : (emit s k args data).hostx = s.hostx := rfl
@[simp] theorem emit_l2busy (s : State) (k : MK) (args : List Nat) (data : List Byte) : (emit s k args data).l2busy = s.l2busy := rfl
@[simp] theorem emit_dir (s : State) (k : MK) (args : List Nat) (data : List Byte) : (emit s k args data).dir = s.dir := rfl
@[simp] theorem emit_health (s : State) (k : MK) (args : List Nat) (data : List Byte) : (emit s k args data).health = s.health := rfl
@[simp] theorem emit_ctxx (s : State) (k : MK) (args : List Nat) (data : List Byte) : (emit s k args data).ctxx = s.ctxx := rfl
@[simp] theorem emit_btest (s : State) (k : MK) (args : List Nat) (data : List Byte) : (emit s k args data).btest = s.btest := rfl
@[simp] theorem emit_plans (s : State) (k : MK) (args : List Nat) (data : List Byte) : (emit s k args data).plans = s.plans := rfl
@[simp] theorem emit_plumb (s : State) (k : MK) (args : List Nat) (data : List Byte) : (emit s k args data).plumb = s.plumb := rfl
@[simp] theorem emit_stackx (s : State) (k : MK) (args : List Nat) (data : List Byte) : (emit s k args data).stackx = s.stackx := rfl
@[simp] theorem emit_sktLast (s : State) (k : MK) (args : List Nat) (data : List Byte) : (emit s k args data).sktLast = s.sktLast := rfl
@[simp] theorem emit_txns (s : State) (k : MK) (args : List Nat) (data : List Byte) : (emit s k args data).txns = s.txns := rfl
@[simp] theorem emit_waitq (s : State) (k : MK) (args : List Nat) (data : List Byte) : (emit s k args data).waitq = s.waitq := rfl
@[simp] theorem emit_resps (s : State) (k : MK) (args : List Nat) (data : List Byte) : (emit s k args data).resps = s.resps := rfl
@[simp] theorem emit_wbs (s : State) (k : MK) (args : List Nat) (data : List Byte) : (emit s k args data).wbs = s.wbs := rfl
@[simp] theorem emit_answers (s : State) (k : MK) (args : List Nat) (data : List Byte) : (emit s k args data).answers = s.answers := rfl
@[simp] theorem emit_reclaims (s : State) (k : MK) (args : List Nat) (data : List Byte) : (emit s k args data).reclaims = s.reclaims := rfl
@[simp] theorem emit_named (s : State) (k : MK) (args : List Nat) (data : List Byte) : (emit s k args data).named = s.named := rfl
@[simp] theorem emit_pred (s : State) (k : MK) (args : List Nat) (data : List Byte) : (emit s k args data).pred = s.pred := rfl
@[simp] theorem emit_rahead (s : State) (k : MK) (args : List Nat) (data : List Byte) : (emit s k args data).rahead = s.rahead := rfl
@[simp] theorem emit_bondx (s : State) (k : MK) (args : List Nat) (data : List Byte) : (emit s k args data).bondx = s.bondx := rfl
@[simp] theorem emit_rejoins (s : State) (k : MK) (args : List Nat) (data : List Byte) : (emit s k args data).rejoins = s.rejoins := rfl
@[simp] theorem emit_netRegs (s : State) (k : MK) (args : List Nat) (data : List Byte) : (emit s k args data).netRegs = s.netRegs := rfl
@[simp] theorem emit_flows (s : State) (k : MK) (args : List Nat) (data : List Byte) : (emit s k args data).flows = s.flows := rfl
@[simp] theorem emit_rxbuf (s : State) (k : MK) (args : List Nat) (data : List Byte) : (emit s k args data).rxbuf = s.rxbuf := rfl
@[simp] theorem emit_groups (s : State) (k : MK) (args : List Nat) (data : List Byte) : (emit s k args data).groups = s.groups := rfl
@[simp] theorem emit_chains (s : State) (k : MK) (args : List Nat) (data : List Byte) : (emit s k args data).chains = s.chains := rfl
@[simp] theorem emit_wdog (s : State) (k : MK) (args : List Nat) (data : List Byte) : (emit s k args data).wdog = s.wdog := rfl
@[simp] theorem emit_sitesOut (s : State) (k : MK) (args : List Nat) (data : List Byte) : (emit s k args data).sitesOut = s.sitesOut := rfl
@[simp] theorem emit_flips (s : State) (k : MK) (args : List Nat) (data : List Byte) : (emit s k args data).flips = s.flips := rfl
@[simp] theorem emit_regq (s : State) (k : MK) (args : List Nat) (data : List Byte) : (emit s k args data).regq = s.regq := rfl
@[simp] theorem emit_privStore (s : State) (k : MK) (args : List Nat) (data : List Byte) : (emit s k args data).privStore = s.privStore := rfl
@[simp] theorem emit_bootStore (s : State) (k : MK) (args : List Nat) (data : List Byte) : (emit s k args data).bootStore = s.bootStore := rfl
@[simp] theorem emit_harts (s : State) (k : MK) (args : List Nat) (data : List Byte) : (emit s k args data).harts = s.harts := rfl
@[simp] theorem emit_txSeen (s : State) (k : MK) (args : List Nat) (data : List Byte) : (emit s k args data).txSeen = s.txSeen := rfl

@[simp] theorem fset_wide (s : State) (a lo n v : Nat) : (fset s a lo n v).wide = s.wide := rfl
@[simp] theorem fset_latch (s : State) (a lo n v : Nat) : (fset s a lo n v).latch = s.latch := rfl
@[simp] theorem fset_mem (s : State) (a lo n v : Nat) : (fset s a lo n v).mem = s.mem := rfl
@[simp] theorem fset_poison (s : State) (a lo n v : Nat) : (fset s a lo n v).poison = s.poison := rfl
@[simp] theorem fset_sent (s : State) (a lo n v : Nat) : (fset s a lo n v).sent = s.sent := rfl
@[simp] theorem fset_fresh (s : State) (a lo n v : Nat) : (fset s a lo n v).fresh = s.fresh := rfl
@[simp] theorem fset_pending (s : State) (a lo n v : Nat) : (fset s a lo n v).pending = s.pending := rfl
@[simp] theorem fset_absent (s : State) (a lo n v : Nat) : (fset s a lo n v).absent = s.absent := rfl
@[simp] theorem fset_pllOff (s : State) (a lo n v : Nat) : (fset s a lo n v).pllOff = s.pllOff := rfl
@[simp] theorem fset_seqs (s : State) (a lo n v : Nat) : (fset s a lo n v).seqs = s.seqs := rfl
@[simp] theorem fset_fring (s : State) (a lo n v : Nat) : (fset s a lo n v).fring = s.fring := rfl
@[simp] theorem fset_policy (s : State) (a lo n v : Nat) : (fset s a lo n v).policy = s.policy := rfl
@[simp] theorem fset_recov (s : State) (a lo n v : Nat) : (fset s a lo n v).recov = s.recov := rfl
@[simp] theorem fset_recNum (s : State) (a lo n v : Nat) : (fset s a lo n v).recNum = s.recNum := rfl
@[simp] theorem fset_pkgQ (s : State) (a lo n v : Nat) : (fset s a lo n v).pkgQ = s.pkgQ := rfl
@[simp] theorem fset_items (s : State) (a lo n v : Nat) : (fset s a lo n v).items = s.items := rfl
@[simp] theorem fset_ringx (s : State) (a lo n v : Nat) : (fset s a lo n v).ringx = s.ringx := rfl
@[simp] theorem fset_served (s : State) (a lo n v : Nat) : (fset s a lo n v).served = s.served := rfl
@[simp] theorem fset_xlt (s : State) (a lo n v : Nat) : (fset s a lo n v).xlt = s.xlt := rfl
@[simp] theorem fset_cfg (s : State) (a lo n v : Nat) : (fset s a lo n v).cfg = s.cfg := rfl
@[simp] theorem fset_flash (s : State) (a lo n v : Nat) : (fset s a lo n v).flash = s.flash := rfl
@[simp] theorem fset_update (s : State) (a lo n v : Nat) : (fset s a lo n v).update = s.update := rfl
@[simp] theorem fset_journals (s : State) (a lo n v : Nat) : (fset s a lo n v).journals = s.journals := rfl
@[simp] theorem fset_signed (s : State) (a lo n v : Nat) : (fset s a lo n v).signed = s.signed := rfl
@[simp] theorem fset_modx (s : State) (a lo n v : Nat) : (fset s a lo n v).modx = s.modx := rfl
@[simp] theorem fset_ledger (s : State) (a lo n v : Nat) : (fset s a lo n v).ledger = s.ledger := rfl
@[simp] theorem fset_hup (s : State) (a lo n v : Nat) : (fset s a lo n v).hup = s.hup := rfl
@[simp] theorem fset_resetQ (s : State) (a lo n v : Nat) : (fset s a lo n v).resetQ = s.resetQ := rfl
@[simp] theorem fset_copies (s : State) (a lo n v : Nat) : (fset s a lo n v).copies = s.copies := rfl
@[simp] theorem fset_hold (s : State) (a lo n v : Nat) : (fset s a lo n v).hold = s.hold := rfl
@[simp] theorem fset_hostx (s : State) (a lo n v : Nat) : (fset s a lo n v).hostx = s.hostx := rfl
@[simp] theorem fset_l2busy (s : State) (a lo n v : Nat) : (fset s a lo n v).l2busy = s.l2busy := rfl
@[simp] theorem fset_dir (s : State) (a lo n v : Nat) : (fset s a lo n v).dir = s.dir := rfl
@[simp] theorem fset_health (s : State) (a lo n v : Nat) : (fset s a lo n v).health = s.health := rfl
@[simp] theorem fset_ctxx (s : State) (a lo n v : Nat) : (fset s a lo n v).ctxx = s.ctxx := rfl
@[simp] theorem fset_btest (s : State) (a lo n v : Nat) : (fset s a lo n v).btest = s.btest := rfl
@[simp] theorem fset_plans (s : State) (a lo n v : Nat) : (fset s a lo n v).plans = s.plans := rfl
@[simp] theorem fset_plumb (s : State) (a lo n v : Nat) : (fset s a lo n v).plumb = s.plumb := rfl
@[simp] theorem fset_stackx (s : State) (a lo n v : Nat) : (fset s a lo n v).stackx = s.stackx := rfl
@[simp] theorem fset_sktLast (s : State) (a lo n v : Nat) : (fset s a lo n v).sktLast = s.sktLast := rfl
@[simp] theorem fset_txns (s : State) (a lo n v : Nat) : (fset s a lo n v).txns = s.txns := rfl
@[simp] theorem fset_waitq (s : State) (a lo n v : Nat) : (fset s a lo n v).waitq = s.waitq := rfl
@[simp] theorem fset_resps (s : State) (a lo n v : Nat) : (fset s a lo n v).resps = s.resps := rfl
@[simp] theorem fset_wbs (s : State) (a lo n v : Nat) : (fset s a lo n v).wbs = s.wbs := rfl
@[simp] theorem fset_answers (s : State) (a lo n v : Nat) : (fset s a lo n v).answers = s.answers := rfl
@[simp] theorem fset_reclaims (s : State) (a lo n v : Nat) : (fset s a lo n v).reclaims = s.reclaims := rfl
@[simp] theorem fset_named (s : State) (a lo n v : Nat) : (fset s a lo n v).named = s.named := rfl
@[simp] theorem fset_pred (s : State) (a lo n v : Nat) : (fset s a lo n v).pred = s.pred := rfl
@[simp] theorem fset_rahead (s : State) (a lo n v : Nat) : (fset s a lo n v).rahead = s.rahead := rfl
@[simp] theorem fset_bondx (s : State) (a lo n v : Nat) : (fset s a lo n v).bondx = s.bondx := rfl
@[simp] theorem fset_rejoins (s : State) (a lo n v : Nat) : (fset s a lo n v).rejoins = s.rejoins := rfl
@[simp] theorem fset_netRegs (s : State) (a lo n v : Nat) : (fset s a lo n v).netRegs = s.netRegs := rfl
@[simp] theorem fset_flows (s : State) (a lo n v : Nat) : (fset s a lo n v).flows = s.flows := rfl
@[simp] theorem fset_rxbuf (s : State) (a lo n v : Nat) : (fset s a lo n v).rxbuf = s.rxbuf := rfl
@[simp] theorem fset_groups (s : State) (a lo n v : Nat) : (fset s a lo n v).groups = s.groups := rfl
@[simp] theorem fset_chains (s : State) (a lo n v : Nat) : (fset s a lo n v).chains = s.chains := rfl
@[simp] theorem fset_wdog (s : State) (a lo n v : Nat) : (fset s a lo n v).wdog = s.wdog := rfl
@[simp] theorem fset_sitesOut (s : State) (a lo n v : Nat) : (fset s a lo n v).sitesOut = s.sitesOut := rfl
@[simp] theorem fset_flips (s : State) (a lo n v : Nat) : (fset s a lo n v).flips = s.flips := rfl
@[simp] theorem fset_regq (s : State) (a lo n v : Nat) : (fset s a lo n v).regq = s.regq := rfl
@[simp] theorem fset_privStore (s : State) (a lo n v : Nat) : (fset s a lo n v).privStore = s.privStore := rfl
@[simp] theorem fset_bootStore (s : State) (a lo n v : Nat) : (fset s a lo n v).bootStore = s.bootStore := rfl
@[simp] theorem fset_harts (s : State) (a lo n v : Nat) : (fset s a lo n v).harts = s.harts := rfl
@[simp] theorem fset_txSeen (s : State) (a lo n v : Nat) : (fset s a lo n v).txSeen = s.txSeen := rfl

@[simp] theorem setRD_wide (s : State) (a lo r d : Nat) : (setRD s a lo r d).wide = s.wide := rfl
@[simp] theorem setRD_latch (s : State) (a lo r d : Nat) : (setRD s a lo r d).latch = s.latch := rfl
@[simp] theorem setRD_mem (s : State) (a lo r d : Nat) : (setRD s a lo r d).mem = s.mem := rfl
@[simp] theorem setRD_poison (s : State) (a lo r d : Nat) : (setRD s a lo r d).poison = s.poison := rfl
@[simp] theorem setRD_sent (s : State) (a lo r d : Nat) : (setRD s a lo r d).sent = s.sent := rfl
@[simp] theorem setRD_fresh (s : State) (a lo r d : Nat) : (setRD s a lo r d).fresh = s.fresh := rfl
@[simp] theorem setRD_pending (s : State) (a lo r d : Nat) : (setRD s a lo r d).pending = s.pending := rfl
@[simp] theorem setRD_absent (s : State) (a lo r d : Nat) : (setRD s a lo r d).absent = s.absent := rfl
@[simp] theorem setRD_pllOff (s : State) (a lo r d : Nat) : (setRD s a lo r d).pllOff = s.pllOff := rfl
@[simp] theorem setRD_seqs (s : State) (a lo r d : Nat) : (setRD s a lo r d).seqs = s.seqs := rfl
@[simp] theorem setRD_fring (s : State) (a lo r d : Nat) : (setRD s a lo r d).fring = s.fring := rfl
@[simp] theorem setRD_policy (s : State) (a lo r d : Nat) : (setRD s a lo r d).policy = s.policy := rfl
@[simp] theorem setRD_recov (s : State) (a lo r d : Nat) : (setRD s a lo r d).recov = s.recov := rfl
@[simp] theorem setRD_recNum (s : State) (a lo r d : Nat) : (setRD s a lo r d).recNum = s.recNum := rfl
@[simp] theorem setRD_pkgQ (s : State) (a lo r d : Nat) : (setRD s a lo r d).pkgQ = s.pkgQ := rfl
@[simp] theorem setRD_items (s : State) (a lo r d : Nat) : (setRD s a lo r d).items = s.items := rfl
@[simp] theorem setRD_ringx (s : State) (a lo r d : Nat) : (setRD s a lo r d).ringx = s.ringx := rfl
@[simp] theorem setRD_served (s : State) (a lo r d : Nat) : (setRD s a lo r d).served = s.served := rfl
@[simp] theorem setRD_xlt (s : State) (a lo r d : Nat) : (setRD s a lo r d).xlt = s.xlt := rfl
@[simp] theorem setRD_cfg (s : State) (a lo r d : Nat) : (setRD s a lo r d).cfg = s.cfg := rfl
@[simp] theorem setRD_flash (s : State) (a lo r d : Nat) : (setRD s a lo r d).flash = s.flash := rfl
@[simp] theorem setRD_update (s : State) (a lo r d : Nat) : (setRD s a lo r d).update = s.update := rfl
@[simp] theorem setRD_journals (s : State) (a lo r d : Nat) : (setRD s a lo r d).journals = s.journals := rfl
@[simp] theorem setRD_signed (s : State) (a lo r d : Nat) : (setRD s a lo r d).signed = s.signed := rfl
@[simp] theorem setRD_modx (s : State) (a lo r d : Nat) : (setRD s a lo r d).modx = s.modx := rfl
@[simp] theorem setRD_ledger (s : State) (a lo r d : Nat) : (setRD s a lo r d).ledger = s.ledger := rfl
@[simp] theorem setRD_hup (s : State) (a lo r d : Nat) : (setRD s a lo r d).hup = s.hup := rfl
@[simp] theorem setRD_resetQ (s : State) (a lo r d : Nat) : (setRD s a lo r d).resetQ = s.resetQ := rfl
@[simp] theorem setRD_copies (s : State) (a lo r d : Nat) : (setRD s a lo r d).copies = s.copies := rfl
@[simp] theorem setRD_hold (s : State) (a lo r d : Nat) : (setRD s a lo r d).hold = s.hold := rfl
@[simp] theorem setRD_hostx (s : State) (a lo r d : Nat) : (setRD s a lo r d).hostx = s.hostx := rfl
@[simp] theorem setRD_l2busy (s : State) (a lo r d : Nat) : (setRD s a lo r d).l2busy = s.l2busy := rfl
@[simp] theorem setRD_dir (s : State) (a lo r d : Nat) : (setRD s a lo r d).dir = s.dir := rfl
@[simp] theorem setRD_health (s : State) (a lo r d : Nat) : (setRD s a lo r d).health = s.health := rfl
@[simp] theorem setRD_ctxx (s : State) (a lo r d : Nat) : (setRD s a lo r d).ctxx = s.ctxx := rfl
@[simp] theorem setRD_btest (s : State) (a lo r d : Nat) : (setRD s a lo r d).btest = s.btest := rfl
@[simp] theorem setRD_plans (s : State) (a lo r d : Nat) : (setRD s a lo r d).plans = s.plans := rfl
@[simp] theorem setRD_plumb (s : State) (a lo r d : Nat) : (setRD s a lo r d).plumb = s.plumb := rfl
@[simp] theorem setRD_stackx (s : State) (a lo r d : Nat) : (setRD s a lo r d).stackx = s.stackx := rfl
@[simp] theorem setRD_sktLast (s : State) (a lo r d : Nat) : (setRD s a lo r d).sktLast = s.sktLast := rfl
@[simp] theorem setRD_txns (s : State) (a lo r d : Nat) : (setRD s a lo r d).txns = s.txns := rfl
@[simp] theorem setRD_waitq (s : State) (a lo r d : Nat) : (setRD s a lo r d).waitq = s.waitq := rfl
@[simp] theorem setRD_resps (s : State) (a lo r d : Nat) : (setRD s a lo r d).resps = s.resps := rfl
@[simp] theorem setRD_wbs (s : State) (a lo r d : Nat) : (setRD s a lo r d).wbs = s.wbs := rfl
@[simp] theorem setRD_answers (s : State) (a lo r d : Nat) : (setRD s a lo r d).answers = s.answers := rfl
@[simp] theorem setRD_reclaims (s : State) (a lo r d : Nat) : (setRD s a lo r d).reclaims = s.reclaims := rfl
@[simp] theorem setRD_named (s : State) (a lo r d : Nat) : (setRD s a lo r d).named = s.named := rfl
@[simp] theorem setRD_pred (s : State) (a lo r d : Nat) : (setRD s a lo r d).pred = s.pred := rfl
@[simp] theorem setRD_rahead (s : State) (a lo r d : Nat) : (setRD s a lo r d).rahead = s.rahead := rfl
@[simp] theorem setRD_bondx (s : State) (a lo r d : Nat) : (setRD s a lo r d).bondx = s.bondx := rfl
@[simp] theorem setRD_rejoins (s : State) (a lo r d : Nat) : (setRD s a lo r d).rejoins = s.rejoins := rfl
@[simp] theorem setRD_netRegs (s : State) (a lo r d : Nat) : (setRD s a lo r d).netRegs = s.netRegs := rfl
@[simp] theorem setRD_flows (s : State) (a lo r d : Nat) : (setRD s a lo r d).flows = s.flows := rfl
@[simp] theorem setRD_rxbuf (s : State) (a lo r d : Nat) : (setRD s a lo r d).rxbuf = s.rxbuf := rfl
@[simp] theorem setRD_groups (s : State) (a lo r d : Nat) : (setRD s a lo r d).groups = s.groups := rfl
@[simp] theorem setRD_chains (s : State) (a lo r d : Nat) : (setRD s a lo r d).chains = s.chains := rfl
@[simp] theorem setRD_wdog (s : State) (a lo r d : Nat) : (setRD s a lo r d).wdog = s.wdog := rfl
@[simp] theorem setRD_sitesOut (s : State) (a lo r d : Nat) : (setRD s a lo r d).sitesOut = s.sitesOut := rfl
@[simp] theorem setRD_flips (s : State) (a lo r d : Nat) : (setRD s a lo r d).flips = s.flips := rfl
@[simp] theorem setRD_regq (s : State) (a lo r d : Nat) : (setRD s a lo r d).regq = s.regq := rfl
@[simp] theorem setRD_privStore (s : State) (a lo r d : Nat) : (setRD s a lo r d).privStore = s.privStore := rfl
@[simp] theorem setRD_bootStore (s : State) (a lo r d : Nat) : (setRD s a lo r d).bootStore = s.bootStore := rfl
@[simp] theorem setRD_harts (s : State) (a lo r d : Nat) : (setRD s a lo r d).harts = s.harts := rfl
@[simp] theorem setRD_txSeen (s : State) (a lo r d : Nat) : (setRD s a lo r d).txSeen = s.txSeen := rfl

@[simp] theorem setPd_wide (s : State) (n v : Nat) : (setPd s n v).wide = s.wide := rfl
@[simp] theorem setPd_latch (s : State) (n v : Nat) : (setPd s n v).latch = s.latch := rfl
@[simp] theorem setPd_mem (s : State) (n v : Nat) : (setPd s n v).mem = s.mem := rfl
@[simp] theorem setPd_poison (s : State) (n v : Nat) : (setPd s n v).poison = s.poison := rfl
@[simp] theorem setPd_sent (s : State) (n v : Nat) : (setPd s n v).sent = s.sent := rfl
@[simp] theorem setPd_fresh (s : State) (n v : Nat) : (setPd s n v).fresh = s.fresh := rfl
@[simp] theorem setPd_pending (s : State) (n v : Nat) : (setPd s n v).pending = s.pending := rfl
@[simp] theorem setPd_absent (s : State) (n v : Nat) : (setPd s n v).absent = s.absent := rfl
@[simp] theorem setPd_pllOff (s : State) (n v : Nat) : (setPd s n v).pllOff = s.pllOff := rfl
@[simp] theorem setPd_seqs (s : State) (n v : Nat) : (setPd s n v).seqs = s.seqs := rfl
@[simp] theorem setPd_fring (s : State) (n v : Nat) : (setPd s n v).fring = s.fring := rfl
@[simp] theorem setPd_policy (s : State) (n v : Nat) : (setPd s n v).policy = s.policy := rfl
@[simp] theorem setPd_recov (s : State) (n v : Nat) : (setPd s n v).recov = s.recov := rfl
@[simp] theorem setPd_recNum (s : State) (n v : Nat) : (setPd s n v).recNum = s.recNum := rfl
@[simp] theorem setPd_pkgQ (s : State) (n v : Nat) : (setPd s n v).pkgQ = s.pkgQ := rfl
@[simp] theorem setPd_items (s : State) (n v : Nat) : (setPd s n v).items = s.items := rfl
@[simp] theorem setPd_ringx (s : State) (n v : Nat) : (setPd s n v).ringx = s.ringx := rfl
@[simp] theorem setPd_served (s : State) (n v : Nat) : (setPd s n v).served = s.served := rfl
@[simp] theorem setPd_xlt (s : State) (n v : Nat) : (setPd s n v).xlt = s.xlt := rfl
@[simp] theorem setPd_cfg (s : State) (n v : Nat) : (setPd s n v).cfg = s.cfg := rfl
@[simp] theorem setPd_flash (s : State) (n v : Nat) : (setPd s n v).flash = s.flash := rfl
@[simp] theorem setPd_update (s : State) (n v : Nat) : (setPd s n v).update = s.update := rfl
@[simp] theorem setPd_journals (s : State) (n v : Nat) : (setPd s n v).journals = s.journals := rfl
@[simp] theorem setPd_signed (s : State) (n v : Nat) : (setPd s n v).signed = s.signed := rfl
@[simp] theorem setPd_modx (s : State) (n v : Nat) : (setPd s n v).modx = s.modx := rfl
@[simp] theorem setPd_ledger (s : State) (n v : Nat) : (setPd s n v).ledger = s.ledger := rfl
@[simp] theorem setPd_hup (s : State) (n v : Nat) : (setPd s n v).hup = s.hup := rfl
@[simp] theorem setPd_resetQ (s : State) (n v : Nat) : (setPd s n v).resetQ = s.resetQ := rfl
@[simp] theorem setPd_copies (s : State) (n v : Nat) : (setPd s n v).copies = s.copies := rfl
@[simp] theorem setPd_hold (s : State) (n v : Nat) : (setPd s n v).hold = s.hold := rfl
@[simp] theorem setPd_hostx (s : State) (n v : Nat) : (setPd s n v).hostx = s.hostx := rfl
@[simp] theorem setPd_l2busy (s : State) (n v : Nat) : (setPd s n v).l2busy = s.l2busy := rfl
@[simp] theorem setPd_dir (s : State) (n v : Nat) : (setPd s n v).dir = s.dir := rfl
@[simp] theorem setPd_health (s : State) (n v : Nat) : (setPd s n v).health = s.health := rfl
@[simp] theorem setPd_ctxx (s : State) (n v : Nat) : (setPd s n v).ctxx = s.ctxx := rfl
@[simp] theorem setPd_btest (s : State) (n v : Nat) : (setPd s n v).btest = s.btest := rfl
@[simp] theorem setPd_plans (s : State) (n v : Nat) : (setPd s n v).plans = s.plans := rfl
@[simp] theorem setPd_plumb (s : State) (n v : Nat) : (setPd s n v).plumb = s.plumb := rfl
@[simp] theorem setPd_stackx (s : State) (n v : Nat) : (setPd s n v).stackx = s.stackx := rfl
@[simp] theorem setPd_sktLast (s : State) (n v : Nat) : (setPd s n v).sktLast = s.sktLast := rfl
@[simp] theorem setPd_txns (s : State) (n v : Nat) : (setPd s n v).txns = s.txns := rfl
@[simp] theorem setPd_waitq (s : State) (n v : Nat) : (setPd s n v).waitq = s.waitq := rfl
@[simp] theorem setPd_resps (s : State) (n v : Nat) : (setPd s n v).resps = s.resps := rfl
@[simp] theorem setPd_wbs (s : State) (n v : Nat) : (setPd s n v).wbs = s.wbs := rfl
@[simp] theorem setPd_answers (s : State) (n v : Nat) : (setPd s n v).answers = s.answers := rfl
@[simp] theorem setPd_reclaims (s : State) (n v : Nat) : (setPd s n v).reclaims = s.reclaims := rfl
@[simp] theorem setPd_named (s : State) (n v : Nat) : (setPd s n v).named = s.named := rfl
@[simp] theorem setPd_pred (s : State) (n v : Nat) : (setPd s n v).pred = s.pred := rfl
@[simp] theorem setPd_rahead (s : State) (n v : Nat) : (setPd s n v).rahead = s.rahead := rfl
@[simp] theorem setPd_bondx (s : State) (n v : Nat) : (setPd s n v).bondx = s.bondx := rfl
@[simp] theorem setPd_rejoins (s : State) (n v : Nat) : (setPd s n v).rejoins = s.rejoins := rfl
@[simp] theorem setPd_netRegs (s : State) (n v : Nat) : (setPd s n v).netRegs = s.netRegs := rfl
@[simp] theorem setPd_flows (s : State) (n v : Nat) : (setPd s n v).flows = s.flows := rfl
@[simp] theorem setPd_rxbuf (s : State) (n v : Nat) : (setPd s n v).rxbuf = s.rxbuf := rfl
@[simp] theorem setPd_groups (s : State) (n v : Nat) : (setPd s n v).groups = s.groups := rfl
@[simp] theorem setPd_chains (s : State) (n v : Nat) : (setPd s n v).chains = s.chains := rfl
@[simp] theorem setPd_wdog (s : State) (n v : Nat) : (setPd s n v).wdog = s.wdog := rfl
@[simp] theorem setPd_sitesOut (s : State) (n v : Nat) : (setPd s n v).sitesOut = s.sitesOut := rfl
@[simp] theorem setPd_flips (s : State) (n v : Nat) : (setPd s n v).flips = s.flips := rfl
@[simp] theorem setPd_regq (s : State) (n v : Nat) : (setPd s n v).regq = s.regq := rfl
@[simp] theorem setPd_privStore (s : State) (n v : Nat) : (setPd s n v).privStore = s.privStore := rfl
@[simp] theorem setPd_bootStore (s : State) (n v : Nat) : (setPd s n v).bootStore = s.bootStore := rfl
@[simp] theorem setPd_harts (s : State) (n v : Nat) : (setPd s n v).harts = s.harts := rfl
@[simp] theorem setPd_txSeen (s : State) (n v : Nat) : (setPd s n v).txSeen = s.txSeen := rfl

@[simp] theorem requestStore_regs (s : State) (w : StoreWork) : (requestStore s w).regs = s.regs := rfl
@[simp] theorem requestStore_wide (s : State) (w : StoreWork) : (requestStore s w).wide = s.wide := rfl
@[simp] theorem requestStore_latch (s : State) (w : StoreWork) : (requestStore s w).latch = s.latch := rfl
@[simp] theorem requestStore_mem (s : State) (w : StoreWork) : (requestStore s w).mem = s.mem := rfl
@[simp] theorem requestStore_poison (s : State) (w : StoreWork) : (requestStore s w).poison = s.poison := rfl
@[simp] theorem requestStore_sent (s : State) (w : StoreWork) : (requestStore s w).sent = s.sent := rfl
@[simp] theorem requestStore_fresh (s : State) (w : StoreWork) : (requestStore s w).fresh = s.fresh := rfl
@[simp] theorem requestStore_pending (s : State) (w : StoreWork) : (requestStore s w).pending = s.pending := rfl
@[simp] theorem requestStore_absent (s : State) (w : StoreWork) : (requestStore s w).absent = s.absent := rfl
@[simp] theorem requestStore_pllOff (s : State) (w : StoreWork) : (requestStore s w).pllOff = s.pllOff := rfl
@[simp] theorem requestStore_seqs (s : State) (w : StoreWork) : (requestStore s w).seqs = s.seqs := rfl
@[simp] theorem requestStore_fring (s : State) (w : StoreWork) : (requestStore s w).fring = s.fring := rfl
@[simp] theorem requestStore_policy (s : State) (w : StoreWork) : (requestStore s w).policy = s.policy := rfl
@[simp] theorem requestStore_recov (s : State) (w : StoreWork) : (requestStore s w).recov = s.recov := rfl
@[simp] theorem requestStore_recNum (s : State) (w : StoreWork) : (requestStore s w).recNum = s.recNum := rfl
@[simp] theorem requestStore_pkgQ (s : State) (w : StoreWork) : (requestStore s w).pkgQ = s.pkgQ := rfl
@[simp] theorem requestStore_items (s : State) (w : StoreWork) : (requestStore s w).items = s.items := rfl
@[simp] theorem requestStore_ringx (s : State) (w : StoreWork) : (requestStore s w).ringx = s.ringx := rfl
@[simp] theorem requestStore_served (s : State) (w : StoreWork) : (requestStore s w).served = s.served := rfl
@[simp] theorem requestStore_xlt (s : State) (w : StoreWork) : (requestStore s w).xlt = s.xlt := rfl
@[simp] theorem requestStore_cfg (s : State) (w : StoreWork) : (requestStore s w).cfg = s.cfg := rfl
@[simp] theorem requestStore_flash (s : State) (w : StoreWork) : (requestStore s w).flash = s.flash := rfl
@[simp] theorem requestStore_update (s : State) (w : StoreWork) : (requestStore s w).update = s.update := rfl
@[simp] theorem requestStore_journals (s : State) (w : StoreWork) : (requestStore s w).journals = s.journals := rfl
@[simp] theorem requestStore_signed (s : State) (w : StoreWork) : (requestStore s w).signed = s.signed := rfl
@[simp] theorem requestStore_modx (s : State) (w : StoreWork) : (requestStore s w).modx = s.modx := rfl
@[simp] theorem requestStore_ledger (s : State) (w : StoreWork) : (requestStore s w).ledger = s.ledger := rfl
@[simp] theorem requestStore_resetQ (s : State) (w : StoreWork) : (requestStore s w).resetQ = s.resetQ := rfl
@[simp] theorem requestStore_copies (s : State) (w : StoreWork) : (requestStore s w).copies = s.copies := rfl
@[simp] theorem requestStore_hold (s : State) (w : StoreWork) : (requestStore s w).hold = s.hold := rfl
@[simp] theorem requestStore_hostx (s : State) (w : StoreWork) : (requestStore s w).hostx = s.hostx := rfl
@[simp] theorem requestStore_l2busy (s : State) (w : StoreWork) : (requestStore s w).l2busy = s.l2busy := rfl
@[simp] theorem requestStore_dir (s : State) (w : StoreWork) : (requestStore s w).dir = s.dir := rfl
@[simp] theorem requestStore_health (s : State) (w : StoreWork) : (requestStore s w).health = s.health := rfl
@[simp] theorem requestStore_ctxx (s : State) (w : StoreWork) : (requestStore s w).ctxx = s.ctxx := rfl
@[simp] theorem requestStore_btest (s : State) (w : StoreWork) : (requestStore s w).btest = s.btest := rfl
@[simp] theorem requestStore_plans (s : State) (w : StoreWork) : (requestStore s w).plans = s.plans := rfl
@[simp] theorem requestStore_plumb (s : State) (w : StoreWork) : (requestStore s w).plumb = s.plumb := rfl
@[simp] theorem requestStore_stackx (s : State) (w : StoreWork) : (requestStore s w).stackx = s.stackx := rfl
@[simp] theorem requestStore_sktLast (s : State) (w : StoreWork) : (requestStore s w).sktLast = s.sktLast := rfl
@[simp] theorem requestStore_txns (s : State) (w : StoreWork) : (requestStore s w).txns = s.txns := rfl
@[simp] theorem requestStore_waitq (s : State) (w : StoreWork) : (requestStore s w).waitq = s.waitq := rfl
@[simp] theorem requestStore_resps (s : State) (w : StoreWork) : (requestStore s w).resps = s.resps := rfl
@[simp] theorem requestStore_wbs (s : State) (w : StoreWork) : (requestStore s w).wbs = s.wbs := rfl
@[simp] theorem requestStore_answers (s : State) (w : StoreWork) : (requestStore s w).answers = s.answers := rfl
@[simp] theorem requestStore_reclaims (s : State) (w : StoreWork) : (requestStore s w).reclaims = s.reclaims := rfl
@[simp] theorem requestStore_named (s : State) (w : StoreWork) : (requestStore s w).named = s.named := rfl
@[simp] theorem requestStore_pred (s : State) (w : StoreWork) : (requestStore s w).pred = s.pred := rfl
@[simp] theorem requestStore_rahead (s : State) (w : StoreWork) : (requestStore s w).rahead = s.rahead := rfl
@[simp] theorem requestStore_bondx (s : State) (w : StoreWork) : (requestStore s w).bondx = s.bondx := rfl
@[simp] theorem requestStore_rejoins (s : State) (w : StoreWork) : (requestStore s w).rejoins = s.rejoins := rfl
@[simp] theorem requestStore_netRegs (s : State) (w : StoreWork) : (requestStore s w).netRegs = s.netRegs := rfl
@[simp] theorem requestStore_flows (s : State) (w : StoreWork) : (requestStore s w).flows = s.flows := rfl
@[simp] theorem requestStore_rxbuf (s : State) (w : StoreWork) : (requestStore s w).rxbuf = s.rxbuf := rfl
@[simp] theorem requestStore_groups (s : State) (w : StoreWork) : (requestStore s w).groups = s.groups := rfl
@[simp] theorem requestStore_chains (s : State) (w : StoreWork) : (requestStore s w).chains = s.chains := rfl
@[simp] theorem requestStore_wdog (s : State) (w : StoreWork) : (requestStore s w).wdog = s.wdog := rfl
@[simp] theorem requestStore_sitesOut (s : State) (w : StoreWork) : (requestStore s w).sitesOut = s.sitesOut := rfl
@[simp] theorem requestStore_flips (s : State) (w : StoreWork) : (requestStore s w).flips = s.flips := rfl
@[simp] theorem requestStore_regq (s : State) (w : StoreWork) : (requestStore s w).regq = s.regq := rfl
@[simp] theorem requestStore_privStore (s : State) (w : StoreWork) : (requestStore s w).privStore = s.privStore := rfl
@[simp] theorem requestStore_bootStore (s : State) (w : StoreWork) : (requestStore s w).bootStore = s.bootStore := rfl
@[simp] theorem requestStore_harts (s : State) (w : StoreWork) : (requestStore s w).harts = s.harts := rfl
@[simp] theorem requestStore_txSeen (s : State) (w : StoreWork) : (requestStore s w).txSeen = s.txSeen := rfl

@[simp] theorem takeFree_snd_regs (s : State) : ((takeFree s).2).regs = s.regs := rfl
@[simp] theorem takeFree_snd_wide (s : State) : ((takeFree s).2).wide = s.wide := rfl
@[simp] theorem takeFree_snd_latch (s : State) : ((takeFree s).2).latch = s.latch := rfl
@[simp] theorem takeFree_snd_mem (s : State) : ((takeFree s).2).mem = s.mem := rfl
@[simp] theorem takeFree_snd_poison (s : State) : ((takeFree s).2).poison = s.poison := rfl
@[simp] theorem takeFree_snd_sent (s : State) : ((takeFree s).2).sent = s.sent := rfl
@[simp] theorem takeFree_snd_pending (s : State) : ((takeFree s).2).pending = s.pending := rfl
@[simp] theorem takeFree_snd_absent (s : State) : ((takeFree s).2).absent = s.absent := rfl
@[simp] theorem takeFree_snd_pllOff (s : State) : ((takeFree s).2).pllOff = s.pllOff := rfl
@[simp] theorem takeFree_snd_seqs (s : State) : ((takeFree s).2).seqs = s.seqs := rfl
@[simp] theorem takeFree_snd_fring (s : State) : ((takeFree s).2).fring = s.fring := rfl
@[simp] theorem takeFree_snd_policy (s : State) : ((takeFree s).2).policy = s.policy := rfl
@[simp] theorem takeFree_snd_recov (s : State) : ((takeFree s).2).recov = s.recov := rfl
@[simp] theorem takeFree_snd_recNum (s : State) : ((takeFree s).2).recNum = s.recNum := rfl
@[simp] theorem takeFree_snd_pkgQ (s : State) : ((takeFree s).2).pkgQ = s.pkgQ := rfl
@[simp] theorem takeFree_snd_items (s : State) : ((takeFree s).2).items = s.items := rfl
@[simp] theorem takeFree_snd_ringx (s : State) : ((takeFree s).2).ringx = s.ringx := rfl
@[simp] theorem takeFree_snd_served (s : State) : ((takeFree s).2).served = s.served := rfl
@[simp] theorem takeFree_snd_xlt (s : State) : ((takeFree s).2).xlt = s.xlt := rfl
@[simp] theorem takeFree_snd_cfg (s : State) : ((takeFree s).2).cfg = s.cfg := rfl
@[simp] theorem takeFree_snd_flash (s : State) : ((takeFree s).2).flash = s.flash := rfl
@[simp] theorem takeFree_snd_update (s : State) : ((takeFree s).2).update = s.update := rfl
@[simp] theorem takeFree_snd_journals (s : State) : ((takeFree s).2).journals = s.journals := rfl
@[simp] theorem takeFree_snd_signed (s : State) : ((takeFree s).2).signed = s.signed := rfl
@[simp] theorem takeFree_snd_modx (s : State) : ((takeFree s).2).modx = s.modx := rfl
@[simp] theorem takeFree_snd_ledger (s : State) : ((takeFree s).2).ledger = s.ledger := rfl
@[simp] theorem takeFree_snd_hup (s : State) : ((takeFree s).2).hup = s.hup := rfl
@[simp] theorem takeFree_snd_resetQ (s : State) : ((takeFree s).2).resetQ = s.resetQ := rfl
@[simp] theorem takeFree_snd_copies (s : State) : ((takeFree s).2).copies = s.copies := rfl
@[simp] theorem takeFree_snd_hold (s : State) : ((takeFree s).2).hold = s.hold := rfl
@[simp] theorem takeFree_snd_hostx (s : State) : ((takeFree s).2).hostx = s.hostx := rfl
@[simp] theorem takeFree_snd_l2busy (s : State) : ((takeFree s).2).l2busy = s.l2busy := rfl
@[simp] theorem takeFree_snd_dir (s : State) : ((takeFree s).2).dir = s.dir := rfl
@[simp] theorem takeFree_snd_health (s : State) : ((takeFree s).2).health = s.health := rfl
@[simp] theorem takeFree_snd_ctxx (s : State) : ((takeFree s).2).ctxx = s.ctxx := rfl
@[simp] theorem takeFree_snd_btest (s : State) : ((takeFree s).2).btest = s.btest := rfl
@[simp] theorem takeFree_snd_plans (s : State) : ((takeFree s).2).plans = s.plans := rfl
@[simp] theorem takeFree_snd_plumb (s : State) : ((takeFree s).2).plumb = s.plumb := rfl
@[simp] theorem takeFree_snd_stackx (s : State) : ((takeFree s).2).stackx = s.stackx := rfl
@[simp] theorem takeFree_snd_sktLast (s : State) : ((takeFree s).2).sktLast = s.sktLast := rfl
@[simp] theorem takeFree_snd_txns (s : State) : ((takeFree s).2).txns = s.txns := rfl
@[simp] theorem takeFree_snd_waitq (s : State) : ((takeFree s).2).waitq = s.waitq := rfl
@[simp] theorem takeFree_snd_resps (s : State) : ((takeFree s).2).resps = s.resps := rfl
@[simp] theorem takeFree_snd_wbs (s : State) : ((takeFree s).2).wbs = s.wbs := rfl
@[simp] theorem takeFree_snd_answers (s : State) : ((takeFree s).2).answers = s.answers := rfl
@[simp] theorem takeFree_snd_reclaims (s : State) : ((takeFree s).2).reclaims = s.reclaims := rfl
@[simp] theorem takeFree_snd_named (s : State) : ((takeFree s).2).named = s.named := rfl
@[simp] theorem takeFree_snd_pred (s : State) : ((takeFree s).2).pred = s.pred := rfl
@[simp] theorem takeFree_snd_rahead (s : State) : ((takeFree s).2).rahead = s.rahead := rfl
@[simp] theorem takeFree_snd_bondx (s : State) : ((takeFree s).2).bondx = s.bondx := rfl
@[simp] theorem takeFree_snd_rejoins (s : State) : ((takeFree s).2).rejoins = s.rejoins := rfl
@[simp] theorem takeFree_snd_netRegs (s : State) : ((takeFree s).2).netRegs = s.netRegs := rfl
@[simp] theorem takeFree_snd_flows (s : State) : ((takeFree s).2).flows = s.flows := rfl
@[simp] theorem takeFree_snd_rxbuf (s : State) : ((takeFree s).2).rxbuf = s.rxbuf := rfl
@[simp] theorem takeFree_snd_groups (s : State) : ((takeFree s).2).groups = s.groups := rfl
@[simp] theorem takeFree_snd_chains (s : State) : ((takeFree s).2).chains = s.chains := rfl
@[simp] theorem takeFree_snd_wdog (s : State) : ((takeFree s).2).wdog = s.wdog := rfl
@[simp] theorem takeFree_snd_sitesOut (s : State) : ((takeFree s).2).sitesOut = s.sitesOut := rfl
@[simp] theorem takeFree_snd_flips (s : State) : ((takeFree s).2).flips = s.flips := rfl
@[simp] theorem takeFree_snd_regq (s : State) : ((takeFree s).2).regq = s.regq := rfl
@[simp] theorem takeFree_snd_privStore (s : State) : ((takeFree s).2).privStore = s.privStore := rfl
@[simp] theorem takeFree_snd_bootStore (s : State) : ((takeFree s).2).bootStore = s.bootStore := rfl
@[simp] theorem takeFree_snd_harts (s : State) : ((takeFree s).2).harts = s.harts := rfl
@[simp] theorem takeFree_snd_txSeen (s : State) : ((takeFree s).2).txSeen = s.txSeen := rfl

@[simp] theorem State.withRegs_regs (s : State) (v) : (s.withRegs v).regs = v := rfl
@[simp] theorem State.withRegs_wide (s : State) (v) : (s.withRegs v).wide = s.wide := rfl
@[simp] theorem State.withRegs_latch (s : State) (v) : (s.withRegs v).latch = s.latch := rfl
@[simp] theorem State.withRegs_mem (s : State) (v) : (s.withRegs v).mem = s.mem := rfl
@[simp] theorem State.withRegs_poison (s : State) (v) : (s.withRegs v).poison = s.poison := rfl
@[simp] theorem State.withRegs_pending (s : State) (v) : (s.withRegs v).pending = s.pending := rfl
@[simp] theorem State.withRegs_sent (s : State) (v) : (s.withRegs v).sent = s.sent := rfl
@[simp] theorem State.withRegs_items (s : State) (v) : (s.withRegs v).items = s.items := rfl
@[simp] theorem State.withRegs_modx (s : State) (v) : (s.withRegs v).modx = s.modx := rfl
@[simp] theorem State.withRegs_absent (s : State) (v) : (s.withRegs v).absent = s.absent := rfl
@[simp] theorem rdW_withRegs (s : State) (v) (a : Nat) : rdW (s.withRegs v) a = rdW s a := rfl
@[simp] theorem State.withWide_wide (s : State) (v) : (s.withWide v).wide = v := rfl
@[simp] theorem State.withWide_regs (s : State) (v) : (s.withWide v).regs = s.regs := rfl
@[simp] theorem State.withWide_latch (s : State) (v) : (s.withWide v).latch = s.latch := rfl
@[simp] theorem State.withWide_mem (s : State) (v) : (s.withWide v).mem = s.mem := rfl
@[simp] theorem State.withWide_poison (s : State) (v) : (s.withWide v).poison = s.poison := rfl
@[simp] theorem State.withWide_pending (s : State) (v) : (s.withWide v).pending = s.pending := rfl
@[simp] theorem State.withWide_sent (s : State) (v) : (s.withWide v).sent = s.sent := rfl
@[simp] theorem State.withWide_items (s : State) (v) : (s.withWide v).items = s.items := rfl
@[simp] theorem State.withWide_modx (s : State) (v) : (s.withWide v).modx = s.modx := rfl
@[simp] theorem State.withWide_absent (s : State) (v) : (s.withWide v).absent = s.absent := rfl
@[simp] theorem rd_withWide (s : State) (v) (a : Nat) : rd (s.withWide v) a = rd s a := rfl
@[simp] theorem fget_withWide (s : State) (v) (a lo n : Nat) : fget (s.withWide v) a lo n = fget s a lo n := rfl
@[simp] theorem bit_withWide (s : State) (v) (a i : Nat) : bit (s.withWide v) a i = bit s a i := rfl
@[simp] theorem State.withLatch_latch (s : State) (v) : (s.withLatch v).latch = v := rfl
@[simp] theorem State.withLatch_regs (s : State) (v) : (s.withLatch v).regs = s.regs := rfl
@[simp] theorem State.withLatch_wide (s : State) (v) : (s.withLatch v).wide = s.wide := rfl
@[simp] theorem State.withLatch_mem (s : State) (v) : (s.withLatch v).mem = s.mem := rfl
@[simp] theorem State.withLatch_poison (s : State) (v) : (s.withLatch v).poison = s.poison := rfl
@[simp] theorem State.withLatch_pending (s : State) (v) : (s.withLatch v).pending = s.pending := rfl
@[simp] theorem State.withLatch_sent (s : State) (v) : (s.withLatch v).sent = s.sent := rfl
@[simp] theorem State.withLatch_items (s : State) (v) : (s.withLatch v).items = s.items := rfl
@[simp] theorem State.withLatch_modx (s : State) (v) : (s.withLatch v).modx = s.modx := rfl
@[simp] theorem State.withLatch_absent (s : State) (v) : (s.withLatch v).absent = s.absent := rfl
@[simp] theorem rd_withLatch (s : State) (v) (a : Nat) : rd (s.withLatch v) a = rd s a := rfl
@[simp] theorem fget_withLatch (s : State) (v) (a lo n : Nat) : fget (s.withLatch v) a lo n = fget s a lo n := rfl
@[simp] theorem bit_withLatch (s : State) (v) (a i : Nat) : bit (s.withLatch v) a i = bit s a i := rfl
@[simp] theorem rdW_withLatch (s : State) (v) (a : Nat) : rdW (s.withLatch v) a = rdW s a := rfl
@[simp] theorem State.withMem_mem (s : State) (v) : (s.withMem v).mem = v := rfl
@[simp] theorem State.withMem_regs (s : State) (v) : (s.withMem v).regs = s.regs := rfl
@[simp] theorem State.withMem_wide (s : State) (v) : (s.withMem v).wide = s.wide := rfl
@[simp] theorem State.withMem_latch (s : State) (v) : (s.withMem v).latch = s.latch := rfl
@[simp] theorem State.withMem_poison (s : State) (v) : (s.withMem v).poison = s.poison := rfl
@[simp] theorem State.withMem_pending (s : State) (v) : (s.withMem v).pending = s.pending := rfl
@[simp] theorem State.withMem_sent (s : State) (v) : (s.withMem v).sent = s.sent := rfl
@[simp] theorem State.withMem_items (s : State) (v) : (s.withMem v).items = s.items := rfl
@[simp] theorem State.withMem_modx (s : State) (v) : (s.withMem v).modx = s.modx := rfl
@[simp] theorem State.withMem_absent (s : State) (v) : (s.withMem v).absent = s.absent := rfl
@[simp] theorem rd_withMem (s : State) (v) (a : Nat) : rd (s.withMem v) a = rd s a := rfl
@[simp] theorem fget_withMem (s : State) (v) (a lo n : Nat) : fget (s.withMem v) a lo n = fget s a lo n := rfl
@[simp] theorem bit_withMem (s : State) (v) (a i : Nat) : bit (s.withMem v) a i = bit s a i := rfl
@[simp] theorem rdW_withMem (s : State) (v) (a : Nat) : rdW (s.withMem v) a = rdW s a := rfl
@[simp] theorem State.withPoison_poison (s : State) (v) : (s.withPoison v).poison = v := rfl
@[simp] theorem State.withPoison_regs (s : State) (v) : (s.withPoison v).regs = s.regs := rfl
@[simp] theorem State.withPoison_wide (s : State) (v) : (s.withPoison v).wide = s.wide := rfl
@[simp] theorem State.withPoison_latch (s : State) (v) : (s.withPoison v).latch = s.latch := rfl
@[simp] theorem State.withPoison_mem (s : State) (v) : (s.withPoison v).mem = s.mem := rfl
@[simp] theorem State.withPoison_pending (s : State) (v) : (s.withPoison v).pending = s.pending := rfl
@[simp] theorem State.withPoison_sent (s : State) (v) : (s.withPoison v).sent = s.sent := rfl
@[simp] theorem State.withPoison_items (s : State) (v) : (s.withPoison v).items = s.items := rfl
@[simp] theorem State.withPoison_modx (s : State) (v) : (s.withPoison v).modx = s.modx := rfl
@[simp] theorem State.withPoison_absent (s : State) (v) : (s.withPoison v).absent = s.absent := rfl
@[simp] theorem rd_withPoison (s : State) (v) (a : Nat) : rd (s.withPoison v) a = rd s a := rfl
@[simp] theorem fget_withPoison (s : State) (v) (a lo n : Nat) : fget (s.withPoison v) a lo n = fget s a lo n := rfl
@[simp] theorem bit_withPoison (s : State) (v) (a i : Nat) : bit (s.withPoison v) a i = bit s a i := rfl
@[simp] theorem rdW_withPoison (s : State) (v) (a : Nat) : rdW (s.withPoison v) a = rdW s a := rfl
@[simp] theorem State.withSent_sent (s : State) (v) : (s.withSent v).sent = v := rfl
@[simp] theorem State.withSent_regs (s : State) (v) : (s.withSent v).regs = s.regs := rfl
@[simp] theorem State.withSent_wide (s : State) (v) : (s.withSent v).wide = s.wide := rfl
@[simp] theorem State.withSent_latch (s : State) (v) : (s.withSent v).latch = s.latch := rfl
@[simp] theorem State.withSent_mem (s : State) (v) : (s.withSent v).mem = s.mem := rfl
@[simp] theorem State.withSent_poison (s : State) (v) : (s.withSent v).poison = s.poison := rfl
@[simp] theorem State.withSent_pending (s : State) (v) : (s.withSent v).pending = s.pending := rfl
@[simp] theorem State.withSent_items (s : State) (v) : (s.withSent v).items = s.items := rfl
@[simp] theorem State.withSent_modx (s : State) (v) : (s.withSent v).modx = s.modx := rfl
@[simp] theorem State.withSent_absent (s : State) (v) : (s.withSent v).absent = s.absent := rfl
@[simp] theorem rd_withSent (s : State) (v) (a : Nat) : rd (s.withSent v) a = rd s a := rfl
@[simp] theorem fget_withSent (s : State) (v) (a lo n : Nat) : fget (s.withSent v) a lo n = fget s a lo n := rfl
@[simp] theorem bit_withSent (s : State) (v) (a i : Nat) : bit (s.withSent v) a i = bit s a i := rfl
@[simp] theorem rdW_withSent (s : State) (v) (a : Nat) : rdW (s.withSent v) a = rdW s a := rfl
@[simp] theorem State.withFresh_fresh (s : State) (v) : (s.withFresh v).fresh = v := rfl
@[simp] theorem State.withFresh_regs (s : State) (v) : (s.withFresh v).regs = s.regs := rfl
@[simp] theorem State.withFresh_wide (s : State) (v) : (s.withFresh v).wide = s.wide := rfl
@[simp] theorem State.withFresh_latch (s : State) (v) : (s.withFresh v).latch = s.latch := rfl
@[simp] theorem State.withFresh_mem (s : State) (v) : (s.withFresh v).mem = s.mem := rfl
@[simp] theorem State.withFresh_poison (s : State) (v) : (s.withFresh v).poison = s.poison := rfl
@[simp] theorem State.withFresh_pending (s : State) (v) : (s.withFresh v).pending = s.pending := rfl
@[simp] theorem State.withFresh_sent (s : State) (v) : (s.withFresh v).sent = s.sent := rfl
@[simp] theorem State.withFresh_items (s : State) (v) : (s.withFresh v).items = s.items := rfl
@[simp] theorem State.withFresh_modx (s : State) (v) : (s.withFresh v).modx = s.modx := rfl
@[simp] theorem State.withFresh_absent (s : State) (v) : (s.withFresh v).absent = s.absent := rfl
@[simp] theorem rd_withFresh (s : State) (v) (a : Nat) : rd (s.withFresh v) a = rd s a := rfl
@[simp] theorem fget_withFresh (s : State) (v) (a lo n : Nat) : fget (s.withFresh v) a lo n = fget s a lo n := rfl
@[simp] theorem bit_withFresh (s : State) (v) (a i : Nat) : bit (s.withFresh v) a i = bit s a i := rfl
@[simp] theorem rdW_withFresh (s : State) (v) (a : Nat) : rdW (s.withFresh v) a = rdW s a := rfl
@[simp] theorem State.withPending_pending (s : State) (v) : (s.withPending v).pending = v := rfl
@[simp] theorem State.withPending_regs (s : State) (v) : (s.withPending v).regs = s.regs := rfl
@[simp] theorem State.withPending_wide (s : State) (v) : (s.withPending v).wide = s.wide := rfl
@[simp] theorem State.withPending_latch (s : State) (v) : (s.withPending v).latch = s.latch := rfl
@[simp] theorem State.withPending_mem (s : State) (v) : (s.withPending v).mem = s.mem := rfl
@[simp] theorem State.withPending_poison (s : State) (v) : (s.withPending v).poison = s.poison := rfl
@[simp] theorem State.withPending_sent (s : State) (v) : (s.withPending v).sent = s.sent := rfl
@[simp] theorem State.withPending_items (s : State) (v) : (s.withPending v).items = s.items := rfl
@[simp] theorem State.withPending_modx (s : State) (v) : (s.withPending v).modx = s.modx := rfl
@[simp] theorem State.withPending_absent (s : State) (v) : (s.withPending v).absent = s.absent := rfl
@[simp] theorem rd_withPending (s : State) (v) (a : Nat) : rd (s.withPending v) a = rd s a := rfl
@[simp] theorem fget_withPending (s : State) (v) (a lo n : Nat) : fget (s.withPending v) a lo n = fget s a lo n := rfl
@[simp] theorem bit_withPending (s : State) (v) (a i : Nat) : bit (s.withPending v) a i = bit s a i := rfl
@[simp] theorem rdW_withPending (s : State) (v) (a : Nat) : rdW (s.withPending v) a = rdW s a := rfl
@[simp] theorem State.withAbsent_absent (s : State) (v) : (s.withAbsent v).absent = v := rfl
@[simp] theorem State.withAbsent_regs (s : State) (v) : (s.withAbsent v).regs = s.regs := rfl
@[simp] theorem State.withAbsent_wide (s : State) (v) : (s.withAbsent v).wide = s.wide := rfl
@[simp] theorem State.withAbsent_latch (s : State) (v) : (s.withAbsent v).latch = s.latch := rfl
@[simp] theorem State.withAbsent_mem (s : State) (v) : (s.withAbsent v).mem = s.mem := rfl
@[simp] theorem State.withAbsent_poison (s : State) (v) : (s.withAbsent v).poison = s.poison := rfl
@[simp] theorem State.withAbsent_pending (s : State) (v) : (s.withAbsent v).pending = s.pending := rfl
@[simp] theorem State.withAbsent_sent (s : State) (v) : (s.withAbsent v).sent = s.sent := rfl
@[simp] theorem State.withAbsent_items (s : State) (v) : (s.withAbsent v).items = s.items := rfl
@[simp] theorem State.withAbsent_modx (s : State) (v) : (s.withAbsent v).modx = s.modx := rfl
@[simp] theorem rd_withAbsent (s : State) (v) (a : Nat) : rd (s.withAbsent v) a = rd s a := rfl
@[simp] theorem fget_withAbsent (s : State) (v) (a lo n : Nat) : fget (s.withAbsent v) a lo n = fget s a lo n := rfl
@[simp] theorem bit_withAbsent (s : State) (v) (a i : Nat) : bit (s.withAbsent v) a i = bit s a i := rfl
@[simp] theorem rdW_withAbsent (s : State) (v) (a : Nat) : rdW (s.withAbsent v) a = rdW s a := rfl
@[simp] theorem State.withPllOff_pllOff (s : State) (v) : (s.withPllOff v).pllOff = v := rfl
@[simp] theorem State.withPllOff_regs (s : State) (v) : (s.withPllOff v).regs = s.regs := rfl
@[simp] theorem State.withPllOff_wide (s : State) (v) : (s.withPllOff v).wide = s.wide := rfl
@[simp] theorem State.withPllOff_latch (s : State) (v) : (s.withPllOff v).latch = s.latch := rfl
@[simp] theorem State.withPllOff_mem (s : State) (v) : (s.withPllOff v).mem = s.mem := rfl
@[simp] theorem State.withPllOff_poison (s : State) (v) : (s.withPllOff v).poison = s.poison := rfl
@[simp] theorem State.withPllOff_pending (s : State) (v) : (s.withPllOff v).pending = s.pending := rfl
@[simp] theorem State.withPllOff_sent (s : State) (v) : (s.withPllOff v).sent = s.sent := rfl
@[simp] theorem State.withPllOff_items (s : State) (v) : (s.withPllOff v).items = s.items := rfl
@[simp] theorem State.withPllOff_modx (s : State) (v) : (s.withPllOff v).modx = s.modx := rfl
@[simp] theorem State.withPllOff_absent (s : State) (v) : (s.withPllOff v).absent = s.absent := rfl
@[simp] theorem rd_withPllOff (s : State) (v) (a : Nat) : rd (s.withPllOff v) a = rd s a := rfl
@[simp] theorem fget_withPllOff (s : State) (v) (a lo n : Nat) : fget (s.withPllOff v) a lo n = fget s a lo n := rfl
@[simp] theorem bit_withPllOff (s : State) (v) (a i : Nat) : bit (s.withPllOff v) a i = bit s a i := rfl
@[simp] theorem rdW_withPllOff (s : State) (v) (a : Nat) : rdW (s.withPllOff v) a = rdW s a := rfl
@[simp] theorem State.withSeqs_seqs (s : State) (v) : (s.withSeqs v).seqs = v := rfl
@[simp] theorem State.withSeqs_regs (s : State) (v) : (s.withSeqs v).regs = s.regs := rfl
@[simp] theorem State.withSeqs_wide (s : State) (v) : (s.withSeqs v).wide = s.wide := rfl
@[simp] theorem State.withSeqs_latch (s : State) (v) : (s.withSeqs v).latch = s.latch := rfl
@[simp] theorem State.withSeqs_mem (s : State) (v) : (s.withSeqs v).mem = s.mem := rfl
@[simp] theorem State.withSeqs_poison (s : State) (v) : (s.withSeqs v).poison = s.poison := rfl
@[simp] theorem State.withSeqs_pending (s : State) (v) : (s.withSeqs v).pending = s.pending := rfl
@[simp] theorem State.withSeqs_sent (s : State) (v) : (s.withSeqs v).sent = s.sent := rfl
@[simp] theorem State.withSeqs_items (s : State) (v) : (s.withSeqs v).items = s.items := rfl
@[simp] theorem State.withSeqs_modx (s : State) (v) : (s.withSeqs v).modx = s.modx := rfl
@[simp] theorem State.withSeqs_absent (s : State) (v) : (s.withSeqs v).absent = s.absent := rfl
@[simp] theorem rd_withSeqs (s : State) (v) (a : Nat) : rd (s.withSeqs v) a = rd s a := rfl
@[simp] theorem fget_withSeqs (s : State) (v) (a lo n : Nat) : fget (s.withSeqs v) a lo n = fget s a lo n := rfl
@[simp] theorem bit_withSeqs (s : State) (v) (a i : Nat) : bit (s.withSeqs v) a i = bit s a i := rfl
@[simp] theorem rdW_withSeqs (s : State) (v) (a : Nat) : rdW (s.withSeqs v) a = rdW s a := rfl
@[simp] theorem State.withFring_fring (s : State) (v) : (s.withFring v).fring = v := rfl
@[simp] theorem State.withFring_regs (s : State) (v) : (s.withFring v).regs = s.regs := rfl
@[simp] theorem State.withFring_wide (s : State) (v) : (s.withFring v).wide = s.wide := rfl
@[simp] theorem State.withFring_latch (s : State) (v) : (s.withFring v).latch = s.latch := rfl
@[simp] theorem State.withFring_mem (s : State) (v) : (s.withFring v).mem = s.mem := rfl
@[simp] theorem State.withFring_poison (s : State) (v) : (s.withFring v).poison = s.poison := rfl
@[simp] theorem State.withFring_pending (s : State) (v) : (s.withFring v).pending = s.pending := rfl
@[simp] theorem State.withFring_sent (s : State) (v) : (s.withFring v).sent = s.sent := rfl
@[simp] theorem State.withFring_items (s : State) (v) : (s.withFring v).items = s.items := rfl
@[simp] theorem State.withFring_modx (s : State) (v) : (s.withFring v).modx = s.modx := rfl
@[simp] theorem State.withFring_absent (s : State) (v) : (s.withFring v).absent = s.absent := rfl
@[simp] theorem rd_withFring (s : State) (v) (a : Nat) : rd (s.withFring v) a = rd s a := rfl
@[simp] theorem fget_withFring (s : State) (v) (a lo n : Nat) : fget (s.withFring v) a lo n = fget s a lo n := rfl
@[simp] theorem bit_withFring (s : State) (v) (a i : Nat) : bit (s.withFring v) a i = bit s a i := rfl
@[simp] theorem rdW_withFring (s : State) (v) (a : Nat) : rdW (s.withFring v) a = rdW s a := rfl
@[simp] theorem State.withPolicy_policy (s : State) (v) : (s.withPolicy v).policy = v := rfl
@[simp] theorem State.withPolicy_regs (s : State) (v) : (s.withPolicy v).regs = s.regs := rfl
@[simp] theorem State.withPolicy_wide (s : State) (v) : (s.withPolicy v).wide = s.wide := rfl
@[simp] theorem State.withPolicy_latch (s : State) (v) : (s.withPolicy v).latch = s.latch := rfl
@[simp] theorem State.withPolicy_mem (s : State) (v) : (s.withPolicy v).mem = s.mem := rfl
@[simp] theorem State.withPolicy_poison (s : State) (v) : (s.withPolicy v).poison = s.poison := rfl
@[simp] theorem State.withPolicy_pending (s : State) (v) : (s.withPolicy v).pending = s.pending := rfl
@[simp] theorem State.withPolicy_sent (s : State) (v) : (s.withPolicy v).sent = s.sent := rfl
@[simp] theorem State.withPolicy_items (s : State) (v) : (s.withPolicy v).items = s.items := rfl
@[simp] theorem State.withPolicy_modx (s : State) (v) : (s.withPolicy v).modx = s.modx := rfl
@[simp] theorem State.withPolicy_absent (s : State) (v) : (s.withPolicy v).absent = s.absent := rfl
@[simp] theorem rd_withPolicy (s : State) (v) (a : Nat) : rd (s.withPolicy v) a = rd s a := rfl
@[simp] theorem fget_withPolicy (s : State) (v) (a lo n : Nat) : fget (s.withPolicy v) a lo n = fget s a lo n := rfl
@[simp] theorem bit_withPolicy (s : State) (v) (a i : Nat) : bit (s.withPolicy v) a i = bit s a i := rfl
@[simp] theorem rdW_withPolicy (s : State) (v) (a : Nat) : rdW (s.withPolicy v) a = rdW s a := rfl
@[simp] theorem State.withRecov_recov (s : State) (v) : (s.withRecov v).recov = v := rfl
@[simp] theorem State.withRecov_regs (s : State) (v) : (s.withRecov v).regs = s.regs := rfl
@[simp] theorem State.withRecov_wide (s : State) (v) : (s.withRecov v).wide = s.wide := rfl
@[simp] theorem State.withRecov_latch (s : State) (v) : (s.withRecov v).latch = s.latch := rfl
@[simp] theorem State.withRecov_mem (s : State) (v) : (s.withRecov v).mem = s.mem := rfl
@[simp] theorem State.withRecov_poison (s : State) (v) : (s.withRecov v).poison = s.poison := rfl
@[simp] theorem State.withRecov_pending (s : State) (v) : (s.withRecov v).pending = s.pending := rfl
@[simp] theorem State.withRecov_sent (s : State) (v) : (s.withRecov v).sent = s.sent := rfl
@[simp] theorem State.withRecov_items (s : State) (v) : (s.withRecov v).items = s.items := rfl
@[simp] theorem State.withRecov_modx (s : State) (v) : (s.withRecov v).modx = s.modx := rfl
@[simp] theorem State.withRecov_absent (s : State) (v) : (s.withRecov v).absent = s.absent := rfl
@[simp] theorem rd_withRecov (s : State) (v) (a : Nat) : rd (s.withRecov v) a = rd s a := rfl
@[simp] theorem fget_withRecov (s : State) (v) (a lo n : Nat) : fget (s.withRecov v) a lo n = fget s a lo n := rfl
@[simp] theorem bit_withRecov (s : State) (v) (a i : Nat) : bit (s.withRecov v) a i = bit s a i := rfl
@[simp] theorem rdW_withRecov (s : State) (v) (a : Nat) : rdW (s.withRecov v) a = rdW s a := rfl
@[simp] theorem State.withRecNum_recNum (s : State) (v) : (s.withRecNum v).recNum = v := rfl
@[simp] theorem State.withRecNum_regs (s : State) (v) : (s.withRecNum v).regs = s.regs := rfl
@[simp] theorem State.withRecNum_wide (s : State) (v) : (s.withRecNum v).wide = s.wide := rfl
@[simp] theorem State.withRecNum_latch (s : State) (v) : (s.withRecNum v).latch = s.latch := rfl
@[simp] theorem State.withRecNum_mem (s : State) (v) : (s.withRecNum v).mem = s.mem := rfl
@[simp] theorem State.withRecNum_poison (s : State) (v) : (s.withRecNum v).poison = s.poison := rfl
@[simp] theorem State.withRecNum_pending (s : State) (v) : (s.withRecNum v).pending = s.pending := rfl
@[simp] theorem State.withRecNum_sent (s : State) (v) : (s.withRecNum v).sent = s.sent := rfl
@[simp] theorem State.withRecNum_items (s : State) (v) : (s.withRecNum v).items = s.items := rfl
@[simp] theorem State.withRecNum_modx (s : State) (v) : (s.withRecNum v).modx = s.modx := rfl
@[simp] theorem State.withRecNum_absent (s : State) (v) : (s.withRecNum v).absent = s.absent := rfl
@[simp] theorem rd_withRecNum (s : State) (v) (a : Nat) : rd (s.withRecNum v) a = rd s a := rfl
@[simp] theorem fget_withRecNum (s : State) (v) (a lo n : Nat) : fget (s.withRecNum v) a lo n = fget s a lo n := rfl
@[simp] theorem bit_withRecNum (s : State) (v) (a i : Nat) : bit (s.withRecNum v) a i = bit s a i := rfl
@[simp] theorem rdW_withRecNum (s : State) (v) (a : Nat) : rdW (s.withRecNum v) a = rdW s a := rfl
@[simp] theorem State.withPkgQ_pkgQ (s : State) (v) : (s.withPkgQ v).pkgQ = v := rfl
@[simp] theorem State.withPkgQ_regs (s : State) (v) : (s.withPkgQ v).regs = s.regs := rfl
@[simp] theorem State.withPkgQ_wide (s : State) (v) : (s.withPkgQ v).wide = s.wide := rfl
@[simp] theorem State.withPkgQ_latch (s : State) (v) : (s.withPkgQ v).latch = s.latch := rfl
@[simp] theorem State.withPkgQ_mem (s : State) (v) : (s.withPkgQ v).mem = s.mem := rfl
@[simp] theorem State.withPkgQ_poison (s : State) (v) : (s.withPkgQ v).poison = s.poison := rfl
@[simp] theorem State.withPkgQ_pending (s : State) (v) : (s.withPkgQ v).pending = s.pending := rfl
@[simp] theorem State.withPkgQ_sent (s : State) (v) : (s.withPkgQ v).sent = s.sent := rfl
@[simp] theorem State.withPkgQ_items (s : State) (v) : (s.withPkgQ v).items = s.items := rfl
@[simp] theorem State.withPkgQ_modx (s : State) (v) : (s.withPkgQ v).modx = s.modx := rfl
@[simp] theorem State.withPkgQ_absent (s : State) (v) : (s.withPkgQ v).absent = s.absent := rfl
@[simp] theorem rd_withPkgQ (s : State) (v) (a : Nat) : rd (s.withPkgQ v) a = rd s a := rfl
@[simp] theorem fget_withPkgQ (s : State) (v) (a lo n : Nat) : fget (s.withPkgQ v) a lo n = fget s a lo n := rfl
@[simp] theorem bit_withPkgQ (s : State) (v) (a i : Nat) : bit (s.withPkgQ v) a i = bit s a i := rfl
@[simp] theorem rdW_withPkgQ (s : State) (v) (a : Nat) : rdW (s.withPkgQ v) a = rdW s a := rfl
@[simp] theorem State.withItems_items (s : State) (v) : (s.withItems v).items = v := rfl
@[simp] theorem State.withItems_regs (s : State) (v) : (s.withItems v).regs = s.regs := rfl
@[simp] theorem State.withItems_wide (s : State) (v) : (s.withItems v).wide = s.wide := rfl
@[simp] theorem State.withItems_latch (s : State) (v) : (s.withItems v).latch = s.latch := rfl
@[simp] theorem State.withItems_mem (s : State) (v) : (s.withItems v).mem = s.mem := rfl
@[simp] theorem State.withItems_poison (s : State) (v) : (s.withItems v).poison = s.poison := rfl
@[simp] theorem State.withItems_pending (s : State) (v) : (s.withItems v).pending = s.pending := rfl
@[simp] theorem State.withItems_sent (s : State) (v) : (s.withItems v).sent = s.sent := rfl
@[simp] theorem State.withItems_modx (s : State) (v) : (s.withItems v).modx = s.modx := rfl
@[simp] theorem State.withItems_absent (s : State) (v) : (s.withItems v).absent = s.absent := rfl
@[simp] theorem rd_withItems (s : State) (v) (a : Nat) : rd (s.withItems v) a = rd s a := rfl
@[simp] theorem fget_withItems (s : State) (v) (a lo n : Nat) : fget (s.withItems v) a lo n = fget s a lo n := rfl
@[simp] theorem bit_withItems (s : State) (v) (a i : Nat) : bit (s.withItems v) a i = bit s a i := rfl
@[simp] theorem rdW_withItems (s : State) (v) (a : Nat) : rdW (s.withItems v) a = rdW s a := rfl
@[simp] theorem State.withRingx_ringx (s : State) (v) : (s.withRingx v).ringx = v := rfl
@[simp] theorem State.withRingx_regs (s : State) (v) : (s.withRingx v).regs = s.regs := rfl
@[simp] theorem State.withRingx_wide (s : State) (v) : (s.withRingx v).wide = s.wide := rfl
@[simp] theorem State.withRingx_latch (s : State) (v) : (s.withRingx v).latch = s.latch := rfl
@[simp] theorem State.withRingx_mem (s : State) (v) : (s.withRingx v).mem = s.mem := rfl
@[simp] theorem State.withRingx_poison (s : State) (v) : (s.withRingx v).poison = s.poison := rfl
@[simp] theorem State.withRingx_pending (s : State) (v) : (s.withRingx v).pending = s.pending := rfl
@[simp] theorem State.withRingx_sent (s : State) (v) : (s.withRingx v).sent = s.sent := rfl
@[simp] theorem State.withRingx_items (s : State) (v) : (s.withRingx v).items = s.items := rfl
@[simp] theorem State.withRingx_modx (s : State) (v) : (s.withRingx v).modx = s.modx := rfl
@[simp] theorem State.withRingx_absent (s : State) (v) : (s.withRingx v).absent = s.absent := rfl
@[simp] theorem rd_withRingx (s : State) (v) (a : Nat) : rd (s.withRingx v) a = rd s a := rfl
@[simp] theorem fget_withRingx (s : State) (v) (a lo n : Nat) : fget (s.withRingx v) a lo n = fget s a lo n := rfl
@[simp] theorem bit_withRingx (s : State) (v) (a i : Nat) : bit (s.withRingx v) a i = bit s a i := rfl
@[simp] theorem rdW_withRingx (s : State) (v) (a : Nat) : rdW (s.withRingx v) a = rdW s a := rfl
@[simp] theorem State.withServed_served (s : State) (v) : (s.withServed v).served = v := rfl
@[simp] theorem State.withServed_regs (s : State) (v) : (s.withServed v).regs = s.regs := rfl
@[simp] theorem State.withServed_wide (s : State) (v) : (s.withServed v).wide = s.wide := rfl
@[simp] theorem State.withServed_latch (s : State) (v) : (s.withServed v).latch = s.latch := rfl
@[simp] theorem State.withServed_mem (s : State) (v) : (s.withServed v).mem = s.mem := rfl
@[simp] theorem State.withServed_poison (s : State) (v) : (s.withServed v).poison = s.poison := rfl
@[simp] theorem State.withServed_pending (s : State) (v) : (s.withServed v).pending = s.pending := rfl
@[simp] theorem State.withServed_sent (s : State) (v) : (s.withServed v).sent = s.sent := rfl
@[simp] theorem State.withServed_items (s : State) (v) : (s.withServed v).items = s.items := rfl
@[simp] theorem State.withServed_modx (s : State) (v) : (s.withServed v).modx = s.modx := rfl
@[simp] theorem State.withServed_absent (s : State) (v) : (s.withServed v).absent = s.absent := rfl
@[simp] theorem rd_withServed (s : State) (v) (a : Nat) : rd (s.withServed v) a = rd s a := rfl
@[simp] theorem fget_withServed (s : State) (v) (a lo n : Nat) : fget (s.withServed v) a lo n = fget s a lo n := rfl
@[simp] theorem bit_withServed (s : State) (v) (a i : Nat) : bit (s.withServed v) a i = bit s a i := rfl
@[simp] theorem rdW_withServed (s : State) (v) (a : Nat) : rdW (s.withServed v) a = rdW s a := rfl
@[simp] theorem State.withXlt_xlt (s : State) (v) : (s.withXlt v).xlt = v := rfl
@[simp] theorem State.withXlt_regs (s : State) (v) : (s.withXlt v).regs = s.regs := rfl
@[simp] theorem State.withXlt_wide (s : State) (v) : (s.withXlt v).wide = s.wide := rfl
@[simp] theorem State.withXlt_latch (s : State) (v) : (s.withXlt v).latch = s.latch := rfl
@[simp] theorem State.withXlt_mem (s : State) (v) : (s.withXlt v).mem = s.mem := rfl
@[simp] theorem State.withXlt_poison (s : State) (v) : (s.withXlt v).poison = s.poison := rfl
@[simp] theorem State.withXlt_pending (s : State) (v) : (s.withXlt v).pending = s.pending := rfl
@[simp] theorem State.withXlt_sent (s : State) (v) : (s.withXlt v).sent = s.sent := rfl
@[simp] theorem State.withXlt_items (s : State) (v) : (s.withXlt v).items = s.items := rfl
@[simp] theorem State.withXlt_modx (s : State) (v) : (s.withXlt v).modx = s.modx := rfl
@[simp] theorem State.withXlt_absent (s : State) (v) : (s.withXlt v).absent = s.absent := rfl
@[simp] theorem rd_withXlt (s : State) (v) (a : Nat) : rd (s.withXlt v) a = rd s a := rfl
@[simp] theorem fget_withXlt (s : State) (v) (a lo n : Nat) : fget (s.withXlt v) a lo n = fget s a lo n := rfl
@[simp] theorem bit_withXlt (s : State) (v) (a i : Nat) : bit (s.withXlt v) a i = bit s a i := rfl
@[simp] theorem rdW_withXlt (s : State) (v) (a : Nat) : rdW (s.withXlt v) a = rdW s a := rfl
@[simp] theorem State.withCfg_cfg (s : State) (v) : (s.withCfg v).cfg = v := rfl
@[simp] theorem State.withCfg_regs (s : State) (v) : (s.withCfg v).regs = s.regs := rfl
@[simp] theorem State.withCfg_wide (s : State) (v) : (s.withCfg v).wide = s.wide := rfl
@[simp] theorem State.withCfg_latch (s : State) (v) : (s.withCfg v).latch = s.latch := rfl
@[simp] theorem State.withCfg_mem (s : State) (v) : (s.withCfg v).mem = s.mem := rfl
@[simp] theorem State.withCfg_poison (s : State) (v) : (s.withCfg v).poison = s.poison := rfl
@[simp] theorem State.withCfg_pending (s : State) (v) : (s.withCfg v).pending = s.pending := rfl
@[simp] theorem State.withCfg_sent (s : State) (v) : (s.withCfg v).sent = s.sent := rfl
@[simp] theorem State.withCfg_items (s : State) (v) : (s.withCfg v).items = s.items := rfl
@[simp] theorem State.withCfg_modx (s : State) (v) : (s.withCfg v).modx = s.modx := rfl
@[simp] theorem State.withCfg_absent (s : State) (v) : (s.withCfg v).absent = s.absent := rfl
@[simp] theorem rd_withCfg (s : State) (v) (a : Nat) : rd (s.withCfg v) a = rd s a := rfl
@[simp] theorem fget_withCfg (s : State) (v) (a lo n : Nat) : fget (s.withCfg v) a lo n = fget s a lo n := rfl
@[simp] theorem bit_withCfg (s : State) (v) (a i : Nat) : bit (s.withCfg v) a i = bit s a i := rfl
@[simp] theorem rdW_withCfg (s : State) (v) (a : Nat) : rdW (s.withCfg v) a = rdW s a := rfl
@[simp] theorem State.withFlash_flash (s : State) (v) : (s.withFlash v).flash = v := rfl
@[simp] theorem State.withFlash_regs (s : State) (v) : (s.withFlash v).regs = s.regs := rfl
@[simp] theorem State.withFlash_wide (s : State) (v) : (s.withFlash v).wide = s.wide := rfl
@[simp] theorem State.withFlash_latch (s : State) (v) : (s.withFlash v).latch = s.latch := rfl
@[simp] theorem State.withFlash_mem (s : State) (v) : (s.withFlash v).mem = s.mem := rfl
@[simp] theorem State.withFlash_poison (s : State) (v) : (s.withFlash v).poison = s.poison := rfl
@[simp] theorem State.withFlash_pending (s : State) (v) : (s.withFlash v).pending = s.pending := rfl
@[simp] theorem State.withFlash_sent (s : State) (v) : (s.withFlash v).sent = s.sent := rfl
@[simp] theorem State.withFlash_items (s : State) (v) : (s.withFlash v).items = s.items := rfl
@[simp] theorem State.withFlash_modx (s : State) (v) : (s.withFlash v).modx = s.modx := rfl
@[simp] theorem State.withFlash_absent (s : State) (v) : (s.withFlash v).absent = s.absent := rfl
@[simp] theorem rd_withFlash (s : State) (v) (a : Nat) : rd (s.withFlash v) a = rd s a := rfl
@[simp] theorem fget_withFlash (s : State) (v) (a lo n : Nat) : fget (s.withFlash v) a lo n = fget s a lo n := rfl
@[simp] theorem bit_withFlash (s : State) (v) (a i : Nat) : bit (s.withFlash v) a i = bit s a i := rfl
@[simp] theorem rdW_withFlash (s : State) (v) (a : Nat) : rdW (s.withFlash v) a = rdW s a := rfl
@[simp] theorem State.withUpdate_update (s : State) (v) : (s.withUpdate v).update = v := rfl
@[simp] theorem State.withUpdate_regs (s : State) (v) : (s.withUpdate v).regs = s.regs := rfl
@[simp] theorem State.withUpdate_wide (s : State) (v) : (s.withUpdate v).wide = s.wide := rfl
@[simp] theorem State.withUpdate_latch (s : State) (v) : (s.withUpdate v).latch = s.latch := rfl
@[simp] theorem State.withUpdate_mem (s : State) (v) : (s.withUpdate v).mem = s.mem := rfl
@[simp] theorem State.withUpdate_poison (s : State) (v) : (s.withUpdate v).poison = s.poison := rfl
@[simp] theorem State.withUpdate_pending (s : State) (v) : (s.withUpdate v).pending = s.pending := rfl
@[simp] theorem State.withUpdate_sent (s : State) (v) : (s.withUpdate v).sent = s.sent := rfl
@[simp] theorem State.withUpdate_items (s : State) (v) : (s.withUpdate v).items = s.items := rfl
@[simp] theorem State.withUpdate_modx (s : State) (v) : (s.withUpdate v).modx = s.modx := rfl
@[simp] theorem State.withUpdate_absent (s : State) (v) : (s.withUpdate v).absent = s.absent := rfl
@[simp] theorem rd_withUpdate (s : State) (v) (a : Nat) : rd (s.withUpdate v) a = rd s a := rfl
@[simp] theorem fget_withUpdate (s : State) (v) (a lo n : Nat) : fget (s.withUpdate v) a lo n = fget s a lo n := rfl
@[simp] theorem bit_withUpdate (s : State) (v) (a i : Nat) : bit (s.withUpdate v) a i = bit s a i := rfl
@[simp] theorem rdW_withUpdate (s : State) (v) (a : Nat) : rdW (s.withUpdate v) a = rdW s a := rfl
@[simp] theorem State.withJournals_journals (s : State) (v) : (s.withJournals v).journals = v := rfl
@[simp] theorem State.withJournals_regs (s : State) (v) : (s.withJournals v).regs = s.regs := rfl
@[simp] theorem State.withJournals_wide (s : State) (v) : (s.withJournals v).wide = s.wide := rfl
@[simp] theorem State.withJournals_latch (s : State) (v) : (s.withJournals v).latch = s.latch := rfl
@[simp] theorem State.withJournals_mem (s : State) (v) : (s.withJournals v).mem = s.mem := rfl
@[simp] theorem State.withJournals_poison (s : State) (v) : (s.withJournals v).poison = s.poison := rfl
@[simp] theorem State.withJournals_pending (s : State) (v) : (s.withJournals v).pending = s.pending := rfl
@[simp] theorem State.withJournals_sent (s : State) (v) : (s.withJournals v).sent = s.sent := rfl
@[simp] theorem State.withJournals_items (s : State) (v) : (s.withJournals v).items = s.items := rfl
@[simp] theorem State.withJournals_modx (s : State) (v) : (s.withJournals v).modx = s.modx := rfl
@[simp] theorem State.withJournals_absent (s : State) (v) : (s.withJournals v).absent = s.absent := rfl
@[simp] theorem rd_withJournals (s : State) (v) (a : Nat) : rd (s.withJournals v) a = rd s a := rfl
@[simp] theorem fget_withJournals (s : State) (v) (a lo n : Nat) : fget (s.withJournals v) a lo n = fget s a lo n := rfl
@[simp] theorem bit_withJournals (s : State) (v) (a i : Nat) : bit (s.withJournals v) a i = bit s a i := rfl
@[simp] theorem rdW_withJournals (s : State) (v) (a : Nat) : rdW (s.withJournals v) a = rdW s a := rfl
@[simp] theorem State.withSigned_signed (s : State) (v) : (s.withSigned v).signed = v := rfl
@[simp] theorem State.withSigned_regs (s : State) (v) : (s.withSigned v).regs = s.regs := rfl
@[simp] theorem State.withSigned_wide (s : State) (v) : (s.withSigned v).wide = s.wide := rfl
@[simp] theorem State.withSigned_latch (s : State) (v) : (s.withSigned v).latch = s.latch := rfl
@[simp] theorem State.withSigned_mem (s : State) (v) : (s.withSigned v).mem = s.mem := rfl
@[simp] theorem State.withSigned_poison (s : State) (v) : (s.withSigned v).poison = s.poison := rfl
@[simp] theorem State.withSigned_pending (s : State) (v) : (s.withSigned v).pending = s.pending := rfl
@[simp] theorem State.withSigned_sent (s : State) (v) : (s.withSigned v).sent = s.sent := rfl
@[simp] theorem State.withSigned_items (s : State) (v) : (s.withSigned v).items = s.items := rfl
@[simp] theorem State.withSigned_modx (s : State) (v) : (s.withSigned v).modx = s.modx := rfl
@[simp] theorem State.withSigned_absent (s : State) (v) : (s.withSigned v).absent = s.absent := rfl
@[simp] theorem rd_withSigned (s : State) (v) (a : Nat) : rd (s.withSigned v) a = rd s a := rfl
@[simp] theorem fget_withSigned (s : State) (v) (a lo n : Nat) : fget (s.withSigned v) a lo n = fget s a lo n := rfl
@[simp] theorem bit_withSigned (s : State) (v) (a i : Nat) : bit (s.withSigned v) a i = bit s a i := rfl
@[simp] theorem rdW_withSigned (s : State) (v) (a : Nat) : rdW (s.withSigned v) a = rdW s a := rfl
@[simp] theorem State.withModx_modx (s : State) (v) : (s.withModx v).modx = v := rfl
@[simp] theorem State.withModx_regs (s : State) (v) : (s.withModx v).regs = s.regs := rfl
@[simp] theorem State.withModx_wide (s : State) (v) : (s.withModx v).wide = s.wide := rfl
@[simp] theorem State.withModx_latch (s : State) (v) : (s.withModx v).latch = s.latch := rfl
@[simp] theorem State.withModx_mem (s : State) (v) : (s.withModx v).mem = s.mem := rfl
@[simp] theorem State.withModx_poison (s : State) (v) : (s.withModx v).poison = s.poison := rfl
@[simp] theorem State.withModx_pending (s : State) (v) : (s.withModx v).pending = s.pending := rfl
@[simp] theorem State.withModx_sent (s : State) (v) : (s.withModx v).sent = s.sent := rfl
@[simp] theorem State.withModx_items (s : State) (v) : (s.withModx v).items = s.items := rfl
@[simp] theorem State.withModx_absent (s : State) (v) : (s.withModx v).absent = s.absent := rfl
@[simp] theorem rd_withModx (s : State) (v) (a : Nat) : rd (s.withModx v) a = rd s a := rfl
@[simp] theorem fget_withModx (s : State) (v) (a lo n : Nat) : fget (s.withModx v) a lo n = fget s a lo n := rfl
@[simp] theorem bit_withModx (s : State) (v) (a i : Nat) : bit (s.withModx v) a i = bit s a i := rfl
@[simp] theorem rdW_withModx (s : State) (v) (a : Nat) : rdW (s.withModx v) a = rdW s a := rfl
@[simp] theorem State.withLedger_ledger (s : State) (v) : (s.withLedger v).ledger = v := rfl
@[simp] theorem State.withLedger_regs (s : State) (v) : (s.withLedger v).regs = s.regs := rfl
@[simp] theorem State.withLedger_wide (s : State) (v) : (s.withLedger v).wide = s.wide := rfl
@[simp] theorem State.withLedger_latch (s : State) (v) : (s.withLedger v).latch = s.latch := rfl
@[simp] theorem State.withLedger_mem (s : State) (v) : (s.withLedger v).mem = s.mem := rfl
@[simp] theorem State.withLedger_poison (s : State) (v) : (s.withLedger v).poison = s.poison := rfl
@[simp] theorem State.withLedger_pending (s : State) (v) : (s.withLedger v).pending = s.pending := rfl
@[simp] theorem State.withLedger_sent (s : State) (v) : (s.withLedger v).sent = s.sent := rfl
@[simp] theorem State.withLedger_items (s : State) (v) : (s.withLedger v).items = s.items := rfl
@[simp] theorem State.withLedger_modx (s : State) (v) : (s.withLedger v).modx = s.modx := rfl
@[simp] theorem State.withLedger_absent (s : State) (v) : (s.withLedger v).absent = s.absent := rfl
@[simp] theorem rd_withLedger (s : State) (v) (a : Nat) : rd (s.withLedger v) a = rd s a := rfl
@[simp] theorem fget_withLedger (s : State) (v) (a lo n : Nat) : fget (s.withLedger v) a lo n = fget s a lo n := rfl
@[simp] theorem bit_withLedger (s : State) (v) (a i : Nat) : bit (s.withLedger v) a i = bit s a i := rfl
@[simp] theorem rdW_withLedger (s : State) (v) (a : Nat) : rdW (s.withLedger v) a = rdW s a := rfl
@[simp] theorem State.withHup_hup (s : State) (v) : (s.withHup v).hup = v := rfl
@[simp] theorem State.withHup_regs (s : State) (v) : (s.withHup v).regs = s.regs := rfl
@[simp] theorem State.withHup_wide (s : State) (v) : (s.withHup v).wide = s.wide := rfl
@[simp] theorem State.withHup_latch (s : State) (v) : (s.withHup v).latch = s.latch := rfl
@[simp] theorem State.withHup_mem (s : State) (v) : (s.withHup v).mem = s.mem := rfl
@[simp] theorem State.withHup_poison (s : State) (v) : (s.withHup v).poison = s.poison := rfl
@[simp] theorem State.withHup_pending (s : State) (v) : (s.withHup v).pending = s.pending := rfl
@[simp] theorem State.withHup_sent (s : State) (v) : (s.withHup v).sent = s.sent := rfl
@[simp] theorem State.withHup_items (s : State) (v) : (s.withHup v).items = s.items := rfl
@[simp] theorem State.withHup_modx (s : State) (v) : (s.withHup v).modx = s.modx := rfl
@[simp] theorem State.withHup_absent (s : State) (v) : (s.withHup v).absent = s.absent := rfl
@[simp] theorem rd_withHup (s : State) (v) (a : Nat) : rd (s.withHup v) a = rd s a := rfl
@[simp] theorem fget_withHup (s : State) (v) (a lo n : Nat) : fget (s.withHup v) a lo n = fget s a lo n := rfl
@[simp] theorem bit_withHup (s : State) (v) (a i : Nat) : bit (s.withHup v) a i = bit s a i := rfl
@[simp] theorem rdW_withHup (s : State) (v) (a : Nat) : rdW (s.withHup v) a = rdW s a := rfl
@[simp] theorem State.withResetQ_resetQ (s : State) (v) : (s.withResetQ v).resetQ = v := rfl
@[simp] theorem State.withResetQ_regs (s : State) (v) : (s.withResetQ v).regs = s.regs := rfl
@[simp] theorem State.withResetQ_wide (s : State) (v) : (s.withResetQ v).wide = s.wide := rfl
@[simp] theorem State.withResetQ_latch (s : State) (v) : (s.withResetQ v).latch = s.latch := rfl
@[simp] theorem State.withResetQ_mem (s : State) (v) : (s.withResetQ v).mem = s.mem := rfl
@[simp] theorem State.withResetQ_poison (s : State) (v) : (s.withResetQ v).poison = s.poison := rfl
@[simp] theorem State.withResetQ_pending (s : State) (v) : (s.withResetQ v).pending = s.pending := rfl
@[simp] theorem State.withResetQ_sent (s : State) (v) : (s.withResetQ v).sent = s.sent := rfl
@[simp] theorem State.withResetQ_items (s : State) (v) : (s.withResetQ v).items = s.items := rfl
@[simp] theorem State.withResetQ_modx (s : State) (v) : (s.withResetQ v).modx = s.modx := rfl
@[simp] theorem State.withResetQ_absent (s : State) (v) : (s.withResetQ v).absent = s.absent := rfl
@[simp] theorem rd_withResetQ (s : State) (v) (a : Nat) : rd (s.withResetQ v) a = rd s a := rfl
@[simp] theorem fget_withResetQ (s : State) (v) (a lo n : Nat) : fget (s.withResetQ v) a lo n = fget s a lo n := rfl
@[simp] theorem bit_withResetQ (s : State) (v) (a i : Nat) : bit (s.withResetQ v) a i = bit s a i := rfl
@[simp] theorem rdW_withResetQ (s : State) (v) (a : Nat) : rdW (s.withResetQ v) a = rdW s a := rfl
@[simp] theorem State.withCopies_copies (s : State) (v) : (s.withCopies v).copies = v := rfl
@[simp] theorem State.withCopies_regs (s : State) (v) : (s.withCopies v).regs = s.regs := rfl
@[simp] theorem State.withCopies_wide (s : State) (v) : (s.withCopies v).wide = s.wide := rfl
@[simp] theorem State.withCopies_latch (s : State) (v) : (s.withCopies v).latch = s.latch := rfl
@[simp] theorem State.withCopies_mem (s : State) (v) : (s.withCopies v).mem = s.mem := rfl
@[simp] theorem State.withCopies_poison (s : State) (v) : (s.withCopies v).poison = s.poison := rfl
@[simp] theorem State.withCopies_pending (s : State) (v) : (s.withCopies v).pending = s.pending := rfl
@[simp] theorem State.withCopies_sent (s : State) (v) : (s.withCopies v).sent = s.sent := rfl
@[simp] theorem State.withCopies_items (s : State) (v) : (s.withCopies v).items = s.items := rfl
@[simp] theorem State.withCopies_modx (s : State) (v) : (s.withCopies v).modx = s.modx := rfl
@[simp] theorem State.withCopies_absent (s : State) (v) : (s.withCopies v).absent = s.absent := rfl
@[simp] theorem rd_withCopies (s : State) (v) (a : Nat) : rd (s.withCopies v) a = rd s a := rfl
@[simp] theorem fget_withCopies (s : State) (v) (a lo n : Nat) : fget (s.withCopies v) a lo n = fget s a lo n := rfl
@[simp] theorem bit_withCopies (s : State) (v) (a i : Nat) : bit (s.withCopies v) a i = bit s a i := rfl
@[simp] theorem rdW_withCopies (s : State) (v) (a : Nat) : rdW (s.withCopies v) a = rdW s a := rfl
@[simp] theorem State.withHold_hold (s : State) (v) : (s.withHold v).hold = v := rfl
@[simp] theorem State.withHold_regs (s : State) (v) : (s.withHold v).regs = s.regs := rfl
@[simp] theorem State.withHold_wide (s : State) (v) : (s.withHold v).wide = s.wide := rfl
@[simp] theorem State.withHold_latch (s : State) (v) : (s.withHold v).latch = s.latch := rfl
@[simp] theorem State.withHold_mem (s : State) (v) : (s.withHold v).mem = s.mem := rfl
@[simp] theorem State.withHold_poison (s : State) (v) : (s.withHold v).poison = s.poison := rfl
@[simp] theorem State.withHold_pending (s : State) (v) : (s.withHold v).pending = s.pending := rfl
@[simp] theorem State.withHold_sent (s : State) (v) : (s.withHold v).sent = s.sent := rfl
@[simp] theorem State.withHold_items (s : State) (v) : (s.withHold v).items = s.items := rfl
@[simp] theorem State.withHold_modx (s : State) (v) : (s.withHold v).modx = s.modx := rfl
@[simp] theorem State.withHold_absent (s : State) (v) : (s.withHold v).absent = s.absent := rfl
@[simp] theorem rd_withHold (s : State) (v) (a : Nat) : rd (s.withHold v) a = rd s a := rfl
@[simp] theorem fget_withHold (s : State) (v) (a lo n : Nat) : fget (s.withHold v) a lo n = fget s a lo n := rfl
@[simp] theorem bit_withHold (s : State) (v) (a i : Nat) : bit (s.withHold v) a i = bit s a i := rfl
@[simp] theorem rdW_withHold (s : State) (v) (a : Nat) : rdW (s.withHold v) a = rdW s a := rfl
@[simp] theorem State.withHostx_hostx (s : State) (v) : (s.withHostx v).hostx = v := rfl
@[simp] theorem State.withHostx_regs (s : State) (v) : (s.withHostx v).regs = s.regs := rfl
@[simp] theorem State.withHostx_wide (s : State) (v) : (s.withHostx v).wide = s.wide := rfl
@[simp] theorem State.withHostx_latch (s : State) (v) : (s.withHostx v).latch = s.latch := rfl
@[simp] theorem State.withHostx_mem (s : State) (v) : (s.withHostx v).mem = s.mem := rfl
@[simp] theorem State.withHostx_poison (s : State) (v) : (s.withHostx v).poison = s.poison := rfl
@[simp] theorem State.withHostx_pending (s : State) (v) : (s.withHostx v).pending = s.pending := rfl
@[simp] theorem State.withHostx_sent (s : State) (v) : (s.withHostx v).sent = s.sent := rfl
@[simp] theorem State.withHostx_items (s : State) (v) : (s.withHostx v).items = s.items := rfl
@[simp] theorem State.withHostx_modx (s : State) (v) : (s.withHostx v).modx = s.modx := rfl
@[simp] theorem State.withHostx_absent (s : State) (v) : (s.withHostx v).absent = s.absent := rfl
@[simp] theorem rd_withHostx (s : State) (v) (a : Nat) : rd (s.withHostx v) a = rd s a := rfl
@[simp] theorem fget_withHostx (s : State) (v) (a lo n : Nat) : fget (s.withHostx v) a lo n = fget s a lo n := rfl
@[simp] theorem bit_withHostx (s : State) (v) (a i : Nat) : bit (s.withHostx v) a i = bit s a i := rfl
@[simp] theorem rdW_withHostx (s : State) (v) (a : Nat) : rdW (s.withHostx v) a = rdW s a := rfl
@[simp] theorem State.withL2busy_l2busy (s : State) (v) : (s.withL2busy v).l2busy = v := rfl
@[simp] theorem State.withL2busy_regs (s : State) (v) : (s.withL2busy v).regs = s.regs := rfl
@[simp] theorem State.withL2busy_wide (s : State) (v) : (s.withL2busy v).wide = s.wide := rfl
@[simp] theorem State.withL2busy_latch (s : State) (v) : (s.withL2busy v).latch = s.latch := rfl
@[simp] theorem State.withL2busy_mem (s : State) (v) : (s.withL2busy v).mem = s.mem := rfl
@[simp] theorem State.withL2busy_poison (s : State) (v) : (s.withL2busy v).poison = s.poison := rfl
@[simp] theorem State.withL2busy_pending (s : State) (v) : (s.withL2busy v).pending = s.pending := rfl
@[simp] theorem State.withL2busy_sent (s : State) (v) : (s.withL2busy v).sent = s.sent := rfl
@[simp] theorem State.withL2busy_items (s : State) (v) : (s.withL2busy v).items = s.items := rfl
@[simp] theorem State.withL2busy_modx (s : State) (v) : (s.withL2busy v).modx = s.modx := rfl
@[simp] theorem State.withL2busy_absent (s : State) (v) : (s.withL2busy v).absent = s.absent := rfl
@[simp] theorem rd_withL2busy (s : State) (v) (a : Nat) : rd (s.withL2busy v) a = rd s a := rfl
@[simp] theorem fget_withL2busy (s : State) (v) (a lo n : Nat) : fget (s.withL2busy v) a lo n = fget s a lo n := rfl
@[simp] theorem bit_withL2busy (s : State) (v) (a i : Nat) : bit (s.withL2busy v) a i = bit s a i := rfl
@[simp] theorem rdW_withL2busy (s : State) (v) (a : Nat) : rdW (s.withL2busy v) a = rdW s a := rfl
@[simp] theorem State.withDir_dir (s : State) (v) : (s.withDir v).dir = v := rfl
@[simp] theorem State.withDir_regs (s : State) (v) : (s.withDir v).regs = s.regs := rfl
@[simp] theorem State.withDir_wide (s : State) (v) : (s.withDir v).wide = s.wide := rfl
@[simp] theorem State.withDir_latch (s : State) (v) : (s.withDir v).latch = s.latch := rfl
@[simp] theorem State.withDir_mem (s : State) (v) : (s.withDir v).mem = s.mem := rfl
@[simp] theorem State.withDir_poison (s : State) (v) : (s.withDir v).poison = s.poison := rfl
@[simp] theorem State.withDir_pending (s : State) (v) : (s.withDir v).pending = s.pending := rfl
@[simp] theorem State.withDir_sent (s : State) (v) : (s.withDir v).sent = s.sent := rfl
@[simp] theorem State.withDir_items (s : State) (v) : (s.withDir v).items = s.items := rfl
@[simp] theorem State.withDir_modx (s : State) (v) : (s.withDir v).modx = s.modx := rfl
@[simp] theorem State.withDir_absent (s : State) (v) : (s.withDir v).absent = s.absent := rfl
@[simp] theorem rd_withDir (s : State) (v) (a : Nat) : rd (s.withDir v) a = rd s a := rfl
@[simp] theorem fget_withDir (s : State) (v) (a lo n : Nat) : fget (s.withDir v) a lo n = fget s a lo n := rfl
@[simp] theorem bit_withDir (s : State) (v) (a i : Nat) : bit (s.withDir v) a i = bit s a i := rfl
@[simp] theorem rdW_withDir (s : State) (v) (a : Nat) : rdW (s.withDir v) a = rdW s a := rfl
@[simp] theorem State.withHealth_health (s : State) (v) : (s.withHealth v).health = v := rfl
@[simp] theorem State.withHealth_regs (s : State) (v) : (s.withHealth v).regs = s.regs := rfl
@[simp] theorem State.withHealth_wide (s : State) (v) : (s.withHealth v).wide = s.wide := rfl
@[simp] theorem State.withHealth_latch (s : State) (v) : (s.withHealth v).latch = s.latch := rfl
@[simp] theorem State.withHealth_mem (s : State) (v) : (s.withHealth v).mem = s.mem := rfl
@[simp] theorem State.withHealth_poison (s : State) (v) : (s.withHealth v).poison = s.poison := rfl
@[simp] theorem State.withHealth_pending (s : State) (v) : (s.withHealth v).pending = s.pending := rfl
@[simp] theorem State.withHealth_sent (s : State) (v) : (s.withHealth v).sent = s.sent := rfl
@[simp] theorem State.withHealth_items (s : State) (v) : (s.withHealth v).items = s.items := rfl
@[simp] theorem State.withHealth_modx (s : State) (v) : (s.withHealth v).modx = s.modx := rfl
@[simp] theorem State.withHealth_absent (s : State) (v) : (s.withHealth v).absent = s.absent := rfl
@[simp] theorem rd_withHealth (s : State) (v) (a : Nat) : rd (s.withHealth v) a = rd s a := rfl
@[simp] theorem fget_withHealth (s : State) (v) (a lo n : Nat) : fget (s.withHealth v) a lo n = fget s a lo n := rfl
@[simp] theorem bit_withHealth (s : State) (v) (a i : Nat) : bit (s.withHealth v) a i = bit s a i := rfl
@[simp] theorem rdW_withHealth (s : State) (v) (a : Nat) : rdW (s.withHealth v) a = rdW s a := rfl
@[simp] theorem State.withCtxx_ctxx (s : State) (v) : (s.withCtxx v).ctxx = v := rfl
@[simp] theorem State.withCtxx_regs (s : State) (v) : (s.withCtxx v).regs = s.regs := rfl
@[simp] theorem State.withCtxx_wide (s : State) (v) : (s.withCtxx v).wide = s.wide := rfl
@[simp] theorem State.withCtxx_latch (s : State) (v) : (s.withCtxx v).latch = s.latch := rfl
@[simp] theorem State.withCtxx_mem (s : State) (v) : (s.withCtxx v).mem = s.mem := rfl
@[simp] theorem State.withCtxx_poison (s : State) (v) : (s.withCtxx v).poison = s.poison := rfl
@[simp] theorem State.withCtxx_pending (s : State) (v) : (s.withCtxx v).pending = s.pending := rfl
@[simp] theorem State.withCtxx_sent (s : State) (v) : (s.withCtxx v).sent = s.sent := rfl
@[simp] theorem State.withCtxx_items (s : State) (v) : (s.withCtxx v).items = s.items := rfl
@[simp] theorem State.withCtxx_modx (s : State) (v) : (s.withCtxx v).modx = s.modx := rfl
@[simp] theorem State.withCtxx_absent (s : State) (v) : (s.withCtxx v).absent = s.absent := rfl
@[simp] theorem rd_withCtxx (s : State) (v) (a : Nat) : rd (s.withCtxx v) a = rd s a := rfl
@[simp] theorem fget_withCtxx (s : State) (v) (a lo n : Nat) : fget (s.withCtxx v) a lo n = fget s a lo n := rfl
@[simp] theorem bit_withCtxx (s : State) (v) (a i : Nat) : bit (s.withCtxx v) a i = bit s a i := rfl
@[simp] theorem rdW_withCtxx (s : State) (v) (a : Nat) : rdW (s.withCtxx v) a = rdW s a := rfl
@[simp] theorem State.withBtest_btest (s : State) (v) : (s.withBtest v).btest = v := rfl
@[simp] theorem State.withBtest_regs (s : State) (v) : (s.withBtest v).regs = s.regs := rfl
@[simp] theorem State.withBtest_wide (s : State) (v) : (s.withBtest v).wide = s.wide := rfl
@[simp] theorem State.withBtest_latch (s : State) (v) : (s.withBtest v).latch = s.latch := rfl
@[simp] theorem State.withBtest_mem (s : State) (v) : (s.withBtest v).mem = s.mem := rfl
@[simp] theorem State.withBtest_poison (s : State) (v) : (s.withBtest v).poison = s.poison := rfl
@[simp] theorem State.withBtest_pending (s : State) (v) : (s.withBtest v).pending = s.pending := rfl
@[simp] theorem State.withBtest_sent (s : State) (v) : (s.withBtest v).sent = s.sent := rfl
@[simp] theorem State.withBtest_items (s : State) (v) : (s.withBtest v).items = s.items := rfl
@[simp] theorem State.withBtest_modx (s : State) (v) : (s.withBtest v).modx = s.modx := rfl
@[simp] theorem State.withBtest_absent (s : State) (v) : (s.withBtest v).absent = s.absent := rfl
@[simp] theorem rd_withBtest (s : State) (v) (a : Nat) : rd (s.withBtest v) a = rd s a := rfl
@[simp] theorem fget_withBtest (s : State) (v) (a lo n : Nat) : fget (s.withBtest v) a lo n = fget s a lo n := rfl
@[simp] theorem bit_withBtest (s : State) (v) (a i : Nat) : bit (s.withBtest v) a i = bit s a i := rfl
@[simp] theorem rdW_withBtest (s : State) (v) (a : Nat) : rdW (s.withBtest v) a = rdW s a := rfl
@[simp] theorem State.withPlans_plans (s : State) (v) : (s.withPlans v).plans = v := rfl
@[simp] theorem State.withPlans_regs (s : State) (v) : (s.withPlans v).regs = s.regs := rfl
@[simp] theorem State.withPlans_wide (s : State) (v) : (s.withPlans v).wide = s.wide := rfl
@[simp] theorem State.withPlans_latch (s : State) (v) : (s.withPlans v).latch = s.latch := rfl
@[simp] theorem State.withPlans_mem (s : State) (v) : (s.withPlans v).mem = s.mem := rfl
@[simp] theorem State.withPlans_poison (s : State) (v) : (s.withPlans v).poison = s.poison := rfl
@[simp] theorem State.withPlans_pending (s : State) (v) : (s.withPlans v).pending = s.pending := rfl
@[simp] theorem State.withPlans_sent (s : State) (v) : (s.withPlans v).sent = s.sent := rfl
@[simp] theorem State.withPlans_items (s : State) (v) : (s.withPlans v).items = s.items := rfl
@[simp] theorem State.withPlans_modx (s : State) (v) : (s.withPlans v).modx = s.modx := rfl
@[simp] theorem State.withPlans_absent (s : State) (v) : (s.withPlans v).absent = s.absent := rfl
@[simp] theorem rd_withPlans (s : State) (v) (a : Nat) : rd (s.withPlans v) a = rd s a := rfl
@[simp] theorem fget_withPlans (s : State) (v) (a lo n : Nat) : fget (s.withPlans v) a lo n = fget s a lo n := rfl
@[simp] theorem bit_withPlans (s : State) (v) (a i : Nat) : bit (s.withPlans v) a i = bit s a i := rfl
@[simp] theorem rdW_withPlans (s : State) (v) (a : Nat) : rdW (s.withPlans v) a = rdW s a := rfl
@[simp] theorem State.withPlumb_plumb (s : State) (v) : (s.withPlumb v).plumb = v := rfl
@[simp] theorem State.withPlumb_regs (s : State) (v) : (s.withPlumb v).regs = s.regs := rfl
@[simp] theorem State.withPlumb_wide (s : State) (v) : (s.withPlumb v).wide = s.wide := rfl
@[simp] theorem State.withPlumb_latch (s : State) (v) : (s.withPlumb v).latch = s.latch := rfl
@[simp] theorem State.withPlumb_mem (s : State) (v) : (s.withPlumb v).mem = s.mem := rfl
@[simp] theorem State.withPlumb_poison (s : State) (v) : (s.withPlumb v).poison = s.poison := rfl
@[simp] theorem State.withPlumb_pending (s : State) (v) : (s.withPlumb v).pending = s.pending := rfl
@[simp] theorem State.withPlumb_sent (s : State) (v) : (s.withPlumb v).sent = s.sent := rfl
@[simp] theorem State.withPlumb_items (s : State) (v) : (s.withPlumb v).items = s.items := rfl
@[simp] theorem State.withPlumb_modx (s : State) (v) : (s.withPlumb v).modx = s.modx := rfl
@[simp] theorem State.withPlumb_absent (s : State) (v) : (s.withPlumb v).absent = s.absent := rfl
@[simp] theorem rd_withPlumb (s : State) (v) (a : Nat) : rd (s.withPlumb v) a = rd s a := rfl
@[simp] theorem fget_withPlumb (s : State) (v) (a lo n : Nat) : fget (s.withPlumb v) a lo n = fget s a lo n := rfl
@[simp] theorem bit_withPlumb (s : State) (v) (a i : Nat) : bit (s.withPlumb v) a i = bit s a i := rfl
@[simp] theorem rdW_withPlumb (s : State) (v) (a : Nat) : rdW (s.withPlumb v) a = rdW s a := rfl
@[simp] theorem State.withStackx_stackx (s : State) (v) : (s.withStackx v).stackx = v := rfl
@[simp] theorem State.withStackx_regs (s : State) (v) : (s.withStackx v).regs = s.regs := rfl
@[simp] theorem State.withStackx_wide (s : State) (v) : (s.withStackx v).wide = s.wide := rfl
@[simp] theorem State.withStackx_latch (s : State) (v) : (s.withStackx v).latch = s.latch := rfl
@[simp] theorem State.withStackx_mem (s : State) (v) : (s.withStackx v).mem = s.mem := rfl
@[simp] theorem State.withStackx_poison (s : State) (v) : (s.withStackx v).poison = s.poison := rfl
@[simp] theorem State.withStackx_pending (s : State) (v) : (s.withStackx v).pending = s.pending := rfl
@[simp] theorem State.withStackx_sent (s : State) (v) : (s.withStackx v).sent = s.sent := rfl
@[simp] theorem State.withStackx_items (s : State) (v) : (s.withStackx v).items = s.items := rfl
@[simp] theorem State.withStackx_modx (s : State) (v) : (s.withStackx v).modx = s.modx := rfl
@[simp] theorem State.withStackx_absent (s : State) (v) : (s.withStackx v).absent = s.absent := rfl
@[simp] theorem rd_withStackx (s : State) (v) (a : Nat) : rd (s.withStackx v) a = rd s a := rfl
@[simp] theorem fget_withStackx (s : State) (v) (a lo n : Nat) : fget (s.withStackx v) a lo n = fget s a lo n := rfl
@[simp] theorem bit_withStackx (s : State) (v) (a i : Nat) : bit (s.withStackx v) a i = bit s a i := rfl
@[simp] theorem rdW_withStackx (s : State) (v) (a : Nat) : rdW (s.withStackx v) a = rdW s a := rfl
@[simp] theorem State.withSktLast_sktLast (s : State) (v) : (s.withSktLast v).sktLast = v := rfl
@[simp] theorem State.withSktLast_regs (s : State) (v) : (s.withSktLast v).regs = s.regs := rfl
@[simp] theorem State.withSktLast_wide (s : State) (v) : (s.withSktLast v).wide = s.wide := rfl
@[simp] theorem State.withSktLast_latch (s : State) (v) : (s.withSktLast v).latch = s.latch := rfl
@[simp] theorem State.withSktLast_mem (s : State) (v) : (s.withSktLast v).mem = s.mem := rfl
@[simp] theorem State.withSktLast_poison (s : State) (v) : (s.withSktLast v).poison = s.poison := rfl
@[simp] theorem State.withSktLast_pending (s : State) (v) : (s.withSktLast v).pending = s.pending := rfl
@[simp] theorem State.withSktLast_sent (s : State) (v) : (s.withSktLast v).sent = s.sent := rfl
@[simp] theorem State.withSktLast_items (s : State) (v) : (s.withSktLast v).items = s.items := rfl
@[simp] theorem State.withSktLast_modx (s : State) (v) : (s.withSktLast v).modx = s.modx := rfl
@[simp] theorem State.withSktLast_absent (s : State) (v) : (s.withSktLast v).absent = s.absent := rfl
@[simp] theorem rd_withSktLast (s : State) (v) (a : Nat) : rd (s.withSktLast v) a = rd s a := rfl
@[simp] theorem fget_withSktLast (s : State) (v) (a lo n : Nat) : fget (s.withSktLast v) a lo n = fget s a lo n := rfl
@[simp] theorem bit_withSktLast (s : State) (v) (a i : Nat) : bit (s.withSktLast v) a i = bit s a i := rfl
@[simp] theorem rdW_withSktLast (s : State) (v) (a : Nat) : rdW (s.withSktLast v) a = rdW s a := rfl
@[simp] theorem State.withTxns_txns (s : State) (v) : (s.withTxns v).txns = v := rfl
@[simp] theorem State.withTxns_regs (s : State) (v) : (s.withTxns v).regs = s.regs := rfl
@[simp] theorem State.withTxns_wide (s : State) (v) : (s.withTxns v).wide = s.wide := rfl
@[simp] theorem State.withTxns_latch (s : State) (v) : (s.withTxns v).latch = s.latch := rfl
@[simp] theorem State.withTxns_mem (s : State) (v) : (s.withTxns v).mem = s.mem := rfl
@[simp] theorem State.withTxns_poison (s : State) (v) : (s.withTxns v).poison = s.poison := rfl
@[simp] theorem State.withTxns_pending (s : State) (v) : (s.withTxns v).pending = s.pending := rfl
@[simp] theorem State.withTxns_sent (s : State) (v) : (s.withTxns v).sent = s.sent := rfl
@[simp] theorem State.withTxns_items (s : State) (v) : (s.withTxns v).items = s.items := rfl
@[simp] theorem State.withTxns_modx (s : State) (v) : (s.withTxns v).modx = s.modx := rfl
@[simp] theorem State.withTxns_absent (s : State) (v) : (s.withTxns v).absent = s.absent := rfl
@[simp] theorem rd_withTxns (s : State) (v) (a : Nat) : rd (s.withTxns v) a = rd s a := rfl
@[simp] theorem fget_withTxns (s : State) (v) (a lo n : Nat) : fget (s.withTxns v) a lo n = fget s a lo n := rfl
@[simp] theorem bit_withTxns (s : State) (v) (a i : Nat) : bit (s.withTxns v) a i = bit s a i := rfl
@[simp] theorem rdW_withTxns (s : State) (v) (a : Nat) : rdW (s.withTxns v) a = rdW s a := rfl
@[simp] theorem State.withWaitq_waitq (s : State) (v) : (s.withWaitq v).waitq = v := rfl
@[simp] theorem State.withWaitq_regs (s : State) (v) : (s.withWaitq v).regs = s.regs := rfl
@[simp] theorem State.withWaitq_wide (s : State) (v) : (s.withWaitq v).wide = s.wide := rfl
@[simp] theorem State.withWaitq_latch (s : State) (v) : (s.withWaitq v).latch = s.latch := rfl
@[simp] theorem State.withWaitq_mem (s : State) (v) : (s.withWaitq v).mem = s.mem := rfl
@[simp] theorem State.withWaitq_poison (s : State) (v) : (s.withWaitq v).poison = s.poison := rfl
@[simp] theorem State.withWaitq_pending (s : State) (v) : (s.withWaitq v).pending = s.pending := rfl
@[simp] theorem State.withWaitq_sent (s : State) (v) : (s.withWaitq v).sent = s.sent := rfl
@[simp] theorem State.withWaitq_items (s : State) (v) : (s.withWaitq v).items = s.items := rfl
@[simp] theorem State.withWaitq_modx (s : State) (v) : (s.withWaitq v).modx = s.modx := rfl
@[simp] theorem State.withWaitq_absent (s : State) (v) : (s.withWaitq v).absent = s.absent := rfl
@[simp] theorem rd_withWaitq (s : State) (v) (a : Nat) : rd (s.withWaitq v) a = rd s a := rfl
@[simp] theorem fget_withWaitq (s : State) (v) (a lo n : Nat) : fget (s.withWaitq v) a lo n = fget s a lo n := rfl
@[simp] theorem bit_withWaitq (s : State) (v) (a i : Nat) : bit (s.withWaitq v) a i = bit s a i := rfl
@[simp] theorem rdW_withWaitq (s : State) (v) (a : Nat) : rdW (s.withWaitq v) a = rdW s a := rfl
@[simp] theorem State.withResps_resps (s : State) (v) : (s.withResps v).resps = v := rfl
@[simp] theorem State.withResps_regs (s : State) (v) : (s.withResps v).regs = s.regs := rfl
@[simp] theorem State.withResps_wide (s : State) (v) : (s.withResps v).wide = s.wide := rfl
@[simp] theorem State.withResps_latch (s : State) (v) : (s.withResps v).latch = s.latch := rfl
@[simp] theorem State.withResps_mem (s : State) (v) : (s.withResps v).mem = s.mem := rfl
@[simp] theorem State.withResps_poison (s : State) (v) : (s.withResps v).poison = s.poison := rfl
@[simp] theorem State.withResps_pending (s : State) (v) : (s.withResps v).pending = s.pending := rfl
@[simp] theorem State.withResps_sent (s : State) (v) : (s.withResps v).sent = s.sent := rfl
@[simp] theorem State.withResps_items (s : State) (v) : (s.withResps v).items = s.items := rfl
@[simp] theorem State.withResps_modx (s : State) (v) : (s.withResps v).modx = s.modx := rfl
@[simp] theorem State.withResps_absent (s : State) (v) : (s.withResps v).absent = s.absent := rfl
@[simp] theorem rd_withResps (s : State) (v) (a : Nat) : rd (s.withResps v) a = rd s a := rfl
@[simp] theorem fget_withResps (s : State) (v) (a lo n : Nat) : fget (s.withResps v) a lo n = fget s a lo n := rfl
@[simp] theorem bit_withResps (s : State) (v) (a i : Nat) : bit (s.withResps v) a i = bit s a i := rfl
@[simp] theorem rdW_withResps (s : State) (v) (a : Nat) : rdW (s.withResps v) a = rdW s a := rfl
@[simp] theorem State.withWbs_wbs (s : State) (v) : (s.withWbs v).wbs = v := rfl
@[simp] theorem State.withWbs_regs (s : State) (v) : (s.withWbs v).regs = s.regs := rfl
@[simp] theorem State.withWbs_wide (s : State) (v) : (s.withWbs v).wide = s.wide := rfl
@[simp] theorem State.withWbs_latch (s : State) (v) : (s.withWbs v).latch = s.latch := rfl
@[simp] theorem State.withWbs_mem (s : State) (v) : (s.withWbs v).mem = s.mem := rfl
@[simp] theorem State.withWbs_poison (s : State) (v) : (s.withWbs v).poison = s.poison := rfl
@[simp] theorem State.withWbs_pending (s : State) (v) : (s.withWbs v).pending = s.pending := rfl
@[simp] theorem State.withWbs_sent (s : State) (v) : (s.withWbs v).sent = s.sent := rfl
@[simp] theorem State.withWbs_items (s : State) (v) : (s.withWbs v).items = s.items := rfl
@[simp] theorem State.withWbs_modx (s : State) (v) : (s.withWbs v).modx = s.modx := rfl
@[simp] theorem State.withWbs_absent (s : State) (v) : (s.withWbs v).absent = s.absent := rfl
@[simp] theorem rd_withWbs (s : State) (v) (a : Nat) : rd (s.withWbs v) a = rd s a := rfl
@[simp] theorem fget_withWbs (s : State) (v) (a lo n : Nat) : fget (s.withWbs v) a lo n = fget s a lo n := rfl
@[simp] theorem bit_withWbs (s : State) (v) (a i : Nat) : bit (s.withWbs v) a i = bit s a i := rfl
@[simp] theorem rdW_withWbs (s : State) (v) (a : Nat) : rdW (s.withWbs v) a = rdW s a := rfl
@[simp] theorem State.withAnswers_answers (s : State) (v) : (s.withAnswers v).answers = v := rfl
@[simp] theorem State.withAnswers_regs (s : State) (v) : (s.withAnswers v).regs = s.regs := rfl
@[simp] theorem State.withAnswers_wide (s : State) (v) : (s.withAnswers v).wide = s.wide := rfl
@[simp] theorem State.withAnswers_latch (s : State) (v) : (s.withAnswers v).latch = s.latch := rfl
@[simp] theorem State.withAnswers_mem (s : State) (v) : (s.withAnswers v).mem = s.mem := rfl
@[simp] theorem State.withAnswers_poison (s : State) (v) : (s.withAnswers v).poison = s.poison := rfl
@[simp] theorem State.withAnswers_pending (s : State) (v) : (s.withAnswers v).pending = s.pending := rfl
@[simp] theorem State.withAnswers_sent (s : State) (v) : (s.withAnswers v).sent = s.sent := rfl
@[simp] theorem State.withAnswers_items (s : State) (v) : (s.withAnswers v).items = s.items := rfl
@[simp] theorem State.withAnswers_modx (s : State) (v) : (s.withAnswers v).modx = s.modx := rfl
@[simp] theorem State.withAnswers_absent (s : State) (v) : (s.withAnswers v).absent = s.absent := rfl
@[simp] theorem rd_withAnswers (s : State) (v) (a : Nat) : rd (s.withAnswers v) a = rd s a := rfl
@[simp] theorem fget_withAnswers (s : State) (v) (a lo n : Nat) : fget (s.withAnswers v) a lo n = fget s a lo n := rfl
@[simp] theorem bit_withAnswers (s : State) (v) (a i : Nat) : bit (s.withAnswers v) a i = bit s a i := rfl
@[simp] theorem rdW_withAnswers (s : State) (v) (a : Nat) : rdW (s.withAnswers v) a = rdW s a := rfl
@[simp] theorem State.withReclaims_reclaims (s : State) (v) : (s.withReclaims v).reclaims = v := rfl
@[simp] theorem State.withReclaims_regs (s : State) (v) : (s.withReclaims v).regs = s.regs := rfl
@[simp] theorem State.withReclaims_wide (s : State) (v) : (s.withReclaims v).wide = s.wide := rfl
@[simp] theorem State.withReclaims_latch (s : State) (v) : (s.withReclaims v).latch = s.latch := rfl
@[simp] theorem State.withReclaims_mem (s : State) (v) : (s.withReclaims v).mem = s.mem := rfl
@[simp] theorem State.withReclaims_poison (s : State) (v) : (s.withReclaims v).poison = s.poison := rfl
@[simp] theorem State.withReclaims_pending (s : State) (v) : (s.withReclaims v).pending = s.pending := rfl
@[simp] theorem State.withReclaims_sent (s : State) (v) : (s.withReclaims v).sent = s.sent := rfl
@[simp] theorem State.withReclaims_items (s : State) (v) : (s.withReclaims v).items = s.items := rfl
@[simp] theorem State.withReclaims_modx (s : State) (v) : (s.withReclaims v).modx = s.modx := rfl
@[simp] theorem State.withReclaims_absent (s : State) (v) : (s.withReclaims v).absent = s.absent := rfl
@[simp] theorem rd_withReclaims (s : State) (v) (a : Nat) : rd (s.withReclaims v) a = rd s a := rfl
@[simp] theorem fget_withReclaims (s : State) (v) (a lo n : Nat) : fget (s.withReclaims v) a lo n = fget s a lo n := rfl
@[simp] theorem bit_withReclaims (s : State) (v) (a i : Nat) : bit (s.withReclaims v) a i = bit s a i := rfl
@[simp] theorem rdW_withReclaims (s : State) (v) (a : Nat) : rdW (s.withReclaims v) a = rdW s a := rfl
@[simp] theorem State.withNamed_named (s : State) (v) : (s.withNamed v).named = v := rfl
@[simp] theorem State.withNamed_regs (s : State) (v) : (s.withNamed v).regs = s.regs := rfl
@[simp] theorem State.withNamed_wide (s : State) (v) : (s.withNamed v).wide = s.wide := rfl
@[simp] theorem State.withNamed_latch (s : State) (v) : (s.withNamed v).latch = s.latch := rfl
@[simp] theorem State.withNamed_mem (s : State) (v) : (s.withNamed v).mem = s.mem := rfl
@[simp] theorem State.withNamed_poison (s : State) (v) : (s.withNamed v).poison = s.poison := rfl
@[simp] theorem State.withNamed_pending (s : State) (v) : (s.withNamed v).pending = s.pending := rfl
@[simp] theorem State.withNamed_sent (s : State) (v) : (s.withNamed v).sent = s.sent := rfl
@[simp] theorem State.withNamed_items (s : State) (v) : (s.withNamed v).items = s.items := rfl
@[simp] theorem State.withNamed_modx (s : State) (v) : (s.withNamed v).modx = s.modx := rfl
@[simp] theorem State.withNamed_absent (s : State) (v) : (s.withNamed v).absent = s.absent := rfl
@[simp] theorem rd_withNamed (s : State) (v) (a : Nat) : rd (s.withNamed v) a = rd s a := rfl
@[simp] theorem fget_withNamed (s : State) (v) (a lo n : Nat) : fget (s.withNamed v) a lo n = fget s a lo n := rfl
@[simp] theorem bit_withNamed (s : State) (v) (a i : Nat) : bit (s.withNamed v) a i = bit s a i := rfl
@[simp] theorem rdW_withNamed (s : State) (v) (a : Nat) : rdW (s.withNamed v) a = rdW s a := rfl
@[simp] theorem State.withPred_pred (s : State) (v) : (s.withPred v).pred = v := rfl
@[simp] theorem State.withPred_regs (s : State) (v) : (s.withPred v).regs = s.regs := rfl
@[simp] theorem State.withPred_wide (s : State) (v) : (s.withPred v).wide = s.wide := rfl
@[simp] theorem State.withPred_latch (s : State) (v) : (s.withPred v).latch = s.latch := rfl
@[simp] theorem State.withPred_mem (s : State) (v) : (s.withPred v).mem = s.mem := rfl
@[simp] theorem State.withPred_poison (s : State) (v) : (s.withPred v).poison = s.poison := rfl
@[simp] theorem State.withPred_pending (s : State) (v) : (s.withPred v).pending = s.pending := rfl
@[simp] theorem State.withPred_sent (s : State) (v) : (s.withPred v).sent = s.sent := rfl
@[simp] theorem State.withPred_items (s : State) (v) : (s.withPred v).items = s.items := rfl
@[simp] theorem State.withPred_modx (s : State) (v) : (s.withPred v).modx = s.modx := rfl
@[simp] theorem State.withPred_absent (s : State) (v) : (s.withPred v).absent = s.absent := rfl
@[simp] theorem rd_withPred (s : State) (v) (a : Nat) : rd (s.withPred v) a = rd s a := rfl
@[simp] theorem fget_withPred (s : State) (v) (a lo n : Nat) : fget (s.withPred v) a lo n = fget s a lo n := rfl
@[simp] theorem bit_withPred (s : State) (v) (a i : Nat) : bit (s.withPred v) a i = bit s a i := rfl
@[simp] theorem rdW_withPred (s : State) (v) (a : Nat) : rdW (s.withPred v) a = rdW s a := rfl
@[simp] theorem State.withRahead_rahead (s : State) (v) : (s.withRahead v).rahead = v := rfl
@[simp] theorem State.withRahead_regs (s : State) (v) : (s.withRahead v).regs = s.regs := rfl
@[simp] theorem State.withRahead_wide (s : State) (v) : (s.withRahead v).wide = s.wide := rfl
@[simp] theorem State.withRahead_latch (s : State) (v) : (s.withRahead v).latch = s.latch := rfl
@[simp] theorem State.withRahead_mem (s : State) (v) : (s.withRahead v).mem = s.mem := rfl
@[simp] theorem State.withRahead_poison (s : State) (v) : (s.withRahead v).poison = s.poison := rfl
@[simp] theorem State.withRahead_pending (s : State) (v) : (s.withRahead v).pending = s.pending := rfl
@[simp] theorem State.withRahead_sent (s : State) (v) : (s.withRahead v).sent = s.sent := rfl
@[simp] theorem State.withRahead_items (s : State) (v) : (s.withRahead v).items = s.items := rfl
@[simp] theorem State.withRahead_modx (s : State) (v) : (s.withRahead v).modx = s.modx := rfl
@[simp] theorem State.withRahead_absent (s : State) (v) : (s.withRahead v).absent = s.absent := rfl
@[simp] theorem rd_withRahead (s : State) (v) (a : Nat) : rd (s.withRahead v) a = rd s a := rfl
@[simp] theorem fget_withRahead (s : State) (v) (a lo n : Nat) : fget (s.withRahead v) a lo n = fget s a lo n := rfl
@[simp] theorem bit_withRahead (s : State) (v) (a i : Nat) : bit (s.withRahead v) a i = bit s a i := rfl
@[simp] theorem rdW_withRahead (s : State) (v) (a : Nat) : rdW (s.withRahead v) a = rdW s a := rfl
@[simp] theorem State.withBondx_bondx (s : State) (v) : (s.withBondx v).bondx = v := rfl
@[simp] theorem State.withBondx_regs (s : State) (v) : (s.withBondx v).regs = s.regs := rfl
@[simp] theorem State.withBondx_wide (s : State) (v) : (s.withBondx v).wide = s.wide := rfl
@[simp] theorem State.withBondx_latch (s : State) (v) : (s.withBondx v).latch = s.latch := rfl
@[simp] theorem State.withBondx_mem (s : State) (v) : (s.withBondx v).mem = s.mem := rfl
@[simp] theorem State.withBondx_poison (s : State) (v) : (s.withBondx v).poison = s.poison := rfl
@[simp] theorem State.withBondx_pending (s : State) (v) : (s.withBondx v).pending = s.pending := rfl
@[simp] theorem State.withBondx_sent (s : State) (v) : (s.withBondx v).sent = s.sent := rfl
@[simp] theorem State.withBondx_items (s : State) (v) : (s.withBondx v).items = s.items := rfl
@[simp] theorem State.withBondx_modx (s : State) (v) : (s.withBondx v).modx = s.modx := rfl
@[simp] theorem State.withBondx_absent (s : State) (v) : (s.withBondx v).absent = s.absent := rfl
@[simp] theorem rd_withBondx (s : State) (v) (a : Nat) : rd (s.withBondx v) a = rd s a := rfl
@[simp] theorem fget_withBondx (s : State) (v) (a lo n : Nat) : fget (s.withBondx v) a lo n = fget s a lo n := rfl
@[simp] theorem bit_withBondx (s : State) (v) (a i : Nat) : bit (s.withBondx v) a i = bit s a i := rfl
@[simp] theorem rdW_withBondx (s : State) (v) (a : Nat) : rdW (s.withBondx v) a = rdW s a := rfl
@[simp] theorem State.withRejoins_rejoins (s : State) (v) : (s.withRejoins v).rejoins = v := rfl
@[simp] theorem State.withRejoins_regs (s : State) (v) : (s.withRejoins v).regs = s.regs := rfl
@[simp] theorem State.withRejoins_wide (s : State) (v) : (s.withRejoins v).wide = s.wide := rfl
@[simp] theorem State.withRejoins_latch (s : State) (v) : (s.withRejoins v).latch = s.latch := rfl
@[simp] theorem State.withRejoins_mem (s : State) (v) : (s.withRejoins v).mem = s.mem := rfl
@[simp] theorem State.withRejoins_poison (s : State) (v) : (s.withRejoins v).poison = s.poison := rfl
@[simp] theorem State.withRejoins_pending (s : State) (v) : (s.withRejoins v).pending = s.pending := rfl
@[simp] theorem State.withRejoins_sent (s : State) (v) : (s.withRejoins v).sent = s.sent := rfl
@[simp] theorem State.withRejoins_items (s : State) (v) : (s.withRejoins v).items = s.items := rfl
@[simp] theorem State.withRejoins_modx (s : State) (v) : (s.withRejoins v).modx = s.modx := rfl
@[simp] theorem State.withRejoins_absent (s : State) (v) : (s.withRejoins v).absent = s.absent := rfl
@[simp] theorem rd_withRejoins (s : State) (v) (a : Nat) : rd (s.withRejoins v) a = rd s a := rfl
@[simp] theorem fget_withRejoins (s : State) (v) (a lo n : Nat) : fget (s.withRejoins v) a lo n = fget s a lo n := rfl
@[simp] theorem bit_withRejoins (s : State) (v) (a i : Nat) : bit (s.withRejoins v) a i = bit s a i := rfl
@[simp] theorem rdW_withRejoins (s : State) (v) (a : Nat) : rdW (s.withRejoins v) a = rdW s a := rfl
@[simp] theorem State.withNetRegs_netRegs (s : State) (v) : (s.withNetRegs v).netRegs = v := rfl
@[simp] theorem State.withNetRegs_regs (s : State) (v) : (s.withNetRegs v).regs = s.regs := rfl
@[simp] theorem State.withNetRegs_wide (s : State) (v) : (s.withNetRegs v).wide = s.wide := rfl
@[simp] theorem State.withNetRegs_latch (s : State) (v) : (s.withNetRegs v).latch = s.latch := rfl
@[simp] theorem State.withNetRegs_mem (s : State) (v) : (s.withNetRegs v).mem = s.mem := rfl
@[simp] theorem State.withNetRegs_poison (s : State) (v) : (s.withNetRegs v).poison = s.poison := rfl
@[simp] theorem State.withNetRegs_pending (s : State) (v) : (s.withNetRegs v).pending = s.pending := rfl
@[simp] theorem State.withNetRegs_sent (s : State) (v) : (s.withNetRegs v).sent = s.sent := rfl
@[simp] theorem State.withNetRegs_items (s : State) (v) : (s.withNetRegs v).items = s.items := rfl
@[simp] theorem State.withNetRegs_modx (s : State) (v) : (s.withNetRegs v).modx = s.modx := rfl
@[simp] theorem State.withNetRegs_absent (s : State) (v) : (s.withNetRegs v).absent = s.absent := rfl
@[simp] theorem rd_withNetRegs (s : State) (v) (a : Nat) : rd (s.withNetRegs v) a = rd s a := rfl
@[simp] theorem fget_withNetRegs (s : State) (v) (a lo n : Nat) : fget (s.withNetRegs v) a lo n = fget s a lo n := rfl
@[simp] theorem bit_withNetRegs (s : State) (v) (a i : Nat) : bit (s.withNetRegs v) a i = bit s a i := rfl
@[simp] theorem rdW_withNetRegs (s : State) (v) (a : Nat) : rdW (s.withNetRegs v) a = rdW s a := rfl
@[simp] theorem State.withFlows_flows (s : State) (v) : (s.withFlows v).flows = v := rfl
@[simp] theorem State.withFlows_regs (s : State) (v) : (s.withFlows v).regs = s.regs := rfl
@[simp] theorem State.withFlows_wide (s : State) (v) : (s.withFlows v).wide = s.wide := rfl
@[simp] theorem State.withFlows_latch (s : State) (v) : (s.withFlows v).latch = s.latch := rfl
@[simp] theorem State.withFlows_mem (s : State) (v) : (s.withFlows v).mem = s.mem := rfl
@[simp] theorem State.withFlows_poison (s : State) (v) : (s.withFlows v).poison = s.poison := rfl
@[simp] theorem State.withFlows_pending (s : State) (v) : (s.withFlows v).pending = s.pending := rfl
@[simp] theorem State.withFlows_sent (s : State) (v) : (s.withFlows v).sent = s.sent := rfl
@[simp] theorem State.withFlows_items (s : State) (v) : (s.withFlows v).items = s.items := rfl
@[simp] theorem State.withFlows_modx (s : State) (v) : (s.withFlows v).modx = s.modx := rfl
@[simp] theorem State.withFlows_absent (s : State) (v) : (s.withFlows v).absent = s.absent := rfl
@[simp] theorem rd_withFlows (s : State) (v) (a : Nat) : rd (s.withFlows v) a = rd s a := rfl
@[simp] theorem fget_withFlows (s : State) (v) (a lo n : Nat) : fget (s.withFlows v) a lo n = fget s a lo n := rfl
@[simp] theorem bit_withFlows (s : State) (v) (a i : Nat) : bit (s.withFlows v) a i = bit s a i := rfl
@[simp] theorem rdW_withFlows (s : State) (v) (a : Nat) : rdW (s.withFlows v) a = rdW s a := rfl
@[simp] theorem State.withRxbuf_rxbuf (s : State) (v) : (s.withRxbuf v).rxbuf = v := rfl
@[simp] theorem State.withRxbuf_regs (s : State) (v) : (s.withRxbuf v).regs = s.regs := rfl
@[simp] theorem State.withRxbuf_wide (s : State) (v) : (s.withRxbuf v).wide = s.wide := rfl
@[simp] theorem State.withRxbuf_latch (s : State) (v) : (s.withRxbuf v).latch = s.latch := rfl
@[simp] theorem State.withRxbuf_mem (s : State) (v) : (s.withRxbuf v).mem = s.mem := rfl
@[simp] theorem State.withRxbuf_poison (s : State) (v) : (s.withRxbuf v).poison = s.poison := rfl
@[simp] theorem State.withRxbuf_pending (s : State) (v) : (s.withRxbuf v).pending = s.pending := rfl
@[simp] theorem State.withRxbuf_sent (s : State) (v) : (s.withRxbuf v).sent = s.sent := rfl
@[simp] theorem State.withRxbuf_items (s : State) (v) : (s.withRxbuf v).items = s.items := rfl
@[simp] theorem State.withRxbuf_modx (s : State) (v) : (s.withRxbuf v).modx = s.modx := rfl
@[simp] theorem State.withRxbuf_absent (s : State) (v) : (s.withRxbuf v).absent = s.absent := rfl
@[simp] theorem rd_withRxbuf (s : State) (v) (a : Nat) : rd (s.withRxbuf v) a = rd s a := rfl
@[simp] theorem fget_withRxbuf (s : State) (v) (a lo n : Nat) : fget (s.withRxbuf v) a lo n = fget s a lo n := rfl
@[simp] theorem bit_withRxbuf (s : State) (v) (a i : Nat) : bit (s.withRxbuf v) a i = bit s a i := rfl
@[simp] theorem rdW_withRxbuf (s : State) (v) (a : Nat) : rdW (s.withRxbuf v) a = rdW s a := rfl
@[simp] theorem State.withGroups_groups (s : State) (v) : (s.withGroups v).groups = v := rfl
@[simp] theorem State.withGroups_regs (s : State) (v) : (s.withGroups v).regs = s.regs := rfl
@[simp] theorem State.withGroups_wide (s : State) (v) : (s.withGroups v).wide = s.wide := rfl
@[simp] theorem State.withGroups_latch (s : State) (v) : (s.withGroups v).latch = s.latch := rfl
@[simp] theorem State.withGroups_mem (s : State) (v) : (s.withGroups v).mem = s.mem := rfl
@[simp] theorem State.withGroups_poison (s : State) (v) : (s.withGroups v).poison = s.poison := rfl
@[simp] theorem State.withGroups_pending (s : State) (v) : (s.withGroups v).pending = s.pending := rfl
@[simp] theorem State.withGroups_sent (s : State) (v) : (s.withGroups v).sent = s.sent := rfl
@[simp] theorem State.withGroups_items (s : State) (v) : (s.withGroups v).items = s.items := rfl
@[simp] theorem State.withGroups_modx (s : State) (v) : (s.withGroups v).modx = s.modx := rfl
@[simp] theorem State.withGroups_absent (s : State) (v) : (s.withGroups v).absent = s.absent := rfl
@[simp] theorem rd_withGroups (s : State) (v) (a : Nat) : rd (s.withGroups v) a = rd s a := rfl
@[simp] theorem fget_withGroups (s : State) (v) (a lo n : Nat) : fget (s.withGroups v) a lo n = fget s a lo n := rfl
@[simp] theorem bit_withGroups (s : State) (v) (a i : Nat) : bit (s.withGroups v) a i = bit s a i := rfl
@[simp] theorem rdW_withGroups (s : State) (v) (a : Nat) : rdW (s.withGroups v) a = rdW s a := rfl
@[simp] theorem State.withChains_chains (s : State) (v) : (s.withChains v).chains = v := rfl
@[simp] theorem State.withChains_regs (s : State) (v) : (s.withChains v).regs = s.regs := rfl
@[simp] theorem State.withChains_wide (s : State) (v) : (s.withChains v).wide = s.wide := rfl
@[simp] theorem State.withChains_latch (s : State) (v) : (s.withChains v).latch = s.latch := rfl
@[simp] theorem State.withChains_mem (s : State) (v) : (s.withChains v).mem = s.mem := rfl
@[simp] theorem State.withChains_poison (s : State) (v) : (s.withChains v).poison = s.poison := rfl
@[simp] theorem State.withChains_pending (s : State) (v) : (s.withChains v).pending = s.pending := rfl
@[simp] theorem State.withChains_sent (s : State) (v) : (s.withChains v).sent = s.sent := rfl
@[simp] theorem State.withChains_items (s : State) (v) : (s.withChains v).items = s.items := rfl
@[simp] theorem State.withChains_modx (s : State) (v) : (s.withChains v).modx = s.modx := rfl
@[simp] theorem State.withChains_absent (s : State) (v) : (s.withChains v).absent = s.absent := rfl
@[simp] theorem rd_withChains (s : State) (v) (a : Nat) : rd (s.withChains v) a = rd s a := rfl
@[simp] theorem fget_withChains (s : State) (v) (a lo n : Nat) : fget (s.withChains v) a lo n = fget s a lo n := rfl
@[simp] theorem bit_withChains (s : State) (v) (a i : Nat) : bit (s.withChains v) a i = bit s a i := rfl
@[simp] theorem rdW_withChains (s : State) (v) (a : Nat) : rdW (s.withChains v) a = rdW s a := rfl
@[simp] theorem State.withWdog_wdog (s : State) (v) : (s.withWdog v).wdog = v := rfl
@[simp] theorem State.withWdog_regs (s : State) (v) : (s.withWdog v).regs = s.regs := rfl
@[simp] theorem State.withWdog_wide (s : State) (v) : (s.withWdog v).wide = s.wide := rfl
@[simp] theorem State.withWdog_latch (s : State) (v) : (s.withWdog v).latch = s.latch := rfl
@[simp] theorem State.withWdog_mem (s : State) (v) : (s.withWdog v).mem = s.mem := rfl
@[simp] theorem State.withWdog_poison (s : State) (v) : (s.withWdog v).poison = s.poison := rfl
@[simp] theorem State.withWdog_pending (s : State) (v) : (s.withWdog v).pending = s.pending := rfl
@[simp] theorem State.withWdog_sent (s : State) (v) : (s.withWdog v).sent = s.sent := rfl
@[simp] theorem State.withWdog_items (s : State) (v) : (s.withWdog v).items = s.items := rfl
@[simp] theorem State.withWdog_modx (s : State) (v) : (s.withWdog v).modx = s.modx := rfl
@[simp] theorem State.withWdog_absent (s : State) (v) : (s.withWdog v).absent = s.absent := rfl
@[simp] theorem rd_withWdog (s : State) (v) (a : Nat) : rd (s.withWdog v) a = rd s a := rfl
@[simp] theorem fget_withWdog (s : State) (v) (a lo n : Nat) : fget (s.withWdog v) a lo n = fget s a lo n := rfl
@[simp] theorem bit_withWdog (s : State) (v) (a i : Nat) : bit (s.withWdog v) a i = bit s a i := rfl
@[simp] theorem rdW_withWdog (s : State) (v) (a : Nat) : rdW (s.withWdog v) a = rdW s a := rfl
@[simp] theorem State.withSitesOut_sitesOut (s : State) (v) : (s.withSitesOut v).sitesOut = v := rfl
@[simp] theorem State.withSitesOut_regs (s : State) (v) : (s.withSitesOut v).regs = s.regs := rfl
@[simp] theorem State.withSitesOut_wide (s : State) (v) : (s.withSitesOut v).wide = s.wide := rfl
@[simp] theorem State.withSitesOut_latch (s : State) (v) : (s.withSitesOut v).latch = s.latch := rfl
@[simp] theorem State.withSitesOut_mem (s : State) (v) : (s.withSitesOut v).mem = s.mem := rfl
@[simp] theorem State.withSitesOut_poison (s : State) (v) : (s.withSitesOut v).poison = s.poison := rfl
@[simp] theorem State.withSitesOut_pending (s : State) (v) : (s.withSitesOut v).pending = s.pending := rfl
@[simp] theorem State.withSitesOut_sent (s : State) (v) : (s.withSitesOut v).sent = s.sent := rfl
@[simp] theorem State.withSitesOut_items (s : State) (v) : (s.withSitesOut v).items = s.items := rfl
@[simp] theorem State.withSitesOut_modx (s : State) (v) : (s.withSitesOut v).modx = s.modx := rfl
@[simp] theorem State.withSitesOut_absent (s : State) (v) : (s.withSitesOut v).absent = s.absent := rfl
@[simp] theorem rd_withSitesOut (s : State) (v) (a : Nat) : rd (s.withSitesOut v) a = rd s a := rfl
@[simp] theorem fget_withSitesOut (s : State) (v) (a lo n : Nat) : fget (s.withSitesOut v) a lo n = fget s a lo n := rfl
@[simp] theorem bit_withSitesOut (s : State) (v) (a i : Nat) : bit (s.withSitesOut v) a i = bit s a i := rfl
@[simp] theorem rdW_withSitesOut (s : State) (v) (a : Nat) : rdW (s.withSitesOut v) a = rdW s a := rfl
@[simp] theorem State.withFlips_flips (s : State) (v) : (s.withFlips v).flips = v := rfl
@[simp] theorem State.withFlips_regs (s : State) (v) : (s.withFlips v).regs = s.regs := rfl
@[simp] theorem State.withFlips_wide (s : State) (v) : (s.withFlips v).wide = s.wide := rfl
@[simp] theorem State.withFlips_latch (s : State) (v) : (s.withFlips v).latch = s.latch := rfl
@[simp] theorem State.withFlips_mem (s : State) (v) : (s.withFlips v).mem = s.mem := rfl
@[simp] theorem State.withFlips_poison (s : State) (v) : (s.withFlips v).poison = s.poison := rfl
@[simp] theorem State.withFlips_pending (s : State) (v) : (s.withFlips v).pending = s.pending := rfl
@[simp] theorem State.withFlips_sent (s : State) (v) : (s.withFlips v).sent = s.sent := rfl
@[simp] theorem State.withFlips_items (s : State) (v) : (s.withFlips v).items = s.items := rfl
@[simp] theorem State.withFlips_modx (s : State) (v) : (s.withFlips v).modx = s.modx := rfl
@[simp] theorem State.withFlips_absent (s : State) (v) : (s.withFlips v).absent = s.absent := rfl
@[simp] theorem rd_withFlips (s : State) (v) (a : Nat) : rd (s.withFlips v) a = rd s a := rfl
@[simp] theorem fget_withFlips (s : State) (v) (a lo n : Nat) : fget (s.withFlips v) a lo n = fget s a lo n := rfl
@[simp] theorem bit_withFlips (s : State) (v) (a i : Nat) : bit (s.withFlips v) a i = bit s a i := rfl
@[simp] theorem rdW_withFlips (s : State) (v) (a : Nat) : rdW (s.withFlips v) a = rdW s a := rfl
@[simp] theorem State.withRegq_regq (s : State) (v) : (s.withRegq v).regq = v := rfl
@[simp] theorem State.withRegq_regs (s : State) (v) : (s.withRegq v).regs = s.regs := rfl
@[simp] theorem State.withRegq_wide (s : State) (v) : (s.withRegq v).wide = s.wide := rfl
@[simp] theorem State.withRegq_latch (s : State) (v) : (s.withRegq v).latch = s.latch := rfl
@[simp] theorem State.withRegq_mem (s : State) (v) : (s.withRegq v).mem = s.mem := rfl
@[simp] theorem State.withRegq_poison (s : State) (v) : (s.withRegq v).poison = s.poison := rfl
@[simp] theorem State.withRegq_pending (s : State) (v) : (s.withRegq v).pending = s.pending := rfl
@[simp] theorem State.withRegq_sent (s : State) (v) : (s.withRegq v).sent = s.sent := rfl
@[simp] theorem State.withRegq_items (s : State) (v) : (s.withRegq v).items = s.items := rfl
@[simp] theorem State.withRegq_modx (s : State) (v) : (s.withRegq v).modx = s.modx := rfl
@[simp] theorem State.withRegq_absent (s : State) (v) : (s.withRegq v).absent = s.absent := rfl
@[simp] theorem rd_withRegq (s : State) (v) (a : Nat) : rd (s.withRegq v) a = rd s a := rfl
@[simp] theorem fget_withRegq (s : State) (v) (a lo n : Nat) : fget (s.withRegq v) a lo n = fget s a lo n := rfl
@[simp] theorem bit_withRegq (s : State) (v) (a i : Nat) : bit (s.withRegq v) a i = bit s a i := rfl
@[simp] theorem rdW_withRegq (s : State) (v) (a : Nat) : rdW (s.withRegq v) a = rdW s a := rfl
@[simp] theorem State.withPrivStore_privStore (s : State) (v) : (s.withPrivStore v).privStore = v := rfl
@[simp] theorem State.withPrivStore_regs (s : State) (v) : (s.withPrivStore v).regs = s.regs := rfl
@[simp] theorem State.withPrivStore_wide (s : State) (v) : (s.withPrivStore v).wide = s.wide := rfl
@[simp] theorem State.withPrivStore_latch (s : State) (v) : (s.withPrivStore v).latch = s.latch := rfl
@[simp] theorem State.withPrivStore_mem (s : State) (v) : (s.withPrivStore v).mem = s.mem := rfl
@[simp] theorem State.withPrivStore_poison (s : State) (v) : (s.withPrivStore v).poison = s.poison := rfl
@[simp] theorem State.withPrivStore_pending (s : State) (v) : (s.withPrivStore v).pending = s.pending := rfl
@[simp] theorem State.withPrivStore_sent (s : State) (v) : (s.withPrivStore v).sent = s.sent := rfl
@[simp] theorem State.withPrivStore_items (s : State) (v) : (s.withPrivStore v).items = s.items := rfl
@[simp] theorem State.withPrivStore_modx (s : State) (v) : (s.withPrivStore v).modx = s.modx := rfl
@[simp] theorem State.withPrivStore_absent (s : State) (v) : (s.withPrivStore v).absent = s.absent := rfl
@[simp] theorem rd_withPrivStore (s : State) (v) (a : Nat) : rd (s.withPrivStore v) a = rd s a := rfl
@[simp] theorem fget_withPrivStore (s : State) (v) (a lo n : Nat) : fget (s.withPrivStore v) a lo n = fget s a lo n := rfl
@[simp] theorem bit_withPrivStore (s : State) (v) (a i : Nat) : bit (s.withPrivStore v) a i = bit s a i := rfl
@[simp] theorem rdW_withPrivStore (s : State) (v) (a : Nat) : rdW (s.withPrivStore v) a = rdW s a := rfl
@[simp] theorem State.withBootStore_bootStore (s : State) (v) : (s.withBootStore v).bootStore = v := rfl
@[simp] theorem State.withBootStore_regs (s : State) (v) : (s.withBootStore v).regs = s.regs := rfl
@[simp] theorem State.withBootStore_wide (s : State) (v) : (s.withBootStore v).wide = s.wide := rfl
@[simp] theorem State.withBootStore_latch (s : State) (v) : (s.withBootStore v).latch = s.latch := rfl
@[simp] theorem State.withBootStore_mem (s : State) (v) : (s.withBootStore v).mem = s.mem := rfl
@[simp] theorem State.withBootStore_poison (s : State) (v) : (s.withBootStore v).poison = s.poison := rfl
@[simp] theorem State.withBootStore_pending (s : State) (v) : (s.withBootStore v).pending = s.pending := rfl
@[simp] theorem State.withBootStore_sent (s : State) (v) : (s.withBootStore v).sent = s.sent := rfl
@[simp] theorem State.withBootStore_items (s : State) (v) : (s.withBootStore v).items = s.items := rfl
@[simp] theorem State.withBootStore_modx (s : State) (v) : (s.withBootStore v).modx = s.modx := rfl
@[simp] theorem State.withBootStore_absent (s : State) (v) : (s.withBootStore v).absent = s.absent := rfl
@[simp] theorem rd_withBootStore (s : State) (v) (a : Nat) : rd (s.withBootStore v) a = rd s a := rfl
@[simp] theorem fget_withBootStore (s : State) (v) (a lo n : Nat) : fget (s.withBootStore v) a lo n = fget s a lo n := rfl
@[simp] theorem bit_withBootStore (s : State) (v) (a i : Nat) : bit (s.withBootStore v) a i = bit s a i := rfl
@[simp] theorem rdW_withBootStore (s : State) (v) (a : Nat) : rdW (s.withBootStore v) a = rdW s a := rfl
@[simp] theorem State.withHarts_harts (s : State) (v) : (s.withHarts v).harts = v := rfl
@[simp] theorem State.withHarts_regs (s : State) (v) : (s.withHarts v).regs = s.regs := rfl
@[simp] theorem State.withHarts_wide (s : State) (v) : (s.withHarts v).wide = s.wide := rfl
@[simp] theorem State.withHarts_latch (s : State) (v) : (s.withHarts v).latch = s.latch := rfl
@[simp] theorem State.withHarts_mem (s : State) (v) : (s.withHarts v).mem = s.mem := rfl
@[simp] theorem State.withHarts_poison (s : State) (v) : (s.withHarts v).poison = s.poison := rfl
@[simp] theorem State.withHarts_pending (s : State) (v) : (s.withHarts v).pending = s.pending := rfl
@[simp] theorem State.withHarts_sent (s : State) (v) : (s.withHarts v).sent = s.sent := rfl
@[simp] theorem State.withHarts_items (s : State) (v) : (s.withHarts v).items = s.items := rfl
@[simp] theorem State.withHarts_modx (s : State) (v) : (s.withHarts v).modx = s.modx := rfl
@[simp] theorem State.withHarts_absent (s : State) (v) : (s.withHarts v).absent = s.absent := rfl
@[simp] theorem rd_withHarts (s : State) (v) (a : Nat) : rd (s.withHarts v) a = rd s a := rfl
@[simp] theorem fget_withHarts (s : State) (v) (a lo n : Nat) : fget (s.withHarts v) a lo n = fget s a lo n := rfl
@[simp] theorem bit_withHarts (s : State) (v) (a i : Nat) : bit (s.withHarts v) a i = bit s a i := rfl
@[simp] theorem rdW_withHarts (s : State) (v) (a : Nat) : rdW (s.withHarts v) a = rdW s a := rfl
@[simp] theorem State.withTxSeen_txSeen (s : State) (v) : (s.withTxSeen v).txSeen = v := rfl
@[simp] theorem State.withTxSeen_regs (s : State) (v) : (s.withTxSeen v).regs = s.regs := rfl
@[simp] theorem State.withTxSeen_wide (s : State) (v) : (s.withTxSeen v).wide = s.wide := rfl
@[simp] theorem State.withTxSeen_latch (s : State) (v) : (s.withTxSeen v).latch = s.latch := rfl
@[simp] theorem State.withTxSeen_mem (s : State) (v) : (s.withTxSeen v).mem = s.mem := rfl
@[simp] theorem State.withTxSeen_poison (s : State) (v) : (s.withTxSeen v).poison = s.poison := rfl
@[simp] theorem State.withTxSeen_pending (s : State) (v) : (s.withTxSeen v).pending = s.pending := rfl
@[simp] theorem State.withTxSeen_sent (s : State) (v) : (s.withTxSeen v).sent = s.sent := rfl
@[simp] theorem State.withTxSeen_items (s : State) (v) : (s.withTxSeen v).items = s.items := rfl
@[simp] theorem State.withTxSeen_modx (s : State) (v) : (s.withTxSeen v).modx = s.modx := rfl
@[simp] theorem State.withTxSeen_absent (s : State) (v) : (s.withTxSeen v).absent = s.absent := rfl
@[simp] theorem rd_withTxSeen (s : State) (v) (a : Nat) : rd (s.withTxSeen v) a = rd s a := rfl
@[simp] theorem fget_withTxSeen (s : State) (v) (a lo n : Nat) : fget (s.withTxSeen v) a lo n = fget s a lo n := rfl
@[simp] theorem bit_withTxSeen (s : State) (v) (a i : Nat) : bit (s.withTxSeen v) a i = bit s a i := rfl
@[simp] theorem rdW_withTxSeen (s : State) (v) (a : Nat) : rdW (s.withTxSeen v) a = rdW s a := rfl

/-- A register after its own write. -/
@[simp] theorem rd_wr_same (s : State) (a : Nat) (v : W32) : rd (wr s a v) a = v := by simp [rd, wr]
/-- A register after a write of another. -/
theorem rd_wr_ne (s : State) {a b : Nat} (v : W32) (h : b ≠ a) : rd (wr s a v) b = rd s b := by
  simp only [rd, wr]; exact tget_tset_ne _ _ _ h
/-- A counter after its own write. -/
@[simp] theorem rdW_wrW_same (s : State) (a : Nat) (v : W64) : rdW (wrW s a v) a = v := by simp [rdW, wrW]
/-- A counter after a write of another. -/
theorem rdW_wrW_ne (s : State) {a b : Nat} (v : W64) (h : b ≠ a) : rdW (wrW s a v) b = rdW s b := by
  simp only [rdW, wrW]; exact tget_tset_ne _ _ _ h
/-- Registers that an operation does not touch read the same. -/
@[simp] theorem rd_emit (s : State) (k : MK) (args : List Nat) (data : List Byte) (a : Nat) : rd (emit s k args data) a = rd s a := rfl
@[simp] theorem rd_wrW (s : State) (b : Nat) (v : W64) (a : Nat) : rd (wrW s b v) a = rd s a := rfl
@[simp] theorem rd_requestStore (s : State) (w : StoreWork) (a : Nat) : rd (requestStore s w) a = rd s a := rfl
@[simp] theorem rdW_wr (s : State) (b : Nat) (v : W32) (a : Nat) : rdW (wr s b v) a = rdW s a := rfl
@[simp] theorem rdW_fset (s : State) (b lo n v : Nat) (a : Nat) : rdW (fset s b lo n v) a = rdW s a := rfl
@[simp] theorem rdW_emit (s : State) (k : MK) (args : List Nat) (data : List Byte) (a : Nat) : rdW (emit s k args data) a = rdW s a := rfl

/-- A field's bits after it is set. -/
theorem getBits_setBits (w : W32) (lo n v : Nat) (h : lo + n ≤ 32) : getBits (setBits w lo n v) lo n = v % 2 ^ n := by
  have h2 : (2 : Nat) ^ n ≤ 2 ^ 32 := Nat.pow_le_pow_right (by omega) (by omega)
  have hv : v % 2 ^ n < 2 ^ 32 := lt_of_lt_of_le (Nat.mod_lt _ (by positivity)) h2
  apply Nat.eq_of_testBit_eq
  intro i
  by_cases hi : i < n
  · simp only [getBits, setBits, BitVec.extractLsb'_toNat, BitVec.toNat_or, BitVec.toNat_and, BitVec.toNat_not,
      BitVec.toNat_shiftLeft, BitVec.toNat_ofNat]
    rw [Nat.testBit_mod_two_pow]
    simp only [Nat.testBit_shiftRight, Nat.testBit_or, Nat.testBit_and, hi, decide_true, Bool.true_and]
    rw [show (2 ^ 32 - 1 - ((2 ^ n - 1) % 2 ^ 32) <<< lo % 2 ^ 32) = 2 ^ 32 - (((2 ^ n - 1) % 2 ^ 32) <<< lo % 2 ^ 32 + 1) by omega]
    rw [Nat.testBit_two_pow_sub_succ (Nat.mod_lt _ (by norm_num))]
    rw [Nat.mod_eq_of_lt (show 2 ^ n - 1 < 2 ^ 32 by omega), Nat.mod_eq_of_lt hv]
    simp only [Nat.testBit_mod_two_pow, Nat.testBit_shiftLeft, Nat.testBit_two_pow_sub_one]
    have : lo + i < 32 := by omega
    simp [this, hi]
  · simp only [getBits, BitVec.extractLsb'_toNat]
    simp [Nat.testBit_mod_two_pow, hi]

/-- A field after it is set. -/
theorem fget_fset_same (s : State) (a lo n v : Nat) (h : lo + n ≤ 32) : fget (fset s a lo n v) a lo n = v % 2 ^ n := by
  simp only [fget, fset, rd_wr_same]; exact getBits_setBits _ _ _ _ h
/-- A field of another register. -/
theorem fget_fset_ne (s : State) {a b : Nat} (lo n v lo' n' : Nat) (h : b ≠ a) : fget (fset s a lo n v) b lo' n' = fget s b lo' n' := by
  simp only [fget, fset, rd_wr_ne _ _ h]

end Sys2Proof.Machine
end

