-- ==== Sys2Proof/Laws/Keep.lean ====
section
/-! SUPPORT. What every operation of the model keeps: the queue of waiting commands, and the canonical forms. One lemma per operation
says so, from a base state on, so that operations chain. This file: the state's fields, memory, registers, faults and resets. -/

namespace Sys2Proof.Machine

/-- From `s` to `t` the queue is kept, and so are the canonical forms. -/
structure Keep (s t : State) : Prop where
  pending : t.pending = s.pending
  mem : twf memDef s.mem = true → twf memDef t.mem = true
  regs : twf regDef s.regs = true → twf regDef t.regs = true
  wide : twf wideDef s.wide = true → twf wideDef t.wide = true
  latch : twf latchDef s.latch = true → twf latchDef t.latch = true

theorem Keep.rfl {s : State} : Keep s s := ⟨Eq.refl _, id, id, id, id⟩

/-- An outcome keeps when its next state does. -/
def KeepOut (s : State) (o : Out) : Prop := ∀ t, o = .next t → Keep s t

variable {s0 s t : State} {α β : Type}

theorem keepOut_next (h : Keep s0 t) : KeepOut s0 (.next t) := fun _ e => by injection e with e; exact e ▸ h
theorem keepOut_refused (r : Refusal) : KeepOut s0 (.refused r) := fun _ e => by cases e
theorem keepOut_fault (r : Fault) : KeepOut s0 (.fault r) := fun _ e => by cases e

theorem keep_ite {c : Prop} [Decidable c] {a b : State} (h1 : Keep s0 a) (h2 : Keep s0 b) : Keep s0 (if c then a else b) := by
  split <;> assumption
theorem keepOut_ite {c : Prop} [Decidable c] {a b : Out} (h1 : KeepOut s0 a) (h2 : KeepOut s0 b) : KeepOut s0 (if c then a else b) := by
  split <;> assumption
theorem keep_ite_fst {c : Prop} [Decidable c] {a b : State × α} (h1 : Keep s0 a.1) (h2 : Keep s0 b.1) :
    Keep s0 (if c then a else b).1 := by split <;> assumption
theorem keep_ite_snd {c : Prop} [Decidable c] {a b : α × State} (h1 : Keep s0 a.2) (h2 : Keep s0 b.2) :
    Keep s0 (if c then a else b).2 := by split <;> assumption

theorem keep_foldl {f : State → β → State} {l : List β} (h : Keep s0 s) (hf : ∀ t x, Keep s0 t → Keep s0 (f t x)) :
    Keep s0 (l.foldl f s) := by
  induction l generalizing s with
  | nil => exact h
  | cons a l ih => exact ih (hf _ _ h)

theorem keep_foldl_fst {f : State × α → β → State × α} {l : List β} {p : State × α} (h : Keep s0 p.1)
    (hf : ∀ t x, Keep s0 t.1 → Keep s0 (f t x).1) : Keep s0 (l.foldl f p).1 := by
  induction l generalizing p with
  | nil => exact h
  | cons a l ih => exact ih (hf _ _ h)

theorem keep_foldl_snd {f : α × State → β → α × State} {l : List β} {p : α × State} (h : Keep s0 p.2)
    (hf : ∀ t x, Keep s0 t.2 → Keep s0 (f t x).2) : Keep s0 (l.foldl f p).2 := by
  induction l generalizing p with
  | nil => exact h
  | cons a l ih => exact ih (hf _ _ h)

theorem keep_pair_fst {p : State × α} {b : α} (e : p = (t, b)) (h : Keep s0 p.1) : Keep s0 t := by rw [e] at h; exact h
theorem keep_pair_snd {p : α × State} {a : α} (e : p = (a, t)) (h : Keep s0 p.2) : Keep s0 t := by rw [e] at h; exact h

theorem keep_withMem {v : List Host.Cell} (h : Keep s0 s) (hv : twf memDef s.mem = true → twf memDef v = true) : Keep s0 (s.withMem v) :=
  ⟨h.1, fun x => hv (h.2 x), h.3, h.4, h.5⟩
theorem keep_withRegs {v : Tab W32} (h : Keep s0 s) (hv : twf regDef s.regs = true → twf regDef v = true) : Keep s0 (s.withRegs v) :=
  ⟨h.1, h.2, fun x => hv (h.3 x), h.4, h.5⟩
theorem keep_withWide {v : Tab W64} (h : Keep s0 s) (hv : twf wideDef s.wide = true → twf wideDef v = true) : Keep s0 (s.withWide v) :=
  ⟨h.1, h.2, h.3, fun x => hv (h.4 x), h.5⟩
theorem keep_withLatch {v : Tab W32} (h : Keep s0 s) (hv : twf latchDef s.latch = true → twf latchDef v = true) : Keep s0 (s.withLatch v) :=
  ⟨h.1, h.2, h.3, h.4, fun x => hv (h.5 x)⟩
theorem keep_withPending (h : Keep s0 s) (e : s.pending = t.pending) : Keep s0 (s.withPending t.pending) := ⟨e.symm.trans h.1, h.2, h.3, h.4, h.5⟩

/-- Bytes written keep the memory's form. -/
theorem twf_wrBytes {m : List Host.Cell} {a : Nat} {bs : List Byte} (h : twf memDef m = true) : twf memDef (wrBytes m a bs) = true := by
  induction bs generalizing m a with
  | nil => exact h
  | cons b bs ih => exact ih (twf_tset _ _ h)

theorem twf_foldl {f : List Host.Cell → β → List Host.Cell} {l : List β} {m : List Host.Cell} (h : twf memDef m = true)
    (hf : ∀ m x, twf memDef m = true → twf memDef (f m x) = true) : twf memDef (l.foldl f m) = true := by
  induction l generalizing m with
  | nil => exact h
  | cons a l ih => exact ih (hf _ _ h)

/-- Modified lines flushed keep the memory's form. -/
theorem twf_flushMem {l n : Nat} (h : twf memDef s.mem = true) : twf memDef (flushMem s l n) = true := by
  unfold flushMem
  refine twf_foldl (twf_foldl h ?_) ?_
  · intro m c hm; dsimp only; split
    · exact twf_wrBytes hm
    · exact hm
  · intro m c hm; dsimp only; split
    · split
      · exact twf_wrBytes hm
      · exact hm
    · exact hm

theorem keep_withPoison {v : List Nat} (h : Keep s0 s) : Keep s0 (s.withPoison v) := ⟨h.1, h.2, h.3, h.4, h.5⟩
theorem keep_withSent {v : List Msg} (h : Keep s0 s) : Keep s0 (s.withSent v) := ⟨h.1, h.2, h.3, h.4, h.5⟩
theorem keep_withFresh {v : Nat} (h : Keep s0 s) : Keep s0 (s.withFresh v) := ⟨h.1, h.2, h.3, h.4, h.5⟩
theorem keep_withAbsent {v : List Nat} (h : Keep s0 s) : Keep s0 (s.withAbsent v) := ⟨h.1, h.2, h.3, h.4, h.5⟩
theorem keep_withPllOff {v : List Nat} (h : Keep s0 s) : Keep s0 (s.withPllOff v) := ⟨h.1, h.2, h.3, h.4, h.5⟩
theorem keep_withSeqs {v : Tab Sequencer} (h : Keep s0 s) : Keep s0 (s.withSeqs v) := ⟨h.1, h.2, h.3, h.4, h.5⟩
theorem keep_withFring {v : Tab FRingX} (h : Keep s0 s) : Keep s0 (s.withFring v) := ⟨h.1, h.2, h.3, h.4, h.5⟩
theorem keep_withPolicy {v : Tab Nat} (h : Keep s0 s) : Keep s0 (s.withPolicy v) := ⟨h.1, h.2, h.3, h.4, h.5⟩
theorem keep_withRecov {v : List Recovery} (h : Keep s0 s) : Keep s0 (s.withRecov v) := ⟨h.1, h.2, h.3, h.4, h.5⟩
theorem keep_withRecNum {v : Tab Nat} (h : Keep s0 s) : Keep s0 (s.withRecNum v) := ⟨h.1, h.2, h.3, h.4, h.5⟩
theorem keep_withPkgQ {v : List (Nat × Nat)} (h : Keep s0 s) : Keep s0 (s.withPkgQ v) := ⟨h.1, h.2, h.3, h.4, h.5⟩
theorem keep_withItems {v : List Item} (h : Keep s0 s) : Keep s0 (s.withItems v) := ⟨h.1, h.2, h.3, h.4, h.5⟩
theorem keep_withRingx {v : Tab RingX} (h : Keep s0 s) : Keep s0 (s.withRingx v) := ⟨h.1, h.2, h.3, h.4, h.5⟩
theorem keep_withServed {v : Tab Nat} (h : Keep s0 s) : Keep s0 (s.withServed v) := ⟨h.1, h.2, h.3, h.4, h.5⟩
theorem keep_withXlt {v : Tab XUnit} (h : Keep s0 s) : Keep s0 (s.withXlt v) := ⟨h.1, h.2, h.3, h.4, h.5⟩
theorem keep_withCfg {v : ImgCfg} (h : Keep s0 s) : Keep s0 (s.withCfg v) := ⟨h.1, h.2, h.3, h.4, h.5⟩
theorem keep_withFlash {v : Flash} (h : Keep s0 s) : Keep s0 (s.withFlash v) := ⟨h.1, h.2, h.3, h.4, h.5⟩
theorem keep_withUpdate {v : Option Update} (h : Keep s0 s) : Keep s0 (s.withUpdate v) := ⟨h.1, h.2, h.3, h.4, h.5⟩
theorem keep_withJournals {v : Tab Journal} (h : Keep s0 s) : Keep s0 (s.withJournals v) := ⟨h.1, h.2, h.3, h.4, h.5⟩
theorem keep_withSigned {v : Nat} (h : Keep s0 s) : Keep s0 (s.withSigned v) := ⟨h.1, h.2, h.3, h.4, h.5⟩
theorem keep_withModx {v : ModuleX} (h : Keep s0 s) : Keep s0 (s.withModx v) := ⟨h.1, h.2, h.3, h.4, h.5⟩
theorem keep_withLedger {v : Tab LedgerX} (h : Keep s0 s) : Keep s0 (s.withLedger v) := ⟨h.1, h.2, h.3, h.4, h.5⟩
theorem keep_withHup {v : Holdup} (h : Keep s0 s) : Keep s0 (s.withHup v) := ⟨h.1, h.2, h.3, h.4, h.5⟩
theorem keep_withResetQ {v : List ResetReq} (h : Keep s0 s) : Keep s0 (s.withResetQ v) := ⟨h.1, h.2, h.3, h.4, h.5⟩
theorem keep_withCopies {v : List Copy} (h : Keep s0 s) : Keep s0 (s.withCopies v) := ⟨h.1, h.2, h.3, h.4, h.5⟩
theorem keep_withHold {v : Tab HoldX} (h : Keep s0 s) : Keep s0 (s.withHold v) := ⟨h.1, h.2, h.3, h.4, h.5⟩
theorem keep_withHostx {v : Tab HostX} (h : Keep s0 s) : Keep s0 (s.withHostx v) := ⟨h.1, h.2, h.3, h.4, h.5⟩
theorem keep_withL2busy {v : Tab Nat} (h : Keep s0 s) : Keep s0 (s.withL2busy v) := ⟨h.1, h.2, h.3, h.4, h.5⟩
theorem keep_withDir {v : List DirEnt} (h : Keep s0 s) : Keep s0 (s.withDir v) := ⟨h.1, h.2, h.3, h.4, h.5⟩
theorem keep_withHealth {v : Health} (h : Keep s0 s) : Keep s0 (s.withHealth v) := ⟨h.1, h.2, h.3, h.4, h.5⟩
theorem keep_withCtxx {v : Tab CtxX} (h : Keep s0 s) : Keep s0 (s.withCtxx v) := ⟨h.1, h.2, h.3, h.4, h.5⟩
theorem keep_withBtest {v : Tab Nat} (h : Keep s0 s) : Keep s0 (s.withBtest v) := ⟨h.1, h.2, h.3, h.4, h.5⟩
theorem keep_withPlans {v : List Plan} (h : Keep s0 s) : Keep s0 (s.withPlans v) := ⟨h.1, h.2, h.3, h.4, h.5⟩
theorem keep_withPlumb {v : Tab (Option Sample)} (h : Keep s0 s) : Keep s0 (s.withPlumb v) := ⟨h.1, h.2, h.3, h.4, h.5⟩
theorem keep_withStackx {v : Tab StackX} (h : Keep s0 s) : Keep s0 (s.withStackx v) := ⟨h.1, h.2, h.3, h.4, h.5⟩
theorem keep_withSktLast {v : Tab Nat} (h : Keep s0 s) : Keep s0 (s.withSktLast v) := ⟨h.1, h.2, h.3, h.4, h.5⟩
theorem keep_withTxns {v : List Txn} (h : Keep s0 s) : Keep s0 (s.withTxns v) := ⟨h.1, h.2, h.3, h.4, h.5⟩
theorem keep_withWaitq {v : List Req} (h : Keep s0 s) : Keep s0 (s.withWaitq v) := ⟨h.1, h.2, h.3, h.4, h.5⟩
theorem keep_withResps {v : List Copy} (h : Keep s0 s) : Keep s0 (s.withResps v) := ⟨h.1, h.2, h.3, h.4, h.5⟩
theorem keep_withWbs {v : List Copy} (h : Keep s0 s) : Keep s0 (s.withWbs v) := ⟨h.1, h.2, h.3, h.4, h.5⟩
theorem keep_withAnswers {v : List Answer} (h : Keep s0 s) : Keep s0 (s.withAnswers v) := ⟨h.1, h.2, h.3, h.4, h.5⟩
theorem keep_withReclaims {v : List (Nat × Nat × Nat)} (h : Keep s0 s) : Keep s0 (s.withReclaims v) := ⟨h.1, h.2, h.3, h.4, h.5⟩
theorem keep_withNamed {v : List Nat} (h : Keep s0 s) : Keep s0 (s.withNamed v) := ⟨h.1, h.2, h.3, h.4, h.5⟩
theorem keep_withPred {v : Tab Nat} (h : Keep s0 s) : Keep s0 (s.withPred v) := ⟨h.1, h.2, h.3, h.4, h.5⟩
theorem keep_withRahead {v : Tab (List Nat)} (h : Keep s0 s) : Keep s0 (s.withRahead v) := ⟨h.1, h.2, h.3, h.4, h.5⟩
theorem keep_withBondx {v : Tab BondX} (h : Keep s0 s) : Keep s0 (s.withBondx v) := ⟨h.1, h.2, h.3, h.4, h.5⟩
theorem keep_withRejoins {v : List Nat} (h : Keep s0 s) : Keep s0 (s.withRejoins v) := ⟨h.1, h.2, h.3, h.4, h.5⟩
theorem keep_withNetRegs {v : List NetReg} (h : Keep s0 s) : Keep s0 (s.withNetRegs v) := ⟨h.1, h.2, h.3, h.4, h.5⟩
theorem keep_withFlows {v : Tab FlowX} (h : Keep s0 s) : Keep s0 (s.withFlows v) := ⟨h.1, h.2, h.3, h.4, h.5⟩
theorem keep_withRxbuf {v : Tab (List Instr)} (h : Keep s0 s) : Keep s0 (s.withRxbuf v) := ⟨h.1, h.2, h.3, h.4, h.5⟩
theorem keep_withGroups {v : List Group} (h : Keep s0 s) : Keep s0 (s.withGroups v) := ⟨h.1, h.2, h.3, h.4, h.5⟩
theorem keep_withChains {v : List ChainX} (h : Keep s0 s) : Keep s0 (s.withChains v) := ⟨h.1, h.2, h.3, h.4, h.5⟩
theorem keep_withWdog {v : Tab Nat} (h : Keep s0 s) : Keep s0 (s.withWdog v) := ⟨h.1, h.2, h.3, h.4, h.5⟩
theorem keep_withFlips {v : List Nat} (h : Keep s0 s) : Keep s0 (s.withFlips v) := ⟨h.1, h.2, h.3, h.4, h.5⟩
theorem keep_withRegq {v : List (Nat × W32)} (h : Keep s0 s) : Keep s0 (s.withRegq v) := ⟨h.1, h.2, h.3, h.4, h.5⟩
theorem keep_withPrivStore {v : Tab (List (List Byte))} (h : Keep s0 s) : Keep s0 (s.withPrivStore v) := ⟨h.1, h.2, h.3, h.4, h.5⟩
theorem keep_withBootStore {v : Tab (List Byte)} (h : Keep s0 s) : Keep s0 (s.withBootStore v) := ⟨h.1, h.2, h.3, h.4, h.5⟩
theorem keep_withHarts {v : Tab Nat} (h : Keep s0 s) : Keep s0 (s.withHarts v) := ⟨h.1, h.2, h.3, h.4, h.5⟩
theorem keep_withTxSeen {v : Nat} (h : Keep s0 s) : Keep s0 (s.withTxSeen v) := ⟨h.1, h.2, h.3, h.4, h.5⟩
theorem keep_withSitesOut {v : List Nat} (h : Keep s0 s) : Keep s0 (s.withSitesOut v) := ⟨h.1, h.2, h.3, h.4, h.5⟩

/-! ### Machine/Mem.lean -/


theorem keep_wr {s0 s : State} {a : Nat} {v : W32} (hk : Keep s0 s) : Keep s0 (wr s a v) := by
  unfold wr
  repeat' first
    | with_reducible first
        | assumption | refine keep_withRegs ?_ ?_
    | exact fun h => twf_tset _ _ h

theorem keep_fset {s0 s : State} {a lo n v : Nat} (hk : Keep s0 s) : Keep s0 (fset s a lo n v) := by
  unfold fset
  repeat' with_reducible first | assumption | refine keep_wr ?_

theorem keep_wrW {s0 s : State} {a : Nat} {v : W64} (hk : Keep s0 s) : Keep s0 (wrW s a v) := by
  unfold wrW
  repeat' first
    | with_reducible first
        | assumption | refine keep_withWide ?_ ?_
    | exact fun h => twf_tset _ _ h

theorem keep_emit {s0 s : State} {k : MK} {args : List Nat} {data : List Byte} (hk : Keep s0 s) : Keep s0 (emit s k args data) := by
  unfold emit
  repeat' with_reducible first | assumption | refine keep_withSent ?_

theorem keep_dirUse {s0 s : State} {h : Nat} (hk : Keep s0 s) : Keep s0 (dirUse s h) := by
  unfold dirUse
  repeat' with_reducible first | assumption | refine keep_fset ?_

theorem keep_dirUses {s0 s : State} {es : List DirEnt} (hk : Keep s0 s) : Keep s0 (dirUses s es) := by
  unfold dirUses
  repeat' first
    | with_reducible first
        | assumption | refine keep_dirUse ?_ | refine keep_foldl ?_ ?_ | refine keep_foldl_fst ?_ ?_ | refine keep_foldl_snd ?_ ?_
    | split | intro _ _ _

theorem keep_performReq {s0 s : State} {r : Req} (hk : Keep s0 s) : Keep s0 (performReq s r).1 := by
  unfold performReq
  repeat' first
    | with_reducible first
        | assumption | refine keep_withMem ?_ ?_ | refine keep_withPoison ?_ | refine keep_withFlips ?_ | refine keep_ite ?_ ?_
        | refine keep_ite_fst ?_ ?_
    | exact fun h => twf_tset _ _ h | exact fun h => twf_tdel _ h | exact fun h => twf_filter _ h | exact fun h => twf_tfilter _ h | exact fun h => twf_wrBytes h | exact fun _ => twf_nil _ | exact fun h => twf_flushMem h

theorem keep_performPending {s0 s : State} {hit : Nat → Bool} (hk : Keep s0 s) : Keep s0 (performPending s hit) := by
  unfold performPending
  repeat' first
    | with_reducible first
        | assumption | refine keep_performReq ?_ | refine keep_withTxns ?_ | refine keep_withWaitq ?_ | refine keep_ite ?_ ?_
        | refine keep_ite_fst ?_ ?_ | refine keep_ite_snd ?_ ?_ | refine keep_foldl ?_ ?_ | refine keep_foldl_fst ?_ ?_ | refine keep_foldl_snd ?_ ?_
        | (refine keep_pair_fst (by with_reducible assumption) ?_) | (refine keep_pair_snd (by with_reducible assumption) ?_)
    | split | intro _ _ _

theorem keep_dropLines {s0 s : State} {l n : Nat} (hk : Keep s0 s) : Keep s0 (dropLines s l n) := by
  unfold dropLines
  repeat' first
    | with_reducible first
        | assumption | refine keep_dirUses ?_ | refine keep_performPending ?_ | refine keep_withMem ?_ ?_ | refine keep_withCopies ?_
        | refine keep_withDir ?_ | refine keep_withTxns ?_ | refine keep_withResps ?_ | refine keep_withWbs ?_ | refine keep_ite ?_ ?_
    | exact fun h => twf_tset _ _ h | exact fun h => twf_tdel _ h | exact fun h => twf_filter _ h | exact fun h => twf_tfilter _ h | exact fun h => twf_wrBytes h | exact fun _ => twf_nil _ | exact fun h => twf_flushMem h

theorem keep_cleanLines {s0 s : State} {l n : Nat} (hk : Keep s0 s) : Keep s0 (cleanLines s l n) := by
  unfold cleanLines
  repeat' first
    | with_reducible first
        | assumption | refine keep_withMem ?_ ?_ | refine keep_withCopies ?_ | refine keep_ite ?_ ?_
    | exact fun h => twf_tset _ _ h | exact fun h => twf_tdel _ h | exact fun h => twf_filter _ h | exact fun h => twf_tfilter _ h | exact fun h => twf_wrBytes h | exact fun _ => twf_nil _ | exact fun h => twf_flushMem h

theorem keep_cleanPa {s0 s : State} {pa n : Nat} (hk : Keep s0 s) : Keep s0 (cleanPa s pa n) := by
  unfold cleanPa
  repeat' first
    | with_reducible first
        | assumption | refine keep_cleanLines ?_ | refine keep_foldl ?_ ?_ | refine keep_foldl_fst ?_ ?_ | refine keep_foldl_snd ?_ ?_
    | split | intro _ _ _

theorem keep_purgeOne {s0 s : State} {e l n : Nat} (hk : Keep s0 s) : Keep s0 (purgeOne s e l n) := by
  unfold purgeOne
  repeat' with_reducible first | assumption | refine keep_withRahead ?_

theorem keep_purgeRange {s0 s : State} {l n : Nat} (hk : Keep s0 s) : Keep s0 (purgeRange s l n) := by
  unfold purgeRange
  repeat' first
    | with_reducible first
        | assumption | refine keep_purgeOne ?_ | refine keep_foldl ?_ ?_ | refine keep_foldl_fst ?_ ?_ | refine keep_foldl_snd ?_ ?_
    | split | intro _ _ _

theorem keep_writeBackAll {s0 s : State} {hit : Copy → Bool} (hk : Keep s0 s) : Keep s0 (writeBackAll s hit) := by
  unfold writeBackAll
  repeat' first
    | with_reducible first
        | assumption | refine keep_dirUses ?_ | refine keep_withMem ?_ ?_ | refine keep_withCopies ?_ | refine keep_withDir ?_
        | exact fun hm => twf_foldl hm (fun _ _ => twf_wrBytes)
    | exact fun h => twf_tset _ _ h | exact fun h => twf_tdel _ h | exact fun h => twf_filter _ h | exact fun h => twf_tfilter _ h | exact fun h => twf_wrBytes h | exact fun _ => twf_nil _ | exact fun h => twf_flushMem h

theorem keep_memWriteAt {s0 s : State} {a : Nat} {bs : List Byte} (hk : Keep s0 s) : Keep s0 (memWriteAt s a bs) := by
  unfold memWriteAt
  repeat' first
    | with_reducible first
        | assumption | refine keep_dropLines ?_ | refine keep_withMem ?_ ?_ | refine keep_withPoison ?_ | refine keep_withFlips ?_
    | exact fun h => twf_tset _ _ h | exact fun h => twf_tdel _ h | exact fun h => twf_filter _ h | exact fun h => twf_tfilter _ h | exact fun h => twf_wrBytes h

theorem keep_memWriteF {s0 s : State} {a : Nat} {bs : List Byte} {n : Nat} (h : Keep s0 s) : Keep s0 (memWriteF s a bs n) := by
  induction n generalizing s a bs with
  | zero =>
    unfold memWriteF
    repeat' with_reducible first
      | assumption
  | succ n ih =>
    unfold memWriteF
    try dsimp only
    repeat' with_reducible first | assumption | apply ih | refine keep_memWriteAt ?_ | refine keep_ite ?_ ?_

theorem keep_memWrite {s0 s : State} {a : Nat} {bs : List Byte} (hk : Keep s0 s) : Keep s0 (memWrite s a bs) := by
  unfold memWrite
  repeat' with_reducible first | assumption | refine keep_memWriteF ?_

theorem keep_setPoison {s0 s : State} {a : Nat} (hk : Keep s0 s) : Keep s0 (setPoison s a) := by
  unfold setPoison
  repeat' with_reducible first | assumption | refine keep_withPoison ?_

theorem keep_memLose {s0 s : State} {lo hi : Nat} (hk : Keep s0 s) : Keep s0 (memLose s lo hi) := by
  unfold memLose
  repeat' first
    | with_reducible first
        | assumption | refine keep_withMem ?_ ?_ | refine keep_withPoison ?_ | refine keep_withFlips ?_
    | exact fun h => twf_tset _ _ h | exact fun h => twf_tdel _ h | exact fun h => twf_filter _ h

theorem keep_loseStack {s0 s : State} {h : Nat} (hk : Keep s0 s) : Keep s0 (loseStack s h) := by
  unfold loseStack
  repeat' with_reducible first
    | assumption | refine keep_memLose ?_ | refine keep_withCopies ?_ | refine keep_withWbs ?_ | refine keep_withNamed ?_

theorem keep_zeroSpad {s0 s : State} {d n : Nat} (hk : Keep s0 s) : Keep s0 (zeroSpad s d n) := by
  unfold zeroSpad
  repeat' with_reducible first | assumption | refine keep_memLose ?_

/-! ### Machine/Ops.lean -/


theorem keep_setRD {s0 s : State} {a lo reason detail : Nat} (hk : Keep s0 s) : Keep s0 (setRD s a lo reason detail) := by
  unfold setRD
  repeat' with_reducible first | assumption | refine keep_fset ?_

theorem keep_rwlIn {s0 s : State} {a mask : Nat} {v : W32} (hk : Keep s0 s) : Keep s0 (rwlIn s a mask v) := by
  unfold rwlIn
  repeat' with_reducible first | assumption | refine keep_wr ?_ | refine keep_ite ?_ ?_

theorem keep_finishEnable {s0 s : State} {a lo : Nat} {c : Chk} (hk : Keep s0 s) : Keep s0 (finishEnable s a lo c) := by
  unfold finishEnable
  repeat' first
    | with_reducible first
        | assumption | refine keep_fset ?_ | refine keep_setRD ?_
    | split

theorem keep_onChk {s0 s : State} {a lo : Nat} {c : Chk} {f : State → State} (h : Keep s0 s) (hf : Keep s0 (f s)) :
    Keep s0 (onChk s a lo c f) := by
  unfold onChk
  split
  · exact keep_setRD h
  · exact hf

theorem keep_holdAdd {s0 s : State} {a lo n k : Nat} (hk : Keep s0 s) : Keep s0 (holdAdd s a lo n k) := by
  unfold holdAdd
  repeat' with_reducible first | assumption | refine keep_fset ?_

theorem keep_wrapAdd {s0 s : State} {a lo n k : Nat} (hk : Keep s0 s) : Keep s0 (wrapAdd s a lo n k) := by
  unfold wrapAdd
  repeat' with_reducible first | assumption | refine keep_fset ?_

theorem keep_takeFree {s0 s : State} (hk : Keep s0 s) : Keep s0 (takeFree s).2 := by
  unfold takeFree
  repeat' with_reducible first | assumption | refine keep_withFresh ?_

theorem keep_setPd {s0 s : State} {n v : Nat} (hk : Keep s0 s) : Keep s0 (setPd s n v) := by
  unfold setPd
  repeat' with_reducible first | assumption | refine keep_fset ?_

theorem keep_viaWin {s0 s : State} {u : Nat} {f : State → Out} (h : Keep s0 s) (hf : KeepOut s0 (f s)) :
    KeepOut s0 (viaWin s u f) := by
  unfold viaWin
  exact keepOut_ite (keepOut_next (keep_emit h)) (keepOut_ite (keepOut_next h) hf)

theorem keep_sendMsi {s0 s : State} {addr data : Nat} (hk : Keep s0 s) : Keep s0 (sendMsi s addr data) := by
  unfold sendMsi
  repeat' first
    | with_reducible first
        | assumption | refine keep_emit ?_ | refine keep_holdAdd ?_ | refine keep_ite ?_ ?_ | refine keep_ite_fst ?_ ?_ | refine keep_ite_snd ?_ ?_
    | split

theorem keep_requestStore {s0 s : State} {w : StoreWork} (hk : Keep s0 s) : Keep s0 (requestStore s w) := by
  unfold requestStore
  repeat' with_reducible first | assumption | refine keep_withHup ?_

theorem keep_setFring {s0 s : State} {d r : Nat} {x : FRingX} (hk : Keep s0 s) : Keep s0 (setFring s d r x) := by
  unfold setFring
  repeat' with_reducible first | assumption | refine keep_withFring ?_

theorem keep_fringPut {s0 s : State} {d r : Nat} {x : FRec} (hk : Keep s0 s) : Keep s0 (fringPut s d r x) := by
  unfold fringPut
  repeat' with_reducible first
    | assumption | refine keep_fset ?_ | refine keep_memWrite ?_ | refine keep_sendMsi ?_ | refine keep_ite ?_ ?_

theorem keep_fringOvfReg {s0 s : State} {d r : Nat} (hk : Keep s0 s) : Keep s0 (fringOvfReg s d r) := by
  unfold fringOvfReg
  repeat' with_reducible first | assumption | refine keep_fset ?_

theorem keep_fringAbsorb {s0 s : State} {d r : Nat} {x : FRec} (hk : Keep s0 s) : Keep s0 (fringAbsorb s d r x) := by
  unfold fringAbsorb
  repeat' with_reducible first | assumption | refine keep_fringOvfReg ?_ | refine keep_fset ?_ | refine keep_setFring ?_

theorem keep_logWords {s0 s : State} {d i : Nat} {x : FRec} (hk : Keep s0 s) : Keep s0 (logWords s d i x) := by
  unfold logWords
  repeat' first
    | with_reducible first
        | assumption | refine keep_wr ?_ | refine keep_foldl ?_ ?_ | refine keep_foldl_fst ?_ ?_ | refine keep_foldl_snd ?_ ?_
    | split | intro _ _ _

theorem keep_logFatal {s0 s : State} {d : Nat} {x : FRec} (hk : Keep s0 s) : Keep s0 (logFatal s d x) := by
  unfold logFatal
  repeat' with_reducible first
    | assumption | refine keep_fset ?_ | refine keep_holdAdd ?_ | refine keep_logWords ?_ | refine keep_requestStore ?_ | refine keep_ite ?_ ?_

theorem keep_modEvent {s0 s : State} {i : Nat} (hk : Keep s0 s) : Keep s0 (modEvent s i) := by
  unfold modEvent
  repeat' with_reducible first | assumption | refine keep_fset ?_

theorem keep_putRecord {s0 s : State} {d : Nat} {x : FRec} (hk : Keep s0 s) : Keep s0 (putRecord s d x) := by
  unfold putRecord
  repeat' with_reducible first
    | assumption | refine keep_fringAbsorb ?_ | refine keep_fringPut ?_ | refine keep_fset ?_ | refine keep_logFatal ?_ | refine keep_modEvent ?_
    | refine keep_setFring ?_ | refine keep_ite ?_ ?_

theorem keep_recordAt {s0 s : State} {e : Ev} {level flags recovery : Nat} (hk : Keep s0 s) : Keep s0 (recordAt s e level flags recovery) := by
  unfold recordAt
  repeat' with_reducible first | assumption | refine keep_putRecord ?_ | refine keep_wrW ?_

theorem keep_recordCount {s0 s : State} {e : Ev} {count : Nat} (hk : Keep s0 s) : Keep s0 (recordCount s e count) := by
  unfold recordCount
  repeat' with_reducible first | assumption | refine keep_putRecord ?_ | refine keep_wrW ?_

/-! ### Machine/Stack.lean -/


theorem keep_setStackX {s0 s : State} {h : Nat} {x : StackX} (hk : Keep s0 s) : Keep s0 (setStackX s h x) := by
  unfold setStackX
  repeat' with_reducible first | assumption | refine keep_withStackx ?_

theorem keep_setPc {s0 s : State} {h pc v : Nat} (hk : Keep s0 s) : Keep s0 (setPc s h pc v) := by
  unfold setPc
  repeat' with_reducible first | assumption | refine keep_fset ?_

theorem keep_healthPc {s0 s : State} {h pc v : Nat} (hk : Keep s0 s) : Keep s0 (healthPc s h pc v) := by
  unfold healthPc
  repeat' with_reducible first | assumption | refine keep_requestStore ?_ | refine keep_withHealth ?_

theorem keep_retirePc {s0 s : State} {h pc : Nat} (hk : Keep s0 s) : Keep s0 (retirePc s h pc) := by
  unfold retirePc
  repeat' with_reducible first
    | assumption | refine keep_fset ?_ | refine keep_healthPc ?_ | refine keep_setPc ?_ | refine keep_setStackX ?_

theorem keep_stackLost {s0 s : State} {h : Nat} (hk : Keep s0 s) : Keep s0 (stackLost s h) := by
  unfold stackLost
  repeat' first
    | with_reducible first
        | assumption | refine keep_loseStack ?_ | refine keep_retirePc ?_ | refine keep_setStackX ?_
    | split

theorem keep_applyPcs {s0 s : State} {h : Nat} {warm : Bool} (hk : Keep s0 s) : Keep s0 (applyPcs s h warm) := by
  unfold applyPcs
  repeat' first
    | with_reducible first
        | assumption | refine keep_fset ?_ | refine keep_setPc ?_ | refine keep_setStackX ?_ | refine keep_ite ?_ ?_ | refine keep_ite_fst ?_ ?_
        | refine keep_ite_snd ?_ ?_ | refine keep_foldl ?_ ?_ | refine keep_foldl_fst ?_ ?_ | refine keep_foldl_snd ?_ ?_
    | split | intro _ _ _ | dsimp only

/-! ### Machine/Ctx.lean -/


theorem keep_setCtxX {s0 s : State} {d n c : Nat} {x : CtxX} (hk : Keep s0 s) : Keep s0 (setCtxX s d n c x) := by
  unfold setCtxX
  repeat' with_reducible first | assumption | refine keep_withCtxx ?_

theorem keep_setCtxState {s0 s : State} {d n c v : Nat} (hk : Keep s0 s) : Keep s0 (setCtxState s d n c v) := by
  unfold setCtxState
  repeat' with_reducible first | assumption | refine keep_fset ?_ | refine keep_ite ?_ ?_

theorem keep_dropOps {s0 s : State} {d n c : Nat} (hk : Keep s0 s) : Keep s0 (dropOps s d n c) := by
  unfold dropOps
  repeat' with_reducible first | assumption | refine keep_setCtxX ?_

theorem keep_putPlan {s0 s : State} {p : Plan} (hk : Keep s0 s) : Keep s0 (putPlan s p) := by
  unfold putPlan
  repeat' with_reducible first | assumption | refine keep_withPlans ?_

theorem keep_loseSample {s0 s : State} {d : Nat} (hk : Keep s0 s) : Keep s0 (loseSample s d) := by
  unfold loseSample
  repeat' first
    | with_reducible first
        | assumption | refine keep_fset ?_ | refine keep_withPlumb ?_
    | split

theorem keep_losePlanSample {s0 s : State} {d h : Nat} (hk : Keep s0 s) : Keep s0 (losePlanSample s d h) := by
  unfold losePlanSample
  repeat' first
    | with_reducible first
        | assumption | refine keep_loseSample ?_ | refine keep_ite ?_ ?_ | refine keep_ite_fst ?_ ?_ | refine keep_ite_snd ?_ ?_
    | split

theorem keep_dropSample {s0 s : State} {d : Nat} (hk : Keep s0 s) : Keep s0 (dropSample s d) := by
  unfold dropSample
  repeat' with_reducible first | assumption | refine keep_loseSample ?_ | refine keep_wrapAdd ?_ | refine keep_ite ?_ ?_

theorem keep_dropCapture {s0 s : State} {d n c : Nat} (hk : Keep s0 s) : Keep s0 (dropCapture s d n c) := by
  unfold dropCapture
  repeat' first
    | with_reducible first
        | assumption | refine keep_dropSample ?_ | refine keep_ite ?_ ?_ | refine keep_ite_fst ?_ ?_ | refine keep_ite_snd ?_ ?_
    | split

theorem keep_dropCourseCapture {s0 s : State} {d c : Nat} (hk : Keep s0 s) : Keep s0 (dropCourseCapture s d c) := by
  unfold dropCourseCapture
  repeat' first
    | with_reducible first
        | assumption | refine keep_dropCapture ?_ | refine keep_ite ?_ ?_ | refine keep_ite_fst ?_ ?_ | refine keep_ite_snd ?_ ?_
    | split

theorem keep_numFresh {s0 s : State} {d h : Nat} (hk : Keep s0 s) : Keep s0 (numFresh s d h) := by
  unfold numFresh
  repeat' with_reducible first | assumption | refine keep_memWrite ?_

theorem keep_runReport {s0 s : State} {p : Plan} (hk : Keep s0 s) : Keep s0 (runReport s p) := by
  unfold runReport
  repeat' with_reducible first | assumption | refine keep_memWrite ?_ | refine keep_ite ?_ ?_

theorem keep_endContexts {s0 s : State} {p : Plan} (hk : Keep s0 s) : Keep s0 (endContexts s p) := by
  unfold endContexts
  repeat' first
    | with_reducible first
        | assumption | refine keep_dropCapture ?_ | refine keep_dropOps ?_ | refine keep_setCtxState ?_ | refine keep_ite ?_ ?_
        | refine keep_ite_fst ?_ ?_ | refine keep_ite_snd ?_ ?_ | refine keep_foldl ?_ ?_ | refine keep_foldl_fst ?_ ?_ | refine keep_foldl_snd ?_ ?_
    | split | intro _ _ _

theorem keep_stopRun {s0 s : State} {d h : Nat} (hk : Keep s0 s) : Keep s0 (stopRun s d h).1 := by
  unfold stopRun
  repeat' first
    | with_reducible first
        | assumption | refine keep_endContexts ?_ | refine keep_runReport ?_
    | split

/-! ### Machine/Xlat.lean -/


theorem keep_setXunit {s0 s : State} {u : Nat} {x : XUnit} (hk : Keep s0 s) : Keep s0 (setXunit s u x) := by
  unfold setXunit
  repeat' with_reducible first | assumption | refine keep_withXlt ?_

theorem keep_lookup {s0 s : State} {u bay asid va : Nat} (hk : Keep s0 s) : Keep s0 (lookup s u bay asid va).2 := by
  unfold lookup
  cases cacheHit (xunit s u) bay asid va with
  | some e => exact hk
  | none =>
    cases walk s u asid va with
    | ok e => exact keep_setXunit hk
    | missing l => exact hk
    | bad a b => exact hk

theorem keep_touchSkt {s0 s : State} {a : Nat} (hk : Keep s0 s) : Keep s0 (touchSkt s a) := by
  unfold touchSkt
  repeat' with_reducible first | assumption | refine keep_withSktLast ?_ | refine keep_ite ?_ ?_

theorem keep_xlatF {s0 : State} {u bay asid : Nat} {priv : Bool} {need : Nat} {f : Nat} :
    ∀ {t : Xlated} {va n : Nat}, Keep s0 t.s → Keep s0 (xlatF u bay asid priv need t va n f).s := by
  induction f with
  | zero => intro t va n h; exact h
  | succ f ih =>
    intro t va n h
    have hl := keep_lookup (u := u) (bay := bay) (asid := asid) (va := va % 2 ^ 57) h
    unfold xlatF
    dsimp only
    repeat' split
    all_goals first | assumption | (apply ih; first | assumption | (dsimp only; split <;> assumption))

theorem keep_xlatAll {s0 s : State} {u bay asid : Nat} {priv : Bool} {rs : List Region} (h : Keep s0 s) :
    Keep s0 (xlatAll s u bay asid priv rs).s := by
  have g : ∀ (rs : List Region) (t : Xlated), Keep s0 t.s → Keep s0 (rs.foldl (fun t r =>
      if t.bad ≠ none then t
      else if !vaForm r.1 then { t with bad := some (Rsn.CFG_RANGE, 0xB8) }
      else xlatF u bay asid priv r.2.2 t r.1 r.2.1 (r.2.1 / 4096 + 2)) t).s := by
    intro rs
    induction rs with
    | nil => intro t ht; exact ht
    | cons r rs ih =>
      intro t ht
      refine ih _ ?_
      dsimp only
      split
      · exact ht
      · split
        · exact ht
        · exact keep_xlatF ht
  unfold xlatAll
  dsimp only
  split
  · exact g rs _ h
  · exact g rs _ h

theorem keep_cleanExt {s0 s : State} {es : List Extent} {va n : Nat} (hk : Keep s0 s) : Keep s0 (cleanExt s es va n) := by
  unfold cleanExt
  repeat' first
    | with_reducible first
        | assumption | refine keep_cleanPa ?_ | refine keep_foldl ?_ ?_ | refine keep_foldl_fst ?_ ?_ | refine keep_foldl_snd ?_ ?_
    | split | intro _ _ _

/-! ### Machine/Adm.lean -/


/-- What an outcome of this kind keeps: its state, where it has one. -/
def KeepOpt (s : State) : Option State → Prop
  | .some t => Keep s t
  | .none => True

theorem keepOpt_ite {s0 : State} {c : Prop} [Decidable c] {a b : Option State} (h1 : KeepOpt s0 a) (h2 : KeepOpt s0 b) :
    KeepOpt s0 (if c then a else b) := by split <;> assumption
theorem keepOpt_someI {s0 t : State}  (h : Keep s0 t) : KeepOpt s0 (.some t ) := h
theorem keepOpt_some {s0 t : State}  {g : Option State} (e : g = .some t ) (h : KeepOpt s0 g) : Keep s0 t := by rw [e] at h; exact h
theorem keepOpt_noneI {s0 : State}  : KeepOpt s0 (.none ) := True.intro

theorem keep_setRingX {s0 s : State} {d r : Nat} {x : RingX} (hk : Keep s0 s) : Keep s0 (setRingX s d r x) := by
  unfold setRingX
  repeat' with_reducible first | assumption | refine keep_withRingx ?_

theorem keep_setHoldX {s0 s : State} {d : Nat} {x : HoldX} (hk : Keep s0 s) : Keep s0 (setHoldX s d x) := by
  unfold setHoldX
  repeat' with_reducible first | assumption | refine keep_withHold ?_

theorem keep_holdState {s0 s : State} {d : Nat} (hk : Keep s0 s) : Keep s0 (holdState s d) := by
  unfold holdState
  repeat' with_reducible first | assumption | refine keep_fset ?_ | refine keep_ite ?_ ?_

theorem keep_holdPut {s0 s : State} {d kind ring iseq pa : Nat} {bs : List Byte} (hk : Keep s0 s) : Keep s0 (holdPut s d kind ring iseq pa bs).1 := by
  unfold holdPut
  repeat' with_reducible first
    | assumption | refine keep_fset ?_ | refine keep_holdState ?_ | refine keep_memWrite ?_ | refine keep_setHoldX ?_ | refine keep_ite ?_ ?_
    | refine keep_ite_fst ?_ ?_

theorem keep_devWriteF {s0 s : State} {d kind ring iseq pa : Nat} {bs : List Byte} {held : Bool} {n : Nat} (h : Keep s0 s) : Keep s0 (devWriteF s d kind ring iseq pa bs held n).1 := by
  induction n generalizing s pa bs held with
  | zero =>
    unfold devWriteF
    repeat' with_reducible first
      | assumption
  | succ n ih =>
    unfold devWriteF
    try dsimp only
    repeat' with_reducible first
      | assumption | apply ih | refine keep_holdPut ?_ | refine keep_setRD ?_ | refine keep_fset ?_ | refine keep_setHoldX ?_
      | refine keep_memWriteAt ?_ | refine keep_touchSkt ?_ | refine keep_ite ?_ ?_ | refine keep_ite_fst ?_ ?_

theorem keep_devWrite {s0 s : State} {d kind ring iseq pa : Nat} {bs : List Byte} (hk : Keep s0 s) : Keep s0 (devWrite s d kind ring iseq pa bs).1 := by
  unfold devWrite
  repeat' with_reducible first
    | assumption | refine keep_devWriteF ?_ | refine keep_memWrite ?_ | refine keep_ite ?_ ?_ | refine keep_ite_fst ?_ ?_

theorem keep_ringNotify {s0 s : State} {d r kind : Nat} {want : Bool} (hk : Keep s0 s) : Keep s0 (ringNotify s d r kind want) := by
  unfold ringNotify
  repeat' with_reducible first | assumption | refine keep_sendMsi ?_ | refine keep_ite ?_ ?_

theorem keep_putCrec {s0 s : State} {d r tag seq kind scope reason detail flags time aux : Nat} {want : Bool} (hk : Keep s0 s) : Keep s0 (putCrec s d r tag seq kind scope reason detail flags time aux want) := by
  unfold putCrec
  repeat' first
    | with_reducible first
        | assumption | refine keep_emit ?_ | refine keep_fset ?_ | refine keep_holdState ?_ | refine keep_lookup ?_ | refine keep_memWrite ?_
        | refine keep_ringNotify ?_ | refine keep_touchSkt ?_ | refine keep_ite ?_ ?_ | refine keep_ite_fst ?_ ?_ | refine keep_ite_snd ?_ ?_
        | (refine keep_pair_fst (by with_reducible assumption) ?_) | (refine keep_pair_snd (by with_reducible assumption) ?_)
    | split

theorem keep_setJournal {s0 s : State} {d j : Nat} {x : Journal} (hk : Keep s0 s) : Keep s0 (setJournal s d j x) := by
  unfold setJournal
  repeat' with_reducible first | assumption | refine keep_withJournals ?_

theorem keep_journalItem {s0 s : State} {it : Item} {reason detail flags : Nat} (hk : Keep s0 s) : Keep s0 (journalItem s it reason detail flags) := by
  unfold journalItem
  repeat' first
    | with_reducible first
        | assumption | refine keep_fset ?_ | refine keep_memWrite ?_ | refine keep_setJournal ?_ | refine keep_ite ?_ ?_ | refine keep_ite_fst ?_ ?_
        | refine keep_ite_snd ?_ ?_
    | split

theorem keep_setLedgerX {s0 s : State} {d : Nat} {x : LedgerX} (hk : Keep s0 s) : Keep s0 (setLedgerX s d x) := by
  unfold setLedgerX
  repeat' with_reducible first | assumption | refine keep_withLedger ?_

theorem keep_putItem {s0 s : State} {it : Item} (hk : Keep s0 s) : Keep s0 (putItem s it) := by
  unfold putItem
  repeat' with_reducible first | assumption | refine keep_withItems ?_

theorem keep_extReg {s0 s : State} {d : Nat} (hk : Keep s0 s) : Keep s0 (extReg s d) := by
  unfold extReg
  repeat' with_reducible first | assumption | refine keep_fset ?_

theorem keep_ckpCount {s0 s : State} {d : Nat} (hk : Keep s0 s) : Keep s0 (ckpCount s d) := by
  unfold ckpCount
  repeat' with_reducible first | assumption | refine keep_fset ?_

theorem keep_loseOut {s0 s : State} {it : Item} (hk : Keep s0 s) : Keep s0 (loseOut s it) := by
  unfold loseOut
  repeat' first
    | with_reducible first
        | assumption | refine keep_memWrite ?_ | refine keep_takeFree ?_ | refine keep_ite ?_ ?_ | refine keep_ite_fst ?_ ?_
        | refine keep_ite_snd ?_ ?_ | refine keep_foldl ?_ ?_ | refine keep_foldl_fst ?_ ?_ | refine keep_foldl_snd ?_ ?_
        | (refine keep_pair_fst (by with_reducible assumption) ?_) | (refine keep_pair_snd (by with_reducible assumption) ?_)
    | split | intro _ _ _

theorem keep_ftgStatus {s0 s : State} {h : Nat} (hk : Keep s0 s) : Keep s0 (ftgStatus s h) := by
  unfold ftgStatus
  repeat' first
    | with_reducible first
        | assumption | refine keep_fset ?_ | refine keep_takeFree ?_ | refine keep_ite ?_ ?_ | refine keep_ite_fst ?_ ?_ | refine keep_ite_snd ?_ ?_
        | refine keep_foldl ?_ ?_ | refine keep_foldl_fst ?_ ?_ | refine keep_foldl_snd ?_ ?_
        | (refine keep_pair_fst (by with_reducible assumption) ?_) | (refine keep_pair_snd (by with_reducible assumption) ?_)
    | split | intro _ _ _

theorem keep_ftgStatuses {s0 s : State} {d : Nat} (hk : Keep s0 s) : Keep s0 (ftgStatuses s d) := by
  unfold ftgStatuses
  repeat' first
    | with_reducible first
        | assumption | refine keep_ftgStatus ?_ | refine keep_foldl ?_ ?_ | refine keep_foldl_fst ?_ ?_ | refine keep_foldl_snd ?_ ?_
    | split | intro _ _ _

theorem keep_dropRegs {s0 s : State} {p : NetReg → Bool} (hk : Keep s0 s) : Keep s0 (dropRegs s p) := by
  unfold dropRegs
  repeat' first
    | with_reducible first
        | assumption | refine keep_setXunit ?_ | refine keep_withNetRegs ?_ | refine keep_ite ?_ ?_ | refine keep_ite_fst ?_ ?_
        | refine keep_ite_snd ?_ ?_ | refine keep_foldl ?_ ?_ | refine keep_foldl_fst ?_ ?_ | refine keep_foldl_snd ?_ ?_
    | split | intro _ _ _

theorem keep_dropItem {s0 s : State} {it : Item} (hk : Keep s0 s) : Keep s0 (dropItem s it) := by
  unfold dropItem
  repeat' first
    | with_reducible first
        | assumption | refine keep_ckpCount ?_ | refine keep_dropRegs ?_ | refine keep_extReg ?_ | refine keep_fset ?_ | refine keep_ftgStatus ?_
        | refine keep_setLedgerX ?_ | refine keep_withItems ?_ | refine keep_withChains ?_ | refine keep_ite ?_ ?_ | refine keep_ite_fst ?_ ?_
        | refine keep_ite_snd ?_ ?_ | refine keep_foldl ?_ ?_ | refine keep_foldl_fst ?_ ?_ | refine keep_foldl_snd ?_ ?_
    | split | intro _ _ _

theorem keep_groupEnd {s0 s : State} {it : Item} {reason detail : Nat} (hk : Keep s0 s) : Keep s0 (groupEnd s it reason detail) := by
  unfold groupEnd
  repeat' with_reducible first | assumption | refine keep_withGroups ?_ | refine keep_ite ?_ ?_

theorem keep_globalPurge {s0 s : State} {it : Item} (hk : Keep s0 s) : Keep s0 (globalPurge s it) := by
  unfold globalPurge
  repeat' first
    | with_reducible first
        | assumption | refine keep_emit ?_ | refine keep_purgeRange ?_ | refine keep_foldl ?_ ?_ | refine keep_foldl_fst ?_ ?_
        | refine keep_foldl_snd ?_ ?_
    | split | intro _ _ _

theorem keep_endItem {s0 s : State} {it : Item} {reason detail : Nat} (hk : Keep s0 s) : Keep s0 (endItem s it reason detail) := by
  unfold endItem
  repeat' with_reducible first
    | assumption | refine keep_dropItem ?_ | refine keep_globalPurge ?_ | refine keep_groupEnd ?_ | refine keep_journalItem ?_
    | refine keep_loseOut ?_ | refine keep_putCrec ?_ | refine keep_setHoldX ?_ | refine keep_stopRun ?_ | refine keep_withItems ?_
    | refine keep_ite ?_ ?_ | refine keep_ite_fst ?_ ?_

/-! ### Machine/Ladder.lean -/


theorem keep_recount {s0 s : State} {d : Nat} (hk : Keep s0 s) : Keep s0 (recount s d) := by
  unfold recount
  repeat' with_reducible first | assumption | refine keep_fset ?_ | refine keep_withSitesOut ?_

theorem keep_mapChange {s0 s : State} {d n v : Nat} (hk : Keep s0 s) : Keep s0 (mapChange s d n v) := by
  unfold mapChange
  repeat' with_reducible first | assumption | refine keep_fset ?_ | refine keep_requestStore ?_ | refine keep_withHealth ?_

theorem keep_lateItems {s0 s : State} {p : Item → Bool} {late : Nat} (hk : Keep s0 s) : Keep s0 (lateItems s p late) := by
  unfold lateItems
  repeat' with_reducible first | assumption | refine keep_withItems ?_

theorem keep_hitItems {s0 s : State} {p : Item → Bool} {reason detail late : Nat} (hk : Keep s0 s) : Keep s0 (hitItems s p reason detail late) := by
  unfold hitItems
  repeat' first
    | with_reducible first
        | assumption | refine keep_endItem ?_ | refine keep_lateItems ?_ | refine keep_foldl ?_ ?_ | refine keep_foldl_fst ?_ ?_
        | refine keep_foldl_snd ?_ ?_
    | split | intro _ _ _

theorem keep_haltCtx {s0 s : State} {d n c reason detail : Nat} (hk : Keep s0 s) : Keep s0 (haltCtx s d n c reason detail) := by
  unfold haltCtx
  repeat' with_reducible first
    | assumption | refine keep_dropCapture ?_ | refine keep_dropOps ?_ | refine keep_setCtxState ?_ | refine keep_setRD ?_ | refine keep_ite ?_ ?_

theorem keep_haltBlock {s0 s : State} {d n reason detail : Nat} (hk : Keep s0 s) : Keep s0 (haltBlock s d n reason detail) := by
  unfold haltBlock
  repeat' first
    | with_reducible first
        | assumption | refine keep_haltCtx ?_ | refine keep_foldl ?_ ?_ | refine keep_foldl_fst ?_ ?_ | refine keep_foldl_snd ?_ ?_
    | split | intro _ _ _

theorem keep_fenceBlock {s0 s : State} {d n reason detail : Nat} (hk : Keep s0 s) : Keep s0 (fenceBlock s d n reason detail) := by
  unfold fenceBlock
  repeat' first
    | with_reducible first
        | assumption | refine keep_endItem ?_ | refine keep_fset ?_ | refine keep_haltBlock ?_ | refine keep_mapChange ?_ | refine keep_recount ?_
        | refine keep_setRD ?_ | refine keep_ite ?_ ?_ | refine keep_ite_fst ?_ ?_ | refine keep_ite_snd ?_ ?_ | refine keep_foldl ?_ ?_
        | refine keep_foldl_fst ?_ ?_ | refine keep_foldl_snd ?_ ?_
    | split | intro _ _ _

theorem keep_poisonLine {s0 s : State} {l : Nat} (hk : Keep s0 s) : Keep s0 (poisonLine s l) := by
  unfold poisonLine
  repeat' with_reducible first | assumption | refine keep_withPoison ?_

theorem keep_queuedAt {s0 s : State} {h : Nat} (hk : Keep s0 s) : Keep s0 (queuedAt s h) := by
  unfold queuedAt
  repeat' with_reducible first | assumption | refine keep_fset ?_

theorem keep_cohMsg {s0 s : State} {code line frm dst : Nat} {data : List Byte} (hk : Keep s0 s) : Keep s0 (cohMsg s code line frm dst data) := by
  unfold cohMsg
  repeat' with_reducible first | assumption | refine keep_emit ?_

theorem keep_refuseReq {s0 s : State} {r : Req} {code : Nat} (hk : Keep s0 s) : Keep s0 (refuseReq s r code) := by
  unfold refuseReq
  repeat' with_reducible first
    | assumption | refine keep_cohMsg ?_ | refine keep_emit ?_ | refine keep_recordAt ?_ | refine keep_ite ?_ ?_

theorem keep_toHome {s0 s : State} {code line a h : Nat} {data : List Byte} (hk : Keep s0 s) : Keep s0 (toHome s code line a h data) := by
  unfold toHome
  repeat' with_reducible first | assumption | refine keep_cohMsg ?_ | refine keep_ite ?_ ?_

theorem keep_orphanDrop {s0 s : State} {a l : Nat} (hk : Keep s0 s) : Keep s0 (orphanDrop s a l) := by
  unfold orphanDrop
  repeat' with_reducible first | assumption | refine keep_recordAt ?_ | refine keep_withNamed ?_

theorem keep_evictAll {s0 s : State} {hit : Copy → Bool} (hk : Keep s0 s) : Keep s0 (evictAll s hit) := by
  unfold evictAll
  repeat' first
    | with_reducible first
        | assumption | refine keep_orphanDrop ?_ | refine keep_writeBackAll ?_ | refine keep_withCopies ?_ | refine keep_foldl ?_ ?_
        | refine keep_foldl_fst ?_ ?_ | refine keep_foldl_snd ?_ ?_
    | split | intro _ _ _

theorem keep_homeLost {s0 s : State} {h : Nat} (hk : Keep s0 s) : Keep s0 (homeLost s h) := by
  unfold homeLost
  repeat' first
    | with_reducible first
        | assumption | refine keep_refuseReq ?_ | refine keep_withCopies ?_ | refine keep_withDir ?_ | refine keep_withTxns ?_
        | refine keep_withWaitq ?_ | refine keep_withResps ?_ | refine keep_withWbs ?_ | refine keep_withReclaims ?_ | refine keep_foldl ?_ ?_
        | refine keep_foldl_fst ?_ ?_ | refine keep_foldl_snd ?_ ?_
    | split | intro _ _ _

theorem keep_homeReturn {s0 s : State} {h : Nat} (hk : Keep s0 s) : Keep s0 (homeReturn s h) := by
  unfold homeReturn
  repeat' first
    | with_reducible first
        | assumption | refine keep_poisonLine ?_ | refine keep_writeBackAll ?_ | refine keep_withNamed ?_ | refine keep_foldl ?_ ?_
        | refine keep_foldl_fst ?_ ?_ | refine keep_foldl_snd ?_ ?_
    | split | intro _ _ _

theorem keep_setDead {s0 s : State} {h a v : Nat} (hk : Keep s0 s) : Keep s0 (setDead s h a v) := by
  unfold setDead
  repeat' with_reducible first | assumption | refine keep_fset ?_

theorem keep_agentsBack {s0 s : State} (hk : Keep s0 s) : Keep s0 (agentsBack s) := by
  unfold agentsBack
  repeat' first
    | with_reducible first
        | assumption | refine keep_setDead ?_ | refine keep_ite ?_ ?_ | refine keep_ite_fst ?_ ?_ | refine keep_ite_snd ?_ ?_
        | refine keep_foldl ?_ ?_ | refine keep_foldl_fst ?_ ?_ | refine keep_foldl_snd ?_ ?_
    | split | intro _ _ _

theorem keep_homesChanged {s0 s : State} (hk : Keep s0 s) : Keep s0 (homesChanged s) := by
  unfold homesChanged
  repeat' first
    | with_reducible first
        | assumption | refine keep_dirUse ?_ | refine keep_fset ?_ | refine keep_homeLost ?_ | refine keep_homeReturn ?_ | refine keep_queuedAt ?_
        | refine keep_withCopies ?_ | refine keep_ite ?_ ?_ | refine keep_ite_fst ?_ ?_ | refine keep_ite_snd ?_ ?_ | refine keep_foldl ?_ ?_
        | refine keep_foldl_fst ?_ ?_ | refine keep_foldl_snd ?_ ?_
    | split | intro _ _ _

theorem keep_mgt {s0 s : State} {code a b : Nat} (hk : Keep s0 s) : Keep s0 (mgt s code a b) := by
  unfold mgt
  repeat' with_reducible first | assumption | refine keep_emit ?_

theorem keep_movePlinth {s0 s : State} {d : Nat} (hk : Keep s0 s) : Keep s0 (movePlinth s d) := by
  unfold movePlinth
  repeat' first
    | with_reducible first
        | assumption | refine keep_emit ?_ | refine keep_fset ?_ | refine keep_setRD ?_ | refine keep_withUpdate ?_ | refine keep_withResetQ ?_
        | refine keep_ite ?_ ?_ | refine keep_ite_fst ?_ ?_ | refine keep_ite_snd ?_ ?_ | refine keep_foldl ?_ ?_ | refine keep_foldl_fst ?_ ?_
        | refine keep_foldl_snd ?_ ?_
    | split | intro _ _ _ | dsimp only

theorem keep_portsDown {s0 s : State} {d : Nat} (hk : Keep s0 s) : Keep s0 (portsDown s d) := by
  unfold portsDown
  repeat' first
    | with_reducible first
        | assumption | refine keep_fset ?_ | refine keep_foldl ?_ ?_ | refine keep_foldl_fst ?_ ?_ | refine keep_foldl_snd ?_ ?_
    | split | intro _ _ _

theorem keep_groupsLost {s0 s : State} {d : Nat} (hk : Keep s0 s) : Keep s0 (groupsLost s d) := by
  unfold groupsLost
  repeat' first
    | with_reducible first
        | assumption | refine keep_endItem ?_ | refine keep_withGroups ?_ | refine keep_ite ?_ ?_ | refine keep_ite_fst ?_ ?_
        | refine keep_ite_snd ?_ ?_ | refine keep_foldl ?_ ?_ | refine keep_foldl_fst ?_ ?_ | refine keep_foldl_snd ?_ ?_
    | split | intro _ _ _

theorem keep_loseHeld {s0 s : State} {d : Nat} (hk : Keep s0 s) : Keep s0 (loseHeld s d) := by
  unfold loseHeld
  repeat' with_reducible first | assumption | refine keep_fset ?_ | refine keep_recordAt ?_ | refine keep_ite ?_ ?_

theorem keep_dieOut {s0 s : State} {d : Nat} (hk : Keep s0 s) : Keep s0 (dieOut s d) := by
  unfold dieOut
  repeat' first
    | with_reducible first
        | assumption | refine keep_ftgStatuses ?_ | refine keep_groupsLost ?_ | refine keep_hitItems ?_ | refine keep_homesChanged ?_
        | refine keep_lateItems ?_ | refine keep_loseHeld ?_ | refine keep_loseOut ?_ | refine keep_mgt ?_ | refine keep_movePlinth ?_
        | refine keep_portsDown ?_ | refine keep_withAbsent ?_ | refine keep_withRecov ?_ | refine keep_withPkgQ ?_ | refine keep_withItems ?_
        | refine keep_foldl ?_ ?_ | refine keep_foldl_fst ?_ ?_ | refine keep_foldl_snd ?_ ?_
    | split | intro _ _ _

theorem keep_setHost {s0 s : State} {k v : Nat} (hk : Keep s0 s) : Keep s0 (setHost s k v) := by
  unfold setHost
  repeat' first
    | with_reducible first
        | assumption | refine keep_fset ?_ | refine keep_withHostx ?_ | refine keep_ite ?_ ?_ | refine keep_ite_fst ?_ ?_ | refine keep_ite_snd ?_ ?_
        | refine keep_foldl ?_ ?_ | refine keep_foldl_fst ?_ ?_ | refine keep_foldl_snd ?_ ?_
    | split | intro _ _ _

theorem keep_enterL4 {s0 s : State} (hk : Keep s0 s) : Keep s0 (enterL4 s) := by
  unfold enterL4
  repeat' first
    | with_reducible first
        | assumption | refine keep_endItem ?_ | refine keep_fset ?_ | refine keep_portsDown ?_ | refine keep_recordAt ?_ | refine keep_withModx ?_
        | refine keep_ite ?_ ?_ | refine keep_ite_fst ?_ ?_ | refine keep_ite_snd ?_ ?_ | refine keep_foldl ?_ ?_ | refine keep_foldl_fst ?_ ?_
        | refine keep_foldl_snd ?_ ?_
    | split | intro _ _ _

theorem keep_spareReg {s0 s : State} (hk : Keep s0 s) : Keep s0 (spareReg s) := by
  unfold spareReg
  repeat' with_reducible first | assumption | refine keep_fset ?_

theorem keep_recovReg {s0 s : State} {o : Nat} (hk : Keep s0 s) : Keep s0 (recovReg s o) := by
  unfold recovReg
  repeat' with_reducible first | assumption | refine keep_fset ?_ | refine keep_spareReg ?_ | refine keep_ite ?_ ?_

theorem keep_takeSlots {s0 s : State} {o : Nat} (hk : Keep s0 s) : Keep s0 (takeSlots s o) := by
  unfold takeSlots
  repeat' first
    | with_reducible first
        | assumption | refine keep_mgt ?_ | refine keep_recovReg ?_ | refine keep_withRecov ?_ | refine keep_ite ?_ ?_ | refine keep_ite_fst ?_ ?_
        | refine keep_ite_snd ?_ ?_ | refine keep_foldl ?_ ?_ | refine keep_foldl_fst ?_ ?_ | refine keep_foldl_snd ?_ ?_
    | split | intro _ _ _

theorem keep_holdOrphans {s0 s : State} {k : Nat} (hk : Keep s0 s) : Keep s0 (holdOrphans s k) := by
  unfold holdOrphans
  repeat' first
    | with_reducible first
        | assumption | refine keep_holdPut ?_ | refine keep_withCopies ?_ | refine keep_ite ?_ ?_ | refine keep_ite_fst ?_ ?_
        | refine keep_ite_snd ?_ ?_ | refine keep_foldl ?_ ?_ | refine keep_foldl_fst ?_ ?_ | refine keep_foldl_snd ?_ ?_
        | (refine keep_pair_fst (by with_reducible assumption) ?_) | (refine keep_pair_snd (by with_reducible assumption) ?_)
    | split | intro _ _ _

theorem keep_kfullSockets {s0 s : State} {k : Nat} (hk : Keep s0 s) : Keep s0 (kfullSockets s k) := by
  unfold kfullSockets
  repeat' first
    | with_reducible first
        | assumption | refine keep_fset ?_ | refine keep_ite ?_ ?_ | refine keep_ite_fst ?_ ?_ | refine keep_ite_snd ?_ ?_ | refine keep_foldl ?_ ?_
        | refine keep_foldl_fst ?_ ?_ | refine keep_foldl_snd ?_ ?_
    | split | intro _ _ _

theorem keep_hartsHeld {s0 s : State} {k : Nat} (hk : Keep s0 s) : Keep s0 (hartsHeld s k) := by
  unfold hartsHeld
  repeat' with_reducible first | assumption | refine keep_withHarts ?_

theorem keep_hartsStart {s0 s : State} {k : Nat} (hk : Keep s0 s) : Keep s0 (hartsStart s k) := by
  unfold hartsStart
  repeat' with_reducible first | assumption | refine keep_withHarts ?_

theorem keep_loadBoot {s0 s : State} {k : Nat} (hk : Keep s0 s) : Keep s0 (loadBoot s k) := by
  unfold loadBoot
  repeat' with_reducible first | assumption | refine keep_withBootStore ?_

theorem keep_beginKfull {s0 s : State} {k : Nat} (hk : Keep s0 s) : Keep s0 (beginKfull s k) := by
  unfold beginKfull
  repeat' first
    | with_reducible first
        | assumption | refine keep_evictAll ?_ | refine keep_hartsHeld ?_ | refine keep_holdOrphans ?_ | refine keep_homesChanged ?_
        | refine keep_kfullSockets ?_ | refine keep_mgt ?_ | refine keep_setHoldX ?_ | refine keep_setHost ?_ | refine keep_setPd ?_
        | refine keep_withAbsent ?_ | refine keep_withModx ?_ | refine keep_withBootStore ?_ | refine keep_foldl ?_ ?_ | refine keep_foldl_fst ?_ ?_
        | refine keep_foldl_snd ?_ ?_
    | split | intro _ _ _

theorem keep_pwrDone {s0 s : State} {r : PwrReq} {reason detail : Nat} (hk : Keep s0 s) : Keep s0 (pwrDone s r reason detail) := by
  unfold pwrDone
  repeat' first
    | with_reducible first
        | assumption | refine keep_endItem ?_ | refine keep_fset ?_
    | split

theorem keep_abandonPwr {s0 s : State} {p : Nat → Bool} {reason detail : Nat} (hk : Keep s0 s) : Keep s0 (abandonPwr s p reason detail) := by
  unfold abandonPwr
  repeat' first
    | with_reducible first
        | assumption | refine keep_pwrDone ?_ | refine keep_withSeqs ?_ | refine keep_ite ?_ ?_ | refine keep_ite_fst ?_ ?_
        | refine keep_ite_snd ?_ ?_ | refine keep_foldl ?_ ?_ | refine keep_foldl_fst ?_ ?_ | refine keep_foldl_snd ?_ ?_
    | split | intro _ _ _ | dsimp only

theorem keep_contain {s0 s : State} {dom : Dom} {reason detail : Nat} (hk : Keep s0 s) : Keep s0 (contain s dom reason detail) := by
  unfold contain
  repeat' first
    | with_reducible first
        | assumption | refine keep_abandonPwr ?_ | refine keep_beginKfull ?_ | refine keep_dieOut ?_ | refine keep_enterL4 ?_
        | refine keep_fenceBlock ?_ | refine keep_haltBlock ?_ | refine keep_hitItems ?_ | refine keep_homesChanged ?_ | refine keep_lateItems ?_
        | refine keep_recount ?_ | refine keep_setHost ?_ | refine keep_setXunit ?_ | refine keep_foldl ?_ ?_ | refine keep_foldl_fst ?_ ?_
        | refine keep_foldl_snd ?_ ?_
    | split | intro _ _ _

theorem keep_newRecovery {s0 s : State} {dom : Dom} {o q reason detail : Nat} {die pkg cold : Bool} (hk : Keep s0 s) : Keep s0 (newRecovery s dom o q reason detail die pkg cold).1 := by
  unfold newRecovery
  repeat' with_reducible first | assumption | refine keep_withRecov ?_ | refine keep_withRecNum ?_

theorem keep_s2Notice {s0 s : State} {e : Ev} {dom : Dom} {level recovery : Nat} (hk : Keep s0 s) : Keep s0 (s2Notice s e dom level recovery) := by
  unfold s2Notice
  repeat' first
    | with_reducible first
        | assumption | refine keep_recordAt ?_ | refine keep_ite ?_ ?_ | refine keep_ite_fst ?_ ?_ | refine keep_ite_snd ?_ ?_
    | split

theorem keep_raise {s0 s : State} {e : Ev} {conseq : Bool} (hk : Keep s0 s) : Keep s0 (raise s e conseq) := by
  unfold raise
  repeat' first
    | with_reducible first
        | assumption | refine keep_contain ?_ | refine keep_enterL4 ?_ | refine keep_fset ?_ | refine keep_newRecovery ?_ | refine keep_recordAt ?_
        | refine keep_s2Notice ?_ | refine keep_takeSlots ?_ | refine keep_withRecov ?_ | refine keep_withPkgQ ?_ | refine keep_ite ?_ ?_
        | refine keep_ite_fst ?_ ?_ | refine keep_ite_snd ?_ ?_ | refine keep_foldl ?_ ?_ | refine keep_foldl_fst ?_ ?_ | refine keep_foldl_snd ?_ ?_
        | (refine keep_pair_fst (by with_reducible assumption) ?_) | (refine keep_pair_snd (by with_reducible assumption) ?_)
    | split | intro _ _ _

theorem keep_note {s0 s : State} {origin reason detail kind source : Nat} {data : List Byte} (hk : Keep s0 s) : Keep s0 (note s origin reason detail kind source data) := by
  unfold note
  repeat' with_reducible first | assumption | refine keep_raise ?_

/-! ### Machine/Faults.lean -/


theorem keep_execFltEnable {s0 : State} {d : Die} {v : W32} {s : State} (hk : Keep s0 s) : KeepOut s0 (execFltEnable d v s) := by
  unfold execFltEnable
  repeat' with_reducible first
    | assumption | exact keepOut_refused _ | refine keepOut_next ?_ | refine keep_finishEnable ?_ | refine keep_rwlIn ?_ | refine keep_viaWin ?_ ?_
    | refine keep_withPolicy ?_ | refine keep_ite ?_ ?_

theorem keep_execFltDisable {s0 : State} {d : Die} {s : State} (hk : Keep s0 s) : KeepOut s0 (execFltDisable d s) := by
  unfold execFltDisable
  repeat' with_reducible first
    | assumption | exact keepOut_refused _ | refine keepOut_next ?_ | refine keep_fset ?_ | refine keep_setRD ?_ | refine keep_viaWin ?_ ?_
    | refine keep_ite ?_ ?_

theorem keep_flushFatal {s0 s : State} {d r : Nat} {n : Nat} (h : Keep s0 s) : Keep s0 (flushFatal s d r n) := by
  induction n generalizing s with
  | zero =>
    unfold flushFatal
    repeat' with_reducible first
      | assumption
  | succ n ih =>
    unfold flushFatal
    try dsimp only
    repeat' first
      | with_reducible first
          | assumption | apply ih | refine keep_fringPut ?_ | refine keep_setFring ?_ | refine keep_ite ?_ ?_ | refine keep_ite_fst ?_ ?_
      | split

theorem keep_execFltRingEnable {s0 : State} {d : Die} {r : Fin 16} {v : W32} {s : State} (hk : Keep s0 s) : KeepOut s0 (execFltRingEnable d r v s) := by
  unfold execFltRingEnable
  repeat' with_reducible first
    | assumption | exact keepOut_refused _ | refine keepOut_next ?_ | refine keep_flushFatal ?_ | refine keep_fset ?_ | refine keep_onChk ?_ ?_
    | refine keep_rwlIn ?_ | refine keep_viaWin ?_ ?_

theorem keep_execFltHeadWrite {s0 : State} {d : Die} {r : Fin 16} {v : BitVec 13} {s : State} (hk : Keep s0 s) : KeepOut s0 (execFltHeadWrite d r v s) := by
  unfold execFltHeadWrite
  repeat' with_reducible first
    | assumption | exact keepOut_refused _ | refine keepOut_next ?_ | refine keep_flushFatal ?_ | refine keep_fset ?_ | refine keep_setRD ?_
    | refine keep_viaWin ?_ ?_ | refine keep_ite ?_ ?_ | refine keepOut_ite ?_ ?_

theorem keep_drainEntry {s0 s : State} {d r : Nat} {e : OvfEntry} (hk : Keep s0 s) : Keep s0 (drainEntry s d r e).1 := by
  unfold drainEntry
  repeat' with_reducible first | assumption | refine keep_fringPut ?_ | refine keep_ite ?_ ?_ | refine keep_ite_fst ?_ ?_

theorem keep_drainAll {s0 s : State} {d r : Nat} {l : List OvfEntry} (h : Keep s0 s) : Keep s0 (drainAll s d r l).1 := by
  induction l generalizing s with
  | nil =>
    unfold drainAll
    repeat' with_reducible first
      | assumption
  | cons e es ih =>
    unfold drainAll
    try dsimp only
    repeat' first
      | with_reducible first
          | assumption | apply ih | refine keep_drainEntry ?_ | (refine keep_pair_fst (by with_reducible assumption) ?_) | refine keep_ite ?_ ?_
          | refine keep_ite_fst ?_ ?_
      | split

theorem keep_execOverflowDrain {s0 : State} {d : Die} {r : Fin 16} {s : State} (hk : Keep s0 s) : KeepOut s0 (execOverflowDrain d r s) := by
  unfold execOverflowDrain
  repeat' with_reducible first
    | assumption | exact keepOut_refused _ | refine keepOut_next ?_ | refine keep_drainAll ?_ | refine keep_fringOvfReg ?_ | refine keep_fset ?_
    | refine keep_recordCount ?_ | refine keep_setFring ?_ | refine keep_ite ?_ ?_ | refine keepOut_ite ?_ ?_

theorem keep_execFltFlagsClear {s0 : State} {d : Die} {v : W32} {same : BitVec 4} {s : State} (hk : Keep s0 s) : KeepOut s0 (execFltFlagsClear d v same s) := by
  unfold execFltFlagsClear
  repeat' with_reducible first
    | assumption | exact keepOut_refused _ | refine keepOut_next ?_ | refine keep_holdAdd ?_ | refine keep_viaWin ?_ ?_ | refine keep_wr ?_
    | refine keep_ite ?_ ?_

theorem keep_putRecov {s0 s : State} {u n : Nat} {f : Recovery → Recovery} (hk : Keep s0 s) : Keep s0 (putRecov s u n f) := by
  unfold putRecov
  repeat' with_reducible first | assumption | refine keep_withRecov ?_

theorem keep_grantPkg {s0 s : State} {n : Nat} (h : Keep s0 s) : Keep s0 (grantPkg s n) := by
  induction n generalizing s with
  | zero =>
    unfold grantPkg
    repeat' with_reducible first
      | assumption
  | succ n ih =>
    unfold grantPkg
    try dsimp only
    repeat' first
      | with_reducible first
          | assumption | apply ih | refine keep_putRecov ?_ | refine keep_mgt ?_ | refine keep_withPkgQ ?_ | refine keep_ite ?_ ?_
          | refine keep_ite_fst ?_ ?_
      | split

theorem keep_execPkgSlotRequest {s0 : State} {u : Unit6} {num : Nat} {s : State} (hk : Keep s0 s) : KeepOut s0 (execPkgSlotRequest u num s) := by
  unfold execPkgSlotRequest
  repeat' first
    | with_reducible first
        | assumption | exact keepOut_refused _ | refine keepOut_next ?_ | refine keep_grantPkg ?_ | refine keep_putRecov ?_ | refine keep_recovReg ?_
        | refine keep_withPkgQ ?_ | refine keep_ite ?_ ?_ | refine keepOut_ite ?_ ?_ | refine keep_ite_fst ?_ ?_ | refine keep_ite_snd ?_ ?_
    | split

theorem keep_queuePwr {s0 s : State} {q : Nat} {rs : List PwrReq} (hk : Keep s0 s) : Keep s0 (queuePwr s q rs) := by
  unfold queuePwr
  repeat' with_reducible first | assumption | refine keep_withSeqs ?_

theorem keep_startAction {s0 s : State} {r : Recovery} (hk : Keep s0 s) : Keep s0 (startAction s r) := by
  unfold startAction
  repeat' first
    | with_reducible first
        | assumption | refine keep_fset ?_ | refine keep_queuePwr ?_ | refine keep_withResetQ ?_ | refine keep_ite ?_ ?_ | refine keep_ite_fst ?_ ?_
        | refine keep_ite_snd ?_ ?_
    | split

theorem keep_execRecoverySlotGrant {s0 : State} {u : Unit6} {num : Nat} {s : State} (hk : Keep s0 s) : KeepOut s0 (execRecoverySlotGrant u num s) := by
  unfold execRecoverySlotGrant
  repeat' first
    | with_reducible first
        | assumption | exact keepOut_refused _ | refine keepOut_next ?_ | refine keep_putRecov ?_ | refine keep_recovReg ?_
        | refine keep_startAction ?_ | refine keep_ite ?_ ?_ | refine keepOut_ite ?_ ?_ | refine keep_ite_fst ?_ ?_ | refine keep_ite_snd ?_ ?_
    | split

theorem keep_figures {s0 s : State} {r : Recovery} (hk : Keep s0 s) : Keep s0 (figures s r) := by
  unfold figures
  repeat' first
    | with_reducible first
        | assumption | refine keep_homesChanged ?_ | refine keep_recount ?_
    | split

theorem keep_execRecoveryActionDone {s0 : State} {u : Unit6} {num : Nat} {ok : Bool} {s : State} (hk : Keep s0 s) : KeepOut s0 (execRecoveryActionDone u num ok s) := by
  unfold execRecoveryActionDone
  repeat' first
    | with_reducible first
        | assumption | exact keepOut_refused _ | refine keepOut_next ?_ | refine keep_figures ?_ | refine keep_fset ?_ | refine keep_grantPkg ?_
        | refine keep_raise ?_ | refine keep_recordAt ?_ | refine keep_recovReg ?_ | refine keep_takeSlots ?_ | refine keep_wrapAdd ?_
        | refine keep_withRecov ?_ | refine keep_ite ?_ ?_ | refine keepOut_ite ?_ ?_ | refine keep_ite_fst ?_ ?_ | refine keep_ite_snd ?_ ?_
    | split

theorem keep_recovLate {s0 s : State} {u : Nat} {r : Recovery} (hk : Keep s0 s) : Keep s0 (recovLate s u r) := by
  unfold recovLate
  repeat' with_reducible first | assumption | refine keep_raise ?_

theorem keep_execRecoveryTimeout {s0 : State} {u : Unit6} {num : Nat} {s : State} (hk : Keep s0 s) : KeepOut s0 (execRecoveryTimeout u num s) := by
  unfold execRecoveryTimeout
  repeat' first
    | with_reducible first
        | assumption | exact keepOut_refused _ | refine keepOut_next ?_ | refine keep_recovLate ?_
    | split

theorem keep_execUncorrectableStateError {s0 : State} {t : Fin 5} {i : Fin 12} {j : Fin 16} {s : State} (hk : Keep s0 s) : KeepOut s0 (execUncorrectableStateError t i j s) := by
  unfold execUncorrectableStateError
  repeat' first
    | with_reducible first
        | assumption | exact keepOut_refused _ | refine keepOut_next ?_ | refine keep_raise ?_ | refine keep_ite ?_ ?_ | refine keepOut_ite ?_ ?_
        | refine keep_ite_fst ?_ ?_ | refine keep_ite_snd ?_ ?_
    | split

/-! ### Machine/Flit.lean -/


theorem keep_setBondX {s0 s : State} {u j : Nat} {x : BondX} (hk : Keep s0 s) : Keep s0 (setBondX s u j x) := by
  unfold setBondX
  repeat' with_reducible first | assumption | refine keep_withBondx ?_

theorem keep_sendFlit {s0 s : State} {u j kind : Nat} {farewell : Bool} {f : TxFlit} (hk : Keep s0 s) : Keep s0 (sendFlit s u j kind farewell f) := by
  unfold sendFlit
  repeat' with_reducible first | assumption | refine keep_emit ?_ | refine keep_setBondX ?_

theorem keep_sendIdle {s0 s : State} {u j : Nat} {farewell : Bool} (hk : Keep s0 s) : Keep s0 (sendIdle s u j farewell) := by
  unfold sendIdle
  repeat' with_reducible first | assumption | refine keep_sendFlit ?_

theorem keep_farewell {s0 s : State} {u : Nat} (hk : Keep s0 s) : Keep s0 (farewell s u) := by
  unfold farewell
  repeat' first
    | with_reducible first
        | assumption | refine keep_sendIdle ?_ | refine keep_ite ?_ ?_ | refine keep_ite_fst ?_ ?_ | refine keep_ite_snd ?_ ?_
        | refine keep_foldl ?_ ?_ | refine keep_foldl_fst ?_ ?_ | refine keep_foldl_snd ?_ ?_
    | split | intro _ _ _

theorem keep_flitTime {s0 s : State} {u j rate : Nat} (hk : Keep s0 s) : Keep s0 (flitTime s u j rate) := by
  unfold flitTime
  repeat' first
    | with_reducible first
        | assumption | refine keep_sendFlit ?_ | refine keep_sendIdle ?_ | refine keep_setBondX ?_ | refine keep_ite ?_ ?_ | refine keep_ite_fst ?_ ?_
        | refine keep_ite_snd ?_ ?_
    | split | intro _ _ _ | dsimp only

/-! ### Machine/Resets.lean -/


theorem keep_clearRegs {s0 s : State} {p : Nat → RegRow → Bool} (hk : Keep s0 s) : Keep s0 (clearRegs s p) := by
  unfold clearRegs
  repeat' first
    | with_reducible first
        | assumption | refine keep_withRegs ?_ ?_ | refine keep_withWide ?_ ?_ | refine keep_withLatch ?_ ?_
    | exact fun h => twf_tset _ _ h | exact fun h => twf_tdel _ h | exact fun h => twf_filter _ h

theorem keep_keepBlkState {s0 old s : State} {d : Nat} (hk : Keep s0 s) : Keep s0 (keepBlkState old s d) := by
  unfold keepBlkState
  refine keep_foldl hk fun t x ht => ?_
  exact keep_ite ht (keep_ite (keep_fset (keep_fset ht)) (keep_fset ht))

theorem keep_loadBlkMap {s0 s : State} {d : Nat} (hk : Keep s0 s) : Keep s0 (loadBlkMap s d) := by
  unfold loadBlkMap
  repeat' first
    | with_reducible first
        | assumption | refine keep_fset ?_ | refine keep_ite ?_ ?_ | refine keep_ite_fst ?_ ?_ | refine keep_ite_snd ?_ ?_ | refine keep_foldl ?_ ?_
        | refine keep_foldl_fst ?_ ?_ | refine keep_foldl_snd ?_ ?_
    | split | intro _ _ _

theorem keep_clearDieX {s0 s : State} {d : Nat} (hk : Keep s0 s) : Keep s0 (clearDieX s d) := by
  unfold clearDieX
  repeat' with_reducible first
    | assumption | refine keep_ftgStatuses ?_ | refine keep_withFring ?_ | refine keep_withPolicy ?_ | refine keep_withRecov ?_
    | refine keep_withItems ?_ | refine keep_withRingx ?_ | refine keep_withServed ?_ | refine keep_withXlt ?_ | refine keep_withJournals ?_
    | refine keep_withLedger ?_ | refine keep_withCopies ?_ | refine keep_withHold ?_ | refine keep_withHostx ?_ | refine keep_withCtxx ?_
    | refine keep_withBtest ?_ | refine keep_withPlans ?_ | refine keep_withPlumb ?_ | refine keep_withPred ?_ | refine keep_withRahead ?_
    | refine keep_withBondx ?_ | refine keep_withNetRegs ?_ | refine keep_withFlows ?_ | refine keep_withRxbuf ?_ | refine keep_withGroups ?_
    | refine keep_withChains ?_

theorem keep_dropPwr {s0 s : State} {q : Nat} (hk : Keep s0 s) : Keep s0 (dropPwr s q) := by
  unfold dropPwr
  repeat' first
    | with_reducible first
        | assumption | refine keep_fset ?_ | refine keep_withSeqs ?_ | refine keep_foldl ?_ ?_ | refine keep_foldl_fst ?_ ?_
        | refine keep_foldl_snd ?_ ?_
    | split | intro _ _ _

theorem keep_dieDomains {s0 s : State} {d : Nat} (hk : Keep s0 s) : Keep s0 (dieDomains s d) := by
  unfold dieDomains
  repeat' first
    | with_reducible first
        | assumption | refine keep_memLose ?_ | refine keep_recount ?_ | refine keep_setPd ?_ | refine keep_foldl ?_ ?_ | refine keep_foldl_fst ?_ ?_
        | refine keep_foldl_snd ?_ ?_
    | split | intro _ _ _

theorem keep_bondEnable {s0 s : State} {u : Nat} (hk : Keep s0 s) : Keep s0 (bondEnable s u) := by
  unfold bondEnable
  repeat' first
    | with_reducible first
        | assumption | refine keep_fset ?_ | refine keep_foldl ?_ ?_ | refine keep_foldl_fst ?_ ?_ | refine keep_foldl_snd ?_ ?_
    | split | intro _ _ _

theorem keep_footingsOn {s0 s : State} {d : Nat} (hk : Keep s0 s) : Keep s0 (footingsOn s d) := by
  unfold footingsOn
  repeat' first
    | with_reducible first
        | assumption | refine keep_fset ?_ | refine keep_setPd ?_ | refine keep_foldl ?_ ?_ | refine keep_foldl_fst ?_ ?_
        | refine keep_foldl_snd ?_ ?_
    | split | intro _ _ _

theorem keep_dieEnables {s0 s : State} {d : Nat} {budgets : List Nat} (hk : Keep s0 s) : Keep s0 (dieEnables s d budgets) := by
  unfold dieEnables
  repeat' first
    | with_reducible first
        | assumption | refine keep_bondEnable ?_ | refine keep_fset ?_ | refine keep_foldl ?_ ?_ | refine keep_foldl_fst ?_ ?_
        | refine keep_foldl_snd ?_ ?_
    | split | intro _ _ _

theorem keep_applyMacs {s0 s : State} {d : Nat} (hk : Keep s0 s) : Keep s0 (applyMacs s d) := by
  unfold applyMacs
  repeat' first
    | with_reducible first
        | assumption | refine keep_wr ?_ | refine keep_foldl ?_ ?_ | refine keep_foldl_fst ?_ ?_ | refine keep_foldl_snd ?_ ?_
    | split | intro _ _ _

theorem keep_rebuildDie {s0 s : State} {d : Nat} {budgets : List Nat} {cold : Bool} (hk : Keep s0 s) : Keep s0 (rebuildDie s d budgets cold) := by
  unfold rebuildDie
  repeat' first
    | with_reducible first
        | assumption | refine keep_applyMacs ?_ | refine keep_applyPcs ?_ | refine keep_dieDomains ?_ | refine keep_dieEnables ?_
        | refine keep_footingsOn ?_ | refine keep_fset ?_ | refine keep_withPrivStore ?_ | refine keep_ite ?_ ?_ | refine keep_ite_fst ?_ ?_
        | refine keep_ite_snd ?_ ?_ | refine keep_foldl ?_ ?_ | refine keep_foldl_fst ?_ ?_ | refine keep_foldl_snd ?_ ?_
    | split | intro _ _ _

theorem keep_resetServed {s0 s : State} {typ : Nat} {tgt : Nat → Bool} (hk : Keep s0 s) : Keep s0 (resetServed s typ tgt) := by
  unfold resetServed
  repeat' first
    | with_reducible first
        | assumption | refine keep_fset ?_ | refine keep_setRD ?_ | refine keep_withResetQ ?_ | refine keep_ite ?_ ?_ | refine keep_ite_fst ?_ ?_
        | refine keep_ite_snd ?_ ?_
    | split

theorem keep_dieWarm {s0 s : State} {d : Nat} (hk : Keep s0 s) : Keep s0 (dieWarm s d) := by
  unfold dieWarm
  repeat' with_reducible first
    | assumption | refine keep_clearDieX ?_ | refine keep_clearRegs ?_ | refine keep_dieOut ?_ | refine keep_dropPwr ?_ | refine keep_farewell ?_
    | refine keep_keepBlkState ?_ | refine keep_mgt ?_ | refine keep_rebuildDie ?_ | refine keep_resetServed ?_ | refine keep_spareReg ?_
    | refine keep_withResetQ ?_ | refine keep_ite ?_ ?_

theorem keep_samplePos {s0 s : State} {d : Nat} {p : Fin 4} (hk : Keep s0 s) : Keep s0 (samplePos s d p) := by
  unfold samplePos
  repeat' with_reducible first | assumption | refine keep_fset ?_

theorem keep_dieCold {s0 s : State} {d : Nat} (hk : Keep s0 s) : Keep s0 (dieCold s d) := by
  unfold dieCold
  repeat' first
    | with_reducible first
        | assumption | refine keep_clearDieX ?_ | refine keep_clearRegs ?_ | refine keep_dieOut ?_ | refine keep_dropPwr ?_ | refine keep_farewell ?_
        | refine keep_loadBlkMap ?_ | refine keep_mgt ?_ | refine keep_rebuildDie ?_ | refine keep_resetServed ?_ | refine keep_samplePos ?_
        | refine keep_spareReg ?_ | refine keep_stackLost ?_ | refine keep_ite ?_ ?_ | refine keep_ite_fst ?_ ?_ | refine keep_ite_snd ?_ ?_
        | refine keep_foldl ?_ ?_ | refine keep_foldl_fst ?_ ?_ | refine keep_foldl_snd ?_ ?_
    | split | intro _ _ _

theorem keep_execDieWarm {s0 : State} {d : Die} {s : State} (hk : Keep s0 s) : KeepOut s0 (execDieWarm d s) := by
  unfold execDieWarm
  repeat' with_reducible first | assumption | exact keepOut_refused _ | refine keepOut_next ?_ | refine keep_dieWarm ?_

theorem keep_execDieCold {s0 : State} {d : Die} {s : State} (hk : Keep s0 s) : KeepOut s0 (execDieCold d s) := by
  unfold execDieCold
  repeat' with_reducible first | assumption | exact keepOut_refused _ | refine keepOut_next ?_ | refine keep_dieCold ?_

theorem keep_moduleCold {s0 s : State} (hk : Keep s0 s) : Keep s0 (moduleCold s) := by
  have h : Keep s0 (((State.reset.withRegs (tfilter (fun a => match regAt a with
      | some (_, r, _) => r.grp == .h
      | none => false) s.regs)).withSent s.sent |>.withFresh s.fresh |>.withTxSeen s.sent.length |>.withPending s.pending)) :=
    ⟨hk.1, fun _ => twf_nil _, fun x => by simpa using twf_tfilter _ (hk.3 x), fun _ => twf_nil _, fun _ => twf_nil _⟩
  unfold moduleCold
  exact keep_fset (keep_fset (keep_withModx (keep_withStackx (keep_withFlash h))))

theorem keep_execModuleCold {s0 s : State} (hk : Keep s0 s) : KeepOut s0 (execModuleCold s) := by
  unfold execModuleCold
  repeat' with_reducible first | assumption | exact keepOut_refused _ | refine keepOut_next ?_ | refine keep_moduleCold ?_

theorem keep_moduleWarm {s0 s : State} (hk : Keep s0 s) : Keep s0 (moduleWarm s) := by
  unfold moduleWarm
  repeat' first
    | with_reducible first
        | assumption | refine keep_clearDieX ?_ | refine keep_clearRegs ?_ | refine keep_dropPwr ?_ | refine keep_keepBlkState ?_
        | refine keep_resetServed ?_ | refine keep_withRecov ?_ | refine keep_withPkgQ ?_ | refine keep_withXlt ?_ | refine keep_withUpdate ?_
        | refine keep_withModx ?_ | refine keep_withResetQ ?_ | refine keep_withCopies ?_ | refine keep_withHold ?_ | refine keep_withL2busy ?_
        | refine keep_withDir ?_ | refine keep_withTxns ?_ | refine keep_withWaitq ?_ | refine keep_withResps ?_ | refine keep_withWbs ?_
        | refine keep_withAnswers ?_ | refine keep_withReclaims ?_ | refine keep_withNamed ?_ | refine keep_withPred ?_ | refine keep_withRahead ?_
        | refine keep_withBondx ?_ | refine keep_withRejoins ?_ | refine keep_withWdog ?_ | refine keep_withRegq ?_ | refine keep_withBootStore ?_
        | refine keep_withHarts ?_ | refine keep_foldl ?_ ?_ | refine keep_foldl_fst ?_ ?_ | refine keep_foldl_snd ?_ ?_
    | split | intro _ _ _

theorem keep_execModuleWarm {s0 s : State} (hk : Keep s0 s) : KeepOut s0 (execModuleWarm s) := by
  unfold execModuleWarm
  repeat' with_reducible first | assumption | exact keepOut_refused _ | refine keepOut_next ?_ | refine keep_moduleWarm ?_

theorem keep_kcoreFinish {s0 s : State} {k : Nat} (hk : Keep s0 s) : Keep s0 (kcoreFinish s k) := by
  unfold kcoreFinish
  repeat' with_reducible first
    | assumption | refine keep_fset ?_ | refine keep_hartsStart ?_ | refine keep_withModx ?_ | refine keep_withL2busy ?_ | refine keep_withWdog ?_

theorem keep_kcoreOne {s0 s : State} {k slow : Nat} (hk : Keep s0 s) : Keep s0 (kcoreOne s k slow) := by
  unfold kcoreOne
  repeat' with_reducible first
    | assumption | refine keep_evictAll ?_ | refine keep_hartsHeld ?_ | refine keep_kcoreFinish ?_ | refine keep_setHost ?_ | refine keep_withModx ?_
    | refine keep_withL2busy ?_ | refine keep_ite ?_ ?_

theorem keep_execKcore {s0 : State} {ks : BitVec 2} {slow : BitVec 24} {s : State} (hk : Keep s0 s) : KeepOut s0 (execKcore ks slow s) := by
  unfold execKcore
  repeat' with_reducible first
    | assumption | exact keepOut_refused _ | refine keepOut_next ?_ | refine keep_kcoreOne ?_ | refine keep_resetServed ?_ | refine keep_ite ?_ ?_

theorem keep_execL2WritebackTimeout {s0 : State} {k : Key} {cl : Fin 12} {s : State} (hk : Keep s0 s) : KeepOut s0 (execL2WritebackTimeout k cl s) := by
  unfold execL2WritebackTimeout
  repeat' with_reducible first
    | assumption | exact keepOut_refused _ | refine keepOut_next ?_ | refine keep_kcoreFinish ?_ | refine keep_mgt ?_ | refine keep_withL2busy ?_
    | refine keep_ite ?_ ?_ | refine keepOut_ite ?_ ?_

theorem keep_kfullReset {s0 s : State} {k : Nat} (hk : Keep s0 s) : Keep s0 (kfullReset s k) := by
  unfold kfullReset
  repeat' with_reducible first
    | assumption | refine keep_clearRegs ?_ | refine keep_dropPwr ?_ | refine keep_withXlt ?_ | refine keep_withPred ?_ | refine keep_withRahead ?_
    | refine keep_withBondx ?_ | refine keep_withWdog ?_

theorem keep_execKfull {s0 : State} {k : Key} {s : State} (hk : Keep s0 s) : KeepOut s0 (execKfull k s) := by
  unfold execKfull
  repeat' with_reducible first
    | assumption | exact keepOut_refused _ | refine keepOut_next ?_ | refine keep_beginKfull ?_ | refine keep_enterL4 ?_ | refine keep_kfullReset ?_
    | refine keep_resetServed ?_ | refine keep_withL2busy ?_ | refine keep_ite ?_ ?_ | refine keepOut_ite ?_ ?_

theorem keep_execKeystoneReturned {s0 : State} {k : Key} {s : State} (hk : Keep s0 s) : KeepOut s0 (execKeystoneReturned k s) := by
  unfold execKeystoneReturned
  repeat' first
    | with_reducible first
        | assumption | exact keepOut_refused _ | refine keepOut_next ?_ | refine keep_agentsBack ?_ | refine keep_bondEnable ?_
        | refine keep_hartsStart ?_ | refine keep_homesChanged ?_ | refine keep_kfullReset ?_ | refine keep_loadBoot ?_ | refine keep_setHost ?_
        | refine keep_setPd ?_ | refine keep_withAbsent ?_ | refine keep_withModx ?_ | refine keep_ite ?_ ?_ | refine keepOut_ite ?_ ?_
        | refine keep_ite_fst ?_ ?_ | refine keep_ite_snd ?_ ?_ | refine keep_foldl ?_ ?_ | refine keep_foldl_fst ?_ ?_ | refine keep_foldl_snd ?_ ?_
    | split | intro _ _ _

theorem keep_resetReq {s0 s : State} {d typ target : Nat} (hk : Keep s0 s) : Keep s0 (resetReq s d typ target) := by
  unfold resetReq
  repeat' first
    | with_reducible first
        | assumption | refine keep_fset ?_ | refine keep_setRD ?_ | refine keep_withResetQ ?_ | refine keep_ite ?_ ?_ | refine keep_ite_fst ?_ ?_
        | refine keep_ite_snd ?_ ?_
    | split

theorem keep_execResetReqModuleWarm {s0 : State} {d : Die} {target : BitVec 3} {s : State} (hk : Keep s0 s) : KeepOut s0 (execResetReqModuleWarm d target s) := by
  unfold execResetReqModuleWarm
  repeat' with_reducible first
    | assumption | exact keepOut_refused _ | refine keepOut_next ?_ | refine keep_resetReq ?_ | refine keep_viaWin ?_ ?_

theorem keep_execResetReqKcore {s0 : State} {d : Die} {target : BitVec 3} {s : State} (hk : Keep s0 s) : KeepOut s0 (execResetReqKcore d target s) := by
  unfold execResetReqKcore
  repeat' with_reducible first
    | assumption | exact keepOut_refused _ | refine keepOut_next ?_ | refine keep_resetReq ?_ | refine keep_viaWin ?_ ?_

theorem keep_execResetReqKfull {s0 : State} {d : Die} {target : BitVec 3} {s : State} (hk : Keep s0 s) : KeepOut s0 (execResetReqKfull d target s) := by
  unfold execResetReqKfull
  repeat' with_reducible first
    | assumption | exact keepOut_refused _ | refine keepOut_next ?_ | refine keep_resetReq ?_ | refine keep_viaWin ?_ ?_

theorem keep_execResetReqDieWarm {s0 : State} {d : Die} {target : BitVec 3} {s : State} (hk : Keep s0 s) : KeepOut s0 (execResetReqDieWarm d target s) := by
  unfold execResetReqDieWarm
  repeat' with_reducible first
    | assumption | exact keepOut_refused _ | refine keepOut_next ?_ | refine keep_resetReq ?_ | refine keep_viaWin ?_ ?_

theorem keep_execResetReqDieCold {s0 : State} {d : Die} {target : BitVec 3} {s : State} (hk : Keep s0 s) : KeepOut s0 (execResetReqDieCold d target s) := by
  unfold execResetReqDieCold
  repeat' with_reducible first
    | assumption | exact keepOut_refused _ | refine keepOut_next ?_ | refine keep_resetReq ?_ | refine keep_viaWin ?_ ?_

theorem keep_execRomElection {s0 : State} {pass : BitVec 4} {pos : List (Fin 4)} {s : State} (hk : Keep s0 s) : KeepOut s0 (execRomElection pass pos s) := by
  unfold execRomElection
  repeat' first
    | with_reducible first
        | assumption | exact keepOut_refused _ | refine keepOut_next ?_ | refine keep_fset ?_ | refine keep_samplePos ?_ | refine keep_withAbsent ?_
        | refine keep_ite ?_ ?_ | refine keepOut_ite ?_ ?_ | refine keep_ite_fst ?_ ?_ | refine keep_ite_snd ?_ ?_ | refine keep_foldl ?_ ?_
        | refine keep_foldl_fst ?_ ?_ | refine keep_foldl_snd ?_ ?_
    | split | intro _ _ _ | dsimp only

theorem keep_bootFatal {s0 s : State} {reason detail : Nat} (hk : Keep s0 s) : Keep s0 (bootFatal s reason detail) := by
  unfold bootFatal
  repeat' with_reducible first | assumption | refine keep_recordAt ?_

theorem keep_bootStop {s0 s : State} (hk : Keep s0 s) : Keep s0 (bootStop s) := by
  unfold bootStop
  repeat' with_reducible first | assumption | refine keep_fset ?_ | refine keep_withModx ?_

theorem keep_setMeas {s0 s : State} {m : Nat} {bs : List Byte} (hk : Keep s0 s) : Keep s0 (setMeas s m bs) := by
  unfold setMeas
  repeat' first
    | with_reducible first
        | assumption | refine keep_wr ?_ | refine keep_foldl ?_ ?_ | refine keep_foldl_fst ?_ ?_ | refine keep_foldl_snd ?_ ?_
    | split | intro _ _ _

theorem keep_countersChanged {s0 s : State} (hk : Keep s0 s) : Keep s0 (countersChanged s) := by
  unfold countersChanged
  repeat' first
    | with_reducible first
        | assumption | refine keep_fset ?_ | refine keep_setMeas ?_ | refine keep_foldl ?_ ?_ | refine keep_foldl_fst ?_ ?_
        | refine keep_foldl_snd ?_ ?_
    | split | intro _ _ _

theorem keep_bootGood {s0 s : State} {good : BitVec 20} {us : List Nat} (hk : Keep s0 s) : Keep s0 (bootGood s good us) := by
  unfold bootGood
  repeat' with_reducible first | assumption | refine keep_enterL4 ?_ | refine keep_withAbsent ?_ | refine keep_ite ?_ ?_

theorem keep_bootDies {s0 s : State} {good : BitVec 20} {us : List Nat} {go : State → State} (h : Keep s0 s)
    (hk : ∀ t, Keep s0 t → Keep s0 (go t)) : Keep s0 (bootDies s good us go) := by
  unfold bootDies
  exact keep_ite (hk _ (keep_bootGood h)) (keep_fset (keep_bootGood h))

theorem keep_bootStep {s0 s : State} {n : Nat} {good : BitVec 20} {caps : List (BitVec 10)} (hk : Keep s0 s) : Keep s0 (bootStep s n good caps) := by
  unfold bootStep
  repeat' first
    | with_reducible first
        | assumption | refine keep_applyMacs ?_ | refine keep_applyPcs ?_ | refine keep_bondEnable ?_ | refine keep_bootDies ?_ ?_
        | refine keep_bootFatal ?_ | refine keep_bootGood ?_ | refine keep_bootStop ?_ | refine keep_countersChanged ?_ | refine keep_dieDomains ?_
        | refine keep_dieEnables ?_ | refine keep_fset ?_ | refine keep_hartsStart ?_ | refine keep_homesChanged ?_ | refine keep_loadBlkMap ?_
        | refine keep_loadBoot ?_ | refine keep_loseStack ?_ | refine keep_memLose ?_ | refine keep_requestStore ?_ | refine keep_setHost ?_
        | refine keep_setMeas ?_ | refine keep_setPd ?_ | refine keep_wr ?_ | refine keep_withPllOff ?_ | refine keep_withCfg ?_
        | refine keep_withHealth ?_ | refine keep_withPrivStore ?_ | refine keep_ite ?_ ?_ | refine keep_ite_fst ?_ ?_ | refine keep_ite_snd ?_ ?_
        | refine keep_foldl ?_ ?_ | refine keep_foldl_fst ?_ ?_ | refine keep_foldl_snd ?_ ?_
    | split | intro _ _ _ | dsimp only | intro _ _

theorem keep_execBootStepDone {s0 : State} {good : BitVec 20} {caps : List (BitVec 10)} {s : State} (hk : Keep s0 s) : KeepOut s0 (execBootStepDone good caps s) := by
  unfold execBootStepDone
  repeat' with_reducible first
    | assumption | exact keepOut_refused _ | refine keepOut_next ?_ | refine keep_bootStep ?_ | refine keep_ite ?_ ?_ | refine keepOut_ite ?_ ?_

theorem keep_execBootStepTimeout {s0 s : State} (hk : Keep s0 s) : KeepOut s0 (execBootStepTimeout s) := by
  unfold execBootStepTimeout
  repeat' with_reducible first
    | assumption | exact keepOut_refused _ | refine keepOut_next ?_ | refine keep_bootStop ?_ | refine keep_raise ?_ | refine keep_ite ?_ ?_
    | refine keepOut_ite ?_ ?_

theorem keep_holdDie {s0 s : State} {d : Nat} (hk : Keep s0 s) : Keep s0 (holdDie s d) := by
  unfold holdDie
  repeat' first
    | with_reducible first
        | assumption | refine keep_clearDieX ?_ | refine keep_clearRegs ?_ | refine keep_dropPwr ?_ | refine keep_homesChanged ?_
        | refine keep_recount ?_ | refine keep_samplePos ?_ | refine keep_stackLost ?_ | refine keep_foldl ?_ ?_ | refine keep_foldl_fst ?_ ?_
        | refine keep_foldl_snd ?_ ?_
    | split | intro _ _ _

theorem keep_execPositionCheck {s0 : State} {d : Die} {j1 j2 kp : Option (Fin 4)} {s : State} (hk : Keep s0 s) : KeepOut s0 (execPositionCheck d j1 j2 kp s) := by
  unfold execPositionCheck
  repeat' with_reducible first
    | assumption | exact keepOut_refused _ | refine keepOut_next ?_ | refine keep_enterL4 ?_ | refine keep_fset ?_ | refine keep_holdDie ?_
    | refine keep_recordAt ?_ | refine keep_withAbsent ?_ | refine keep_ite ?_ ?_ | refine keepOut_ite ?_ ?_

theorem keep_execPllUnlock {s0 : State} {u : Unit6} {s : State} (hk : Keep s0 s) : KeepOut s0 (execPllUnlock u s) := by
  unfold execPllUnlock
  repeat' with_reducible first
    | assumption | exact keepOut_refused _ | refine keepOut_next ?_ | refine keep_raise ?_ | refine keep_withPllOff ?_ | refine keep_ite ?_ ?_
    | refine keepOut_ite ?_ ?_

theorem keep_execPllLock {s0 : State} {u : Unit6} {s : State} (hk : Keep s0 s) : KeepOut s0 (execPllLock u s) := by
  unfold execPllLock
  repeat' with_reducible first
    | assumption | exact keepOut_refused _ | refine keepOut_next ?_ | refine keep_dieWarm ?_ | refine keep_withPllOff ?_ | refine keep_ite ?_ ?_

theorem keep_execRefclkLoss {s0 : State} {d : Die} {s : State} (hk : Keep s0 s) : KeepOut s0 (execRefclkLoss d s) := by
  unfold execRefclkLoss
  repeat' with_reducible first
    | assumption | exact keepOut_refused _ | refine keepOut_next ?_ | refine keep_fset ?_ | refine keep_raise ?_ | refine keep_withModx ?_
    | refine keep_ite ?_ ?_

end Sys2Proof.Machine
end

