-- ==== Sys2Proof/Laws/KeepUnits.lean ====
section
/-! SUPPORT. What every operation keeps (Laws/Keep.lean), of the ledger, image, Blocks, module pins, power, management and register access. -/

namespace Sys2Proof.Machine

/-! ### Machine/Retire.lean -/


theorem keep_retireBegin {s0 s : State} {h : Nat} {r : Retire} (hk : Keep s0 s) : Keep s0 (retireBegin s h r) := by
  unfold retireBegin
  repeat' with_reducible first
    | assumption | refine keep_fset ?_ | refine keep_healthPc ?_ | refine keep_setPc ?_ | refine keep_setStackX ?_

theorem keep_retireAsk {s0 s : State} {h : Nat} {r : Retire} (hk : Keep s0 s) : Keep s0 (retireAsk s h r) := by
  unfold retireAsk
  repeat' with_reducible first | assumption | refine keep_retireBegin ?_ | refine keep_setStackX ?_ | refine keep_ite ?_ ?_

theorem keep_endCommands {s0 s : State} {h reason detail : Nat} (hk : Keep s0 s) : Keep s0 (endCommands s h reason detail) := by
  unfold endCommands
  repeat' first
    | with_reducible first
        | assumption | refine keep_endItem ?_ | refine keep_foldl ?_ ?_ | refine keep_foldl_fst ?_ ?_ | refine keep_foldl_snd ?_ ?_
    | split | intro _ _ _

theorem keep_stackFault {s0 s : State} {h : Nat} {e : Ev} (hk : Keep s0 s) : Keep s0 (stackFault s h e) := by
  unfold stackFault
  repeat' with_reducible first
    | assumption | refine keep_contain ?_ | refine keep_endCommands ?_ | refine keep_fset ?_ | refine keep_recordAt ?_

theorem keep_forceRetire {s0 s : State} {h a : Nat} {row : Nat × Nat × Nat} (hk : Keep s0 s) : Keep s0 (forceRetire s h a row) := by
  unfold forceRetire
  repeat' with_reducible first
    | assumption | refine keep_raise ?_ | refine keep_retireAsk ?_ | refine keep_setStackX ?_ | refine keep_stackFault ?_ | refine keep_ite ?_ ?_

theorem keep_autoRetire {s0 s : State} {h pc : Nat} (hk : Keep s0 s) : Keep s0 (autoRetire s h pc) := by
  unfold autoRetire
  repeat' with_reducible first | assumption | refine keep_note ?_ | refine keep_retireAsk ?_ | refine keep_ite ?_ ?_

theorem keep_markDue {s0 s : State} {h : Nat} {row : Nat × Nat × Nat} (hk : Keep s0 s) : Keep s0 (markDue s h row) := by
  unfold markDue
  repeat' with_reducible first | assumption | refine keep_autoRetire ?_ | refine keep_setStackX ?_ | refine keep_ite ?_ ?_

theorem keep_hbmCorrected {s0 s : State} {h a : Nat} (hk : Keep s0 s) : Keep s0 (hbmCorrected s h a) := by
  unfold hbmCorrected
  repeat' with_reducible first
    | assumption | refine keep_autoRetire ?_ | refine keep_holdAdd ?_ | refine keep_markDue ?_ | refine keep_raise ?_ | refine keep_setStackX ?_
    | refine keep_ite ?_ ?_

theorem keep_hbmUncorrectable {s0 s : State} {h a : Nat} (hk : Keep s0 s) : Keep s0 (hbmUncorrectable s h a) := by
  unfold hbmUncorrectable
  repeat' with_reducible first
    | assumption | refine keep_forceRetire ?_ | refine keep_markDue ?_ | refine keep_note ?_ | refine keep_setPoison ?_ | refine keep_setStackX ?_
    | refine keep_ite ?_ ?_

theorem keep_memError {s0 s : State} {a : Nat} {ue : Bool} (hk : Keep s0 s) : Keep s0 (memError s a ue) := by
  unfold memError
  repeat' with_reducible first
    | assumption | refine keep_hbmCorrected ?_ | refine keep_hbmUncorrectable ?_ | refine keep_note ?_ | refine keep_setPoison ?_
    | refine keep_withFlips ?_ | refine keep_ite ?_ ?_

theorem keep_lineError {s0 s : State} {a n code : Nat} (hk : Keep s0 s) : Keep s0 (lineError s a n code) := by
  unfold lineError
  repeat' with_reducible first | assumption | refine keep_memError ?_ | refine keep_ite ?_ ?_

theorem keep_readErrors {s0 s : State} {a n : Nat} (hk : Keep s0 s) : Keep s0 (readErrors s a n) := by
  unfold readErrors
  repeat' first
    | with_reducible first
        | assumption | refine keep_hbmCorrected ?_ | refine keep_foldl ?_ ?_ | refine keep_foldl_fst ?_ ?_ | refine keep_foldl_snd ?_ ?_
    | split | intro _ _ _

theorem keep_rewritten {s0 s : State} {a n : Nat} (hk : Keep s0 s) : Keep s0 (rewritten s a n) := by
  unfold rewritten
  repeat' with_reducible first | assumption | refine keep_withFlips ?_

theorem keep_newCells {s0 s : State} {h : Nat} {p : Nat × Nat × Nat → Bool} (hk : Keep s0 s) : Keep s0 (newCells s h p) := by
  unfold newCells
  repeat' with_reducible first | assumption | refine keep_withFlips ?_

theorem keep_stackOff {s0 s : State} {h : Nat} (hk : Keep s0 s) : Keep s0 (stackOff s h) := by
  unfold stackOff
  repeat' first
    | with_reducible first
        | assumption | refine keep_raise ?_ | refine keep_stackLost ?_
    | split | intro _ _ _ | dsimp only

/-! ### Machine/Coh.lean -/


theorem keep_setDirEnt {s0 s : State} {e : DirEnt} (hk : Keep s0 s) : Keep s0 (setDirEnt s e) := by
  unfold setDirEnt
  repeat' with_reducible first | assumption | refine keep_dirUse ?_ | refine keep_withDir ?_

theorem keep_dropDir {s0 s : State} {h l : Nat} (hk : Keep s0 s) : Keep s0 (dropDir s h l) := by
  unfold dropDir
  repeat' with_reducible first | assumption | refine keep_dirUse ?_ | refine keep_withDir ?_

theorem keep_dropCopy {s0 s : State} {a l : Nat} (hk : Keep s0 s) : Keep s0 (dropCopy s a l) := by
  unfold dropCopy
  repeat' with_reducible first | assumption | refine keep_withCopies ?_

theorem keep_putCopy {s0 s : State} {c : Copy} (hk : Keep s0 s) : Keep s0 (putCopy s c) := by
  unfold putCopy
  repeat' with_reducible first | assumption | refine keep_dropCopy ?_ | refine keep_withCopies ?_

theorem keep_lineBack {s0 s : State} {l : Nat} {d : List Byte} (hk : Keep s0 s) : Keep s0 (lineBack s l d) := by
  unfold lineBack
  repeat' first
    | with_reducible first
        | assumption | refine keep_withMem ?_ ?_
    | exact fun h => twf_tset _ _ h | exact fun h => twf_tdel _ h | exact fun h => twf_filter _ h | exact fun h => twf_tfilter _ h | exact fun h => twf_wrBytes h

theorem keep_answer {s0 s : State} {r : Req} {code : Nat} {data : List Byte} {fwd : Option Nat} (hk : Keep s0 s) : Keep s0 (answer s r code data fwd) := by
  unfold answer
  repeat' with_reducible first
    | assumption | refine keep_cohMsg ?_ | refine keep_emit ?_ | refine keep_withAnswers ?_ | refine keep_ite ?_ ?_

theorem keep_answerData {s0 s : State} {r : Req} {d : List Byte} {fwd : Option Nat} (hk : Keep s0 s) : Keep s0 (answerData s r d fwd) := by
  unfold answerData
  repeat' with_reducible first | assumption | refine keep_answer ?_ | refine keep_ite ?_ ?_

theorem keep_predMove {s0 s : State} {a pa : Nat} {up down : Bool} (hk : Keep s0 s) : Keep s0 (predMove s a pa up down) := by
  unfold predMove
  repeat' with_reducible first | assumption | refine keep_withPred ?_

theorem keep_atomCount {s0 s : State} {a lo : Nat} (hk : Keep s0 s) : Keep s0 (atomCount s a lo) := by
  unfold atomCount
  repeat' with_reducible first | assumption | refine keep_wrapAdd ?_ | refine keep_ite ?_ ?_

theorem keep_atomFar {s0 s : State} {r : Req} {d : List Byte} (hk : Keep s0 s) : Keep s0 (atomFar s r d) := by
  unfold atomFar
  repeat' with_reducible first
    | assumption | refine keep_atomCount ?_ | refine keep_cohMsg ?_ | refine keep_putCopy ?_ | refine keep_ite ?_ ?_

theorem keep_putLine {s0 s : State} {r : Req} (hk : Keep s0 s) : Keep s0 (putLine s r) := by
  unfold putLine
  repeat' with_reducible first
    | assumption | refine keep_lineBack ?_ | refine keep_withPoison ?_ | refine keep_withFlips ?_

theorem keep_nearDone {s0 s : State} {r : Req} {took : Bool} (hk : Keep s0 s) : Keep s0 (nearDone s r took) := by
  unfold nearDone
  repeat' with_reducible first | assumption | refine keep_atomCount ?_ | refine keep_predMove ?_ | refine keep_ite ?_ ?_

theorem keep_finishReq {s0 s : State} {r : Req} {dat : Option (List Byte)} {took : Bool} {fwd : Option Nat} (hk : Keep s0 s) : Keep s0 (finishReq s r dat took fwd) := by
  unfold finishReq
  repeat' first
    | with_reducible first
        | assumption | refine keep_answer ?_ | refine keep_answerData ?_ | refine keep_atomCount ?_ | refine keep_atomFar ?_ | refine keep_cohMsg ?_
        | refine keep_dropDir ?_ | refine keep_lineBack ?_ | refine keep_nearDone ?_ | refine keep_predMove ?_ | refine keep_putCopy ?_
        | refine keep_putLine ?_ | refine keep_setDirEnt ?_ | refine keep_withCopies ?_ | refine keep_ite ?_ ?_ | refine keep_ite_fst ?_ ?_
        | refine keep_ite_snd ?_ ?_
    | split

theorem keep_waitReq {s0 s : State} {r : Req} (hk : Keep s0 s) : Keep s0 (waitReq s r) := by
  unfold waitReq
  repeat' with_reducible first | assumption | refine keep_queuedAt ?_ | refine keep_withWaitq ?_

theorem keep_sendProbes {s0 s : State} {t : Txn} (hk : Keep s0 s) : Keep s0 (sendProbes s t) := by
  unfold sendProbes
  repeat' first
    | with_reducible first
        | assumption | refine keep_cohMsg ?_ | refine keep_withTxns ?_ | refine keep_foldl ?_ ?_ | refine keep_foldl_fst ?_ ?_
        | refine keep_foldl_snd ?_ ?_
    | split | intro _ _ _

theorem keep_evictFor {s0 s : State} {r : Req} (hk : Keep s0 s) : Keep s0 (evictFor s r) := by
  unfold evictFor
  repeat' first
    | with_reducible first
        | assumption | refine keep_sendProbes ?_ | refine keep_waitReq ?_ | refine keep_wr ?_ | refine keep_ite ?_ ?_ | refine keep_ite_fst ?_ ?_
        | refine keep_ite_snd ?_ ?_
    | split

theorem keep_readLine {s0 s : State} {r : Req} (hk : Keep s0 s) : Keep s0 (readLine s r) := by
  unfold readLine
  repeat' first
    | with_reducible first
        | assumption | refine keep_hbmCorrected ?_ | refine keep_lineError ?_ | refine keep_ite ?_ ?_ | refine keep_ite_fst ?_ ?_
        | refine keep_ite_snd ?_ ?_ | refine keep_foldl ?_ ?_ | refine keep_foldl_fst ?_ ?_ | refine keep_foldl_snd ?_ ?_
    | split | intro _ _ _

theorem keep_startReq {s0 s : State} {r : Req} (hk : Keep s0 s) : Keep s0 (startReq s r) := by
  unfold startReq
  repeat' with_reducible first
    | assumption | refine keep_evictFor ?_ | refine keep_finishReq ?_ | refine keep_readLine ?_ | refine keep_sendProbes ?_ | refine keep_ite ?_ ?_

theorem keep_atHome {s0 s : State} {r : Req} (hk : Keep s0 s) : Keep s0 (atHome s r) := by
  unfold atHome
  repeat' first
    | with_reducible first
        | assumption | refine keep_cohMsg ?_ | refine keep_refuseReq ?_ | refine keep_startReq ?_ | refine keep_toHome ?_ | refine keep_touchSkt ?_
        | refine keep_waitReq ?_ | refine keep_ite ?_ ?_ | refine keep_ite_fst ?_ ?_ | refine keep_ite_snd ?_ ?_
    | split | intro _ _ _ | dsimp only

theorem keep_execFetchShared {s0 : State} {home : Fin 18} {line : Nat} {a : Fin 64} {tn : BitVec 12} {ecc : Fin 9} {s : State} (hk : Keep s0 s) : KeepOut s0 (execFetchShared home line a tn ecc s) := by
  unfold execFetchShared
  repeat' with_reducible first
    | assumption | exact keepOut_refused _ | refine keepOut_next ?_ | refine keep_atHome ?_ | refine keep_ite ?_ ?_

theorem keep_execFetchOwned {s0 : State} {home : Fin 18} {line : Nat} {a : Fin 64} {tn : BitVec 12} {ecc : Fin 9} {s : State} (hk : Keep s0 s) : KeepOut s0 (execFetchOwned home line a tn ecc s) := by
  unfold execFetchOwned
  repeat' with_reducible first
    | assumption | exact keepOut_refused _ | refine keepOut_next ?_ | refine keep_atHome ?_ | refine keep_ite ?_ ?_

theorem keep_execOwnHeld {s0 : State} {home : Fin 18} {line : Nat} {a : Fin 64} {tn : BitVec 12} {ecc : Fin 9} {s : State} (hk : Keep s0 s) : KeepOut s0 (execOwnHeld home line a tn ecc s) := by
  unfold execOwnHeld
  repeat' with_reducible first
    | assumption | exact keepOut_refused _ | refine keepOut_next ?_ | refine keep_atHome ?_ | refine keep_ite ?_ ?_

theorem keep_execFetchCopy {s0 : State} {home : Fin 18} {line : Nat} {a : Fin 64} {tn : BitVec 12} {ecc : Fin 9} {s : State} (hk : Keep s0 s) : KeepOut s0 (execFetchCopy home line a tn ecc s) := by
  unfold execFetchCopy
  repeat' with_reducible first
    | assumption | exact keepOut_refused _ | refine keepOut_next ?_ | refine keep_atHome ?_ | refine keep_ite ?_ ?_

theorem keep_execFetchClean {s0 : State} {home : Fin 18} {line : Nat} {a : Fin 64} {tn : BitVec 12} {ecc : Fin 9} {s : State} (hk : Keep s0 s) : KeepOut s0 (execFetchClean home line a tn ecc s) := by
  unfold execFetchClean
  repeat' with_reducible first
    | assumption | exact keepOut_refused _ | refine keepOut_next ?_ | refine keep_atHome ?_ | refine keep_ite ?_ ?_

theorem keep_execPutLine {s0 : State} {home : Fin 18} {line : Nat} {a : Fin 64} {tn : BitVec 12} {data : List Byte} {s : State} (hk : Keep s0 s) : KeepOut s0 (execPutLine home line a tn data s) := by
  unfold execPutLine
  repeat' with_reducible first
    | assumption | exact keepOut_refused _ | refine keepOut_next ?_ | refine keep_atHome ?_ | refine keep_ite ?_ ?_ | refine keepOut_ite ?_ ?_

theorem keep_execPutBytes {s0 : State} {home : Fin 18} {line : Nat} {a : Fin 64} {tn : BitVec 12} {en : BitVec 128} {data : List Byte} {ecc : Fin 9} {s : State} (hk : Keep s0 s) : KeepOut s0 (execPutBytes home line a tn en data ecc s) := by
  unfold execPutBytes
  repeat' with_reducible first
    | assumption | exact keepOut_refused _ | refine keepOut_next ?_ | refine keep_atHome ?_ | refine keep_ite ?_ ?_ | refine keepOut_ite ?_ ?_

theorem keep_execAtomHome {s0 : State} {home : Fin 18} {addr : Nat} {a : Fin 64} {tn : BitVec 12} {op : Fin 10} {size : Fin 2} {x : W64} {y : W64} {ecc : Fin 9} {s : State} (hk : Keep s0 s) : KeepOut s0 (execAtomHome home addr a tn op size x y ecc s) := by
  unfold execAtomHome
  repeat' with_reducible first
    | assumption | exact keepOut_refused _ | refine keepOut_next ?_ | refine keep_atHome ?_ | refine keep_ite ?_ ?_

theorem keep_atomIssue {s0 s : State} {a addr size op x y : Nat} (hk : Keep s0 s) : Keep s0 (atomIssue s a addr size op x y) := by
  unfold atomIssue
  repeat' first
    | with_reducible first
        | assumption | refine keep_atHome ?_ | refine keep_atomFar ?_ | refine keep_emit ?_ | refine keep_predMove ?_ | refine keep_ite ?_ ?_
        | refine keep_ite_fst ?_ ?_ | refine keep_ite_snd ?_ ?_
    | split

theorem keep_execAtomAdd {s0 : State} {a : Fin 40} {addr : Nat} {size : Fin 2} {x : W64} {s : State} (hk : Keep s0 s) : KeepOut s0 (execAtomAdd a addr size x s) := by
  unfold execAtomAdd
  repeat' with_reducible first | assumption | exact keepOut_refused _ | refine keepOut_next ?_ | refine keep_atomIssue ?_

theorem keep_execAtomSmin {s0 : State} {a : Fin 40} {addr : Nat} {size : Fin 2} {x : W64} {s : State} (hk : Keep s0 s) : KeepOut s0 (execAtomSmin a addr size x s) := by
  unfold execAtomSmin
  repeat' with_reducible first | assumption | exact keepOut_refused _ | refine keepOut_next ?_ | refine keep_atomIssue ?_

theorem keep_execAtomSmax {s0 : State} {a : Fin 40} {addr : Nat} {size : Fin 2} {x : W64} {s : State} (hk : Keep s0 s) : KeepOut s0 (execAtomSmax a addr size x s) := by
  unfold execAtomSmax
  repeat' with_reducible first | assumption | exact keepOut_refused _ | refine keepOut_next ?_ | refine keep_atomIssue ?_

theorem keep_execAtomUmin {s0 : State} {a : Fin 40} {addr : Nat} {size : Fin 2} {x : W64} {s : State} (hk : Keep s0 s) : KeepOut s0 (execAtomUmin a addr size x s) := by
  unfold execAtomUmin
  repeat' with_reducible first | assumption | exact keepOut_refused _ | refine keepOut_next ?_ | refine keep_atomIssue ?_

theorem keep_execAtomUmax {s0 : State} {a : Fin 40} {addr : Nat} {size : Fin 2} {x : W64} {s : State} (hk : Keep s0 s) : KeepOut s0 (execAtomUmax a addr size x s) := by
  unfold execAtomUmax
  repeat' with_reducible first | assumption | exact keepOut_refused _ | refine keepOut_next ?_ | refine keep_atomIssue ?_

theorem keep_execAtomSwap {s0 : State} {a : Fin 40} {addr : Nat} {size : Fin 2} {x : W64} {s : State} (hk : Keep s0 s) : KeepOut s0 (execAtomSwap a addr size x s) := by
  unfold execAtomSwap
  repeat' with_reducible first | assumption | exact keepOut_refused _ | refine keepOut_next ?_ | refine keep_atomIssue ?_

theorem keep_execAtomCas {s0 : State} {a : Fin 40} {addr : Nat} {size : Fin 2} {cmp : W64} {x : W64} {s : State} (hk : Keep s0 s) : KeepOut s0 (execAtomCas a addr size cmp x s) := by
  unfold execAtomCas
  repeat' with_reducible first | assumption | exact keepOut_refused _ | refine keepOut_next ?_ | refine keep_atomIssue ?_

theorem keep_execAtomAnd {s0 : State} {a : Fin 40} {addr : Nat} {size : Fin 2} {x : W64} {s : State} (hk : Keep s0 s) : KeepOut s0 (execAtomAnd a addr size x s) := by
  unfold execAtomAnd
  repeat' with_reducible first | assumption | exact keepOut_refused _ | refine keepOut_next ?_ | refine keep_atomIssue ?_

theorem keep_execAtomOr {s0 : State} {a : Fin 40} {addr : Nat} {size : Fin 2} {x : W64} {s : State} (hk : Keep s0 s) : KeepOut s0 (execAtomOr a addr size x s) := by
  unfold execAtomOr
  repeat' with_reducible first | assumption | exact keepOut_refused _ | refine keepOut_next ?_ | refine keep_atomIssue ?_

theorem keep_execAtomXor {s0 : State} {a : Fin 40} {addr : Nat} {size : Fin 2} {x : W64} {s : State} (hk : Keep s0 s) : KeepOut s0 (execAtomXor a addr size x s) := by
  unfold execAtomXor
  repeat' with_reducible first | assumption | exact keepOut_refused _ | refine keepOut_next ?_ | refine keep_atomIssue ?_

theorem keep_execAtomModeWrite {s0 : State} {u : Unit6} {v : W32} {s : State} (hk : Keep s0 s) : KeepOut s0 (execAtomModeWrite u v s) := by
  unfold execAtomModeWrite
  repeat' with_reducible first
    | assumption | exact keepOut_refused _ | refine keepOut_next ?_ | refine keep_emit ?_ | refine keep_fset ?_ | refine keep_viaWin ?_ ?_
    | refine keep_ite ?_ ?_ | refine keepOut_ite ?_ ?_

theorem keep_snoopAnswer {s0 s : State} {a line code keep : Nat} (hk : Keep s0 s) : Keep s0 (snoopAnswer s a line code keep) := by
  unfold snoopAnswer
  repeat' first
    | with_reducible first
        | assumption | refine keep_dropCopy ?_ | refine keep_putCopy ?_ | refine keep_toHome ?_ | refine keep_withResps ?_ | refine keep_ite ?_ ?_
        | refine keep_ite_fst ?_ ?_ | refine keep_ite_snd ?_ ?_
    | split

theorem keep_execProbeShare {s0 : State} {a : Fin 40} {line : Nat} {req : Fin 64} {s : State} (hk : Keep s0 s) : KeepOut s0 (execProbeShare a line req s) := by
  unfold execProbeShare
  repeat' with_reducible first | assumption | exact keepOut_refused _ | refine keepOut_next ?_ | refine keep_snoopAnswer ?_

theorem keep_execProbeYield {s0 : State} {a : Fin 40} {line : Nat} {req : Fin 64} {s : State} (hk : Keep s0 s) : KeepOut s0 (execProbeYield a line req s) := by
  unfold execProbeYield
  repeat' with_reducible first | assumption | exact keepOut_refused _ | refine keepOut_next ?_ | refine keep_snoopAnswer ?_

theorem keep_execProbeDrop {s0 : State} {a : Fin 40} {line : Nat} {req : Fin 64} {s : State} (hk : Keep s0 s) : KeepOut s0 (execProbeDrop a line req s) := by
  unfold execProbeDrop
  repeat' with_reducible first | assumption | exact keepOut_refused _ | refine keepOut_next ?_ | refine keep_snoopAnswer ?_

theorem keep_execProbeCopy {s0 : State} {a : Fin 40} {line : Nat} {req : Fin 64} {s : State} (hk : Keep s0 s) : KeepOut s0 (execProbeCopy a line req s) := by
  unfold execProbeCopy
  repeat' with_reducible first | assumption | exact keepOut_refused _ | refine keepOut_next ?_ | refine keep_snoopAnswer ?_

theorem keep_execProbeFlush {s0 : State} {a : Fin 40} {line : Nat} {req : Fin 64} {s : State} (hk : Keep s0 s) : KeepOut s0 (execProbeFlush a line req s) := by
  unfold execProbeFlush
  repeat' with_reducible first | assumption | exact keepOut_refused _ | refine keepOut_next ?_ | refine keep_snoopAnswer ?_

theorem keep_closeTxn {s0 s : State} {t : Txn} (hk : Keep s0 s) : Keep s0 (closeTxn s t) := by
  unfold closeTxn
  repeat' first
    | with_reducible first
        | assumption | refine keep_dropDir ?_ | refine keep_finishReq ?_ | refine keep_lineBack ?_ | refine keep_withTxns ?_
    | split

theorem keep_putTxn {s0 s : State} {t : Txn} (hk : Keep s0 s) : Keep s0 (putTxn s t) := by
  unfold putTxn
  repeat' with_reducible first | assumption | refine keep_closeTxn ?_ | refine keep_withTxns ?_ | refine keep_ite ?_ ?_

theorem keep_execSnoopResponse {s0 : State} {home : Fin 18} {line : Nat} {a : Fin 40} {s : State} (hk : Keep s0 s) : KeepOut s0 (execSnoopResponse home line a s) := by
  unfold execSnoopResponse
  repeat' first
    | with_reducible first
        | assumption | exact keepOut_refused _ | refine keepOut_next ?_ | refine keep_putTxn ?_ | refine keep_withResps ?_ | refine keep_ite ?_ ?_
        | refine keepOut_ite ?_ ?_ | refine keep_ite_fst ?_ ?_ | refine keep_ite_snd ?_ ?_
    | split | intro _ _ _ | dsimp only

theorem keep_execWriteBack {s0 : State} {home : Fin 18} {line : Nat} {a : Fin 40} {s : State} (hk : Keep s0 s) : KeepOut s0 (execWriteBack home line a s) := by
  unfold execWriteBack
  repeat' first
    | with_reducible first
        | assumption | exact keepOut_refused _ | refine keepOut_next ?_ | refine keep_dropCopy ?_ | refine keep_dropDir ?_ | refine keep_lineBack ?_
        | refine keep_orphanDrop ?_ | refine keep_putTxn ?_ | refine keep_toHome ?_ | refine keep_withWbs ?_ | refine keep_ite ?_ ?_
        | refine keepOut_ite ?_ ?_ | refine keep_ite_fst ?_ ?_ | refine keep_ite_snd ?_ ?_
    | split

theorem keep_execHomeQueueServe {s0 : State} {home : Fin 18} {line : Nat} {s : State} (hk : Keep s0 s) : KeepOut s0 (execHomeQueueServe home line s) := by
  unfold execHomeQueueServe
  repeat' first
    | with_reducible first
        | assumption | exact keepOut_refused _ | refine keepOut_next ?_ | refine keep_queuedAt ?_ | refine keep_startReq ?_ | refine keep_withWaitq ?_
        | refine keep_ite ?_ ?_ | refine keepOut_ite ?_ ?_ | refine keep_ite_fst ?_ ?_ | refine keep_ite_snd ?_ ?_
    | split

theorem keep_reclaimLine {s0 s : State} {h l : Nat} (hk : Keep s0 s) : Keep s0 (reclaimLine s h l) := by
  unfold reclaimLine
  repeat' with_reducible first | assumption | refine keep_dropDir ?_ | refine keep_poisonLine ?_

theorem keep_execDeadNotice {s0 : State} {home : Fin 18} {a : Fin 40} {s : State} (hk : Keep s0 s) : KeepOut s0 (execDeadNotice home a s) := by
  unfold execDeadNotice
  repeat' first
    | with_reducible first
        | assumption | exact keepOut_refused _ | refine keepOut_next ?_ | refine keep_dirUse ?_ | refine keep_fset ?_ | refine keep_lineBack ?_
        | refine keep_putTxn ?_ | refine keep_queuedAt ?_ | refine keep_reclaimLine ?_ | refine keep_setDead ?_ | refine keep_withCopies ?_
        | refine keep_withDir ?_ | refine keep_withWaitq ?_ | refine keep_withResps ?_ | refine keep_withWbs ?_ | refine keep_withReclaims ?_
        | refine keep_ite ?_ ?_ | refine keepOut_ite ?_ ?_ | refine keep_ite_fst ?_ ?_ | refine keep_ite_snd ?_ ?_ | refine keep_foldl ?_ ?_
        | refine keep_foldl_fst ?_ ?_ | refine keep_foldl_snd ?_ ?_
    | split | intro _ _ _

theorem keep_execReclaimDone {s0 : State} {home : Fin 18} {s : State} (hk : Keep s0 s) : KeepOut s0 (execReclaimDone home s) := by
  unfold execReclaimDone
  repeat' first
    | with_reducible first
        | assumption | exact keepOut_refused _ | refine keepOut_next ?_ | refine keep_agentsBack ?_ | refine keep_fset ?_ | refine keep_note ?_
        | refine keep_withReclaims ?_ | refine keep_ite ?_ ?_ | refine keepOut_ite ?_ ?_ | refine keep_ite_fst ?_ ?_ | refine keep_ite_snd ?_ ?_
    | split

theorem keep_execReadaheadPurge {s0 : State} {e : Fin 10} {line : Nat} {len : Nat} {s : State} (hk : Keep s0 s) : KeepOut s0 (execReadaheadPurge e line len s) := by
  unfold execReadaheadPurge
  repeat' with_reducible first
    | assumption | exact keepOut_refused _ | refine keepOut_next ?_ | refine keep_emit ?_ | refine keep_mgt ?_ | refine keep_purgeOne ?_
    | refine keep_ite ?_ ?_

theorem keep_execScopeG {s0 : State} {a : Fin 40} {addr : Nat} {len : Nat} {s : State} (hk : Keep s0 s) : KeepOut s0 (execScopeG a addr len s) := by
  unfold execScopeG
  repeat' first
    | with_reducible first
        | assumption | exact keepOut_refused _ | refine keepOut_next ?_ | refine keep_emit ?_ | refine keep_lineBack ?_ | refine keep_mgt ?_
        | refine keep_putCopy ?_ | refine keep_withRahead ?_ | refine keep_ite ?_ ?_ | refine keepOut_ite ?_ ?_ | refine keep_ite_fst ?_ ?_
        | refine keep_ite_snd ?_ ?_ | refine keep_foldl ?_ ?_ | refine keep_foldl_fst ?_ ?_ | refine keep_foldl_snd ?_ ?_
    | split | intro _ _ _

/-! ### Machine/Ledger.lean -/


theorem keep_showTemps {s0 s : State} {d : Nat} (hk : Keep s0 s) : Keep s0 (showTemps s d) := by
  unfold showTemps
  repeat' first
    | with_reducible first
        | assumption | refine keep_fset ?_ | refine keep_foldl ?_ ?_ | refine keep_foldl_fst ?_ ?_ | refine keep_foldl_snd ?_ ?_
    | split | intro _ _ _

theorem keep_budgetTemp {s0 s : State} {d i : Nat} (hk : Keep s0 s) : Keep s0 (budgetTemp s d i) := by
  unfold budgetTemp
  repeat' with_reducible first
    | assumption | refine keep_fset ?_ | refine keep_modEvent ?_ | refine keep_note ?_ | refine keep_setLedgerX ?_ | refine keep_ite ?_ ?_

theorem keep_recal {s0 s : State} {d i : Nat} (hk : Keep s0 s) : Keep s0 (recal s d i) := by
  unfold recal
  repeat' with_reducible first | assumption | refine keep_fset ?_ | refine keep_takeFree ?_ | refine keep_ite ?_ ?_

theorem keep_recalLoad {s0 s : State} {d i : Nat} (hk : Keep s0 s) : Keep s0 (recalLoad s d i) := by
  unfold recalLoad
  repeat' with_reducible first | assumption | refine keep_fset ?_ | refine keep_recal ?_

theorem keep_applyPending {s0 s : State} {d : Nat} (hk : Keep s0 s) : Keep s0 (applyPending s d) := by
  unfold applyPending
  repeat' with_reducible first | assumption | refine keep_setLedgerX ?_

theorem keep_wakeEnergy {s0 s : State} {d c : Nat} (hk : Keep s0 s) : Keep s0 (wakeEnergy s d c) := by
  unfold wakeEnergy
  repeat' first
    | with_reducible first
        | assumption | refine keep_fset ?_ | refine keep_ite ?_ ?_ | refine keep_ite_fst ?_ ?_ | refine keep_ite_snd ?_ ?_ | refine keep_foldl ?_ ?_
        | refine keep_foldl_fst ?_ ?_ | refine keep_foldl_snd ?_ ?_
    | split | intro _ _ _

theorem keep_inputRead {s0 s : State} {v : Nat} (hk : Keep s0 s) : Keep s0 (inputRead s v) := by
  unfold inputRead
  repeat' with_reducible first | assumption | refine keep_fset ?_ | refine keep_takeFree ?_

theorem keep_edgeReport {s0 s : State} {d n edge : Nat} {temps : List (BitVec 11)} (hk : Keep s0 s) : Keep s0 (edgeReport s d n edge temps) := by
  unfold edgeReport
  repeat' with_reducible first | assumption | refine keep_emit ?_ | refine keep_mgt ?_ | refine keep_ite ?_ ?_

theorem keep_edgeReports {s0 s : State} {d : Nat} {temps : List (BitVec 11)} (hk : Keep s0 s) : Keep s0 (edgeReports s d temps) := by
  unfold edgeReports
  repeat' with_reducible first | assumption | refine keep_edgeReport ?_

theorem keep_execLedgerPeriodEnd {s0 : State} {d : Die} {draw : List Nat} {temps ftg : List (BitVec 11)} {v : BitVec 16} {s : State} (hk : Keep s0 s) : KeepOut s0 (execLedgerPeriodEnd d draw temps ftg v s) := by
  unfold execLedgerPeriodEnd
  repeat' first
    | with_reducible first
        | assumption | exact keepOut_refused _ | refine keepOut_next ?_ | refine keep_applyPending ?_ | refine keep_budgetTemp ?_
        | refine keep_edgeReports ?_ | refine keep_fset ?_ | refine keep_inputRead ?_ | refine keep_recal ?_ | refine keep_setLedgerX ?_
        | refine keep_wakeEnergy ?_ | refine keep_wrW ?_ | refine keep_withModx ?_ | refine keep_withHup ?_ | refine keep_ite ?_ ?_
        | refine keepOut_ite ?_ ?_ | refine keep_ite_fst ?_ ?_ | refine keep_ite_snd ?_ ?_ | refine keep_foldl ?_ ?_ | refine keep_foldl_fst ?_ ?_
        | refine keep_foldl_snd ?_ ?_
    | split | intro _ _ _

theorem keep_execRecalWindowEnd {s0 : State} {d : Die} {s : State} (hk : Keep s0 s) : KeepOut s0 (execRecalWindowEnd d s) := by
  unfold execRecalWindowEnd
  repeat' first
    | with_reducible first
        | assumption | exact keepOut_refused _ | refine keepOut_next ?_ | refine keep_fset ?_ | refine keep_recalLoad ?_ | refine keep_setLedgerX ?_
        | refine keep_wrapAdd ?_ | refine keep_ite ?_ ?_ | refine keepOut_ite ?_ ?_ | refine keep_ite_fst ?_ ?_ | refine keep_ite_snd ?_ ?_
        | refine keep_foldl ?_ ?_ | refine keep_foldl_fst ?_ ?_ | refine keep_foldl_snd ?_ ?_
    | split | intro _ _ _

theorem keep_execReserveExhausted {s0 : State} {d : Die} {b : Fin 21} {s : State} (hk : Keep s0 s) : KeepOut s0 (execReserveExhausted d b s) := by
  unfold execReserveExhausted
  repeat' first
    | with_reducible first
        | assumption | exact keepOut_refused _ | refine keepOut_next ?_ | refine keep_fset ?_ | refine keep_note ?_ | refine keep_setLedgerX ?_
        | refine keep_withItems ?_ | refine keep_ite ?_ ?_ | refine keepOut_ite ?_ ?_ | refine keep_ite_fst ?_ ?_ | refine keep_ite_snd ?_ ?_
        | refine keep_foldl ?_ ?_ | refine keep_foldl_fst ?_ ?_ | refine keep_foldl_snd ?_ ?_
    | split | intro _ _ _

theorem keep_execSensorReport {s0 : State} {d src : Die} {reads : List (Fin 24 × BitVec 11)} {s : State} (hk : Keep s0 s) : KeepOut s0 (execSensorReport d src reads s) := by
  unfold execSensorReport
  repeat' with_reducible first
    | assumption | exact keepOut_refused _ | refine keepOut_next ?_ | refine keep_setLedgerX ?_ | refine keep_ite ?_ ?_ | refine keepOut_ite ?_ ?_

theorem keep_execThermalTrip {s0 : State} {u : Fin 20} {i : Fin 24} {t : BitVec 11} {s : State} (hk : Keep s0 s) : KeepOut s0 (execThermalTrip u i t s) := by
  unfold execThermalTrip
  repeat' with_reducible first
    | assumption | exact keepOut_refused _ | refine keepOut_next ?_ | refine keep_fset ?_ | refine keep_raise ?_ | refine keep_showTemps ?_
    | refine keep_withModx ?_ | refine keep_ite ?_ ?_ | refine keepOut_ite ?_ ?_

theorem keep_execLdgEnable {s0 : State} {d : Die} {s : State} (hk : Keep s0 s) : KeepOut s0 (execLdgEnable d s) := by
  unfold execLdgEnable
  repeat' with_reducible first
    | assumption | exact keepOut_refused _ | refine keepOut_next ?_ | refine keep_finishEnable ?_ | refine keep_viaWin ?_ ?_

theorem keep_execLdgDisable {s0 : State} {d : Die} {s : State} (hk : Keep s0 s) : KeepOut s0 (execLdgDisable d s) := by
  unfold execLdgDisable
  repeat' with_reducible first
    | assumption | exact keepOut_refused _ | refine keepOut_next ?_ | refine keep_fset ?_ | refine keep_setRD ?_ | refine keep_viaWin ?_ ?_
    | refine keep_ite ?_ ?_

theorem keep_setModule {s0 s : State} {m : Nat} (hk : Keep s0 s) : Keep s0 (setModule s m) := by
  unfold setModule
  repeat' with_reducible first | assumption | refine keep_setLedgerX ?_ | refine keep_wr ?_

theorem keep_moduleWrite {s0 s : State} {m : Nat} (hk : Keep s0 s) : Keep s0 (moduleWrite s m) := by
  unfold moduleWrite
  repeat' first
    | with_reducible first
        | assumption | refine keep_setModule ?_ | refine keep_setRD ?_
    | split | intro _ _ _ | dsimp only

theorem keep_execLdgModuleWrite {s0 : State} {v : W32} {s : State} (hk : Keep s0 s) : KeepOut s0 (execLdgModuleWrite v s) := by
  unfold execLdgModuleWrite
  repeat' with_reducible first | assumption | exact keepOut_refused _ | refine keepOut_next ?_ | refine keep_moduleWrite ?_

theorem keep_execLdgBudgetWrite {s0 : State} {d : Die} {i : Fin 21} {v : W32} {s : State} (hk : Keep s0 s) : KeepOut s0 (execLdgBudgetWrite d i v s) := by
  unfold execLdgBudgetWrite
  repeat' first
    | with_reducible first
        | assumption | exact keepOut_refused _ | refine keepOut_next ?_ | refine keep_fset ?_ | refine keep_setLedgerX ?_ | refine keep_setRD ?_
        | refine keep_viaWin ?_ ?_ | refine keep_ite ?_ ?_ | refine keepOut_ite ?_ ?_ | refine keep_ite_fst ?_ ?_ | refine keep_ite_snd ?_ ?_
    | split | intro _ _ _ | dsimp only

/-! ### Machine/Image.lean -/


theorem keep_imgRefuse {s0 s : State} {r d : Nat} (hk : Keep s0 s) : Keep s0 (imgRefuse s r d) := by
  unfold imgRefuse
  repeat' with_reducible first | assumption | refine keep_setRD ?_

theorem keep_imgFail {s0 s : State} {r d : Nat} (hk : Keep s0 s) : Keep s0 (imgFail s r d) := by
  unfold imgFail
  repeat' with_reducible first
    | assumption | refine keep_fset ?_ | refine keep_setRD ?_ | refine keep_withUpdate ?_ | refine keep_withHup ?_

theorem keep_execImgUpdate {s0 s : State} (hk : Keep s0 s) : KeepOut s0 (execImgUpdate s) := by
  unfold execImgUpdate
  repeat' first
    | with_reducible first
        | assumption | exact keepOut_refused _ | refine keepOut_next ?_ | refine keep_fset ?_ | refine keep_imgRefuse ?_ | refine keep_setRD ?_
        | refine keep_withUpdate ?_
    | split | intro _ _ _ | dsimp only

theorem keep_execImgCheckDone {s0 s : State} (hk : Keep s0 s) : KeepOut s0 (execImgCheckDone s) := by
  unfold execImgCheckDone
  repeat' first
    | with_reducible first
        | assumption | exact keepOut_refused _ | refine keepOut_next ?_ | refine keep_cleanPa ?_ | refine keep_fset ?_ | refine keep_imgFail ?_
        | refine keep_requestStore ?_ | refine keep_withUpdate ?_ | refine keep_ite ?_ ?_ | refine keepOut_ite ?_ ?_ | refine keep_ite_fst ?_ ?_
        | refine keep_ite_snd ?_ ?_
    | split | intro _ _ _ | dsimp only

theorem keep_setSlot {s0 s : State} {t : Nat} {f : Slot → Slot} (hk : Keep s0 s) : Keep s0 (setSlot s t f) := by
  unfold setSlot
  repeat' with_reducible first | assumption | refine keep_withFlash ?_

theorem keep_imageStored {s0 s : State} {step : Nat} (hk : Keep s0 s) : Keep s0 (imageStored s step) := by
  unfold imageStored
  repeat' first
    | with_reducible first
        | assumption | refine keep_cleanPa ?_ | refine keep_fset ?_ | refine keep_requestStore ?_ | refine keep_setRD ?_ | refine keep_setSlot ?_
        | refine keep_withUpdate ?_ | refine keep_ite ?_ ?_ | refine keep_ite_fst ?_ ?_ | refine keep_ite_snd ?_ ?_
    | split

theorem keep_execImgReadbackDone {s0 s : State} (hk : Keep s0 s) : KeepOut s0 (execImgReadbackDone s) := by
  unfold execImgReadbackDone
  repeat' first
    | with_reducible first
        | assumption | exact keepOut_refused _ | refine keepOut_next ?_ | refine keep_imgFail ?_ | refine keep_requestStore ?_
        | refine keep_withUpdate ?_ | refine keep_ite ?_ ?_ | refine keepOut_ite ?_ ?_ | refine keep_ite_fst ?_ ?_ | refine keep_ite_snd ?_ ?_
    | split

theorem keep_execImgRaiseSvn {s0 s : State} (hk : Keep s0 s) : KeepOut s0 (execImgRaiseSvn s) := by
  unfold execImgRaiseSvn
  repeat' first
    | with_reducible first
        | assumption | exact keepOut_refused _ | refine keepOut_next ?_ | refine keep_fset ?_ | refine keep_imgRefuse ?_ | refine keep_requestStore ?_
        | refine keep_setRD ?_ | refine keep_ite ?_ ?_ | refine keepOut_ite ?_ ?_ | refine keep_ite_fst ?_ ?_ | refine keep_ite_snd ?_ ?_
        | refine keep_foldl ?_ ?_ | refine keep_foldl_fst ?_ ?_ | refine keep_foldl_snd ?_ ?_
    | split | intro _ _ _

theorem keep_execCntInc {s0 s : State} (hk : Keep s0 s) : KeepOut s0 (execCntInc s) := by
  unfold execCntInc
  repeat' with_reducible first
    | assumption | exact keepOut_refused _ | refine keepOut_next ?_ | refine keep_requestStore ?_

theorem keep_execSealExtend {s0 : State} {v : W32} {s : State} (hk : Keep s0 s) : KeepOut s0 (execSealExtend v s) := by
  unfold execSealExtend
  repeat' with_reducible first
    | assumption | exact keepOut_refused _ | refine keepOut_next ?_ | refine keep_emit ?_ | refine keep_setMeas ?_ | refine keep_ite ?_ ?_
    | refine keepOut_ite ?_ ?_

theorem keep_setUsable {s0 s : State} {u : BitVec 16} (hk : Keep s0 s) : Keep s0 (setUsable s u) := by
  unfold setUsable
  repeat' with_reducible first | assumption | refine keep_fset ?_

theorem keep_execHoldupReady {s0 : State} {u : BitVec 16} {s : State} (hk : Keep s0 s) : KeepOut s0 (execHoldupReady u s) := by
  unfold execHoldupReady
  repeat' with_reducible first
    | assumption | exact keepOut_refused _ | refine keepOut_next ?_ | refine keep_fset ?_ | refine keep_setUsable ?_ | refine keep_ite ?_ ?_

theorem keep_railOff {s0 s : State} (hk : Keep s0 s) : Keep s0 (railOff s) := by
  unfold railOff
  repeat' with_reducible first | assumption | refine keep_withModx ?_ | refine keep_withHup ?_

theorem keep_railCheck {s0 s : State} (hk : Keep s0 s) : Keep s0 (railCheck s) := by
  unfold railCheck
  repeat' with_reducible first | assumption | refine keep_railOff ?_ | refine keep_ite ?_ ?_

theorem keep_execPersistentStoreStart {s0 : State} {u : BitVec 16} {s : State} (hk : Keep s0 s) : KeepOut s0 (execPersistentStoreStart u s) := by
  unfold execPersistentStoreStart
  repeat' first
    | with_reducible first
        | assumption | exact keepOut_refused _ | refine keepOut_next ?_ | refine keep_fset ?_ | refine keep_holdAdd ?_ | refine keep_railCheck ?_
        | refine keep_setRD ?_ | refine keep_setUsable ?_ | refine keep_wrapAdd ?_ | refine keep_withHup ?_ | refine keep_ite ?_ ?_
        | refine keepOut_ite ?_ ?_ | refine keep_ite_fst ?_ ?_ | refine keep_ite_snd ?_ ?_
    | split | intro _ _ _ | dsimp only

theorem keep_stored {s0 s : State} {w : StoreWork} (h : Keep s0 s) : Keep s0 (stored s w) := by
  cases w <;> unfold stored <;> (try dsimp only)
  all_goals repeat' with_reducible first
    | assumption | refine keep_fset ?_ | refine keep_countersChanged ?_ | refine keep_withFlash ?_ | refine keep_imageStored ?_
    | refine keep_ite ?_ ?_

theorem keep_coldNow {s0 s : State} (hk : Keep s0 s) : Keep s0 (coldNow s) := by
  unfold coldNow
  repeat' with_reducible first | assumption | refine keep_moduleCold ?_ | refine keep_withModx ?_ | refine keep_ite ?_ ?_

theorem keep_execPersistentStoreDone {s0 : State} {u : BitVec 16} {s : State} (hk : Keep s0 s) : KeepOut s0 (execPersistentStoreDone u s) := by
  unfold execPersistentStoreDone
  repeat' first
    | with_reducible first
        | assumption | exact keepOut_refused _ | refine keepOut_next ?_ | refine keep_coldNow ?_ | refine keep_fset ?_ | refine keep_railCheck ?_
        | refine keep_setUsable ?_ | refine keep_stored ?_ | refine keep_withHup ?_ | refine keep_ite ?_ ?_ | refine keepOut_ite ?_ ?_
        | refine keep_ite_fst ?_ ?_ | refine keep_ite_snd ?_ ?_
    | split | intro _ _ _ | dsimp only

/-! ### Machine/Block.lean -/


/-- What an outcome of this kind keeps: its state, where it has one. -/
def KeepGot (s : State) : Got → Prop
  | .ok t _ => Keep s t
  | .stop t => Keep s t

theorem keepGot_ite {s0 : State} {c : Prop} [Decidable c] {a b : Got} (h1 : KeepGot s0 a) (h2 : KeepGot s0 b) :
    KeepGot s0 (if c then a else b) := by split <;> assumption
theorem keepGot_okI {s0 t : State} {bs : List Byte} (h : Keep s0 t) : KeepGot s0 (.ok t bs) := h
theorem keepGot_ok {s0 t : State} {bs : List Byte} {g : Got} (e : g = .ok t bs) (h : KeepGot s0 g) : Keep s0 t := by rw [e] at h; exact h
theorem keepGot_stopI {s0 t : State}  (h : Keep s0 t) : KeepGot s0 (.stop t ) := h
theorem keepGot_stop {s0 t : State}  {g : Got} (e : g = .stop t ) (h : KeepGot s0 g) : Keep s0 t := by rw [e] at h; exact h

/-- What an outcome of this kind keeps: its state, where it has one. -/
def KeepTouch (s : State) : Touch → Prop
  | .ok t _ _ => Keep s t
  | .bad t _ _ => Keep s t

theorem keepTouch_ite {s0 : State} {c : Prop} [Decidable c] {a b : Touch} (h1 : KeepTouch s0 a) (h2 : KeepTouch s0 b) :
    KeepTouch s0 (if c then a else b) := by split <;> assumption
theorem keepTouch_okI {s0 t : State} {bs : List Byte} {p : Bool} (h : Keep s0 t) : KeepTouch s0 (.ok t bs p) := h
theorem keepTouch_ok {s0 t : State} {bs : List Byte} {p : Bool} {g : Touch} (e : g = .ok t bs p) (h : KeepTouch s0 g) : Keep s0 t := by rw [e] at h; exact h
theorem keepTouch_badI {s0 t : State} {r : Nat} {d : Nat} (h : Keep s0 t) : KeepTouch s0 (.bad t r d) := h
theorem keepTouch_bad {s0 t : State} {r : Nat} {d : Nat} {g : Touch} (e : g = .bad t r d) (h : KeepTouch s0 g) : Keep s0 t := by rw [e] at h; exact h

theorem keep_recordViol {s0 s : State} {d n m c : Nat} {k : AccKind} {detail word : Nat} (hk : Keep s0 s) : Keep s0 (recordViol s d n m c k detail word) := by
  unfold recordViol
  repeat' with_reducible first | assumption | refine keep_fset ?_ | refine keep_ite ?_ ?_

theorem keep_halt {s0 s : State} {d n c reason detail : Nat} (hk : Keep s0 s) : Keep s0 (halt s d n c reason detail) := by
  unfold halt
  repeat' first
    | with_reducible first
        | assumption | refine keep_endItem ?_ | refine keep_haltCtx ?_ | refine keep_ite ?_ ?_ | refine keep_ite_fst ?_ ?_ | refine keep_ite_snd ?_ ?_
    | split | intro _ _ _ | dsimp only

theorem keep_eccHalt {s0 s : State} {d n c word : Nat} (hk : Keep s0 s) : Keep s0 (eccHalt s d n c word) := by
  unfold eccHalt
  repeat' with_reducible first | assumption | refine keep_halt ?_ | refine keep_raise ?_

theorem keep_denyOwn {s0 s : State} {d n m c : Nat} {k : AccKind} {r : Nat × Nat × Nat} (hk : Keep s0 s) : Keep s0 (denyOwn s d n m c k r) := by
  unfold denyOwn
  repeat' with_reducible first | assumption | refine keep_halt ?_ | refine keep_recordViol ?_

theorem keep_countCe {s0 s : State} {d n off len : Nat} (hk : Keep s0 s) : Keep s0 (countCe s d n off len) := by
  unfold countCe
  repeat' with_reducible first | assumption | refine keep_holdAdd ?_ | refine keep_ite ?_ ?_

theorem keep_ownRead {s0 s : State} {d n m c off len : Nat} (hk : Keep s0 s) : KeepGot s0 (ownRead s d n m c off len) := by
  unfold ownRead
  repeat' first
    | with_reducible first
        | assumption | refine keep_countCe ?_ | refine keep_denyOwn ?_ | refine keep_eccHalt ?_ | refine keep_ite ?_ ?_ | refine keep_ite_fst ?_ ?_
        | refine keep_ite_snd ?_ ?_ | refine keepGot_ite ?_ ?_ | refine keepGot_okI ?_ | refine keepGot_stopI ?_
        | (refine keepGot_ok (by with_reducible assumption) ?_) | (refine keepGot_stop (by with_reducible assumption) ?_)
    | split

theorem keep_ownWrite {s0 s : State} {d n m c : Nat} {k : AccKind} {off : Nat} {bs : List Byte} (hk : Keep s0 s) : KeepGot s0 (ownWrite s d n m c k off bs) := by
  unfold ownWrite
  repeat' first
    | with_reducible first
        | assumption | refine keep_denyOwn ?_ | refine keep_memWriteAt ?_ | refine keepGot_ite ?_ ?_ | refine keepGot_okI ?_ | refine keepGot_stopI ?_
        | (refine keepGot_ok (by with_reducible assumption) ?_) | (refine keepGot_stop (by with_reducible assumption) ?_)
    | split

theorem keep_outAccess {s0 s : State} {d n : Nat} {k : AccKind} {off len : Nat} {bs : List Byte} (hk : Keep s0 s) : KeepTouch s0 (outAccess s d n k off len bs) := by
  unfold outAccess
  repeat' first
    | with_reducible first
        | assumption | refine keep_countCe ?_ | refine keep_memWriteAt ?_ | refine keep_raise ?_ | refine keep_recordViol ?_ | refine keep_ite ?_ ?_
        | refine keep_ite_fst ?_ ?_ | refine keep_ite_snd ?_ ?_ | refine keepTouch_ite ?_ ?_ | refine keepTouch_okI ?_ | refine keepTouch_badI ?_
        | (refine keepTouch_ok (by with_reducible assumption) ?_) | (refine keepTouch_bad (by with_reducible assumption) ?_)
    | split

theorem keep_spadAccess {s0 s : State} {d n m c : Nat} {k : AccKind} {off len : Nat} {bs : List Byte} (hk : Keep s0 s) : Keep s0 (spadAccess s d n m c k off len bs) := by
  unfold spadAccess
  repeat' first
    | with_reducible first
        | assumption | refine keep_emit ?_ | refine keep_outAccess ?_ | refine keep_ownRead ?_ | refine keep_ownWrite ?_ | refine keep_ite ?_ ?_
        | refine keep_ite_fst ?_ ?_ | refine keep_ite_snd ?_ ?_ | (refine keepGot_ok (by with_reducible assumption) ?_)
        | (refine keepGot_stop (by with_reducible assumption) ?_) | (refine keepTouch_ok (by with_reducible assumption) ?_)
        | (refine keepTouch_bad (by with_reducible assumption) ?_)
    | split

theorem keep_execSpadRead {s0 : State} {d : Die} {n : Blk} {m : Fin 5} {c : Ctx} {off : BitVec 21} {len : Nat} {s : State} (hk : Keep s0 s) : KeepOut s0 (execSpadRead d n m c off len s) := by
  unfold execSpadRead
  repeat' with_reducible first
    | assumption | exact keepOut_refused _ | refine keepOut_next ?_ | refine keep_spadAccess ?_ | refine keep_ite ?_ ?_ | refine keepOut_ite ?_ ?_

theorem keep_execSpadWrite {s0 : State} {d : Die} {n : Blk} {m : Fin 5} {c : Ctx} {off : BitVec 21} {data : List Byte} {s : State} (hk : Keep s0 s) : KeepOut s0 (execSpadWrite d n m c off data s) := by
  unfold execSpadWrite
  repeat' with_reducible first
    | assumption | exact keepOut_refused _ | refine keepOut_next ?_ | refine keep_spadAccess ?_ | refine keep_ite ?_ ?_ | refine keepOut_ite ?_ ?_

theorem keep_execSpadSetWrite {s0 : State} {d : Die} {n : Blk} {m : Fin 5} {c : Ctx} {off : BitVec 21} {data : List Byte} {s : State} (hk : Keep s0 s) : KeepOut s0 (execSpadSetWrite d n m c off data s) := by
  unfold execSpadSetWrite
  repeat' with_reducible first
    | assumption | exact keepOut_refused _ | refine keepOut_next ?_ | refine keep_spadAccess ?_ | refine keep_ite ?_ ?_ | refine keepOut_ite ?_ ?_

theorem keep_execSpadClearWrite {s0 : State} {d : Die} {n : Blk} {m : Fin 5} {c : Ctx} {off : BitVec 21} {data : List Byte} {s : State} (hk : Keep s0 s) : KeepOut s0 (execSpadClearWrite d n m c off data s) := by
  unfold execSpadClearWrite
  repeat' with_reducible first
    | assumption | exact keepOut_refused _ | refine keepOut_next ?_ | refine keep_spadAccess ?_ | refine keep_ite ?_ ?_ | refine keepOut_ite ?_ ?_

theorem keep_execBlockFence {s0 : State} {d : Die} {n : Blk} {s : State} (hk : Keep s0 s) : KeepOut s0 (execBlockFence d n s) := by
  unfold execBlockFence
  repeat' with_reducible first
    | assumption | exact keepOut_refused _ | refine keepOut_next ?_ | refine keep_fenceBlock ?_ | refine keep_viaWin ?_ ?_

theorem keep_execBlockTest {s0 : State} {d : Die} {n : Blk} {s : State} (hk : Keep s0 s) : KeepOut s0 (execBlockTest d n s) := by
  unfold execBlockTest
  repeat' with_reducible first
    | assumption | exact keepOut_refused _ | refine keepOut_next ?_ | refine keep_setRD ?_ | refine keep_viaWin ?_ ?_ | refine keep_withBtest ?_
    | refine keep_ite ?_ ?_ | refine keepOut_ite ?_ ?_

theorem keep_execBlockSelftestDone {s0 : State} {d : Die} {n : Blk} {pass : Bool} {s : State} (hk : Keep s0 s) : KeepOut s0 (execBlockSelftestDone d n pass s) := by
  unfold execBlockSelftestDone
  repeat' with_reducible first
    | assumption | exact keepOut_refused _ | refine keepOut_next ?_ | refine keep_fset ?_ | refine keep_withBtest ?_ | refine keep_ite ?_ ?_
    | refine keepOut_ite ?_ ?_

theorem keep_clearBlockRegs {s0 s : State} {d n : Nat} (hk : Keep s0 s) : Keep s0 (clearBlockRegs s d n) := by
  unfold clearBlockRegs
  repeat' first
    | with_reducible first
        | assumption | refine keep_fset ?_ | refine keep_withRegs ?_ ?_ | refine keep_withCtxx ?_ | refine keep_ite ?_ ?_
    | exact fun h => twf_tset _ _ h | exact fun h => twf_tdel _ h | exact fun h => twf_filter _ h | exact fun h => twf_tfilter _ h | exact fun h => twf_wrBytes h | exact fun _ => twf_nil _ | exact fun h => twf_flushMem h

theorem keep_execBlockClearDone {s0 : State} {d : Die} {n : Blk} {s : State} (hk : Keep s0 s) : KeepOut s0 (execBlockClearDone d n s) := by
  unfold execBlockClearDone
  repeat' with_reducible first
    | assumption | exact keepOut_refused _ | refine keepOut_next ?_ | refine keep_clearBlockRegs ?_ | refine keep_mapChange ?_
    | refine keep_recount ?_ | refine keep_zeroSpad ?_ | refine keep_withBtest ?_ | refine keep_ite ?_ ?_ | refine keepOut_ite ?_ ?_

theorem keep_ctxEnable {s0 s : State} {d n c : Nat} (hk : Keep s0 s) : Keep s0 (ctxEnable s d n c) := by
  unfold ctxEnable
  repeat' first
    | with_reducible first
        | assumption | refine keep_fset ?_ | refine keep_setCtxState ?_ | refine keep_setRD ?_ | refine keep_ite ?_ ?_ | refine keep_ite_fst ?_ ?_
        | refine keep_ite_snd ?_ ?_
    | split

theorem keep_execCtxEnable {s0 : State} {d : Die} {n : Blk} {c : Ctx} {s : State} (hk : Keep s0 s) : KeepOut s0 (execCtxEnable d n c s) := by
  unfold execCtxEnable
  repeat' with_reducible first
    | assumption | exact keepOut_refused _ | refine keepOut_next ?_ | refine keep_ctxEnable ?_ | refine keep_viaWin ?_ ?_

theorem keep_execCtxDisable {s0 : State} {d : Die} {n : Blk} {c : Ctx} {s : State} (hk : Keep s0 s) : KeepOut s0 (execCtxDisable d n c s) := by
  unfold execCtxDisable
  repeat' with_reducible first
    | assumption | exact keepOut_refused _ | refine keepOut_next ?_ | refine keep_fset ?_ | refine keep_setCtxState ?_ | refine keep_setRD ?_
    | refine keep_viaWin ?_ ?_ | refine keep_ite ?_ ?_ | refine keepOut_ite ?_ ?_

theorem keep_signal {s0 s : State} {d n c fl sat : Nat} (hk : Keep s0 s) : Keep s0 (signal s d n c fl sat) := by
  unfold signal
  repeat' with_reducible first | assumption | refine keep_fset ?_ | refine keep_holdAdd ?_

theorem keep_execFpFlagsClear {s0 : State} {d : Die} {n : Blk} {c : Ctx} {v : W32} {same : BitVec 7} {sat : BitVec 16} {s : State} (hk : Keep s0 s) : KeepOut s0 (execFpFlagsClear d n c v same sat s) := by
  unfold execFpFlagsClear
  repeat' with_reducible first
    | assumption | exact keepOut_refused _ | refine keepOut_next ?_ | refine keep_fset ?_ | refine keep_holdAdd ?_ | refine keep_viaWin ?_ ?_
    | refine keep_ite ?_ ?_

theorem keep_execViolClear {s0 : State} {d : Die} {n : Blk} {v : W32} {same : Option W32} {s : State} (hk : Keep s0 s) : KeepOut s0 (execViolClear d n v same s) := by
  unfold execViolClear
  repeat' first
    | with_reducible first
        | assumption | exact keepOut_refused _ | refine keepOut_next ?_ | refine keep_holdAdd ?_ | refine keep_viaWin ?_ ?_ | refine keep_wr ?_
        | refine keep_ite ?_ ?_ | refine keepOut_ite ?_ ?_ | refine keep_ite_fst ?_ ?_ | refine keep_ite_snd ?_ ?_
    | split

/-! ### Machine/Regw.lean -/


theorem keep_regWrite4 {s0 s : State} {a : Nat} {v : W32} (hk : Keep s0 s) : Keep s0 (regWrite4 s a v) := by
  unfold regWrite4
  repeat' first
    | with_reducible first
        | assumption | refine keep_fset ?_ | refine keep_setHoldX ?_ | refine keep_wr ?_ | refine keep_ite ?_ ?_ | refine keep_ite_fst ?_ ?_
        | refine keep_ite_snd ?_ ?_
    | split | intro _ _ _ | dsimp only

theorem keep_accFault {s0 s : State} {pcie : Bool} (hk : Keep s0 s) : Keep s0 (accFault s pcie) := by
  unfold accFault
  repeat' with_reducible first | assumption | refine keep_emit ?_

theorem keep_regRead {s0 s : State} {a : Nat} (hk : Keep s0 s) : Keep s0 (regRead s a).1 := by
  unfold regRead
  repeat' first
    | with_reducible first
        | assumption | refine keep_withLatch ?_ ?_ | refine keep_ite ?_ ?_ | refine keep_ite_fst ?_ ?_ | refine keep_ite_snd ?_ ?_
    | exact fun h => twf_tset _ _ h | exact fun h => twf_tdel _ h | exact fun h => twf_filter _ h | exact fun h => twf_tfilter _ h | exact fun h => twf_wrBytes h | exact fun _ => twf_nil _ | exact fun h => twf_flushMem h | split | intro _ _ _ | dsimp only

theorem keep_regReads {s0 : State} {n : Nat} : ∀ {s : State} {a : Nat}, Keep s0 s → Keep s0 (regReads s a n).1 := by
  induction n with
  | zero => intro s a h; exact h
  | succ n ih => intro s a h; exact ih (keep_regRead h)

theorem keep_winRead {s0 s : State} {u o n : Nat} (hk : Keep s0 s) : Keep s0 (winRead s u o n).1 := by
  unfold winRead
  repeat' first
    | with_reducible first
        | assumption | refine keep_regReads ?_
    | split

theorem keep_execLoReadLatch {s0 : State} {a : BitVec 52} {s : State} (hk : Keep s0 s) : KeepOut s0 (execLoReadLatch a s) := by
  unfold execLoReadLatch
  repeat' first
    | with_reducible first
        | assumption | exact keepOut_refused _ | refine keepOut_next ?_ | refine keep_accFault ?_ | refine keep_emit ?_ | refine keep_withLatch ?_ ?_
        | refine keep_ite ?_ ?_ | refine keepOut_ite ?_ ?_ | refine keep_ite_fst ?_ ?_ | refine keep_ite_snd ?_ ?_
    | exact fun h => twf_tset _ _ h | exact fun h => twf_tdel _ h | exact fun h => twf_filter _ h | exact fun h => twf_tfilter _ h | exact fun h => twf_wrBytes h | exact fun _ => twf_nil _ | exact fun h => twf_flushMem h | split

/-! ### Machine/Rings.lean -/


/-- What an outcome of this kind keeps: its state, where it has one. -/
def KeepV (s : State) : Verdict → Prop
  | .refuse t _ _ _ => Keep s t
  | .wait => True
  | .park t _ => Keep s t
  | .accept t _ _ _ => Keep s t

theorem keepV_ite {s0 : State} {c : Prop} [Decidable c] {a b : Verdict} (h1 : KeepV s0 a) (h2 : KeepV s0 b) :
    KeepV s0 (if c then a else b) := by split <;> assumption
theorem keepV_refuseI {s0 t : State} {r : Nat} {d : Nat} {m : Nat × Nat} (h : Keep s0 t) : KeepV s0 (.refuse t r d m) := h
theorem keepV_refuse {s0 t : State} {r : Nat} {d : Nat} {m : Nat × Nat} {g : Verdict} (e : g = .refuse t r d m) (h : KeepV s0 g) : Keep s0 t := by rw [e] at h; exact h
theorem keepV_waitI {s0 : State}  : KeepV s0 (.wait ) := True.intro
theorem keepV_parkI {s0 t : State} {m : List (Nat × Nat × Nat)} (h : Keep s0 t) : KeepV s0 (.park t m) := h
theorem keepV_park {s0 t : State} {m : List (Nat × Nat × Nat)} {g : Verdict} (e : g = .park t m) (h : KeepV s0 g) : Keep s0 t := by rw [e] at h; exact h
theorem keepV_acceptI {s0 t : State} {w : Want} {f : Item → Item} {x : List Extent} (h : Keep s0 t) : KeepV s0 (.accept t w f x) := h
theorem keepV_accept {s0 t : State} {w : Want} {f : Item → Item} {x : List Extent} {g : Verdict} (e : g = .accept t w f x) (h : KeepV s0 g) : Keep s0 t := by rw [e] at h; exact h

theorem keep_ringCodes {s0 s : State} {d r reason detail : Nat} (hk : Keep s0 s) : Keep s0 (ringCodes s d r reason detail) := by
  unfold ringCodes
  repeat' with_reducible first | assumption | refine keep_setRD ?_

theorem keep_pauseRing {s0 s : State} {d r reason detail : Nat} (hk : Keep s0 s) : Keep s0 (pauseRing s d r reason detail) := by
  unfold pauseRing
  repeat' with_reducible first | assumption | refine keep_fset ?_ | refine keep_ringCodes ?_

theorem keep_doorbell {s0 s : State} {d r tail : Nat} (hk : Keep s0 s) : Keep s0 (doorbell s d r tail) := by
  unfold doorbell
  repeat' with_reducible first
    | assumption | refine keep_fset ?_ | refine keep_note ?_ | refine keep_ringCodes ?_ | refine keep_setRingX ?_ | refine keep_ite ?_ ?_

theorem keep_execRingDoorbell {s0 : State} {d : Die} {r : Ring} {tail : BitVec 17} {s : State} (hk : Keep s0 s) : KeepOut s0 (execRingDoorbell d r tail s) := by
  unfold execRingDoorbell
  repeat' with_reducible first
    | assumption | exact keepOut_refused _ | refine keepOut_next ?_ | refine keep_doorbell ?_ | refine keep_viaWin ?_ ?_

theorem keep_execRingEnable {s0 : State} {d : Die} {r : Ring} {v : W32} {s : State} (hk : Keep s0 s) : KeepOut s0 (execRingEnable d r v s) := by
  unfold execRingEnable
  repeat' first
    | with_reducible first
        | assumption | exact keepOut_refused _ | refine keepOut_next ?_ | refine keep_fset ?_ | refine keep_ringCodes ?_ | refine keep_rwlIn ?_
        | refine keep_viaWin ?_ ?_ | refine keep_ite ?_ ?_ | refine keepOut_ite ?_ ?_ | refine keep_ite_fst ?_ ?_ | refine keep_ite_snd ?_ ?_
    | split | intro _ _ _ | dsimp only

theorem keep_parkedReg {s0 s : State} {d : Nat} (hk : Keep s0 s) : Keep s0 (parkedReg s d) := by
  unfold parkedReg
  repeat' with_reducible first | assumption | refine keep_fset ?_

theorem keep_execRingDisable {s0 : State} {d : Die} {r : Ring} {s : State} (hk : Keep s0 s) : KeepOut s0 (execRingDisable d r s) := by
  unfold execRingDisable
  repeat' with_reducible first
    | assumption | exact keepOut_refused _ | refine keepOut_next ?_ | refine keep_fset ?_ | refine keep_parkedReg ?_ | refine keep_ringCodes ?_
    | refine keep_setRingX ?_ | refine keep_viaWin ?_ ?_ | refine keep_ite ?_ ?_ | refine keepOut_ite ?_ ?_

theorem keep_fbOldest {s0 s : State} {d : Nat} (hk : Keep s0 s) : Keep s0 (fbOldest s d) := by
  unfold fbOldest
  repeat' with_reducible first | assumption | refine keep_wr ?_

theorem keep_closeBatch {s0 s : State} {d cause : Nat} (hk : Keep s0 s) : Keep s0 (closeBatch s d cause) := by
  unfold closeBatch
  repeat' with_reducible first
    | assumption | refine keep_fbOldest ?_ | refine keep_memWrite ?_ | refine keep_note ?_ | refine keep_setXunit ?_ | refine keep_wr ?_

theorem keep_putFault {s0 s : State} {d : Nat} {p : PFRec} (hk : Keep s0 s) : Keep s0 (putFault s d p) := by
  unfold putFault
  repeat' with_reducible first | assumption | refine keep_closeBatch ?_ | refine keep_setXunit ?_ | refine keep_ite ?_ ?_

theorem keep_park {s0 s : State} {d r tag : Nat} {desc : Option (List Byte)} {miss : List (Nat × Nat × Nat)} (hk : Keep s0 s) : Keep s0 (park s d r tag desc miss) := by
  unfold park
  repeat' first
    | with_reducible first
        | assumption | refine keep_parkedReg ?_ | refine keep_pauseRing ?_ | refine keep_putFault ?_ | refine keep_setRingX ?_
        | refine keep_foldl ?_ ?_ | refine keep_foldl_fst ?_ ?_ | refine keep_foldl_snd ?_ ?_
    | split | intro _ _ _

theorem keep_consume {s0 s : State} {d r : Nat} (hk : Keep s0 s) : Keep s0 (consume s d r) := by
  unfold consume
  repeat' with_reducible first
    | assumption | refine keep_fset ?_ | refine keep_setRingX ?_ | refine keep_wr ?_ | refine keep_withServed ?_

theorem keep_refuseFront {s0 s : State} {d r tag scope reason detail : Nat} (hk : Keep s0 s) : Keep s0 (refuseFront s d r tag scope reason detail) := by
  unfold refuseFront
  repeat' with_reducible first | assumption | refine keep_consume ?_ | refine keep_putCrec ?_

theorem keep_refusalNote {s0 s : State} {d r tag op reason detail : Nat} {at' : Nat × Nat} (hk : Keep s0 s) : Keep s0 (refusalNote s d r tag op reason detail at') := by
  unfold refusalNote
  repeat' with_reducible first | assumption | refine keep_note ?_ | refine keep_ite ?_ ?_

theorem keep_pagesVerdict {s0 s : State} {d r : Nat} {ext : List Extent} {past : Nat × Nat} {bays : List Nat} {rs : List Region}
    {k : State → List Extent → Verdict} (h : Keep s0 s) (hf : ∀ t e, Keep s0 t → KeepV s0 (k t e)) :
    KeepV s0 (pagesVerdict s d r ext past bays rs k) := by
  have h1 : Keep s0 ((bays.drop 1).foldl (fun s b => (xlatAll s d b (ringAsid s d r) (ringPriv s d r) rs).s)
      (xlatAll s d (bays.headD 3) (ringAsid s d r) (ringPriv s d r) rs).s) :=
    keep_foldl (keep_xlatAll h) (fun _ _ ht => keep_xlatAll ht)
  unfold pagesVerdict
  dsimp only
  repeat' split
  all_goals first | exact h1 | exact True.intro | exact hf _ _ h1

theorem keep_verdict {s0 : State} {d r : Nat} {a : Asked} :
    ∀ {s : State} {ext : List Extent}, Keep s0 s → KeepV s0 (verdict s d r ext a) := by
  induction a with
  | refuse => intro s ext h; exact h
  | poison => intro s ext h; exact h
  | wait => intro s ext h; exact True.intro
  | ready => intro s ext h; exact h
  | pages bays rs k ih => intro s ext h; exact keep_pagesVerdict h fun _ _ ht => ih _ _ ht
  | regions past bays rs k ih => intro s ext h; exact keep_pagesVerdict h fun _ _ ht => ih _ _ ht

theorem keep_decideItem {s0 s : State} {d r : Nat} {desc : List Byte} {w : Want} {f : Item → Item} {ext : List Extent} (hk : Keep s0 s) : Keep s0 (decideItem s d r desc w f ext).1 := by
  unfold decideItem
  repeat' first
    | with_reducible first
        | assumption | refine keep_ckpCount ?_ | refine keep_consume ?_ | refine keep_extReg ?_ | refine keep_fset ?_ | refine keep_ftgStatus ?_
        | refine keep_putCrec ?_ | refine keep_refuseFront ?_ | refine keep_setRingX ?_ | refine keep_withItems ?_ | refine keep_ite ?_ ?_
        | refine keep_ite_fst ?_ ?_ | refine keep_ite_snd ?_ ?_
    | split | intro _ _ _ | dsimp only

theorem keep_settle {s0 s : State} {d r : Nat} {desc : List Byte} {v : Verdict} (h : Keep s0 s) (hv : KeepV s0 v) :
    Keep s0 (settle s d r desc v) := by
  cases v with
  | refuse t a b m => exact keep_refuseFront (keep_refusalNote hv)
  | wait => exact keep_setRingX h
  | park t m => exact keep_park hv
  | accept t w f ext =>
    unfold settle
    exact keep_ite (keep_refuseFront hv) (keep_decideItem hv)

theorem keep_readFront {s0 s : State} {d r : Nat} {e : XEntry} {va : Nat} {cq : XRes} (h : Keep s0 s) :
    (∀ t, readFront s d r e va cq = .inl t → Keep s0 t) ∧ (∀ t desc, readFront s d r e va cq = .inr (t, desc) → Keep s0 t) := by
  constructor
  · intro t x
    unfold readFront at x
    dsimp only at x
    repeat' split at x
    all_goals first | (injection x; done) | (injection x with x; subst x; with_reducible first | exact h | exact keep_refuseFront (keep_refusalNote h) | exact keep_refuseFront (keep_touchSkt h))
  · intro t desc x
    unfold readFront at x
    dsimp only at x
    repeat' split at x
    all_goals first | (injection x; done) | (injection x with x; injection x with x _; subst x; exact keep_touchSkt h)

theorem keep_frontEntry {s0 s : State} {d r : Nat} (h : Keep s0 s) :
    (∀ t, frontEntry s d r = .inl t → Keep s0 t) ∧ (∀ t desc, frontEntry s d r = .inr (t, desc) → Keep s0 t) := by
  have hl : ∀ a b c e, Keep s0 (lookup s a b c e).2 := fun _ _ _ _ => keep_lookup h
  have hl2 : ∀ a b c e a' b' c' e', Keep s0 (lookup (lookup s a b c e).2 a' b' c' e').2 := fun _ _ _ _ _ _ _ _ => keep_lookup (hl _ _ _ _)
  constructor
  · intro t x
    unfold frontEntry at x
    dsimp only at x
    repeat' split at x
    all_goals first
      | exact (keep_readFront (hl2 _ _ _ _ _ _ _ _)).1 _ x
      | (injection x; done)
      | (injection x with x; subst x; with_reducible first | exact h | exact keep_pauseRing h | exact keep_park (hl _ _ _ _) | exact keep_park (hl2 _ _ _ _ _ _ _ _) | exact keep_refuseFront (keep_refusalNote (hl _ _ _ _)))
  · intro t desc x
    unfold frontEntry at x
    dsimp only at x
    repeat' split at x
    all_goals first
      | exact (keep_readFront (hl2 _ _ _ _ _ _ _ _)).2 _ _ x
      | (injection x; done)
      | (injection x with x; injection x with x _; subst x; exact h)

theorem keep_letIn {s0 s : State} {d r : Nat} {mine : State → List Byte → Bool} {ask : State → List Byte → Asked} (h : Keep s0 s) :
    KeepOut s0 (letIn s d r mine ask) := by
  have hf := keep_frontEntry (d := d) (r := r) h
  unfold letIn
  split
  · exact keepOut_next (hf.1 _ (by assumption))
  · have ht := hf.2 _ _ (by assumption)
    exact keepOut_next (keep_ite (keep_settle ht (keep_verdict ht)) ht)

theorem keep_execFbBatchIdleClose {s0 : State} {d : Die} {s : State} (hk : Keep s0 s) : KeepOut s0 (execFbBatchIdleClose d s) := by
  unfold execFbBatchIdleClose
  repeat' with_reducible first
    | assumption | exact keepOut_refused _ | refine keepOut_next ?_ | refine keep_closeBatch ?_ | refine keep_ite ?_ ?_

theorem keep_unpark {s0 s : State} {d r : Nat} {deny : Bool} (hk : Keep s0 s) : Keep s0 (unpark s d r deny) := by
  unfold unpark
  repeat' with_reducible first
    | assumption | refine keep_fset ?_ | refine keep_refuseFront ?_ | refine keep_setRingX ?_ | refine keep_ite ?_ ?_

theorem keep_answered {s0 s : State} {d r : Nat} {deny : Bool} (hk : Keep s0 s) : Keep s0 (answered s d r deny) := by
  unfold answered
  repeat' with_reducible first | assumption | refine keep_setRingX ?_ | refine keep_unpark ?_ | refine keep_ite ?_ ?_

theorem keep_unparkLoose {s0 s : State} {d : Nat} (hk : Keep s0 s) : Keep s0 (unparkLoose s d) := by
  unfold unparkLoose
  repeat' first
    | with_reducible first
        | assumption | refine keep_unpark ?_ | refine keep_ite ?_ ?_ | refine keep_ite_fst ?_ ?_ | refine keep_ite_snd ?_ ?_ | refine keep_foldl ?_ ?_
        | refine keep_foldl_fst ?_ ?_ | refine keep_foldl_snd ?_ ?_
    | split | intro _ _ _

theorem keep_execFbResume {s0 : State} {d : Die} {v : W32} {s : State} (hk : Keep s0 s) : KeepOut s0 (execFbResume d v s) := by
  unfold execFbResume
  repeat' first
    | with_reducible first
        | assumption | exact keepOut_refused _ | refine keepOut_next ?_ | refine keep_answered ?_ | refine keep_emit ?_ | refine keep_fbOldest ?_
        | refine keep_parkedReg ?_ | refine keep_setXunit ?_ | refine keep_unparkLoose ?_ | refine keep_viaWin ?_ ?_ | refine keep_ite ?_ ?_
        | refine keepOut_ite ?_ ?_ | refine keep_ite_fst ?_ ?_ | refine keep_ite_snd ?_ ?_ | refine keep_foldl ?_ ?_ | refine keep_foldl_fst ?_ ?_
        | refine keep_foldl_snd ?_ ?_
    | split | intro _ _ _ | dsimp only

/-! ### Machine/Inval.lean -/


theorem keep_queuedReg {s0 s : State} {u : Nat} (hk : Keep s0 s) : Keep s0 (queuedReg s u) := by
  unfold queuedReg
  repeat' with_reducible first | assumption | refine keep_fset ?_

theorem keep_postInv {s0 s : State} {u kind asid : Nat} (hk : Keep s0 s) : Keep s0 (postInv s u kind asid) := by
  unfold postInv
  repeat' with_reducible first
    | assumption | refine keep_emit ?_ | refine keep_queuedReg ?_ | refine keep_setXunit ?_ | refine keep_wr ?_ | refine keep_ite ?_ ?_

theorem keep_execInvRange {s0 : State} {u : Unit6} {asid : BitVec 16} {s : State} (hk : Keep s0 s) : KeepOut s0 (execInvRange u asid s) := by
  unfold execInvRange
  repeat' with_reducible first
    | assumption | exact keepOut_refused _ | refine keepOut_next ?_ | refine keep_postInv ?_ | refine keep_viaWin ?_ ?_

theorem keep_execInvAsid {s0 : State} {u : Unit6} {asid : BitVec 16} {s : State} (hk : Keep s0 s) : KeepOut s0 (execInvAsid u asid s) := by
  unfold execInvAsid
  repeat' with_reducible first
    | assumption | exact keepOut_refused _ | refine keepOut_next ?_ | refine keep_postInv ?_ | refine keep_viaWin ?_ ?_

theorem keep_execInvAll {s0 : State} {u : Unit6} {s : State} (hk : Keep s0 s) : KeepOut s0 (execInvAll u s) := by
  unfold execInvAll
  repeat' with_reducible first
    | assumption | exact keepOut_refused _ | refine keepOut_next ?_ | refine keep_postInv ?_ | refine keep_viaWin ?_ ?_

theorem keep_execInvAck {s0 : State} {u : Unit6} {s : State} (hk : Keep s0 s) : KeepOut s0 (execInvAck u s) := by
  unfold execInvAck
  repeat' first
    | with_reducible first
        | assumption | exact keepOut_refused _ | refine keepOut_next ?_ | refine keep_queuedReg ?_ | refine keep_setXunit ?_ | refine keep_wr ?_
        | refine keep_ite ?_ ?_ | refine keepOut_ite ?_ ?_ | refine keep_ite_fst ?_ ?_ | refine keep_ite_snd ?_ ?_
    | split | intro _ _ _ | dsimp only

theorem keep_execXltEnable {s0 : State} {u : Unit6} {v : W32} {s : State} (hk : Keep s0 s) : KeepOut s0 (execXltEnable u v s) := by
  unfold execXltEnable
  repeat' with_reducible first
    | assumption | exact keepOut_refused _ | refine keepOut_next ?_ | refine keep_finishEnable ?_ | refine keep_rwlIn ?_ | refine keep_viaWin ?_ ?_
    | refine keep_ite ?_ ?_

theorem keep_execXltDisable {s0 : State} {u : Unit6} {s : State} (hk : Keep s0 s) : KeepOut s0 (execXltDisable u s) := by
  unfold execXltDisable
  repeat' with_reducible first
    | assumption | exact keepOut_refused _ | refine keepOut_next ?_ | refine keep_fset ?_ | refine keep_setRD ?_ | refine keep_viaWin ?_ ?_
    | refine keep_ite ?_ ?_

end Sys2Proof.Machine
end

