-- ==== Sys2Proof/Laws/KeepItems.lean ====
section
/-! SUPPORT. What every operation keeps (Laws/Keep.lean), of the rings, items, stacks, Footings, coherence and PCIe. -/

namespace Sys2Proof.Machine

/-! ### Machine/Route.lean -/


theorem keep_ctrlStore {s0 s : State} {u o : Nat} {v : W32} (hk : Keep s0 s) : Keep s0 (ctrlStore s u o v) := by
  unfold ctrlStore
  repeat' with_reducible first | assumption | refine keep_withRegq ?_

theorem keep_ctrlStores {s0 s : State} {u o n : Nat} {bs : List Byte} (h : Keep s0 s) : Keep s0 (ctrlStores s u o bs n) := by
  induction n generalizing s o bs with
  | zero =>
    unfold ctrlStores
    repeat' with_reducible first
      | assumption
  | succ n ih =>
    unfold ctrlStores
    try dsimp only
    repeat' with_reducible first | assumption | apply ih | refine keep_ctrlStore ?_

theorem keep_pieceRead {s0 s : State} {pa n : Nat} (hk : Keep s0 s) : KeepTouch s0 (pieceRead s pa n) := by
  unfold pieceRead
  repeat' first
    | with_reducible first
        | assumption | refine keep_outAccess ?_ | refine keep_readErrors ?_ | refine keep_touchSkt ?_ | refine keep_winRead ?_ | refine keep_ite ?_ ?_
        | refine keep_ite_fst ?_ ?_ | refine keep_ite_snd ?_ ?_ | refine keepTouch_ite ?_ ?_ | refine keepTouch_okI ?_ | refine keepTouch_badI ?_
        | (refine keepTouch_ok (by with_reducible assumption) ?_) | (refine keepTouch_bad (by with_reducible assumption) ?_)
        | (refine keep_pair_fst (by with_reducible assumption) ?_) | (refine keep_pair_snd (by with_reducible assumption) ?_)
    | split

theorem keep_pieceWrite {s0 s : State} {it : Item} {pa : Nat} {bs : List Byte} (hk : Keep s0 s) : KeepTouch s0 (pieceWrite s it pa bs) := by
  unfold pieceWrite
  repeat' first
    | with_reducible first
        | assumption | refine keep_ctrlStores ?_ | refine keep_devWrite ?_ | refine keep_outAccess ?_ | refine keep_withItems ?_
        | refine keep_ite ?_ ?_ | refine keep_ite_fst ?_ ?_ | refine keep_ite_snd ?_ ?_ | refine keepTouch_ite ?_ ?_ | refine keepTouch_okI ?_
        | refine keepTouch_badI ?_ | (refine keepTouch_ok (by with_reducible assumption) ?_)
        | (refine keepTouch_bad (by with_reducible assumption) ?_) | (refine keep_pair_fst (by with_reducible assumption) ?_)
        | (refine keep_pair_snd (by with_reducible assumption) ?_)
    | split

theorem keep_bulk {s0 s : State} {d pa n : Nat} {out : Bool} (hk : Keep s0 s) : Keep s0 (bulk s d pa n out) := by
  unfold bulk
  repeat' first
    | with_reducible first
        | assumption | refine keep_emit ?_ | refine keep_ite ?_ ?_ | refine keep_ite_fst ?_ ?_ | refine keep_ite_snd ?_ ?_
    | split

theorem keep_itemRead {s0 s : State} {it : Item} {va n : Nat} (hk : Keep s0 s) : KeepTouch s0 (itemRead s it va n) := by
  have fold : ∀ (l : List (Nat × Nat)) (a : Touch), KeepTouch s0 a → KeepTouch s0 (l.foldl (fun a p => match a with
    | .ok s bs po => match pieceRead s p.1 p.2 with
      | .ok s b2 p2 => .ok (bulk s it.die p.1 p.2 false) (bs ++ b2) (po || p2)
      | .bad s r d => .bad s r d
    | a => a) a) := by
    intro l
    induction l with
    | nil => intro a ha; exact ha
    | cons p l ih =>
      intro a ha
      refine ih _ ?_
      cases a with
      | bad s r d => exact ha
      | ok s bs po =>
        have h1 : KeepTouch s0 (pieceRead s p.1 p.2) := keep_pieceRead ha
        dsimp only
        split
        · exact keepTouch_okI (keep_bulk (keepTouch_ok (by assumption) h1))
        · exact keepTouch_bad (by assumption) h1
  exact fold _ _ (keepTouch_okI hk)

theorem keep_itemWrite {s0 s : State} {it : Item} {va : Nat} {bs : List Byte} (hk : Keep s0 s) : KeepTouch s0 (itemWrite s it va bs) := by
  have fold : ∀ (l : List (Nat × Nat)) (a : Touch × List Byte), KeepTouch s0 a.1 →
      KeepTouch s0 (l.foldl (fun (a : Touch × List Byte) p => match a.1 with
    | .ok s _ _ => (match pieceWrite s it p.1 (a.2.take p.2) with
        | .ok s b q => .ok (bulk s it.die p.1 p.2 true) b q
        | r => r, a.2.drop p.2)
    | _ => a) a).1 := by
    intro l
    induction l with
    | nil => intro a ha; exact ha
    | cons p l ih =>
      intro a ha
      refine ih _ ?_
      obtain ⟨a, b⟩ := a
      cases a with
      | bad s r d => exact ha
      | ok s bs po =>
        have h1 : KeepTouch s0 (pieceWrite s it p.1 (b.take p.2)) := keep_pieceWrite ha
        dsimp only
        split
        · exact keepTouch_okI (keep_bulk (keepTouch_ok (by assumption) h1))
        · exact h1
  exact fold _ _ (keepTouch_okI hk)

theorem keep_extWrite {s0 s : State} {it : Item} {va : Nat} {bs : List Byte} (hk : Keep s0 s) : Keep s0 (extWrite s it va bs) := by
  unfold extWrite
  repeat' first
    | with_reducible first
        | assumption | refine keep_itemWrite ?_ | (refine keepTouch_ok (by with_reducible assumption) ?_)
        | (refine keepTouch_bad (by with_reducible assumption) ?_)
    | split

/-! ### Machine/Issue.lean -/


/-- What an outcome of this kind keeps: its state, where it has one. -/
def KeepRow (s : State) : Row → Prop
  | .ok t _ => Keep s t
  | .bad t _ => Keep s t
  | .stop t => Keep s t

theorem keepRow_ite {s0 : State} {c : Prop} [Decidable c] {a b : Row} (h1 : KeepRow s0 a) (h2 : KeepRow s0 b) :
    KeepRow s0 (if c then a else b) := by split <;> assumption
theorem keepRow_okI {s0 t : State} {bs : List Byte} (h : Keep s0 t) : KeepRow s0 (.ok t bs) := h
theorem keepRow_ok {s0 t : State} {bs : List Byte} {g : Row} (e : g = .ok t bs) (h : KeepRow s0 g) : Keep s0 t := by rw [e] at h; exact h
theorem keepRow_badI {s0 t : State} {r : Nat × Nat} (h : Keep s0 t) : KeepRow s0 (.bad t r) := h
theorem keepRow_bad {s0 t : State} {r : Nat × Nat} {g : Row} (e : g = .bad t r) (h : KeepRow s0 g) : Keep s0 t := by rw [e] at h; exact h
theorem keepRow_stopI {s0 t : State}  (h : Keep s0 t) : KeepRow s0 (.stop t ) := h
theorem keepRow_stop {s0 t : State}  {g : Row} (e : g = .stop t ) (h : KeepRow s0 g) : Keep s0 t := by rw [e] at h; exact h

theorem keep_execOpnd {s0 : State} {d : Die} {n : Blk} {c : Ctx} {s : State} (hk : Keep s0 s) : KeepOut s0 (execOpnd d n c s) := by
  unfold execOpnd
  repeat' first
    | with_reducible first
        | assumption | exact keepOut_refused _ | refine keepOut_next ?_ | refine keep_setCtxX ?_
    | split

theorem keep_execMason {s0 : State} {d : Die} {n : Blk} {c : Ctx} {s : State} (hk : Keep s0 s) : KeepOut s0 (execMason d n c s) := by
  unfold execMason
  repeat' first
    | with_reducible first
        | assumption | exact keepOut_refused _ | refine keepOut_next ?_ | refine keep_setCtxX ?_
    | split

theorem keep_execSignal {s0 : State} {d : Die} {n : Blk} {c : Ctx} {s : State} (hk : Keep s0 s) : KeepOut s0 (execSignal d n c s) := by
  unfold execSignal
  repeat' first
    | with_reducible first
        | assumption | exact keepOut_refused _ | refine keepOut_next ?_ | refine keep_setCtxX ?_
    | split

theorem keep_execLoop {s0 : State} {d : Die} {n : Blk} {c : Ctx} {s : State} (hk : Keep s0 s) : KeepOut s0 (execLoop d n c s) := by
  unfold execLoop
  repeat' first
    | with_reducible first
        | assumption | exact keepOut_refused _ | refine keepOut_next ?_ | refine keep_setCtxX ?_
    | split

theorem keep_execCtxEnd {s0 : State} {d : Die} {n : Blk} {c : Ctx} {s : State} (hk : Keep s0 s) : KeepOut s0 (execCtxEnd d n c s) := by
  unfold execCtxEnd
  repeat' first
    | with_reducible first
        | assumption | exact keepOut_refused _ | refine keepOut_next ?_ | refine keep_setCtxState ?_ | refine keep_setCtxX ?_
    | split

theorem keep_enterWait {s0 s : State} {d n c : Nat} {cause : Option Nat} (hk : Keep s0 s) : Keep s0 (enterWait s d n c cause) := by
  unfold enterWait
  repeat' first
    | with_reducible first
        | assumption | refine keep_fset ?_ | refine keep_takeFree ?_ | (refine keep_pair_fst (by with_reducible assumption) ?_)
        | (refine keep_pair_snd (by with_reducible assumption) ?_)
    | split

theorem keep_execWaitg {s0 : State} {d : Die} {n : Blk} {c : Ctx} {s : State} (hk : Keep s0 s) : KeepOut s0 (execWaitg d n c s) := by
  unfold execWaitg
  repeat' first
    | with_reducible first
        | assumption | exact keepOut_refused _ | refine keepOut_next ?_ | refine keep_enterWait ?_ | refine keep_setCtxX ?_ | refine keep_ite ?_ ?_
        | refine keepOut_ite ?_ ?_ | refine keep_ite_fst ?_ ?_ | refine keep_ite_snd ?_ ?_
    | split

theorem keep_execFencew {s0 : State} {d : Die} {n : Blk} {c : Ctx} {s : State} (hk : Keep s0 s) : KeepOut s0 (execFencew d n c s) := by
  unfold execFencew
  repeat' first
    | with_reducible first
        | assumption | exact keepOut_refused _ | refine keepOut_next ?_ | refine keep_enterWait ?_ | refine keep_setCtxX ?_ | refine keep_ite ?_ ?_
        | refine keepOut_ite ?_ ?_ | refine keep_ite_fst ?_ ?_ | refine keep_ite_snd ?_ ?_
    | split

theorem keep_execCtxWake {s0 : State} {d : Die} {n : Blk} {c : Ctx} {s : State} (hk : Keep s0 s) : KeepOut s0 (execCtxWake d n c s) := by
  unfold execCtxWake
  repeat' first
    | with_reducible first
        | assumption | exact keepOut_refused _ | refine keepOut_next ?_ | refine keep_setCtxState ?_ | refine keep_ite ?_ ?_
        | refine keepOut_ite ?_ ?_ | refine keep_ite_fst ?_ ?_ | refine keep_ite_snd ?_ ?_
    | split

theorem keep_execHod {s0 : State} {d : Die} {n : Blk} {c : Ctx} {s : State} (hk : Keep s0 s) : KeepOut s0 (execHod d n c s) := by
  unfold execHod
  repeat' first
    | with_reducible first
        | assumption | exact keepOut_refused _ | refine keepOut_next ?_ | refine keep_setCtxX ?_ | refine keep_ite ?_ ?_ | refine keepOut_ite ?_ ?_
        | refine keep_ite_fst ?_ ?_ | refine keep_ite_snd ?_ ?_
    | split

theorem keep_rowRead {s0 s : State} {d n c : Nat} {it : Option Item} {x off len : Nat} (hk : Keep s0 s) : KeepRow s0 (rowRead s d n c it x off len) := by
  unfold rowRead
  repeat' first
    | with_reducible first
        | assumption | refine keep_itemRead ?_ | refine keep_ownRead ?_ | refine keep_ite ?_ ?_ | refine keep_ite_fst ?_ ?_
        | refine keep_ite_snd ?_ ?_ | (refine keepGot_ok (by with_reducible assumption) ?_) | (refine keepGot_stop (by with_reducible assumption) ?_)
        | (refine keepTouch_ok (by with_reducible assumption) ?_) | (refine keepTouch_bad (by with_reducible assumption) ?_)
        | refine keepRow_ite ?_ ?_ | refine keepRow_okI ?_ | refine keepRow_badI ?_ | refine keepRow_stopI ?_
        | (refine keepRow_ok (by with_reducible assumption) ?_) | (refine keepRow_bad (by with_reducible assumption) ?_)
        | (refine keepRow_stop (by with_reducible assumption) ?_)
    | split

theorem keep_rowWrite {s0 s : State} {d n c : Nat} {it : Option Item} {dst : Option Nat} {x off : Nat} {bs : List Byte} (hk : Keep s0 s) : KeepRow s0 (rowWrite s d n c it dst x off bs) := by
  unfold rowWrite
  repeat' first
    | with_reducible first
        | assumption | refine keep_itemWrite ?_ | refine keep_outAccess ?_ | refine keep_ownWrite ?_ | refine keep_ite ?_ ?_
        | refine keep_ite_fst ?_ ?_ | refine keep_ite_snd ?_ ?_ | (refine keepGot_ok (by with_reducible assumption) ?_)
        | (refine keepGot_stop (by with_reducible assumption) ?_) | (refine keepTouch_ok (by with_reducible assumption) ?_)
        | (refine keepTouch_bad (by with_reducible assumption) ?_) | refine keepRow_ite ?_ ?_ | refine keepRow_okI ?_ | refine keepRow_badI ?_
        | refine keepRow_stopI ?_ | (refine keepRow_ok (by with_reducible assumption) ?_) | (refine keepRow_bad (by with_reducible assumption) ?_)
        | (refine keepRow_stop (by with_reducible assumption) ?_)
    | split

theorem keep_moveRow {s0 s : State} {d n c : Nat} {it : Option Item} {h : HodDesc} {dsts : List (Option Nat)} {i : Nat}
    (hk : Keep s0 s) : KeepRow s0 (moveRow s d n c it h dsts i) := by
  have fold : ∀ (bs : List Byte) (l : List (Option Nat)) (r : Row), KeepRow s0 r → KeepRow s0 (l.foldl (fun r m => match r with
          | .ok s _ => rowWrite s d n c it m h.dst (i * h.dstr) bs
          | r => r) r) := by
    intro bs l
    induction l with
    | nil => intro r hr; exact hr
    | cons m l ih =>
      intro r hr
      refine ih _ ?_
      cases r with
      | ok s x => exact keep_rowWrite hr
      | bad s x => exact hr
      | stop s => exact hr
  unfold moveRow
  have h1 := keep_rowRead (d := d) (n := n) (c := c) (it := it) (x := h.src) (off := i * h.sstr) (len := if h.dec then 8 else h.rowBytes) hk
  split
  · exact keepRow_bad (by assumption) h1
  · exact keepRow_stop (by assumption) h1
  · have h2 := keepRow_ok (by assumption) h1
    dsimp only
    split
    · exact keepRow_bad (by assumption) (keepRow_ite (keep_rowRead h2) (keepRow_okI h2))
    · exact keepRow_stop (by assumption) (keepRow_ite (keep_rowRead h2) (keepRow_okI h2))
    · have h4 := keepRow_ok (by assumption) (keepRow_ite (keep_rowRead h2) (keepRow_okI h2))
      split
      · exact keepRow_badI h4
      · exact fold _ _ _ h4

theorem keep_moveRows {s0 s : State} {d n c : Nat} {it : Option Item} {h : HodDesc} {dsts : List (Option Nat)} {i k : Nat} (hk : Keep s0 s) : KeepRow s0 (moveRows s d n c it h dsts i k) := by
  induction k generalizing s i with
  | zero =>
    unfold moveRows
    repeat' with_reducible first
      | assumption | apply ih | refine keep_halt ?_ | refine keep_moveRow ?_ | refine keepRow_ite ?_ ?_ | refine keepRow_okI ?_
  | succ n ih =>
    unfold moveRows
    try dsimp only
    repeat' first
      | with_reducible first
          | assumption | apply ih | refine keep_halt ?_ | refine keep_moveRow ?_ | refine keepRow_ite ?_ ?_ | refine keepRow_okI ?_
          | refine keepRow_stopI ?_ | refine keepRow_badI ?_ | (refine keepRow_bad (by with_reducible assumption) ?_)
          | (refine keepRow_ok (by with_reducible assumption) ?_) | (refine keepRow_stop (by with_reducible assumption) ?_) | refine keep_ite ?_ ?_
          | refine keep_ite_fst ?_ ?_
      | split

theorem keep_remoteSignal {s0 s : State} {p : Plan} {h : HodDesc} (hk : Keep s0 s) : Keep s0 (remoteSignal s p h) := by
  unfold remoteSignal
  repeat' first
    | with_reducible first
        | assumption | refine keep_setCtxX ?_ | refine keep_ite ?_ ?_ | refine keep_ite_fst ?_ ?_ | refine keep_ite_snd ?_ ?_
        | refine keep_foldl ?_ ?_ | refine keep_foldl_fst ?_ ?_ | refine keep_foldl_snd ?_ ?_
    | split | intro _ _ _

theorem keep_hodFinish {s0 s : State} {d n c i : Nat} (hk : Keep s0 s) : Keep s0 (hodFinish s d n c i) := by
  unfold hodFinish
  repeat' first
    | with_reducible first
        | assumption | refine keep_remoteSignal ?_ | refine keep_setCtxX ?_
    | split | intro _ _ _ | dsimp only

theorem keep_setHod {s0 s : State} {d n c i : Nat} {f : HodOp → HodOp} (hk : Keep s0 s) : Keep s0 (setHod s d n c i f) := by
  unfold setHod
  repeat' with_reducible first | assumption | refine keep_setCtxX ?_

theorem keep_hodDone {s0 s : State} {d n c i : Nat} (hk : Keep s0 s) : Keep s0 (hodDone s d n c i) := by
  unfold hodDone
  repeat' first
    | with_reducible first
        | assumption | refine keep_halt ?_ | refine keep_hodFinish ?_ | refine keep_moveRows ?_ | refine keep_setHod ?_
        | (refine keepRow_bad (by with_reducible assumption) ?_) | (refine keepRow_ok (by with_reducible assumption) ?_)
        | (refine keepRow_stop (by with_reducible assumption) ?_) | refine keep_ite ?_ ?_ | refine keep_ite_fst ?_ ?_ | refine keep_ite_snd ?_ ?_
    | split

theorem keep_execTransferPlannedDone {s0 : State} {d : Die} {n : Blk} {c : Ctx} {i : Nat} {s : State} (hk : Keep s0 s) : KeepOut s0 (execTransferPlannedDone d n c i s) := by
  unfold execTransferPlannedDone
  repeat' with_reducible first
    | assumption | exact keepOut_refused _ | refine keepOut_next ?_ | refine keep_hodFinish ?_ | refine keep_setHod ?_ | refine keep_ite ?_ ?_
    | refine keepOut_ite ?_ ?_

theorem keep_execLintelReleaseArrive {s0 : State} {d : Die} {n : Blk} {c : Ctx} {i : Nat} {count : BitVec 20} {s : State} (hk : Keep s0 s) : KeepOut s0 (execLintelReleaseArrive d n c i count s) := by
  unfold execLintelReleaseArrive
  repeat' first
    | with_reducible first
        | assumption | exact keepOut_refused _ | refine keepOut_next ?_ | refine keep_setCtxX ?_ | refine keep_ite ?_ ?_ | refine keepOut_ite ?_ ?_
        | refine keep_ite_fst ?_ ?_ | refine keep_ite_snd ?_ ?_
    | split | intro _ _ _ | dsimp only

theorem keep_execLintelIssueStart {s0 : State} {d : Die} {n : Blk} {c : Ctx} {i : Nat} {s : State} (hk : Keep s0 s) : KeepOut s0 (execLintelIssueStart d n c i s) := by
  unfold execLintelIssueStart
  repeat' first
    | with_reducible first
        | assumption | exact keepOut_refused _ | refine keepOut_next ?_ | refine keep_setCtxX ?_ | refine keep_ite ?_ ?_ | refine keepOut_ite ?_ ?_
        | refine keep_ite_fst ?_ ?_ | refine keep_ite_snd ?_ ?_
    | split | intro _ _ _ | dsimp only

theorem keep_execLintelRowArrive {s0 : State} {d : Die} {n : Blk} {i : Fin 64} {g : BitVec 20} {s : State} (hk : Keep s0 s) : KeepOut s0 (execLintelRowArrive d n i g s) := by
  unfold execLintelRowArrive
  repeat' first
    | with_reducible first
        | assumption | exact keepOut_refused _ | refine keepOut_next ?_ | refine keep_fset ?_ | refine keep_halt ?_ | refine keep_memWriteAt ?_
        | refine keep_raise ?_ | refine keep_recordViol ?_ | refine keep_rowRead ?_ | refine keep_setCtxX ?_ | refine keep_ite ?_ ?_
        | refine keepOut_ite ?_ ?_ | refine keep_ite_fst ?_ ?_ | refine keep_ite_snd ?_ ?_ | (refine keepRow_ok (by with_reducible assumption) ?_)
        | (refine keepRow_bad (by with_reducible assumption) ?_) | (refine keepRow_stop (by with_reducible assumption) ?_)
    | split

/-! ### Machine/Mason.lean -/


theorem keep_execMasonStart {s0 : State} {d : Die} {n : Blk} {c : Ctx} {s : State} (hk : Keep s0 s) : KeepOut s0 (execMasonStart d n c s) := by
  unfold execMasonStart
  repeat' first
    | with_reducible first
        | assumption | exact keepOut_refused _ | refine keepOut_next ?_ | refine keep_fset ?_ | refine keep_setCtxX ?_ | refine keep_wrapAdd ?_
        | refine keep_withPlumb ?_ | refine keep_ite ?_ ?_ | refine keepOut_ite ?_ ?_ | refine keep_ite_fst ?_ ?_ | refine keep_ite_snd ?_ ?_
    | split | intro _ _ _ | dsimp only

theorem keep_captureEnd {s0 s : State} {d n c : Nat} {o : MOp} {got want : List Nat} (hk : Keep s0 s) : Keep s0 (captureEnd s d n c o got want) := by
  unfold captureEnd
  repeat' first
    | with_reducible first
        | assumption | refine keep_fset ?_ | refine keep_withPlumb ?_ | refine keep_ite ?_ ?_ | refine keep_ite_fst ?_ ?_ | refine keep_ite_snd ?_ ?_
    | split

theorem keep_execMasonDone {s0 : State} {d : Die} {n : Blk} {c : Ctx} {s : State} (hk : Keep s0 s) : KeepOut s0 (execMasonDone d n c s) := by
  unfold execMasonDone
  repeat' first
    | with_reducible first
        | assumption | exact keepOut_refused _ | refine keepOut_next ?_ | refine keep_captureEnd ?_ | refine keep_denyOwn ?_ | refine keep_eccHalt ?_
        | refine keep_memWriteAt ?_ | refine keep_setCtxX ?_ | refine keep_signal ?_ | refine keep_ite ?_ ?_ | refine keepOut_ite ?_ ?_
        | refine keep_ite_fst ?_ ?_ | refine keep_ite_snd ?_ ?_ | refine keep_foldl ?_ ?_ | refine keep_foldl_fst ?_ ?_ | refine keep_foldl_snd ?_ ?_
    | split | intro _ _ _ | dsimp only

theorem keep_execPlumbCompareDone {s0 : State} {d : Die} {s : State} (hk : Keep s0 s) : KeepOut s0 (execPlumbCompareDone d s) := by
  unfold execPlumbCompareDone
  repeat' first
    | with_reducible first
        | assumption | exact keepOut_refused _ | refine keepOut_next ?_ | refine keep_fset ?_ | refine keep_memWrite ?_ | refine keep_note ?_
        | refine keep_withPlumb ?_ | refine keep_ite ?_ ?_ | refine keepOut_ite ?_ ?_ | refine keep_ite_fst ?_ ?_ | refine keep_ite_snd ?_ ?_
        | refine keep_foldl ?_ ?_ | refine keep_foldl_fst ?_ ?_ | refine keep_foldl_snd ?_ ?_
    | split

theorem keep_execPlbEnable {s0 : State} {d : Die} {v : W32} {s : State} (hk : Keep s0 s) : KeepOut s0 (execPlbEnable d v s) := by
  unfold execPlbEnable
  repeat' first
    | with_reducible first
        | assumption | exact keepOut_refused _ | refine keepOut_next ?_ | refine keep_finishEnable ?_ | refine keep_numFresh ?_ | refine keep_rwlIn ?_
        | refine keep_viaWin ?_ ?_ | refine keep_ite ?_ ?_ | refine keepOut_ite ?_ ?_ | refine keep_ite_fst ?_ ?_ | refine keep_ite_snd ?_ ?_
        | refine keep_foldl ?_ ?_ | refine keep_foldl_fst ?_ ?_ | refine keep_foldl_snd ?_ ?_
    | split | intro _ _ _

theorem keep_execPlbDisable {s0 : State} {d : Die} {s : State} (hk : Keep s0 s) : KeepOut s0 (execPlbDisable d s) := by
  unfold execPlbDisable
  repeat' with_reducible first
    | assumption | exact keepOut_refused _ | refine keepOut_next ?_ | refine keep_dropSample ?_ | refine keep_fset ?_ | refine keep_setRD ?_
    | refine keep_viaWin ?_ ?_

/-! ### Machine/Vec.lean -/


theorem keep_vecPut {s0 s : State} {d n c w : Nat} {bs : List Byte} {fl sat : Nat} (hk : Keep s0 s) : KeepGot s0 (vecPut s d n c w bs fl sat) := by
  unfold vecPut
  repeat' with_reducible first
    | assumption | refine keep_ownWrite ?_ | refine keep_signal ?_ | refine keep_ite ?_ ?_ | refine keep_ite_fst ?_ ?_ | refine keep_ite_snd ?_ ?_
    | refine keepGot_ite ?_ ?_ | refine keepGot_okI ?_

theorem keep_vecWords {s0 : State} {d n c w : Nat} {s : State} {i k : Nat} (h : Keep s0 s) : KeepGot s0 (vecWords d n c w s i k) := by
  induction k generalizing s i with
  | zero =>
    unfold vecWords
    repeat' with_reducible first
      | assumption | apply ih | refine keep_vecPut ?_ | refine keep_ownRead ?_ | refine keepGot_ite ?_ ?_ | refine keepGot_okI ?_
  | succ n ih =>
    unfold vecWords
    try dsimp only
    repeat' first
      | with_reducible first
          | assumption | apply ih | refine keep_vecPut ?_ | refine keep_ownRead ?_ | refine keepGot_ite ?_ ?_ | refine keepGot_okI ?_
          | refine keepGot_stopI ?_ | (refine keepGot_ok (by with_reducible assumption) ?_) | (refine keepGot_stop (by with_reducible assumption) ?_)
          | refine keep_ite ?_ ?_ | refine keep_ite_fst ?_ ?_
      | split

theorem keep_vecAfter {s0 : State} {d n c w : Nat} {g : Got} (hg : KeepGot s0 g) : Keep s0 (vecAfter d n c w g) := by
  cases g <;> unfold vecAfter <;> (try dsimp only)
  all_goals repeat' first
    | with_reducible first
        | assumption | refine keep_setCtxX ?_
    | exact hg

theorem keep_vecIssue {s0 s : State} {d n c : Nat} {mine : Nat → Bool} {run : State → Nat → Got} (h : Keep s0 s)
    (hr : ∀ w, KeepGot s0 (run s w)) : KeepOut s0 (vecIssue s d n c mine run) := by
  unfold vecIssue
  split
  · exact keepOut_ite (keepOut_next (keep_halt h)) (keepOut_ite (keepOut_next (keep_vecAfter (hr _))) (keepOut_next h))
  · exact keepOut_next h

theorem keep_vecEw {s0 s : State} {d n c base : Nat} (hk : Keep s0 s) : KeepOut s0 (vecEw s d n c base) := by
  unfold vecEw
  repeat' first
    | with_reducible first
        | assumption | exact keepOut_refused _ | refine keepOut_next ?_ | refine keep_vecIssue ?_ ?_ | refine keep_vecWords ?_
    | split | intro _ _ _ | dsimp only | intro _

theorem keep_execAdd {s0 : State} {d : Die} {n : Blk} {c : Ctx} {s : State} (hk : Keep s0 s) : KeepOut s0 (execAdd d n c s) := by
  unfold execAdd
  repeat' with_reducible first | assumption | exact keepOut_refused _ | refine keepOut_next ?_ | refine keep_vecEw ?_

theorem keep_execSub {s0 : State} {d : Die} {n : Blk} {c : Ctx} {s : State} (hk : Keep s0 s) : KeepOut s0 (execSub d n c s) := by
  unfold execSub
  repeat' with_reducible first | assumption | exact keepOut_refused _ | refine keepOut_next ?_ | refine keep_vecEw ?_

theorem keep_execMul {s0 : State} {d : Die} {n : Blk} {c : Ctx} {s : State} (hk : Keep s0 s) : KeepOut s0 (execMul d n c s) := by
  unfold execMul
  repeat' with_reducible first | assumption | exact keepOut_refused _ | refine keepOut_next ?_ | refine keep_vecEw ?_

theorem keep_execFma {s0 : State} {d : Die} {n : Blk} {c : Ctx} {s : State} (hk : Keep s0 s) : KeepOut s0 (execFma d n c s) := by
  unfold execFma
  repeat' with_reducible first | assumption | exact keepOut_refused _ | refine keepOut_next ?_ | refine keep_vecEw ?_

theorem keep_execDiv {s0 : State} {d : Die} {n : Blk} {c : Ctx} {s : State} (hk : Keep s0 s) : KeepOut s0 (execDiv d n c s) := by
  unfold execDiv
  repeat' with_reducible first | assumption | exact keepOut_refused _ | refine keepOut_next ?_ | refine keep_vecEw ?_

theorem keep_execSqrt {s0 : State} {d : Die} {n : Blk} {c : Ctx} {s : State} (hk : Keep s0 s) : KeepOut s0 (execSqrt d n c s) := by
  unfold execSqrt
  repeat' with_reducible first | assumption | exact keepOut_refused _ | refine keepOut_next ?_ | refine keep_vecEw ?_

theorem keep_execMin {s0 : State} {d : Die} {n : Blk} {c : Ctx} {s : State} (hk : Keep s0 s) : KeepOut s0 (execMin d n c s) := by
  unfold execMin
  repeat' with_reducible first | assumption | exact keepOut_refused _ | refine keepOut_next ?_ | refine keep_vecEw ?_

theorem keep_execMax {s0 : State} {d : Die} {n : Blk} {c : Ctx} {s : State} (hk : Keep s0 s) : KeepOut s0 (execMax d n c s) := by
  unfold execMax
  repeat' with_reducible first | assumption | exact keepOut_refused _ | refine keepOut_next ?_ | refine keep_vecEw ?_

theorem keep_execMinnum {s0 : State} {d : Die} {n : Blk} {c : Ctx} {s : State} (hk : Keep s0 s) : KeepOut s0 (execMinnum d n c s) := by
  unfold execMinnum
  repeat' with_reducible first | assumption | exact keepOut_refused _ | refine keepOut_next ?_ | refine keep_vecEw ?_

theorem keep_execMaxnum {s0 : State} {d : Die} {n : Blk} {c : Ctx} {s : State} (hk : Keep s0 s) : KeepOut s0 (execMaxnum d n c s) := by
  unfold execMaxnum
  repeat' with_reducible first | assumption | exact keepOut_refused _ | refine keepOut_next ?_ | refine keep_vecEw ?_

theorem keep_execCmpeq {s0 : State} {d : Die} {n : Blk} {c : Ctx} {s : State} (hk : Keep s0 s) : KeepOut s0 (execCmpeq d n c s) := by
  unfold execCmpeq
  repeat' with_reducible first | assumption | exact keepOut_refused _ | refine keepOut_next ?_ | refine keep_vecEw ?_

theorem keep_execCmplt {s0 : State} {d : Die} {n : Blk} {c : Ctx} {s : State} (hk : Keep s0 s) : KeepOut s0 (execCmplt d n c s) := by
  unfold execCmplt
  repeat' with_reducible first | assumption | exact keepOut_refused _ | refine keepOut_next ?_ | refine keep_vecEw ?_

theorem keep_execCmple {s0 : State} {d : Die} {n : Blk} {c : Ctx} {s : State} (hk : Keep s0 s) : KeepOut s0 (execCmple d n c s) := by
  unfold execCmple
  repeat' with_reducible first | assumption | exact keepOut_refused _ | refine keepOut_next ?_ | refine keep_vecEw ?_

theorem keep_execExp2 {s0 : State} {d : Die} {n : Blk} {c : Ctx} {s : State} (hk : Keep s0 s) : KeepOut s0 (execExp2 d n c s) := by
  unfold execExp2
  repeat' with_reducible first | assumption | exact keepOut_refused _ | refine keepOut_next ?_ | refine keep_vecEw ?_

theorem keep_execLog2 {s0 : State} {d : Die} {n : Blk} {c : Ctx} {s : State} (hk : Keep s0 s) : KeepOut s0 (execLog2 d n c s) := by
  unfold execLog2
  repeat' with_reducible first | assumption | exact keepOut_refused _ | refine keepOut_next ?_ | refine keep_vecEw ?_

theorem keep_execTanh {s0 : State} {d : Die} {n : Blk} {c : Ctx} {s : State} (hk : Keep s0 s) : KeepOut s0 (execTanh d n c s) := by
  unfold execTanh
  repeat' with_reducible first | assumption | exact keepOut_refused _ | refine keepOut_next ?_ | refine keep_vecEw ?_

theorem keep_execSigmoid {s0 : State} {d : Die} {n : Blk} {c : Ctx} {s : State} (hk : Keep s0 s) : KeepOut s0 (execSigmoid d n c s) := by
  unfold execSigmoid
  repeat' with_reducible first | assumption | exact keepOut_refused _ | refine keepOut_next ?_ | refine keep_vecEw ?_

theorem keep_execErf {s0 : State} {d : Die} {n : Blk} {c : Ctx} {s : State} (hk : Keep s0 s) : KeepOut s0 (execErf d n c s) := by
  unfold execErf
  repeat' with_reducible first | assumption | exact keepOut_refused _ | refine keepOut_next ?_ | refine keep_vecEw ?_

theorem keep_execSinpi {s0 : State} {d : Die} {n : Blk} {c : Ctx} {s : State} (hk : Keep s0 s) : KeepOut s0 (execSinpi d n c s) := by
  unfold execSinpi
  repeat' with_reducible first | assumption | exact keepOut_refused _ | refine keepOut_next ?_ | refine keep_vecEw ?_

theorem keep_execCospi {s0 : State} {d : Die} {n : Blk} {c : Ctx} {s : State} (hk : Keep s0 s) : KeepOut s0 (execCospi d n c s) := by
  unfold execCospi
  repeat' with_reducible first | assumption | exact keepOut_refused _ | refine keepOut_next ?_ | refine keep_vecEw ?_

theorem keep_execRsqrt {s0 : State} {d : Die} {n : Blk} {c : Ctx} {s : State} (hk : Keep s0 s) : KeepOut s0 (execRsqrt d n c s) := by
  unfold execRsqrt
  repeat' with_reducible first | assumption | exact keepOut_refused _ | refine keepOut_next ?_ | refine keep_vecEw ?_

theorem keep_execVecDone {s0 : State} {d : Die} {n : Blk} {c : Ctx} {s : State} (hk : Keep s0 s) : KeepOut s0 (execVecDone d n c s) := by
  unfold execVecDone
  repeat' first
    | with_reducible first
        | assumption | exact keepOut_refused _ | refine keepOut_next ?_ | refine keep_setCtxX ?_ | refine keep_ite ?_ ?_ | refine keepOut_ite ?_ ?_
        | refine keep_ite_fst ?_ ?_ | refine keep_ite_snd ?_ ?_
    | split | intro _ _ _ | dsimp only

theorem keep_vloadRun {s0 : State} {d n c : Nat} {s : State} {w : Nat} (hk : Keep s0 s) : KeepGot s0 (vloadRun d n c s w) := by
  unfold vloadRun
  repeat' first
    | with_reducible first
        | assumption | refine keep_ownRead ?_ | refine keep_setCtxX ?_ | refine keep_foldl ?_ ?_ | refine keep_foldl_fst ?_ ?_
        | refine keep_foldl_snd ?_ ?_ | refine keepGot_ite ?_ ?_ | refine keepGot_okI ?_ | refine keepGot_stopI ?_
        | (refine keepGot_ok (by with_reducible assumption) ?_) | (refine keepGot_stop (by with_reducible assumption) ?_)
    | split

theorem keep_execVload {s0 : State} {d : Die} {n : Blk} {c : Ctx} {s : State} (hk : Keep s0 s) : KeepOut s0 (execVload d n c s) := by
  unfold execVload
  repeat' first
    | with_reducible first
        | assumption | exact keepOut_refused _ | refine keepOut_next ?_ | refine keep_vecIssue ?_ ?_ | refine keep_vloadRun ?_
        | (refine keepGot_ok (by with_reducible assumption) ?_) | (refine keepGot_stop (by with_reducible assumption) ?_)
    | split | intro _ _ _ | dsimp only | intro _

theorem keep_vstoreRun {s0 : State} {d n c : Nat} {s : State} {w : Nat} (hk : Keep s0 s) : KeepGot s0 (vstoreRun d n c s w) := by
  unfold vstoreRun
  repeat' with_reducible first | assumption | refine keep_vecPut ?_

theorem keep_execVstore {s0 : State} {d : Die} {n : Blk} {c : Ctx} {s : State} (hk : Keep s0 s) : KeepOut s0 (execVstore d n c s) := by
  unfold execVstore
  repeat' first
    | with_reducible first
        | assumption | exact keepOut_refused _ | refine keepOut_next ?_ | refine keep_vecIssue ?_ ?_ | refine keep_vstoreRun ?_
        | (refine keepGot_ok (by with_reducible assumption) ?_) | (refine keepGot_stop (by with_reducible assumption) ?_)
    | split | intro _ _ _ | dsimp only | intro _

theorem keep_vkeyRun {s0 : State} {d n c : Nat} {s : State} {w : Nat} (hk : Keep s0 s) : KeepGot s0 (vkeyRun d n c s w) := by
  unfold vkeyRun
  repeat' first
    | with_reducible first
        | assumption | refine keep_setCtxX ?_ | refine keepGot_ite ?_ ?_ | refine keepGot_okI ?_ | refine keepGot_stopI ?_
        | (refine keepGot_ok (by with_reducible assumption) ?_) | (refine keepGot_stop (by with_reducible assumption) ?_)
    | split | intro _ _ _ | dsimp only

theorem keep_execVkey {s0 : State} {d : Die} {n : Blk} {c : Ctx} {s : State} (hk : Keep s0 s) : KeepOut s0 (execVkey d n c s) := by
  unfold execVkey
  repeat' first
    | with_reducible first
        | assumption | exact keepOut_refused _ | refine keepOut_next ?_ | refine keep_vecIssue ?_ ?_ | refine keep_vkeyRun ?_
        | (refine keepGot_ok (by with_reducible assumption) ?_) | (refine keepGot_stop (by with_reducible assumption) ?_)
    | split | intro _ _ _ | dsimp only | intro _

theorem keep_cvtRun {s0 : State} {d n c : Nat} {s : State} {w : Nat} (hk : Keep s0 s) : KeepGot s0 (cvtRun d n c s w) := by
  unfold cvtRun
  repeat' first
    | with_reducible first
        | assumption | refine keep_ownRead ?_ | refine keep_vecPut ?_ | refine keep_ite ?_ ?_ | refine keep_ite_fst ?_ ?_ | refine keep_ite_snd ?_ ?_
        | refine keep_foldl ?_ ?_ | refine keep_foldl_fst ?_ ?_ | refine keep_foldl_snd ?_ ?_ | refine keepGot_ite ?_ ?_ | refine keepGot_okI ?_
        | refine keepGot_stopI ?_ | (refine keepGot_ok (by with_reducible assumption) ?_) | (refine keepGot_stop (by with_reducible assumption) ?_)
    | split

theorem keep_execCvt {s0 : State} {d : Die} {n : Blk} {c : Ctx} {s : State} (hk : Keep s0 s) : KeepOut s0 (execCvt d n c s) := by
  unfold execCvt
  repeat' first
    | with_reducible first
        | assumption | exact keepOut_refused _ | refine keepOut_next ?_ | refine keep_cvtRun ?_ | refine keep_vecIssue ?_ ?_
        | (refine keepGot_ok (by with_reducible assumption) ?_) | (refine keepGot_stop (by with_reducible assumption) ?_)
    | split | intro _ _ _ | dsimp only | intro _

theorem keep_withSrc {s0 s : State} {d n c detail : Nat} {run : Fmt → State → Nat → Got} {w : Nat} (h : Keep s0 s)
    (hr : ∀ f, KeepGot s0 (run f s w)) : KeepGot s0 (withSrc d n c detail run s w) := by
  unfold withSrc
  split
  · exact hr _
  · exact keepGot_stopI (keep_halt h)

theorem keep_vecPuts {s0 s : State} {d n c : Nat} {ps : List (Nat × List Byte)} (hk : Keep s0 s) : KeepGot s0 (vecPuts s d n c ps) := by
  unfold vecPuts
  repeat' first
    | with_reducible first
        | assumption | refine keep_denyOwn ?_ | refine keep_memWriteAt ?_ | refine keep_ite ?_ ?_ | refine keep_ite_fst ?_ ?_
        | refine keep_ite_snd ?_ ?_ | refine keep_foldl ?_ ?_ | refine keep_foldl_fst ?_ ?_ | refine keep_foldl_snd ?_ ?_ | refine keepGot_ite ?_ ?_
        | refine keepGot_okI ?_ | refine keepGot_stopI ?_ | (refine keepGot_ok (by with_reducible assumption) ?_)
        | (refine keepGot_stop (by with_reducible assumption) ?_)
    | split | intro _ _ _

theorem keep_castRun {s0 : State} {d n c : Nat} {delayed : Bool} {sf : Fmt} {s : State} {w : Nat} (hk : Keep s0 s) : KeepGot s0 (castRun d n c delayed sf s w) := by
  unfold castRun
  repeat' first
    | with_reducible first
        | assumption | refine keep_halt ?_ | refine keep_holdAdd ?_ | refine keep_ownRead ?_ | refine keep_signal ?_ | refine keep_vecPuts ?_
        | refine keep_ite ?_ ?_ | refine keep_ite_fst ?_ ?_ | refine keep_ite_snd ?_ ?_ | refine keep_foldl ?_ ?_ | refine keep_foldl_fst ?_ ?_
        | refine keep_foldl_snd ?_ ?_ | refine keepGot_ite ?_ ?_ | refine keepGot_okI ?_ | refine keepGot_stopI ?_
        | (refine keepGot_ok (by with_reducible assumption) ?_) | (refine keepGot_stop (by with_reducible assumption) ?_)
    | split | intro _ _ _ | dsimp only

theorem keep_execCastAbsmax {s0 : State} {d : Die} {n : Blk} {c : Ctx} {s : State} (hk : Keep s0 s) : KeepOut s0 (execCastAbsmax d n c s) := by
  unfold execCastAbsmax
  repeat' first
    | with_reducible first
        | assumption | exact keepOut_refused _ | refine keepOut_next ?_ | refine keep_castRun ?_ | refine keep_vecIssue ?_ ?_
        | refine keep_withSrc ?_ ?_ | (refine keepGot_ok (by with_reducible assumption) ?_) | (refine keepGot_stop (by with_reducible assumption) ?_)
    | split | intro _ _ _ | dsimp only | intro _

theorem keep_execCastDelayed {s0 : State} {d : Die} {n : Blk} {c : Ctx} {s : State} (hk : Keep s0 s) : KeepOut s0 (execCastDelayed d n c s) := by
  unfold execCastDelayed
  repeat' first
    | with_reducible first
        | assumption | exact keepOut_refused _ | refine keepOut_next ?_ | refine keep_castRun ?_ | refine keep_vecIssue ?_ ?_
        | refine keep_withSrc ?_ ?_ | (refine keepGot_ok (by with_reducible assumption) ?_) | (refine keepGot_stop (by with_reducible assumption) ?_)
    | split | intro _ _ _ | dsimp only | intro _

theorem keep_decodeRun {s0 : State} {d n c : Nat} {s : State} {w : Nat} (hk : Keep s0 s) : KeepGot s0 (decodeRun d n c s w) := by
  unfold decodeRun
  repeat' first
    | with_reducible first
        | assumption | refine keep_halt ?_ | refine keep_ownRead ?_ | refine keep_vecPut ?_ | refine keep_ite ?_ ?_ | refine keep_ite_fst ?_ ?_
        | refine keep_ite_snd ?_ ?_ | refine keep_foldl ?_ ?_ | refine keep_foldl_fst ?_ ?_ | refine keep_foldl_snd ?_ ?_ | refine keepGot_ite ?_ ?_
        | refine keepGot_okI ?_ | refine keepGot_stopI ?_ | (refine keepGot_ok (by with_reducible assumption) ?_)
        | (refine keepGot_stop (by with_reducible assumption) ?_)
    | split

theorem keep_execCastDecode {s0 : State} {d : Die} {n : Blk} {c : Ctx} {s : State} (hk : Keep s0 s) : KeepOut s0 (execCastDecode d n c s) := by
  unfold execCastDecode
  repeat' first
    | with_reducible first
        | assumption | exact keepOut_refused _ | refine keepOut_next ?_ | refine keep_decodeRun ?_ | refine keep_vecIssue ?_ ?_
        | (refine keepGot_ok (by with_reducible assumption) ?_) | (refine keepGot_stop (by with_reducible assumption) ?_)
    | split | intro _ _ _ | dsimp only | intro _

theorem keep_poolRun {s0 : State} {d n c kind : Nat} {sf : Fmt} {s : State} {w : Nat} (hk : Keep s0 s) : KeepGot s0 (poolRun d n c kind sf s w) := by
  unfold poolRun
  repeat' first
    | with_reducible first
        | assumption | refine keep_halt ?_ | refine keep_ownRead ?_ | refine keep_vecPut ?_ | refine keep_ite ?_ ?_ | refine keep_ite_fst ?_ ?_
        | refine keep_ite_snd ?_ ?_ | refine keep_foldl ?_ ?_ | refine keep_foldl_fst ?_ ?_ | refine keep_foldl_snd ?_ ?_ | refine keepGot_ite ?_ ?_
        | refine keepGot_okI ?_ | refine keepGot_stopI ?_ | (refine keepGot_ok (by with_reducible assumption) ?_)
        | (refine keepGot_stop (by with_reducible assumption) ?_)
    | split

theorem keep_execPoolMax {s0 : State} {d : Die} {n : Blk} {c : Ctx} {s : State} (hk : Keep s0 s) : KeepOut s0 (execPoolMax d n c s) := by
  unfold execPoolMax
  repeat' first
    | with_reducible first
        | assumption | exact keepOut_refused _ | refine keepOut_next ?_ | refine keep_poolRun ?_ | refine keep_vecIssue ?_ ?_
        | refine keep_withSrc ?_ ?_ | (refine keepGot_ok (by with_reducible assumption) ?_) | (refine keepGot_stop (by with_reducible assumption) ?_)
    | split | intro _ _ _ | dsimp only | intro _

theorem keep_execPoolAvgAll {s0 : State} {d : Die} {n : Blk} {c : Ctx} {s : State} (hk : Keep s0 s) : KeepOut s0 (execPoolAvgAll d n c s) := by
  unfold execPoolAvgAll
  repeat' first
    | with_reducible first
        | assumption | exact keepOut_refused _ | refine keepOut_next ?_ | refine keep_poolRun ?_ | refine keep_vecIssue ?_ ?_
        | refine keep_withSrc ?_ ?_ | (refine keepGot_ok (by with_reducible assumption) ?_) | (refine keepGot_stop (by with_reducible assumption) ?_)
    | split | intro _ _ _ | dsimp only | intro _

theorem keep_execPoolAvgValid {s0 : State} {d : Die} {n : Blk} {c : Ctx} {s : State} (hk : Keep s0 s) : KeepOut s0 (execPoolAvgValid d n c s) := by
  unfold execPoolAvgValid
  repeat' first
    | with_reducible first
        | assumption | exact keepOut_refused _ | refine keepOut_next ?_ | refine keep_poolRun ?_ | refine keep_vecIssue ?_ ?_
        | refine keep_withSrc ?_ ?_ | (refine keepGot_ok (by with_reducible assumption) ?_) | (refine keepGot_stop (by with_reducible assumption) ?_)
    | split | intro _ _ _ | dsimp only | intro _

theorem keep_argRun {s0 : State} {d n c : Nat} {cont : Bool} {f : Fmt} {s : State} {w : Nat} (hk : Keep s0 s) : KeepGot s0 (argRun d n c cont f s w) := by
  unfold argRun
  repeat' first
    | with_reducible first
        | assumption | refine keep_halt ?_ | refine keep_ownRead ?_ | refine keep_setCtxX ?_ | refine keep_vecPut ?_ | refine keep_ite ?_ ?_
        | refine keep_ite_fst ?_ ?_ | refine keep_ite_snd ?_ ?_ | refine keepGot_ite ?_ ?_ | refine keepGot_okI ?_ | refine keepGot_stopI ?_
        | (refine keepGot_ok (by with_reducible assumption) ?_) | (refine keepGot_stop (by with_reducible assumption) ?_)
    | split

theorem keep_execArgmax {s0 : State} {d : Die} {n : Blk} {c : Ctx} {s : State} (hk : Keep s0 s) : KeepOut s0 (execArgmax d n c s) := by
  unfold execArgmax
  repeat' first
    | with_reducible first
        | assumption | exact keepOut_refused _ | refine keepOut_next ?_ | refine keep_argRun ?_ | refine keep_vecIssue ?_ ?_
        | refine keep_withSrc ?_ ?_ | (refine keepGot_ok (by with_reducible assumption) ?_) | (refine keepGot_stop (by with_reducible assumption) ?_)
    | split | intro _ _ _ | dsimp only | intro _

theorem keep_execArgmaxCont {s0 : State} {d : Die} {n : Blk} {c : Ctx} {s : State} (hk : Keep s0 s) : KeepOut s0 (execArgmaxCont d n c s) := by
  unfold execArgmaxCont
  repeat' first
    | with_reducible first
        | assumption | exact keepOut_refused _ | refine keepOut_next ?_ | refine keep_argRun ?_ | refine keep_vecIssue ?_ ?_
        | refine keep_withSrc ?_ ?_ | (refine keepGot_ok (by with_reducible assumption) ?_) | (refine keepGot_stop (by with_reducible assumption) ?_)
    | split | intro _ _ _ | dsimp only | intro _

/-! ### Machine/Module.lean -/


theorem keep_allOff {s0 s : State} (hk : Keep s0 s) : Keep s0 (allOff s) := by
  unfold allOff
  repeat' first
    | with_reducible first
        | assumption | refine keep_homesChanged ?_ | refine keep_setPd ?_ | refine keep_withMem ?_ ?_ | refine keep_withPoison ?_
        | refine keep_withSeqs ?_ | refine keep_withCopies ?_ | refine keep_withL2busy ?_ | refine keep_withDir ?_ | refine keep_withPrivStore ?_
        | refine keep_withBootStore ?_ | refine keep_withHarts ?_ | refine keep_foldl ?_ ?_ | refine keep_foldl_fst ?_ ?_
        | refine keep_foldl_snd ?_ ?_
    | exact fun h => twf_tset _ _ h | exact fun h => twf_tdel _ h | exact fun h => twf_filter _ h | exact fun h => twf_tfilter _ h | exact fun h => twf_wrBytes h | exact fun _ => twf_nil _ | exact fun h => twf_flushMem h | split | intro _ _ _

theorem keep_moduleCause {s0 s : State} {reason detail : Nat} (hk : Keep s0 s) : Keep s0 (moduleCause s reason detail) := by
  unfold moduleCause
  repeat' with_reducible first | assumption | refine keep_raise ?_

theorem keep_setInput {s0 s : State} {v : Nat} (hk : Keep s0 s) : Keep s0 (setInput s v) := by
  unfold setInput
  repeat' with_reducible first | assumption | refine keep_inputRead ?_ | refine keep_withModx ?_

theorem keep_execPowerUp {s0 : State} {slot : BitVec 6} {s : State} (hk : Keep s0 s) : KeepOut s0 (execPowerUp slot s) := by
  unfold execPowerUp
  repeat' with_reducible first
    | assumption | exact keepOut_refused _ | refine keepOut_next ?_ | refine keep_clearRegs ?_ | refine keep_fset ?_ | refine keep_moduleCold ?_
    | refine keep_withModx ?_ | refine keep_withHup ?_ | refine keep_ite ?_ ?_ | refine keepOut_ite ?_ ?_

theorem keep_execPowerGood {s0 s : State} (hk : Keep s0 s) : KeepOut s0 (execPowerGood s) := by
  unfold execPowerGood
  repeat' with_reducible first
    | assumption | exact keepOut_refused _ | refine keepOut_next ?_ | refine keep_fset ?_ | refine keep_withModx ?_ | refine keep_ite ?_ ?_
    | refine keepOut_ite ?_ ?_

theorem keep_execModEnFall {s0 s : State} (hk : Keep s0 s) : KeepOut s0 (execModEnFall s) := by
  unfold execModEnFall
  repeat' with_reducible first
    | assumption | exact keepOut_refused _ | refine keepOut_next ?_ | refine keep_allOff ?_ | refine keep_fset ?_ | refine keep_imgFail ?_
    | refine keep_moduleCause ?_ | refine keep_railCheck ?_ | refine keep_ite ?_ ?_ | refine keepOut_ite ?_ ?_

theorem keep_execModResetAssert {s0 : State} {ns : Nat} {s : State} (hk : Keep s0 s) : KeepOut s0 (execModResetAssert ns s) := by
  unfold execModResetAssert
  repeat' with_reducible first
    | assumption | exact keepOut_refused _ | refine keepOut_next ?_ | refine keep_coldNow ?_ | refine keep_withModx ?_ | refine keep_ite ?_ ?_
    | refine keepOut_ite ?_ ?_

theorem keep_execModResetRelease {s0 s : State} (hk : Keep s0 s) : KeepOut s0 (execModResetRelease s) := by
  unfold execModResetRelease
  repeat' with_reducible first | assumption | exact keepOut_refused _ | refine keepOut_next ?_ | refine keep_withModx ?_

theorem keep_setBand {s0 s : State} {b : Nat} (hk : Keep s0 s) : Keep s0 (setBand s b) := by
  unfold setBand
  repeat' with_reducible first | assumption | refine keep_fset ?_

theorem keep_setHolding {s0 s : State} (hk : Keep s0 s) : Keep s0 (setHolding s) := by
  unfold setHolding
  repeat' with_reducible first | assumption | refine keep_fset ?_

theorem keep_execInputHigh {s0 : State} {v : BitVec 16} {s : State} (hk : Keep s0 s) : KeepOut s0 (execInputHigh v s) := by
  unfold execInputHigh
  repeat' with_reducible first
    | assumption | exact keepOut_refused _ | refine keepOut_next ?_ | refine keep_allOff ?_ | refine keep_moduleCause ?_ | refine keep_railCheck ?_
    | refine keep_setBand ?_ | refine keep_setHolding ?_ | refine keep_setInput ?_ | refine keep_withModx ?_ | refine keep_ite ?_ ?_
    | refine keepOut_ite ?_ ?_

theorem keep_execInputMargin {s0 : State} {v : BitVec 16} {s : State} (hk : Keep s0 s) : KeepOut s0 (execInputMargin v s) := by
  unfold execInputMargin
  repeat' with_reducible first
    | assumption | exact keepOut_refused _ | refine keepOut_next ?_ | refine keep_modEvent ?_ | refine keep_note ?_ | refine keep_setBand ?_
    | refine keep_setInput ?_ | refine keep_withModx ?_ | refine keep_ite ?_ ?_ | refine keepOut_ite ?_ ?_

theorem keep_execInputNormal {s0 : State} {v : BitVec 16} {s : State} (hk : Keep s0 s) : KeepOut s0 (execInputNormal v s) := by
  unfold execInputNormal
  repeat' with_reducible first
    | assumption | exact keepOut_refused _ | refine keepOut_next ?_ | refine keep_setBand ?_ | refine keep_setInput ?_ | refine keep_withModx ?_
    | refine keep_ite ?_ ?_ | refine keepOut_ite ?_ ?_

theorem keep_execInputLow {s0 : State} {v : BitVec 16} {s : State} (hk : Keep s0 s) : KeepOut s0 (execInputLow v s) := by
  unfold execInputLow
  repeat' with_reducible first
    | assumption | exact keepOut_refused _ | refine keepOut_next ?_ | refine keep_allOff ?_ | refine keep_imgFail ?_ | refine keep_moduleCause ?_
    | refine keep_railCheck ?_ | refine keep_setBand ?_ | refine keep_setHolding ?_ | refine keep_setInput ?_ | refine keep_ite ?_ ?_
    | refine keepOut_ite ?_ ?_

theorem keep_execHwThermTrip {s0 s : State} (hk : Keep s0 s) : KeepOut s0 (execHwThermTrip s) := by
  unfold execHwThermTrip
  repeat' with_reducible first
    | assumption | exact keepOut_refused _ | refine keepOut_next ?_ | refine keep_allOff ?_ | refine keep_enterL4 ?_ | refine keep_fset ?_
    | refine keep_withModx ?_ | refine keep_ite ?_ ?_ | refine keepOut_ite ?_ ?_

theorem keep_execCoolantWarm {s0 : State} {t : BitVec 11} {s : State} (hk : Keep s0 s) : KeepOut s0 (execCoolantWarm t s) := by
  unfold execCoolantWarm
  repeat' with_reducible first
    | assumption | exact keepOut_refused _ | refine keepOut_next ?_ | refine keep_fset ?_ | refine keep_modEvent ?_ | refine keep_note ?_
    | refine keep_ite ?_ ?_ | refine keepOut_ite ?_ ?_

/-! ### Machine/Power.lean -/


theorem keep_pdRequest {s0 s : State} {u dom : Nat} {on : Bool} (hk : Keep s0 s) : Keep s0 (pdRequest s u dom on) := by
  unfold pdRequest
  repeat' with_reducible first
    | assumption | refine keep_emit ?_ | refine keep_fset ?_ | refine keep_withSeqs ?_ | refine keep_ite ?_ ?_

theorem keep_execPdRequestOn {s0 : State} {u : Fin 20} {dom : BitVec 7} {s : State} (hk : Keep s0 s) : KeepOut s0 (execPdRequestOn u dom s) := by
  unfold execPdRequestOn
  repeat' with_reducible first
    | assumption | exact keepOut_refused _ | refine keepOut_next ?_ | refine keep_pdRequest ?_ | refine keep_viaWin ?_ ?_ | refine keep_ite ?_ ?_
    | refine keepOut_ite ?_ ?_

theorem keep_execPdRequestOff {s0 : State} {u : Fin 20} {dom : BitVec 7} {s : State} (hk : Keep s0 s) : KeepOut s0 (execPdRequestOff u dom s) := by
  unfold execPdRequestOff
  repeat' with_reducible first
    | assumption | exact keepOut_refused _ | refine keepOut_next ?_ | refine keep_pdRequest ?_ | refine keep_viaWin ?_ ?_ | refine keep_ite ?_ ?_
    | refine keepOut_ite ?_ ?_

theorem keep_courseWake {s0 s : State} {d c : Nat} (hk : Keep s0 s) : Keep s0 (courseWake s d c) := by
  unfold courseWake
  repeat' first
    | with_reducible first
        | assumption | refine keep_clearBlockRegs ?_ | refine keep_fset ?_ | refine keep_ite ?_ ?_ | refine keep_ite_fst ?_ ?_
        | refine keep_ite_snd ?_ ?_ | refine keep_foldl ?_ ?_ | refine keep_foldl_fst ?_ ?_ | refine keep_foldl_snd ?_ ?_
    | split | intro _ _ _

theorem keep_dropTests {s0 s : State} {d c : Nat} (hk : Keep s0 s) : Keep s0 (dropTests s d c) := by
  unfold dropTests
  repeat' first
    | with_reducible first
        | assumption | refine keep_fset ?_ | refine keep_withBtest ?_ | refine keep_ite ?_ ?_ | refine keep_ite_fst ?_ ?_ | refine keep_ite_snd ?_ ?_
        | refine keep_foldl ?_ ?_ | refine keep_foldl_fst ?_ ?_ | refine keep_foldl_snd ?_ ?_
    | split | intro _ _ _

theorem keep_footingWake {s0 s : State} {h : Nat} (hk : Keep s0 s) : Keep s0 (footingWake s h) := by
  unfold footingWake
  repeat' with_reducible first | assumption | refine keep_applyPcs ?_ | refine keep_clearRegs ?_

theorem keep_pwrRefuse {s0 s : State} {r : PwrReq} (hk : Keep s0 s) : Keep s0 (pwrRefuse s r) := by
  unfold pwrRefuse
  repeat' first
    | with_reducible first
        | assumption | refine keep_pwrDone ?_ | refine keep_recovLate ?_
    | split

theorem keep_execPdQueueHead {s0 : State} {q : Unit6} {s : State} (hk : Keep s0 s) : KeepOut s0 (execPdQueueHead q s) := by
  unfold execPdQueueHead
  repeat' first
    | with_reducible first
        | assumption | exact keepOut_refused _ | refine keepOut_next ?_ | refine keep_courseWake ?_ | refine keep_dropCourseCapture ?_
        | refine keep_dropTests ?_ | refine keep_endCommands ?_ | refine keep_footingWake ?_ | refine keep_homesChanged ?_ | refine keep_pwrDone ?_
        | refine keep_pwrRefuse ?_ | refine keep_recount ?_ | refine keep_setPd ?_ | refine keep_withSeqs ?_ | refine keep_ite ?_ ?_
        | refine keepOut_ite ?_ ?_ | refine keep_ite_fst ?_ ?_ | refine keep_ite_snd ?_ ?_
    | split | intro _ _ _ | dsimp only

theorem keep_transEnd {s0 s : State} {n : Nat} (hk : Keep s0 s) : Keep s0 (transEnd s n) := by
  unfold transEnd
  repeat' first
    | with_reducible first
        | assumption | refine keep_homesChanged ?_ | refine keep_pwrDone ?_ | refine keep_recount ?_ | refine keep_withSeqs ?_ | refine keep_ite ?_ ?_
        | refine keep_ite_fst ?_ ?_ | refine keep_ite_snd ?_ ?_
    | split | intro _ _ _ | dsimp only

theorem keep_execDomainWakeDone {s0 : State} {dom : Fin 120} {s : State} (hk : Keep s0 s) : KeepOut s0 (execDomainWakeDone dom s) := by
  unfold execDomainWakeDone
  repeat' first
    | with_reducible first
        | assumption | exact keepOut_refused _ | refine keepOut_next ?_ | refine keep_fset ?_ | refine keep_setPd ?_ | refine keep_transEnd ?_
        | refine keep_zeroSpad ?_ | refine keep_ite ?_ ?_ | refine keepOut_ite ?_ ?_ | refine keep_ite_fst ?_ ?_ | refine keep_ite_snd ?_ ?_
        | refine keep_foldl ?_ ?_ | refine keep_foldl_fst ?_ ?_ | refine keep_foldl_snd ?_ ?_
    | split | intro _ _ _

theorem keep_execDomainOffDone {s0 : State} {dom : Fin 120} {s : State} (hk : Keep s0 s) : KeepOut s0 (execDomainOffDone dom s) := by
  unfold execDomainOffDone
  repeat' with_reducible first
    | assumption | exact keepOut_refused _ | refine keepOut_next ?_ | refine keep_fset ?_ | refine keep_note ?_ | refine keep_setPd ?_
    | refine keep_stackOff ?_ | refine keep_transEnd ?_ | refine keep_ite ?_ ?_ | refine keepOut_ite ?_ ?_

/-! ### Machine/Mgmt.lean -/


theorem keep_execJrnlEnable {s0 : State} {d : Die} {j : Fin 4} {v : W32} {s : State} (hk : Keep s0 s) : KeepOut s0 (execJrnlEnable d j v s) := by
  unfold execJrnlEnable
  repeat' first
    | with_reducible first
        | assumption | exact keepOut_refused _ | refine keepOut_next ?_ | refine keep_emit ?_ | refine keep_fset ?_ | refine keep_rwlIn ?_
        | refine keep_setJournal ?_ | refine keep_viaWin ?_ ?_ | refine keep_ite ?_ ?_ | refine keepOut_ite ?_ ?_ | refine keep_ite_fst ?_ ?_
        | refine keep_ite_snd ?_ ?_
    | split | intro _ _ _ | dsimp only

theorem keep_execJrnlDisable {s0 : State} {d : Die} {j : Fin 4} {s : State} (hk : Keep s0 s) : KeepOut s0 (execJrnlDisable d j s) := by
  unfold execJrnlDisable
  repeat' with_reducible first
    | assumption | exact keepOut_refused _ | refine keepOut_next ?_ | refine keep_emit ?_ | refine keep_fset ?_ | refine keep_viaWin ?_ ?_
    | refine keep_ite ?_ ?_ | refine keepOut_ite ?_ ?_

theorem keep_frameOut {s0 s : State} {code tag : Nat} {body : List Byte} (hk : Keep s0 s) : Keep s0 (frameOut s code tag body) := by
  unfold frameOut
  repeat' with_reducible first | assumption | refine keep_emit ?_

theorem keep_frameErr {s0 s : State} {tag reason detail : Nat} (hk : Keep s0 s) : Keep s0 (frameErr s tag reason detail) := by
  unfold frameErr
  repeat' with_reducible first | assumption | refine keep_frameOut ?_

theorem keep_request {s0 s : State} {ver : Byte} {tag : BitVec 16} {ok early : Bool} {bad notReady : Nat} {serve : State → State}
    (h : Keep s0 s) (hf : Keep s0 (serve s)) : KeepOut s0 (request s ver tag ok early bad notReady serve) := by
  unfold request
  exact keepOut_ite (keepOut_next h) (keepOut_ite (keepOut_next (keep_frameErr h)) (keepOut_ite (keepOut_next (keep_frameErr h)) (keepOut_next hf)))

theorem keep_signedOut {s0 s : State} {code : Nat} {tag : BitVec 16} {req body : List Byte} (hk : Keep s0 s) : Keep s0 (signedOut s code tag req body) := by
  unfold signedOut
  repeat' with_reducible first | assumption | refine keep_frameOut ?_ | refine keep_withSigned ?_

theorem keep_execGetCert {s0 : State} {ver : Byte} {tag : BitVec 16} {data : List Byte} {s : State} (hk : Keep s0 s) : KeepOut s0 (execGetCert ver tag data s) := by
  unfold execGetCert
  repeat' with_reducible first
    | assumption | exact keepOut_refused _ | refine keepOut_next ?_ | refine keep_frameOut ?_ | refine keep_request ?_ ?_

theorem keep_execGetMeasurements {s0 : State} {ver : Byte} {tag : BitVec 16} {data : List Byte} {s : State} (hk : Keep s0 s) : KeepOut s0 (execGetMeasurements ver tag data s) := by
  unfold execGetMeasurements
  repeat' with_reducible first
    | assumption | exact keepOut_refused _ | refine keepOut_next ?_ | refine keep_request ?_ ?_ | refine keep_signedOut ?_

theorem keep_execGetSeal {s0 : State} {ver : Byte} {tag : BitVec 16} {data : List Byte} {s : State} (hk : Keep s0 s) : KeepOut s0 (execGetSeal ver tag data s) := by
  unfold execGetSeal
  repeat' with_reducible first
    | assumption | exact keepOut_refused _ | refine keepOut_next ?_ | refine keep_request ?_ ?_ | refine keep_signedOut ?_

theorem keep_execGetTreatment {s0 : State} {ver : Byte} {tag : BitVec 16} {data : List Byte} {s : State} (hk : Keep s0 s) : KeepOut s0 (execGetTreatment ver tag data s) := by
  unfold execGetTreatment
  repeat' with_reducible first
    | assumption | exact keepOut_refused _ | refine keepOut_next ?_ | refine keep_request ?_ ?_ | refine keep_signedOut ?_

theorem keep_execGetStatus {s0 : State} {ver : Byte} {tag : BitVec 16} {data : List Byte} {s : State} (hk : Keep s0 s) : KeepOut s0 (execGetStatus ver tag data s) := by
  unfold execGetStatus
  repeat' with_reducible first
    | assumption | exact keepOut_refused _ | refine keepOut_next ?_ | refine keep_frameOut ?_ | refine keep_fset ?_ | refine keep_request ?_ ?_

theorem keep_execMgmtReset {s0 : State} {ver : Byte} {tag : BitVec 16} {data : List Byte} {s : State} (hk : Keep s0 s) : KeepOut s0 (execMgmtReset ver tag data s) := by
  unfold execMgmtReset
  repeat' first
    | with_reducible first
        | assumption | exact keepOut_refused _ | refine keepOut_next ?_ | refine keep_frameErr ?_ | refine keep_frameOut ?_
        | refine keep_request ?_ ?_ | refine keep_withResetQ ?_
    | split

theorem keep_execSetBudget {s0 : State} {ver : Byte} {tag : BitVec 16} {data : List Byte} {s : State} (hk : Keep s0 s) : KeepOut s0 (execSetBudget ver tag data s) := by
  unfold execSetBudget
  repeat' with_reducible first
    | assumption | exact keepOut_refused _ | refine keepOut_next ?_ | refine keep_frameErr ?_ | refine keep_frameOut ?_ | refine keep_request ?_ ?_
    | refine keep_setModule ?_ | refine keep_ite ?_ ?_

theorem keep_execGetFatal {s0 : State} {ver : Byte} {tag : BitVec 16} {data : List Byte} {s : State} (hk : Keep s0 s) : KeepOut s0 (execGetFatal ver tag data s) := by
  unfold execGetFatal
  repeat' with_reducible first
    | assumption | exact keepOut_refused _ | refine keepOut_next ?_ | refine keep_frameOut ?_ | refine keep_request ?_ ?_

theorem keep_execLocate {s0 : State} {ver : Byte} {tag : BitVec 16} {data : List Byte} {s : State} (hk : Keep s0 s) : KeepOut s0 (execLocate ver tag data s) := by
  unfold execLocate
  repeat' with_reducible first
    | assumption | exact keepOut_refused _ | refine keepOut_next ?_ | refine keep_frameOut ?_ | refine keep_fset ?_ | refine keep_request ?_ ?_

theorem keep_execEntdaa {s0 : State} {a : BitVec 7} {s : State} (hk : Keep s0 s) : KeepOut s0 (execEntdaa a s) := by
  unfold execEntdaa
  repeat' with_reducible first
    | assumption | exact keepOut_refused _ | refine keepOut_next ?_ | refine keep_emit ?_ | refine keep_withModx ?_ | refine keep_ite ?_ ?_
    | refine keepOut_ite ?_ ?_

theorem keep_control {s0 s : State} {cmd cc : Nat} {body : List Byte} (hk : Keep s0 s) : Keep s0 (control s cmd cc body) := by
  unfold control
  repeat' with_reducible first | assumption | refine keep_emit ?_

theorem keep_execSetEndpointId {s0 : State} {eid : Byte} {s : State} (hk : Keep s0 s) : KeepOut s0 (execSetEndpointId eid s) := by
  unfold execSetEndpointId
  repeat' with_reducible first
    | assumption | exact keepOut_refused _ | refine keepOut_next ?_ | refine keep_control ?_ | refine keep_withModx ?_ | refine keep_ite ?_ ?_
    | refine keepOut_ite ?_ ?_

theorem keep_execGetEndpointId {s0 s : State} (hk : Keep s0 s) : KeepOut s0 (execGetEndpointId s) := by
  unfold execGetEndpointId
  repeat' with_reducible first
    | assumption | exact keepOut_refused _ | refine keepOut_next ?_ | refine keep_control ?_ | refine keep_ite ?_ ?_ | refine keepOut_ite ?_ ?_

theorem keep_execGetMctpVersionSupport {s0 : State} {typ : Byte} {s : State} (hk : Keep s0 s) : KeepOut s0 (execGetMctpVersionSupport typ s) := by
  unfold execGetMctpVersionSupport
  repeat' with_reducible first
    | assumption | exact keepOut_refused _ | refine keepOut_next ?_ | refine keep_control ?_ | refine keep_takeFree ?_ | refine keep_ite ?_ ?_
    | refine keepOut_ite ?_ ?_

theorem keep_execGetMessageTypeSupport {s0 s : State} (hk : Keep s0 s) : KeepOut s0 (execGetMessageTypeSupport s) := by
  unfold execGetMessageTypeSupport
  repeat' with_reducible first
    | assumption | exact keepOut_refused _ | refine keepOut_next ?_ | refine keep_control ?_ | refine keep_ite ?_ ?_ | refine keepOut_ite ?_ ?_

/-! ### Machine/Items.lean -/


theorem keep_execMove {s0 : State} {d : Die} {r : Ring} {s : State} (hk : Keep s0 s) : KeepOut s0 (execMove d r s) := by
  unfold execMove
  repeat' with_reducible first | assumption | exact keepOut_refused _ | refine keepOut_next ?_ | refine keep_letIn ?_

theorem keep_poisonPieces {s0 s : State} {it : Item} {va n : Nat} (hk : Keep s0 s) : Keep s0 (poisonPieces s it va n) := by
  unfold poisonPieces
  repeat' first
    | with_reducible first
        | assumption | refine keep_setPoison ?_ | refine keep_foldl ?_ ?_ | refine keep_foldl_fst ?_ ?_ | refine keep_foldl_snd ?_ ?_
    | split | intro _ _ _

theorem keep_moveCopy {s0 : State} {fx : State → State} {it : Item} {o : MoveOps} (hx : ∀ t, Keep s0 t → Keep s0 (fx t)) {k : Nat} :
    ∀ {s : State} {i : Nat} {po : Bool}, Keep s0 s → Keep s0 (moveCopy fx s it o i po k).1 := by
  induction k with
  | zero => intro s i po h; unfold moveCopy; split <;> exact h
  | succ k ih =>
    intro s i po h
    have h0 : Keep s0 (if it.flags.testBit 4 then cleanExt s it.extents (o.src + i * o.sstr) o.rb else s) := keep_ite (keep_cleanExt h) h
    have h1 : KeepTouch s0 (itemRead (if it.flags.testBit 4 then cleanExt s it.extents (o.src + i * o.sstr) o.rb else s) it
        (o.src + i * o.sstr) o.rb) := keep_itemRead h0
    unfold moveCopy
    split
    · exact keepTouch_bad (by assumption) h1
    · have h2 := keepTouch_ok (by assumption) h1
      split
      · exact keepTouch_bad (by assumption) (keep_itemWrite h2)
      · have h3 := keepTouch_ok (by assumption) (keep_itemWrite h2)
        exact ih (hx _ (keep_ite (keep_poisonPieces h3) h3))

theorem keep_moveDone {s0 s : State} {fx : State → State} {it : Item} (hx : ∀ t, Keep s0 t → Keep s0 (fx t)) (h : Keep s0 s) :
    Keep s0 (moveDone fx s it) := by
  unfold moveDone
  dsimp only
  split
  · exact keep_endItem (keep_moveCopy hx h)
  · exact keep_moveCopy hx h

theorem keep_execUnload {s0 : State} {d : Die} {r : Ring} {s : State} (hk : Keep s0 s) : KeepOut s0 (execUnload d r s) := by
  unfold execUnload
  repeat' with_reducible first | assumption | exact keepOut_refused _ | refine keepOut_next ?_ | refine keep_letIn ?_

theorem keep_execAbort {s0 : State} {d : Die} {r : Ring} {s : State} (hk : Keep s0 s) : KeepOut s0 (execAbort d r s) := by
  unfold execAbort
  repeat' with_reducible first | assumption | exact keepOut_refused _ | refine keepOut_next ?_ | refine keep_letIn ?_

theorem keep_execFence {s0 : State} {d : Die} {r : Ring} {s : State} (hk : Keep s0 s) : KeepOut s0 (execFence d r s) := by
  unfold execFence
  repeat' with_reducible first | assumption | exact keepOut_refused _ | refine keepOut_next ?_ | refine keep_letIn ?_

theorem keep_execPowerOn {s0 : State} {d : Die} {r : Ring} {s : State} (hk : Keep s0 s) : KeepOut s0 (execPowerOn d r s) := by
  unfold execPowerOn
  repeat' with_reducible first | assumption | exact keepOut_refused _ | refine keepOut_next ?_ | refine keep_letIn ?_

theorem keep_execPowerOff {s0 : State} {d : Die} {r : Ring} {s : State} (hk : Keep s0 s) : KeepOut s0 (execPowerOff d r s) := by
  unfold execPowerOff
  repeat' with_reducible first | assumption | exact keepOut_refused _ | refine keepOut_next ?_ | refine keep_letIn ?_

theorem keep_powerStart {s0 s : State} {it : Item} (hk : Keep s0 s) : Keep s0 (powerStart s it) := by
  unfold powerStart
  repeat' with_reducible first | assumption | refine keep_queuePwr ?_

theorem keep_unloadPlan {s0 s : State} {d h : Nat} (hk : Keep s0 s) : Keep s0 (unloadPlan s d h) := by
  unfold unloadPlan
  repeat' first
    | with_reducible first
        | assumption | refine keep_fset ?_ | refine keep_losePlanSample ?_ | refine keep_setCtxState ?_ | refine keep_setCtxX ?_
        | refine keep_withPlans ?_ | refine keep_ite ?_ ?_ | refine keep_ite_fst ?_ ?_ | refine keep_ite_snd ?_ ?_ | refine keep_foldl ?_ ?_
        | refine keep_foldl_fst ?_ ?_ | refine keep_foldl_snd ?_ ?_
    | split | intro _ _ _

theorem keep_unloadDone {s0 s : State} {it : Item} (hk : Keep s0 s) : Keep s0 (unloadDone s it) := by
  unfold unloadDone
  repeat' with_reducible first | assumption | refine keep_endItem ?_ | refine keep_unloadPlan ?_

/-! ### Machine/Load.lean -/


theorem keep_execLoad {s0 : State} {d : Die} {r : Ring} {s : State} (hk : Keep s0 s) : KeepOut s0 (execLoad d r s) := by
  unfold execLoad
  repeat' with_reducible first | assumption | exact keepOut_refused _ | refine keepOut_next ?_ | refine keep_letIn ?_

theorem keep_loadCtx {s0 s : State} {p : Plan} {l n c : Nat} (hk : Keep s0 s) : Keep s0 (loadCtx s p l n c) := by
  unfold loadCtx
  repeat' first
    | with_reducible first
        | assumption | refine keep_fset ?_ | refine keep_setCtxState ?_ | refine keep_setCtxX ?_ | refine keep_wr ?_ | refine keep_foldl ?_ ?_
        | refine keep_foldl_fst ?_ ?_ | refine keep_foldl_snd ?_ ?_
    | split | intro _ _ _

theorem keep_loadAll {s0 s : State} {p : Plan} {ls : List Nat} (h : Keep s0 s) : ∀ t q, loadAll s p ls = .inl (t, q) → Keep s0 t := by
  unfold loadAll
  suffices g : ∀ (ls : List Nat) (a : (State × Plan) ⊕ (Nat × Nat)), (∀ t q, a = .inl (t, q) → Keep s0 t) →
      ∀ t q, ls.foldl (fun acc l => match acc with
    | .inr c => .inr c
    | .inl (s, p) =>
      let n := (p.phys l).1
      match emptyCtx s p.die n with
      | none => .inr (Rsn.NOT_SCHEDULABLE, 0x40)
      | some c =>
        let s := ctxEnable (loadCtx s p l n c) p.die n c
        if bit s (Reg.BLK_CTX_CTRL p.die n c) 0 then .inl (s, { p with place := p.place.set l (n, c) })
        else .inr (fget s (Reg.BLK_CTX_STATUS p.die n c) 8 8, fget s (Reg.BLK_CTX_STATUS p.die n c) 16 8)) a = .inl (t, q) → Keep s0 t from
    g ls _ (fun t q e => by injection e with e; injection e with e1 e2; exact e1 ▸ h)
  intro ls
  induction ls with
  | nil => intro a ha t q e; exact ha t q e
  | cons l ls ih =>
    intro a ha
    refine ih _ ?_
    intro t q e
    try dsimp only at e
    split at e
    · cases e
    · rename_i s' p'
      have hs' := ha s' p' (Eq.refl _)
      try dsimp only at e
      split at e
      · cases e
      · split at e
        · injection e with e; injection e with e1 e2; subst e1; exact keep_ctxEnable (keep_loadCtx hs')
        · cases e

theorem keep_newHandle {s0 s : State} {d : Nat} (hk : Keep s0 s) : Keep s0 (newHandle s d).2 := by
  unfold newHandle
  repeat' with_reducible first | assumption | refine keep_takeFree ?_

theorem keep_residentPlan {s0 s : State} {it : Item} {p : Plan} (hk : Keep s0 s) : Keep s0 (residentPlan s it p) := by
  unfold residentPlan
  repeat' first
    | with_reducible first
        | assumption | refine keep_endItem ?_ | refine keep_itemWrite ?_ | refine keep_loadAll ?_ | refine keep_losePlanSample ?_
        | refine keep_newHandle ?_ | refine keep_numFresh ?_ | refine keep_putItem ?_ | refine keep_withPlans ?_
        | (refine keep_loadAll ?_ _ _ (by assumption)) | refine keep_newHandle ?_ | refine keep_itemWrite ?_ | refine keep_ite ?_ ?_
        | refine keep_ite_fst ?_ ?_ | refine keep_ite_snd ?_ ?_ | (refine keepTouch_ok (by with_reducible assumption) ?_)
        | (refine keepTouch_bad (by with_reducible assumption) ?_) | (refine keep_pair_fst (by with_reducible assumption) ?_)
        | (refine keep_pair_snd (by with_reducible assumption) ?_)
    | split | intro _ _ _ | dsimp only

theorem keep_loadEnd {s0 s : State} {it : Item} (hk : Keep s0 s) : Keep s0 (loadEnd s it) := by
  unfold loadEnd
  repeat' first
    | with_reducible first
        | assumption | refine keep_endItem ?_ | refine keep_itemRead ?_ | refine keep_note ?_ | refine keep_residentPlan ?_ | refine keep_ite ?_ ?_
        | refine keep_ite_fst ?_ ?_ | refine keep_ite_snd ?_ ?_ | (refine keepTouch_ok (by with_reducible assumption) ?_)
        | (refine keepTouch_bad (by with_reducible assumption) ?_)
    | split | intro _ _ _ | dsimp only

theorem keep_execLoadDigestDone {s0 : State} {d : Die} {r : Ring} {seq : W32} {s : State} (hk : Keep s0 s) : KeepOut s0 (execLoadDigestDone d r seq s) := by
  unfold execLoadDigestDone
  repeat' first
    | with_reducible first
        | assumption | exact keepOut_refused _ | refine keepOut_next ?_ | refine keep_loadEnd ?_ | refine keep_ite ?_ ?_ | refine keepOut_ite ?_ ?_
        | refine keep_ite_fst ?_ ?_ | refine keep_ite_snd ?_ ?_
    | split

theorem keep_freed {s0 s : State} {p : Plan} {ls : List Nat} (hk : Keep s0 s) : Keep s0 (freed s p ls) := by
  unfold freed
  repeat' first
    | with_reducible first
        | assumption | refine keep_fset ?_ | refine keep_setCtxState ?_ | refine keep_setCtxX ?_ | refine keep_ite ?_ ?_ | refine keep_ite_fst ?_ ?_
        | refine keep_ite_snd ?_ ?_ | refine keep_foldl ?_ ?_ | refine keep_foldl_fst ?_ ?_ | refine keep_foldl_snd ?_ ?_
    | split | intro _ _ _

theorem keep_replacePlan {s0 s : State} {p : Plan} {free : Nat → Bool} (hk : Keep s0 s) :
    ∀ t q, replacePlan s p free = some (t, q) → Keep s0 t := by
  intro t q e
  unfold replacePlan at e
  split at e
  · cases e
  · injection e with e; injection e with e _; exact e ▸ hk
  · try dsimp only at e
    split at e
    · injection e with e
      injection e with e _
      subst e
      exact keep_putPlan (keep_loadAll (keep_freed hk) _ _ (by assumption))
    · cases e

theorem keep_execRun {s0 : State} {d : Die} {r : Ring} {s : State} (hk : Keep s0 s) : KeepOut s0 (execRun d r s) := by
  unfold execRun
  repeat' with_reducible first | assumption | exact keepOut_refused _ | refine keepOut_next ?_ | refine keep_letIn ?_

theorem keep_startCtx {s0 s : State} {d n c : Nat} (hk : Keep s0 s) : Keep s0 (startCtx s d n c) := by
  unfold startCtx
  repeat' first
    | with_reducible first
        | assumption | refine keep_setCtxState ?_ | refine keep_setCtxX ?_ | refine keep_wr ?_ | refine keep_ite ?_ ?_ | refine keep_ite_fst ?_ ?_
        | refine keep_ite_snd ?_ ?_ | refine keep_foldl ?_ ?_ | refine keep_foldl_fst ?_ ?_ | refine keep_foldl_snd ?_ ?_
    | split | intro _ _ _

theorem keep_execRunStart {s0 : State} {d : Die} {r : Ring} {seq : W32} {s : State} (hk : Keep s0 s) : KeepOut s0 (execRunStart d r seq s) := by
  unfold execRunStart
  repeat' first
    | with_reducible first
        | assumption | exact keepOut_refused _ | refine keepOut_next ?_ | refine keep_endItem ?_ | refine keep_putItem ?_ | refine keep_putPlan ?_
        | refine keep_replacePlan ?_ | refine keep_startCtx ?_ | refine keep_withItems ?_ | (refine keep_replacePlan ?_ _ _ (by assumption))
        | refine keep_ite ?_ ?_ | refine keepOut_ite ?_ ?_ | refine keep_ite_fst ?_ ?_ | refine keep_ite_snd ?_ ?_ | refine keep_foldl ?_ ?_
        | refine keep_foldl_fst ?_ ?_ | refine keep_foldl_snd ?_ ?_
    | split | intro _ _ _ | dsimp only

theorem keep_execRunEnd {s0 : State} {d : Die} {r : Ring} {seq : W32} {s : State} (hk : Keep s0 s) : KeepOut s0 (execRunEnd d r seq s) := by
  unfold execRunEnd
  repeat' first
    | with_reducible first
        | assumption | exact keepOut_refused _ | refine keepOut_next ?_ | refine keep_endItem ?_ | refine keep_ite ?_ ?_ | refine keepOut_ite ?_ ?_
        | refine keep_ite_fst ?_ ?_ | refine keep_ite_snd ?_ ?_
    | split

/-! ### Machine/Hbm.lean -/


theorem keep_execRowRepairStart {s0 : State} {h : Stack} {pc : Fin 64} {bank : Fin 64} {row : Nat} {s : State} (hk : Keep s0 s) : KeepOut s0 (execRowRepairStart h pc bank row s) := by
  unfold execRowRepairStart
  repeat' with_reducible first
    | assumption | exact keepOut_refused _ | refine keepOut_next ?_ | refine keep_autoRetire ?_ | refine keep_ftgStatus ?_ | refine keep_setStackX ?_
    | refine keep_ite ?_ ?_ | refine keepOut_ite ?_ ?_

theorem keep_execRowRepairDone {s0 : State} {h : Stack} {s : State} (hk : Keep s0 s) : KeepOut s0 (execRowRepairDone h s) := by
  unfold execRowRepairDone
  repeat' first
    | with_reducible first
        | assumption | exact keepOut_refused _ | refine keepOut_next ?_ | refine keep_ftgStatus ?_ | refine keep_newCells ?_ | refine keep_raise ?_
        | refine keep_setStackX ?_
    | split | intro _ _ _ | dsimp only

theorem keep_execRetireRequest {s0 : State} {h : Stack} {pc : Fin 64} {s : State} (hk : Keep s0 s) : KeepOut s0 (execRetireRequest h pc s) := by
  unfold execRetireRequest
  repeat' with_reducible first
    | assumption | exact keepOut_refused _ | refine keepOut_next ?_ | refine keep_emit ?_ | refine keep_fset ?_ | refine keep_retireAsk ?_
    | refine keep_setStackX ?_ | refine keep_viaWin ?_ ?_ | refine keep_ite ?_ ?_ | refine keepOut_ite ?_ ?_

theorem keep_execRetireCopyStart {s0 : State} {h : Stack} {s : State} (hk : Keep s0 s) : KeepOut s0 (execRetireCopyStart h s) := by
  unfold execRetireCopyStart
  repeat' first
    | with_reducible first
        | assumption | exact keepOut_refused _ | refine keepOut_next ?_ | refine keep_fset ?_ | refine keep_ftgStatus ?_ | refine keep_setStackX ?_
        | refine keep_takeFree ?_ | refine keep_ite ?_ ?_ | refine keepOut_ite ?_ ?_ | refine keep_ite_fst ?_ ?_ | refine keep_ite_snd ?_ ?_
        | (refine keep_pair_fst (by with_reducible assumption) ?_) | (refine keep_pair_snd (by with_reducible assumption) ?_)
    | split | intro _ _ _ | dsimp only

theorem keep_execRetireDone {s0 : State} {h : Stack} {s : State} (hk : Keep s0 s) : KeepOut s0 (execRetireDone h s) := by
  unfold execRetireDone
  repeat' first
    | with_reducible first
        | assumption | exact keepOut_refused _ | refine keepOut_next ?_ | refine keep_fset ?_ | refine keep_ftgStatus ?_ | refine keep_newCells ?_
        | refine keep_raise ?_ | refine keep_retireBegin ?_ | refine keep_retirePc ?_ | refine keep_setStackX ?_ | refine keep_ite ?_ ?_
        | refine keepOut_ite ?_ ?_ | refine keep_ite_fst ?_ ?_ | refine keep_ite_snd ?_ ?_
    | split | intro _ _ _ | dsimp only

theorem keep_execHbmLaneFault {s0 : State} {h : Stack} {pc : Fin 64} {s : State} (hk : Keep s0 s) : KeepOut s0 (execHbmLaneFault h pc s) := by
  unfold execHbmLaneFault
  repeat' with_reducible first
    | assumption | exact keepOut_refused _ | refine keepOut_next ?_ | refine keep_forceRetire ?_ | refine keep_ite ?_ ?_ | refine keepOut_ite ?_ ?_

theorem keep_setSkt {s0 s : State} {n v : Nat} {safe : Bool} (hk : Keep s0 s) : Keep s0 (setSkt s n v safe) := by
  unfold setSkt
  repeat' with_reducible first | assumption | refine keep_fset ?_ | refine keep_homesChanged ?_

theorem keep_sktAction {s0 s : State} {n : Nat} {f : Nat → Option State} (h : Keep s0 s) (hf : ∀ x t, f x = some t → Keep s0 t) :
    KeepOut s0 (sktAction s n f) := by
  unfold sktAction
  refine keep_viaWin h (keepOut_ite (keepOut_next (keep_emit h)) ?_)
  split
  · exact keepOut_next (hf _ _ (by assumption))
  · exact keepOut_next (keep_setRD h)

theorem keep_execSktEvacuate {s0 : State} {n : Socket} {s : State} (hk : Keep s0 s) : KeepOut s0 (execSktEvacuate n s) := by
  unfold execSktEvacuate
  refine keep_sktAction hk fun x t e => ?_
  try dsimp only at e
  repeat' split at e
  all_goals first | (cases e; done) | (injection e with e; subst e; repeat' first | with_reducible assumption | with_reducible refine keep_setRD ?_ | with_reducible refine keep_fset ?_ | with_reducible refine keep_setSkt ?_)

theorem keep_execSktOffline {s0 : State} {n : Socket} {s : State} (hk : Keep s0 s) : KeepOut s0 (execSktOffline n s) := by
  unfold execSktOffline
  refine keep_sktAction hk fun x t e => ?_
  try dsimp only at e
  repeat' split at e
  all_goals first | (cases e; done) | (injection e with e; subst e; repeat' first | with_reducible assumption | with_reducible refine keep_setRD ?_ | with_reducible refine keep_fset ?_ | with_reducible refine keep_setSkt ?_)

theorem keep_execSktOnline {s0 : State} {n : Socket} {s : State} (hk : Keep s0 s) : KeepOut s0 (execSktOnline n s) := by
  unfold execSktOnline
  refine keep_sktAction hk fun x t e => ?_
  try dsimp only at e
  repeat' split at e
  all_goals first | (cases e; done) | (injection e with e; subst e; repeat' first | with_reducible assumption | with_reducible refine keep_setRD ?_ | with_reducible refine keep_fset ?_ | with_reducible refine keep_setSkt ?_)

theorem keep_execSktStopDone {s0 : State} {n : Socket} {s : State} (hk : Keep s0 s) : KeepOut s0 (execSktStopDone n s) := by
  unfold execSktStopDone
  repeat' with_reducible first
    | assumption | exact keepOut_refused _ | refine keepOut_next ?_ | refine keep_fset ?_ | refine keep_setSkt ?_ | refine keep_ite ?_ ?_
    | refine keepOut_ite ?_ ?_

theorem keep_execSktTrainDone {s0 : State} {n : Socket} {ok : Bool} {cap : BitVec 10} {s : State} (hk : Keep s0 s) : KeepOut s0 (execSktTrainDone n ok cap s) := by
  unfold execSktTrainDone
  repeat' with_reducible first
    | assumption | exact keepOut_refused _ | refine keepOut_next ?_ | refine keep_fset ?_ | refine keep_raise ?_ | refine keep_setRD ?_
    | refine keep_setSkt ?_ | refine keep_ite ?_ ?_ | refine keepOut_ite ?_ ?_

theorem keep_execSktClearDone {s0 : State} {n : Socket} {s : State} (hk : Keep s0 s) : KeepOut s0 (execSktClearDone n s) := by
  unfold execSktClearDone
  repeat' first
    | with_reducible first
        | assumption | exact keepOut_refused _ | refine keepOut_next ?_ | refine keep_fset ?_ | refine keep_setRD ?_ | refine keep_setSkt ?_
        | refine keep_withMem ?_ ?_ | refine keep_withPoison ?_ | refine keep_ite ?_ ?_ | refine keepOut_ite ?_ ?_
    | exact fun h => twf_tset _ _ h | exact fun h => twf_tdel _ h | exact fun h => twf_filter _ h | exact fun h => twf_tfilter _ h | exact fun h => twf_wrBytes h | exact fun _ => twf_nil _ | exact fun h => twf_flushMem h

/-! ### Machine/Ftg.lean -/


theorem keep_ftgAdmit {s0 s : State} {d r op : Nat} (hk : Keep s0 s) : KeepOut s0 (ftgAdmit s d r op) := by
  unfold ftgAdmit
  repeat' with_reducible first | assumption | exact keepOut_refused _ | refine keepOut_next ?_ | refine keep_letIn ?_

theorem keep_execUpdateMomentum {s0 : State} {d : Die} {r : Ring} {s : State} (hk : Keep s0 s) : KeepOut s0 (execUpdateMomentum d r s) := by
  unfold execUpdateMomentum
  repeat' with_reducible first | assumption | exact keepOut_refused _ | refine keepOut_next ?_ | refine keep_ftgAdmit ?_

theorem keep_execUpdateAdaptive {s0 : State} {d : Die} {r : Ring} {s : State} (hk : Keep s0 s) : KeepOut s0 (execUpdateAdaptive d r s) := by
  unfold execUpdateAdaptive
  repeat' with_reducible first | assumption | exact keepOut_refused _ | refine keepOut_next ?_ | refine keep_ftgAdmit ?_

theorem keep_execUpdateSigned {s0 : State} {d : Die} {r : Ring} {s : State} (hk : Keep s0 s) : KeepOut s0 (execUpdateSigned d r s) := by
  unfold execUpdateSigned
  repeat' with_reducible first | assumption | exact keepOut_refused _ | refine keepOut_next ?_ | refine keep_ftgAdmit ?_

theorem keep_execReduce {s0 : State} {d : Die} {r : Ring} {s : State} (hk : Keep s0 s) : KeepOut s0 (execReduce d r s) := by
  unfold execReduce
  repeat' with_reducible first | assumption | exact keepOut_refused _ | refine keepOut_next ?_ | refine keep_ftgAdmit ?_

theorem keep_execCompressTopk {s0 : State} {d : Die} {r : Ring} {s : State} (hk : Keep s0 s) : KeepOut s0 (execCompressTopk d r s) := by
  unfold execCompressTopk
  repeat' with_reducible first | assumption | exact keepOut_refused _ | refine keepOut_next ?_ | refine keep_ftgAdmit ?_

theorem keep_execTopkMerge {s0 : State} {d : Die} {r : Ring} {s : State} (hk : Keep s0 s) : KeepOut s0 (execTopkMerge d r s) := by
  unfold execTopkMerge
  repeat' with_reducible first | assumption | exact keepOut_refused _ | refine keepOut_next ?_ | refine keep_ftgAdmit ?_

theorem keep_execCompressSign {s0 : State} {d : Die} {r : Ring} {s : State} (hk : Keep s0 s) : KeepOut s0 (execCompressSign d r s) := by
  unfold execCompressSign
  repeat' with_reducible first | assumption | exact keepOut_refused _ | refine keepOut_next ?_ | refine keep_ftgAdmit ?_

theorem keep_execHash {s0 : State} {d : Die} {r : Ring} {s : State} (hk : Keep s0 s) : KeepOut s0 (execHash d r s) := by
  unfold execHash
  repeat' with_reducible first | assumption | exact keepOut_refused _ | refine keepOut_next ?_ | refine keep_ftgAdmit ?_

theorem keep_execScrub {s0 : State} {d : Die} {r : Ring} {s : State} (hk : Keep s0 s) : KeepOut s0 (execScrub d r s) := by
  unfold execScrub
  repeat' with_reducible first | assumption | exact keepOut_refused _ | refine keepOut_next ?_ | refine keep_ftgAdmit ?_

theorem keep_execZero {s0 : State} {d : Die} {r : Ring} {s : State} (hk : Keep s0 s) : KeepOut s0 (execZero d r s) := by
  unfold execZero
  repeat' with_reducible first | assumption | exact keepOut_refused _ | refine keepOut_next ?_ | refine keep_ftgAdmit ?_

theorem keep_execFtgEnable {s0 : State} {h : Stack} {s : State} (hk : Keep s0 s) : KeepOut s0 (execFtgEnable h s) := by
  unfold execFtgEnable
  repeat' with_reducible first
    | assumption | exact keepOut_refused _ | refine keepOut_next ?_ | refine keep_finishEnable ?_ | refine keep_viaWin ?_ ?_

theorem keep_execFtgDisable {s0 : State} {h : Stack} {s : State} (hk : Keep s0 s) : KeepOut s0 (execFtgDisable h s) := by
  unfold execFtgDisable
  repeat' with_reducible first
    | assumption | exact keepOut_refused _ | refine keepOut_next ?_ | refine keep_fset ?_ | refine keep_setRD ?_ | refine keep_viaWin ?_ ?_
    | refine keep_ite ?_ ?_

theorem keep_execFtgCommandStart {s0 : State} {h : Stack} {e : Fin 5} {s : State} (hk : Keep s0 s) : KeepOut s0 (execFtgCommandStart h e s) := by
  unfold execFtgCommandStart
  repeat' first
    | with_reducible first
        | assumption | exact keepOut_refused _ | refine keepOut_next ?_ | refine keep_ftgStatus ?_ | refine keep_putItem ?_ | refine keep_ite ?_ ?_
        | refine keepOut_ite ?_ ?_ | refine keep_ite_fst ?_ ?_ | refine keep_ite_snd ?_ ?_
    | split

theorem keep_execPatrolScrubTick {s0 : State} {h : Stack} {ecc : Fin 17} {s : State} (hk : Keep s0 s) : KeepOut s0 (execPatrolScrubTick h ecc s) := by
  unfold execPatrolScrubTick
  repeat' with_reducible first
    | assumption | exact keepOut_refused _ | refine keepOut_next ?_ | refine keep_fset ?_ | refine keep_lineError ?_ | refine keep_readErrors ?_
    | refine keep_rewritten ?_ | refine keep_ite ?_ ?_ | refine keepOut_ite ?_ ?_

/-! ### Machine/FtgOps.lean -/


theorem keep_extStore {s0 s : State} {es : List Extent} {va : Nat} {bs : List Byte} (hk : Keep s0 s) : Keep s0 (extStore s es va bs) := by
  unfold extStore
  repeat' first
    | with_reducible first
        | assumption | refine keep_memWrite ?_ | refine keep_ite ?_ ?_ | refine keep_ite_fst ?_ ?_ | refine keep_ite_snd ?_ ?_
        | refine keep_foldl ?_ ?_ | refine keep_foldl_fst ?_ ?_ | refine keep_foldl_snd ?_ ?_
    | split | intro _ _ _

theorem keep_extPoisonAt {s0 s : State} {es : List Extent} {va n : Nat} {bad : Nat → Bool} (hk : Keep s0 s) : Keep s0 (extPoisonAt s es va n bad).1 := by
  unfold extPoisonAt
  repeat' first
    | with_reducible first
        | assumption | refine keep_setPoison ?_ | refine keep_foldl ?_ ?_ | refine keep_foldl_fst ?_ ?_ | refine keep_foldl_snd ?_ ?_
    | split | intro _ _ _

theorem keep_outRegion {s0 s : State} {es : List Extent} {va : Nat} {bs : List Byte} {bad : Nat → Bool} (hk : Keep s0 s) : Keep s0 (outRegion s es va bs bad).1 := by
  unfold outRegion
  repeat' with_reducible first | assumption | refine keep_extPoisonAt ?_ | refine keep_extStore ?_

theorem keep_updEntry {s0 : State} {p : List Byte} {es : List Extent} {i : Nat} {x : State × FAcc} (hk : Keep s0 x.1) :
    Keep s0 (updEntry p es x i).1 := by
  unfold updEntry
  have h1 : Keep s0 ((entRegs p i).foldl (fun s r => if r.role = 1 then s else cleanExt s es r.va r.len) x.1) :=
    keep_foldl hk fun _ _ ht => keep_ite ht (keep_cleanExt ht)
  repeat' first | with_reducible assumption | with_reducible refine keep_ite ?_ ?_ | with_reducible refine keep_ite_fst ?_ ?_ | with_reducible refine keep_extStore ?_ | with_reducible refine keep_outRegion ?_ | dsimp only

theorem keep_redEntry {s0 : State} {p : List Byte} {es : List Extent} {i : Nat} {x : State × FAcc} (hk : Keep s0 x.1) :
    Keep s0 (redEntry p es x i).1 := by
  unfold redEntry
  repeat' first | with_reducible assumption | with_reducible refine keep_ite_fst ?_ ?_ | with_reducible refine keep_outRegion ?_ | dsimp only

theorem keep_segStep {s0 : State} {p : List Byte} {es : List Extent} {i : Nat} {x : State × FAcc} {g : Nat} (hk : Keep s0 x.1) :
    Keep s0 (segStep p es i x g).1 := by
  unfold segStep
  repeat' first | with_reducible assumption | with_reducible refine keep_ite_fst ?_ ?_ | with_reducible refine keep_extPoisonAt ?_ | with_reducible refine keep_extStore ?_ | split | dsimp only

theorem keep_cmdRun {s0 s : State} {p : List Byte} {es : List Extent} (hk : Keep s0 s) : Keep s0 (cmdRun s p es).1 := by
  unfold cmdRun
  repeat' first
    | with_reducible first
        | assumption | refine keep_cleanExt ?_ | refine keep_extStore ?_ | refine keep_redEntry ?_ | refine keep_segStep ?_ | refine keep_updEntry ?_
        | refine keep_ite ?_ ?_ | refine keep_ite_fst ?_ ?_ | refine keep_ite_snd ?_ ?_ | refine keep_foldl ?_ ?_ | refine keep_foldl_fst ?_ ?_
        | refine keep_foldl_snd ?_ ?_ | (refine keep_pair_fst (by with_reducible assumption) ?_)
        | (refine keep_pair_snd (by with_reducible assumption) ?_)
    | split | intro _ _ _

theorem keep_sealPoint {s0 s : State} {h : Nat} {digest : List Byte} (hk : Keep s0 s) : Keep s0 (sealPoint s h digest) := by
  unfold sealPoint
  repeat' first
    | with_reducible first
        | assumption | refine keep_wr ?_ | refine keep_foldl ?_ ?_ | refine keep_foldl_fst ?_ ?_ | refine keep_foldl_snd ?_ ?_
    | split | intro _ _ _

theorem keep_cmdFinish {s0 s : State} {h : Nat} {it : Item} {ecc : List (Nat × Bool)} (hk : Keep s0 s) : Keep s0 (cmdFinish s h it ecc).1 := by
  unfold cmdFinish
  repeat' first
    | with_reducible first
        | assumption | refine keep_cmdRun ?_ | refine keep_extPoisonAt ?_ | refine keep_extStore ?_ | refine keep_holdAdd ?_ | refine keep_memError ?_
        | refine keep_readErrors ?_ | refine keep_rewritten ?_ | refine keep_sealPoint ?_ | refine keep_wr ?_ | refine keep_ite ?_ ?_
        | refine keep_ite_fst ?_ ?_ | refine keep_ite_snd ?_ ?_ | refine keep_foldl ?_ ?_ | refine keep_foldl_fst ?_ ?_ | refine keep_foldl_snd ?_ ?_
        | (refine keep_pair_fst (by with_reducible assumption) ?_) | (refine keep_pair_snd (by with_reducible assumption) ?_)
    | split | intro _ _ _

theorem keep_verifyEnd {s0 s : State} {h : Nat} {it : Item} {c : Nat × Nat} (hk : Keep s0 s) : Keep s0 (verifyEnd s h it c).1 := by
  unfold verifyEnd
  repeat' with_reducible first
    | assumption | refine keep_extStore ?_ | refine keep_fset ?_ | refine keep_ite ?_ ?_ | refine keep_ite_fst ?_ ?_

theorem keep_execFtgCommandDone {s0 : State} {h : Stack} {e : Fin 5} {ecc : List (Nat × Bool)} {s : State} (hk : Keep s0 s) : KeepOut s0 (execFtgCommandDone h e ecc s) := by
  unfold execFtgCommandDone
  repeat' first
    | with_reducible first
        | assumption | exact keepOut_refused _ | refine keepOut_next ?_ | refine keep_cmdFinish ?_ | refine keep_endItem ?_ | refine keep_putItem ?_
        | refine keep_verifyEnd ?_ | refine keep_ite ?_ ?_ | refine keepOut_ite ?_ ?_ | refine keep_ite_fst ?_ ?_ | refine keep_ite_snd ?_ ?_
        | (refine keep_pair_fst (by with_reducible assumption) ?_) | (refine keep_pair_snd (by with_reducible assumption) ?_)
    | split

/-! ### Machine/Pcie.lean -/


theorem keep_pcieDone {s0 s : State} {k st : Nat} {data : List Byte} (hk : Keep s0 s) : Keep s0 (pcieDone s k st data) := by
  unfold pcieDone
  repeat' with_reducible first | assumption | refine keep_emit ?_

theorem keep_pcieFail {s0 s : State} {k kind va asid reason detail : Nat} {pa : Nat} (hk : Keep s0 s) : Keep s0 (pcieFail s k kind va asid reason detail pa) := by
  unfold pcieFail
  repeat' with_reducible first | assumption | refine keep_note ?_ | refine keep_pcieDone ?_ | refine keep_ite ?_ ?_

theorem keep_pcieRead {s0 s : State} {l : List (Nat × Nat)} {bs : List Byte} {po : Bool} (h : Keep s0 s) : KeepTouch s0 (pcieRead s l bs po) := by
  induction l generalizing s bs po with
  | nil =>
    unfold pcieRead
    repeat' with_reducible first
      | assumption | apply ih | refine keep_pieceRead ?_ | refine keepTouch_ite ?_ ?_ | refine keepTouch_okI ?_
  | cons e es ih =>
    unfold pcieRead
    try dsimp only
    repeat' first
      | with_reducible first
          | assumption | apply ih | refine keep_pieceRead ?_ | refine keepTouch_ite ?_ ?_ | refine keepTouch_okI ?_ | refine keepTouch_badI ?_
          | (refine keepTouch_ok (by with_reducible assumption) ?_) | (refine keepTouch_bad (by with_reducible assumption) ?_) | refine keep_ite ?_ ?_
          | refine keep_ite_fst ?_ ?_
      | split

theorem keep_pcieWrite {s0 s : State} {l : List (Nat × Nat)} {bs : List Byte} (h : Keep s0 s) : Keep s0 (pcieWrite s l bs) := by
  induction l generalizing s bs with
  | nil =>
    unfold pcieWrite
    repeat' with_reducible first
      | assumption
  | cons e es ih =>
    unfold pcieWrite
    try dsimp only
    repeat' first
      | with_reducible first
          | assumption | apply ih | refine keep_recordViol ?_ | refine keep_memWriteAt ?_ | refine keep_memWrite ?_ | refine keep_touchSkt ?_
          | refine keep_ite ?_ ?_ | refine keep_ite_fst ?_ ?_
      | split

theorem keep_pcieAtom {s0 s : State} {k va asid op n pa : Nat} {data : List Byte} (hk : Keep s0 s) : Keep s0 (pcieAtom s k va asid op n pa data) := by
  unfold pcieAtom
  repeat' first
    | with_reducible first
        | assumption | refine keep_atHome ?_ | refine keep_pcieFail ?_
    | split

theorem keep_execPcieRequest {s0 : State} {k : Key} {pasid : Option (BitVec 20)} {va : BitVec 64} {kind : Fin 13} {len : Nat} {data : List Byte} {s : State} (hk : Keep s0 s) : KeepOut s0 (execPcieRequest k pasid va kind len data s) := by
  unfold execPcieRequest
  repeat' first
    | with_reducible first
        | assumption | exact keepOut_refused _ | refine keepOut_next ?_ | refine keep_pcieAtom ?_ | refine keep_pcieDone ?_ | refine keep_pcieFail ?_
        | refine keep_pcieRead ?_ | refine keep_pcieWrite ?_ | refine keep_xlatAll ?_ | refine keep_withRahead ?_
        | (refine keepTouch_ok (by with_reducible assumption) ?_) | (refine keepTouch_bad (by with_reducible assumption) ?_) | refine keep_ite ?_ ?_
        | refine keepOut_ite ?_ ?_ | refine keep_ite_fst ?_ ?_ | refine keep_ite_snd ?_ ?_
    | split

end Sys2Proof.Machine
end

