-- ==== Sys2Proof/Laws/KeepLinks.lean ====
section
/-! SUPPORT. What every operation keeps (Laws/Keep.lean), of the Bond, network, chains, checkpoint, host attachment and the idle cycle. -/

namespace Sys2Proof.Machine

/-! ### Machine/Bond.lean -/


theorem keep_setBnd {s0 s : State} {u j v : Nat} (hk : Keep s0 s) : Keep s0 (setBnd s u j v) := by
  unfold setBnd
  repeat' with_reducible first | assumption | refine keep_fset ?_ | refine keep_ite ?_ ?_

theorem keep_cutItems {s0 s : State} {u j reason detail late : Nat} (hk : Keep s0 s) : Keep s0 (cutItems s u j reason detail late) := by
  unfold cutItems
  repeat' first
    | with_reducible first
        | assumption | refine keep_endItem ?_ | refine keep_lateItems ?_ | refine keep_foldl ?_ ?_ | refine keep_foldl_fst ?_ ?_
        | refine keep_foldl_snd ?_ ?_
    | split | intro _ _ _

theorem keep_bndDown {s0 s : State} {u j detail : Nat} (hk : Keep s0 s) : Keep s0 (bndDown s u j detail) := by
  unfold bndDown
  repeat' with_reducible first
    | assumption | refine keep_cutItems ?_ | refine keep_raise ?_ | refine keep_setBnd ?_ | refine keep_setBondX ?_

theorem keep_sendTicket {s0 s : State} {u j kind epoch width good sw : Nat} (hk : Keep s0 s) : Keep s0 (sendTicket s u j kind epoch width good sw) := by
  unfold sendTicket
  repeat' with_reducible first | assumption | refine keep_emit ?_

theorem keep_propose {s0 s : State} {u j : Nat} (hk : Keep s0 s) : Keep s0 (propose s u j) := by
  unfold propose
  repeat' with_reducible first | assumption | refine keep_sendTicket ?_

theorem keep_abandon {s0 s : State} {u j e : Nat} (hk : Keep s0 s) : Keep s0 (abandon s u j e) := by
  unfold abandon
  repeat' with_reducible first
    | assumption | refine keep_bndDown ?_ | refine keep_propose ?_ | refine keep_setBondX ?_ | refine keep_ite ?_ ?_

theorem keep_notePartner {s0 s : State} {u j : Nat} {t : List Byte} (hk : Keep s0 s) : Keep s0 (notePartner s u j t) := by
  unfold notePartner
  repeat' with_reducible first | assumption | refine keep_fset ?_

theorem keep_tryHold {s0 s : State} {u j : Nat} (hk : Keep s0 s) : Keep s0 (tryHold s u j) := by
  unfold tryHold
  repeat' first
    | with_reducible first
        | assumption | refine keep_fset ?_ | refine keep_holdAdd ?_ | refine keep_setBnd ?_ | refine keep_setBondX ?_ | refine keep_wrapAdd ?_
        | refine keep_ite ?_ ?_ | refine keep_ite_fst ?_ ?_ | refine keep_ite_snd ?_ ?_
    | split | intro _ _ _ | dsimp only

theorem keep_bndLast {s0 s : State} {u j r d : Nat} (hk : Keep s0 s) : Keep s0 (bndLast s u j r d) := by
  unfold bndLast
  repeat' with_reducible first | assumption | refine keep_setRD ?_

theorem keep_execBndEnable {s0 : State} {u : Unit6} {j : Joint} {s : State} (hk : Keep s0 s) : KeepOut s0 (execBndEnable u j s) := by
  unfold execBndEnable
  repeat' first
    | with_reducible first
        | assumption | exact keepOut_refused _ | refine keepOut_next ?_ | refine keep_bndLast ?_ | refine keep_fset ?_ | refine keep_setBnd ?_
        | refine keep_viaWin ?_ ?_ | refine keep_ite ?_ ?_ | refine keepOut_ite ?_ ?_ | refine keep_ite_fst ?_ ?_ | refine keep_ite_snd ?_ ?_
    | split

theorem keep_endSession {s0 s : State} {u j : Nat} (hk : Keep s0 s) : Keep s0 (endSession s u j) := by
  unfold endSession
  repeat' with_reducible first | assumption | refine keep_setBondX ?_

theorem keep_execBndDisable {s0 : State} {u : Unit6} {j : Joint} {s : State} (hk : Keep s0 s) : KeepOut s0 (execBndDisable u j s) := by
  unfold execBndDisable
  repeat' with_reducible first
    | assumption | exact keepOut_refused _ | refine keepOut_next ?_ | refine keep_bndLast ?_ | refine keep_endSession ?_ | refine keep_fset ?_
    | refine keep_setBnd ?_ | refine keep_viaWin ?_ ?_ | refine keep_ite ?_ ?_ | refine keepOut_ite ?_ ?_

theorem keep_retrain {s0 s : State} {u j detail : Nat} (hk : Keep s0 s) : Keep s0 (retrain s u j detail) := by
  unfold retrain
  repeat' with_reducible first
    | assumption | refine keep_contain ?_ | refine keep_holdAdd ?_ | refine keep_raise ?_ | refine keep_setBnd ?_ | refine keep_setBondX ?_
    | refine keep_ite ?_ ?_

theorem keep_execBndRetrain {s0 : State} {u : Unit6} {j : Joint} {s : State} (hk : Keep s0 s) : KeepOut s0 (execBndRetrain u j s) := by
  unfold execBndRetrain
  repeat' with_reducible first
    | assumption | exact keepOut_refused _ | refine keepOut_next ?_ | refine keep_bndLast ?_ | refine keep_retrain ?_ | refine keep_viaWin ?_ ?_
    | refine keep_ite ?_ ?_ | refine keepOut_ite ?_ ?_

theorem keep_execTs0Lock {s0 : State} {u : Unit6} {j : Joint} {s : State} (hk : Keep s0 s) : KeepOut s0 (execTs0Lock u j s) := by
  unfold execTs0Lock
  repeat' with_reducible first
    | assumption | exact keepOut_refused _ | refine keepOut_next ?_ | refine keep_endSession ?_ | refine keep_retrain ?_ | refine keep_setBnd ?_
    | refine keep_setBondX ?_ | refine keep_ite ?_ ?_ | refine keepOut_ite ?_ ?_

theorem keep_execLaneTestDone {s0 : State} {u : Unit6} {j : Joint} {good : BitVec 26} {pol : BitVec 26} {s : State} (hk : Keep s0 s) : KeepOut s0 (execLaneTestDone u j good pol s) := by
  unfold execLaneTestDone
  repeat' first
    | with_reducible first
        | assumption | exact keepOut_refused _ | refine keepOut_next ?_ | refine keep_abandon ?_ | refine keep_bndDown ?_ | refine keep_fset ?_
        | refine keep_propose ?_ | refine keep_raise ?_ | refine keep_setBnd ?_ | refine keep_setBondX ?_ | refine keep_ite ?_ ?_
        | refine keepOut_ite ?_ ?_ | refine keep_ite_fst ?_ ?_ | refine keep_ite_snd ?_ ?_ | refine keep_foldl ?_ ?_ | refine keep_foldl_fst ?_ ?_
        | refine keep_foldl_snd ?_ ?_
    | split | intro _ _ _

theorem keep_execPropose {s0 : State} {u : Unit6} {j : Joint} {t : List Byte} {s : State} (hk : Keep s0 s) : KeepOut s0 (execPropose u j t s) := by
  unfold execPropose
  repeat' with_reducible first
    | assumption | exact keepOut_refused _ | refine keepOut_next ?_ | refine keep_abandon ?_ | refine keep_bndDown ?_ | refine keep_notePartner ?_
    | refine keep_sendTicket ?_ | refine keep_setBondX ?_ | refine keep_tryHold ?_ | refine keep_ite ?_ ?_ | refine keepOut_ite ?_ ?_

theorem keep_execConfirm {s0 : State} {u : Unit6} {j : Joint} {t : List Byte} {s : State} (hk : Keep s0 s) : KeepOut s0 (execConfirm u j t s) := by
  unfold execConfirm
  repeat' with_reducible first
    | assumption | exact keepOut_refused _ | refine keepOut_next ?_ | refine keep_bndDown ?_ | refine keep_notePartner ?_ | refine keep_setBondX ?_
    | refine keep_tryHold ?_ | refine keep_ite ?_ ?_ | refine keepOut_ite ?_ ?_

theorem keep_execEpochTimeout {s0 : State} {u : Unit6} {j : Joint} {s : State} (hk : Keep s0 s) : KeepOut s0 (execEpochTimeout u j s) := by
  unfold execEpochTimeout
  repeat' with_reducible first
    | assumption | exact keepOut_refused _ | refine keepOut_next ?_ | refine keep_abandon ?_ | refine keep_ite ?_ ?_

theorem keep_execWidthTicketSend {s0 : State} {u : Unit6} {j : Joint} {s : State} (hk : Keep s0 s) : KeepOut s0 (execWidthTicketSend u j s) := by
  unfold execWidthTicketSend
  repeat' first
    | with_reducible first
        | assumption | exact keepOut_refused _ | refine keepOut_next ?_ | refine keep_propose ?_ | refine keep_sendTicket ?_ | refine keep_ite ?_ ?_
        | refine keepOut_ite ?_ ?_ | refine keep_ite_fst ?_ ?_ | refine keep_ite_snd ?_ ?_
    | split

theorem keep_lostUnit {s0 s : State} {v : Nat} (hk : Keep s0 s) : Keep s0 (lostUnit s v) := by
  unfold lostUnit
  repeat' with_reducible first | assumption | refine keep_raise ?_ | refine keep_ite ?_ ?_

theorem keep_sendOn {s0 s : State} {u : Nat} {m : TxMsg} (hk : Keep s0 s) : Keep s0 (sendOn s u m) := by
  unfold sendOn
  repeat' first
    | with_reducible first
        | assumption | refine keep_emit ?_ | refine keep_setBondX ?_
    | split

theorem keep_sendAgain {s0 s : State} {u : Nat} {ms : List TxMsg} (hk : Keep s0 s) : Keep s0 (sendAgain s u ms) := by
  unfold sendAgain
  repeat' first
    | with_reducible first
        | assumption | refine keep_sendOn ?_ | refine keep_foldl ?_ ?_ | refine keep_foldl_fst ?_ ?_ | refine keep_foldl_snd ?_ ?_
    | split | intro _ _ _

theorem keep_bndAbsent {s0 s : State} {u j : Nat} (hk : Keep s0 s) : Keep s0 (bndAbsent s u j) := by
  unfold bndAbsent
  repeat' with_reducible first
    | assumption | refine keep_cutItems ?_ | refine keep_endSession ?_ | refine keep_lostUnit ?_ | refine keep_sendAgain ?_ | refine keep_setBnd ?_
    | refine keep_ite ?_ ?_

theorem keep_execPartnerSilent {s0 : State} {u : Unit6} {j : Joint} {s : State} (hk : Keep s0 s) : KeepOut s0 (execPartnerSilent u j s) := by
  unfold execPartnerSilent
  repeat' with_reducible first
    | assumption | exact keepOut_refused _ | refine keepOut_next ?_ | refine keep_bndAbsent ?_ | refine keep_ite ?_ ?_

theorem keep_execRetrainTimeout {s0 : State} {u : Unit6} {j : Joint} {s : State} (hk : Keep s0 s) : KeepOut s0 (execRetrainTimeout u j s) := by
  unfold execRetrainTimeout
  repeat' with_reducible first
    | assumption | exact keepOut_refused _ | refine keepOut_next ?_ | refine keep_bndAbsent ?_ | refine keep_ite ?_ ?_

theorem keep_execAbsentNotice {s0 : State} {u : Unit6} {dead : Unit6} {s : State} (hk : Keep s0 s) : KeepOut s0 (execAbsentNotice u dead s) := by
  unfold execAbsentNotice
  repeat' with_reducible first
    | assumption | exact keepOut_refused _ | refine keepOut_next ?_ | refine keep_lostUnit ?_ | refine keep_ite ?_ ?_

theorem keep_execRejoin {s0 : State} {d : Unit6} {s : State} (hk : Keep s0 s) : KeepOut s0 (execRejoin d s) := by
  unfold execRejoin
  repeat' with_reducible first
    | assumption | exact keepOut_refused _ | refine keepOut_next ?_ | refine keep_mgt ?_ | refine keep_withRejoins ?_ | refine keep_ite ?_ ?_
    | refine keepOut_ite ?_ ?_

theorem keep_execAdmitDie {s0 : State} {d : Unit6} {s : State} (hk : Keep s0 s) : KeepOut s0 (execAdmitDie d s) := by
  unfold execAdmitDie
  repeat' with_reducible first
    | assumption | exact keepOut_refused _ | refine keepOut_next ?_ | refine keep_agentsBack ?_ | refine keep_homesChanged ?_ | refine keep_mgt ?_
    | refine keep_note ?_ | refine keep_recount ?_ | refine keep_withAbsent ?_ | refine keep_withRejoins ?_ | refine keep_ite ?_ ?_
    | refine keepOut_ite ?_ ?_

theorem keep_narrowStart {s0 s : State} {u j g : Nat} (hk : Keep s0 s) : Keep s0 (narrowStart s u j g) := by
  unfold narrowStart
  repeat' with_reducible first
    | assumption | refine keep_fset ?_ | refine keep_retrain ?_ | refine keep_sendTicket ?_ | refine keep_setBondX ?_ | refine keep_ite ?_ ?_

theorem keep_narrowEnd {s0 s : State} {u j : Nat} (hk : Keep s0 s) : Keep s0 (narrowEnd s u j) := by
  unfold narrowEnd
  repeat' first
    | with_reducible first
        | assumption | refine keep_fset ?_ | refine keep_holdAdd ?_ | refine keep_raise ?_ | refine keep_setBondX ?_
    | split | intro _ _ _ | dsimp only

theorem keep_execNarrowPropose {s0 : State} {u : Unit6} {j : Joint} {t : List Byte} {s : State} (hk : Keep s0 s) : KeepOut s0 (execNarrowPropose u j t s) := by
  unfold execNarrowPropose
  repeat' with_reducible first
    | assumption | exact keepOut_refused _ | refine keepOut_next ?_ | refine keep_retrain ?_ | refine keep_sendTicket ?_ | refine keep_setBondX ?_
    | refine keep_ite ?_ ?_ | refine keepOut_ite ?_ ?_

theorem keep_execNarrowConfirm {s0 : State} {u : Unit6} {j : Joint} {t : List Byte} {s : State} (hk : Keep s0 s) : KeepOut s0 (execNarrowConfirm u j t s) := by
  unfold execNarrowConfirm
  repeat' first
    | with_reducible first
        | assumption | exact keepOut_refused _ | refine keepOut_next ?_ | refine keep_narrowEnd ?_ | refine keep_retrain ?_
        | refine keep_sendTicket ?_ | refine keep_setBondX ?_ | refine keep_ite ?_ ?_ | refine keepOut_ite ?_ ?_ | refine keep_ite_fst ?_ ?_
        | refine keep_ite_snd ?_ ?_
    | split | intro _ _ _ | dsimp only

theorem keep_execNarrowTimeout {s0 : State} {u : Unit6} {j : Joint} {s : State} (hk : Keep s0 s) : KeepOut s0 (execNarrowTimeout u j s) := by
  unfold execNarrowTimeout
  repeat' first
    | with_reducible first
        | assumption | exact keepOut_refused _ | refine keepOut_next ?_ | refine keep_retrain ?_ | refine keep_ite ?_ ?_ | refine keepOut_ite ?_ ?_
        | refine keep_ite_fst ?_ ?_ | refine keep_ite_snd ?_ ?_
    | split

theorem keep_countFlit {s0 s : State} {u j : Nat} {failed : Bool} (hk : Keep s0 s) : Keep s0 (countFlit s u j failed) := by
  unfold countFlit
  repeat' with_reducible first | assumption | refine keep_narrowStart ?_ | refine keep_setBondX ?_ | refine keep_ite ?_ ?_

theorem keep_rxSwitched {s0 s : State} {u j seq : Nat} (hk : Keep s0 s) : Keep s0 (rxSwitched s u j seq) := by
  unfold rxSwitched
  repeat' first
    | with_reducible first
        | assumption | refine keep_setBondX ?_ | refine keep_ite ?_ ?_ | refine keep_ite_fst ?_ ?_ | refine keep_ite_snd ?_ ?_
    | split | intro _ _ _ | dsimp only

theorem keep_takeSlotsIn {s0 s : State} {u j : Nat} {f : List Byte} (hk : Keep s0 s) : Keep s0 (takeSlotsIn s u j f) := by
  unfold takeSlotsIn
  repeat' first
    | with_reducible first
        | assumption | refine keep_sendOn ?_ | refine keep_setBondX ?_ | refine keep_ite ?_ ?_ | refine keep_ite_fst ?_ ?_ | refine keep_ite_snd ?_ ?_
        | refine keep_foldl ?_ ?_ | refine keep_foldl_fst ?_ ?_ | refine keep_foldl_snd ?_ ?_
    | split | intro _ _ _

theorem keep_flitBack {s0 s : State} {u j : Nat} {f : List Byte} (hk : Keep s0 s) : Keep s0 (flitBack s u j f) := by
  unfold flitBack
  repeat' with_reducible first
    | assumption | refine keep_emit ?_ | refine keep_setBondX ?_ | refine keep_wrapAdd ?_ | refine keep_ite ?_ ?_

theorem keep_execFlitReceive {s0 : State} {u : Unit6} {j : Joint} {f : List Byte} {low : Option (Fin 24)} {s : State} (hk : Keep s0 s) : KeepOut s0 (execFlitReceive u j f low s) := by
  unfold execFlitReceive
  repeat' first
    | with_reducible first
        | assumption | exact keepOut_refused _ | refine keepOut_next ?_ | refine keep_bndAbsent ?_ | refine keep_countFlit ?_ | refine keep_emit ?_
        | refine keep_flitBack ?_ | refine keep_holdAdd ?_ | refine keep_narrowStart ?_ | refine keep_retrain ?_ | refine keep_rxSwitched ?_
        | refine keep_setBondX ?_ | refine keep_takeSlotsIn ?_ | refine keep_ite ?_ ?_ | refine keepOut_ite ?_ ?_ | refine keep_ite_fst ?_ ?_
        | refine keep_ite_snd ?_ ?_
    | split

/-! ### Machine/Tx.lean -/


theorem keep_queueMsgs {s0 s : State} (hk : Keep s0 s) : Keep s0 (queueMsgs s) := by
  unfold queueMsgs
  repeat' first
    | with_reducible first
        | assumption | refine keep_sendOn ?_ | refine keep_withTxSeen ?_ | refine keep_ite ?_ ?_ | refine keep_ite_fst ?_ ?_
        | refine keep_ite_snd ?_ ?_ | refine keep_foldl ?_ ?_ | refine keep_foldl_fst ?_ ?_ | refine keep_foldl_snd ?_ ?_
    | split | intro _ _ _

theorem keep_flitTimes {s0 s : State} (hk : Keep s0 s) : Keep s0 (flitTimes s) := by
  unfold flitTimes
  repeat' first
    | with_reducible first
        | assumption | refine keep_flitTime ?_ | refine keep_queueMsgs ?_ | refine keep_ite ?_ ?_ | refine keep_ite_fst ?_ ?_
        | refine keep_ite_snd ?_ ?_ | refine keep_foldl ?_ ?_ | refine keep_foldl_fst ?_ ?_ | refine keep_foldl_snd ?_ ?_
    | split | intro _ _ _

/-! ### Machine/Net.lean -/


theorem keep_setFlow {s0 s : State} {c : Nat} {x : FlowX} (hk : Keep s0 s) : Keep s0 (setFlow s c x) := by
  unfold setFlow
  repeat' with_reducible first | assumption | refine keep_withFlows ?_

theorem keep_push {s0 s : State} {m : Msg} (hk : Keep s0 s) : Keep s0 (push s m) := by
  unfold push
  repeat' with_reducible first | assumption | refine keep_withSent ?_

theorem keep_sendOne {s0 s : State} {c ring seq seg kind span : Nat} {mk : Nat → Msg} (hk : Keep s0 s) : Keep s0 (sendOne s c ring seq seg kind span mk) := by
  unfold sendOne
  repeat' with_reducible first | assumption | refine keep_push ?_ | refine keep_setFlow ?_

theorem keep_sendMsg {s0 s : State} {c ring seq op va key : Nat} {bs : List Byte} (hk : Keep s0 s) : Keep s0 (sendMsg s c ring seq op va key bs) := by
  unfold sendMsg
  repeat' first
    | with_reducible first
        | assumption | refine keep_sendOne ?_ | refine keep_setFlow ?_ | refine keep_ite ?_ ?_ | refine keep_ite_fst ?_ ?_ | refine keep_ite_snd ?_ ?_
        | refine keep_foldl ?_ ?_ | refine keep_foldl_fst ?_ ?_ | refine keep_foldl_snd ?_ ?_
    | split | intro _ _ _

theorem keep_sendRead {s0 s : State} {c ring seq va key len : Nat} (hk : Keep s0 s) : Keep s0 (sendRead s c ring seq va key len) := by
  unfold sendRead
  repeat' with_reducible first | assumption | refine keep_sendOne ?_

theorem keep_sendAck {s0 s : State} {c : Nat} (hk : Keep s0 s) : Keep s0 (sendAck s c) := by
  unfold sendAck
  repeat' with_reducible first | assumption | refine keep_push ?_ | refine keep_setFlow ?_ | refine keep_ite ?_ ?_

theorem keep_sendNak {s0 s : State} {c code : Nat} (hk : Keep s0 s) : Keep s0 (sendNak s c code) := by
  unfold sendNak
  repeat' with_reducible first | assumption | refine keep_push ?_ | refine keep_ite ?_ ?_

theorem keep_resend {s0 s : State} {c : Nat} (hk : Keep s0 s) : Keep s0 (resend s c) := by
  unfold resend
  repeat' first
    | with_reducible first
        | assumption | refine keep_push ?_ | refine keep_foldl ?_ ?_ | refine keep_foldl_fst ?_ ?_ | refine keep_foldl_snd ?_ ?_
    | split | intro _ _ _

theorem keep_discard {s0 s : State} {d n : Nat} (hk : Keep s0 s) : Keep s0 (discard s d n) := by
  unfold discard
  repeat' with_reducible first | assumption | refine keep_holdAdd ?_

theorem keep_netNote {s0 s : State} {d n half reason detail : Nat} (hk : Keep s0 s) : Keep s0 (netNote s d n half reason detail) := by
  unfold netNote
  repeat' with_reducible first | assumption | refine keep_note ?_

theorem keep_ctxError {s0 s : State} {c reason detail : Nat} (hk : Keep s0 s) : Keep s0 (ctxError s c reason detail) := by
  unfold ctxError
  repeat' first
    | with_reducible first
        | assumption | refine keep_endItem ?_ | refine keep_setFlow ?_ | refine keep_withGroups ?_ | refine keep_ite ?_ ?_ | refine keep_ite_fst ?_ ?_
        | refine keep_ite_snd ?_ ?_ | refine keep_foldl ?_ ?_ | refine keep_foldl_fst ?_ ?_ | refine keep_foldl_snd ?_ ?_
    | split | intro _ _ _

theorem keep_execNetWrite {s0 : State} {d : Die} {r : Ring} {s : State} (hk : Keep s0 s) : KeepOut s0 (execNetWrite d r s) := by
  unfold execNetWrite
  repeat' with_reducible first | assumption | exact keepOut_refused _ | refine keepOut_next ?_ | refine keep_letIn ?_

theorem keep_execNetRead {s0 : State} {d : Die} {r : Ring} {s : State} (hk : Keep s0 s) : KeepOut s0 (execNetRead d r s) := by
  unfold execNetRead
  repeat' with_reducible first | assumption | exact keepOut_refused _ | refine keepOut_next ?_ | refine keep_letIn ?_

theorem keep_execNetSend {s0 : State} {d : Die} {r : Ring} {s : State} (hk : Keep s0 s) : KeepOut s0 (execNetSend d r s) := by
  unfold execNetSend
  repeat' with_reducible first | assumption | exact keepOut_refused _ | refine keepOut_next ?_ | refine keep_letIn ?_

theorem keep_execNetRecv {s0 : State} {d : Die} {r : Ring} {s : State} (hk : Keep s0 s) : KeepOut s0 (execNetRecv d r s) := by
  unfold execNetRecv
  repeat' with_reducible first | assumption | exact keepOut_refused _ | refine keepOut_next ?_ | refine keep_letIn ?_

theorem keep_execNetReg {s0 : State} {d : Die} {r : Ring} {s : State} (hk : Keep s0 s) : KeepOut s0 (execNetReg d r s) := by
  unfold execNetReg
  repeat' with_reducible first | assumption | exact keepOut_refused _ | refine keepOut_next ?_ | refine keep_letIn ?_

theorem keep_execNetDereg {s0 : State} {d : Die} {r : Ring} {s : State} (hk : Keep s0 s) : KeepOut s0 (execNetDereg d r s) := by
  unfold execNetDereg
  repeat' with_reducible first | assumption | exact keepOut_refused _ | refine keepOut_next ?_ | refine keep_letIn ?_

theorem keep_execRawTx {s0 : State} {d : Die} {r : Ring} {s : State} (hk : Keep s0 s) : KeepOut s0 (execRawTx d r s) := by
  unfold execRawTx
  repeat' with_reducible first | assumption | exact keepOut_refused _ | refine keepOut_next ?_ | refine keep_letIn ?_

theorem keep_execFlowSetOpen {s0 : State} {d : Die} {r : Ring} {s : State} (hk : Keep s0 s) : KeepOut s0 (execFlowSetOpen d r s) := by
  unfold execFlowSetOpen
  repeat' with_reducible first | assumption | exact keepOut_refused _ | refine keepOut_next ?_ | refine keep_letIn ?_

theorem keep_execFlowSetReset {s0 : State} {d : Die} {r : Ring} {s : State} (hk : Keep s0 s) : KeepOut s0 (execFlowSetReset d r s) := by
  unfold execFlowSetReset
  repeat' with_reducible first | assumption | exact keepOut_refused _ | refine keepOut_next ?_ | refine keep_letIn ?_

theorem keep_execFlowSetClose {s0 : State} {d : Die} {r : Ring} {s : State} (hk : Keep s0 s) : KeepOut s0 (execFlowSetClose d r s) := by
  unfold execFlowSetClose
  repeat' with_reducible first | assumption | exact keepOut_refused _ | refine keepOut_next ?_ | refine keep_letIn ?_

theorem keep_execNvme {s0 : State} {d : Die} {r : Ring} {s : State} (hk : Keep s0 s) : KeepOut s0 (execNvme d r s) := by
  unfold execNvme
  repeat' with_reducible first | assumption | exact keepOut_refused _ | refine keepOut_next ?_ | refine keep_letIn ?_

theorem keep_takeKey {s0 s : State} {d : Nat} (hk : Keep s0 s) : Keep s0 (takeKey s d).2 := by
  unfold takeKey
  repeat' with_reducible first | assumption | refine keep_takeFree ?_

theorem keep_withSource {s0 s : State} {it : Item} {va n : Nat} {k : State → List Byte → State} (h : Keep s0 s)
    (hk : ∀ t bs, Keep s0 t → Keep s0 (k t bs)) : Keep s0 (withSource s it va n k) := by
  have hr : KeepTouch s0 (itemRead s it va n) := keep_itemRead h
  unfold withSource
  split
  · exact keep_endItem (keepTouch_bad (by assumption) hr)
  · exact keep_ite (keep_endItem (keepTouch_ok (by assumption) hr)) (hk _ _ (keepTouch_ok (by assumption) hr))

theorem keep_nvmeStart {s0 s : State} {it : Item} (hk : Keep s0 s) : Keep s0 (nvmeStart s it) := by
  unfold nvmeStart
  repeat' with_reducible first
    | assumption | refine keep_extReg ?_ | refine keep_putItem ?_ | refine keep_sendMsg ?_ | refine keep_takeFree ?_ | refine keep_takeKey ?_
    | refine keep_withNetRegs ?_ | refine keep_ite ?_ ?_

theorem keep_netStart {s0 s : State} {it : Item} (hk : Keep s0 s) : Keep s0 (netStart s it) := by
  unfold netStart
  repeat' first
    | with_reducible first
        | assumption | refine keep_emit ?_ | refine keep_nvmeStart ?_ | refine keep_putItem ?_ | refine keep_sendMsg ?_ | refine keep_sendRead ?_
        | refine keep_withSource ?_ ?_ | refine keep_ite ?_ ?_ | refine keep_ite_fst ?_ ?_ | refine keep_ite_snd ?_ ?_
    | split | intro _ _ _

theorem keep_netRegDone {s0 s : State} {it : Item} (hk : Keep s0 s) : Keep s0 (netRegDone s it) := by
  unfold netRegDone
  repeat' with_reducible first
    | assumption | refine keep_endItem ?_ | refine keep_extWrite ?_ | refine keep_takeKey ?_ | refine keep_withNetRegs ?_

theorem keep_netDeregDone {s0 s : State} {it : Item} (hk : Keep s0 s) : Keep s0 (netDeregDone s it) := by
  unfold netDeregDone
  repeat' with_reducible first | assumption | refine keep_dropRegs ?_ | refine keep_endItem ?_

theorem keep_flowSetDone {s0 s : State} {it : Item} (hk : Keep s0 s) : Keep s0 (flowSetDone s it) := by
  unfold flowSetDone
  repeat' with_reducible first
    | assumption | refine keep_endItem ?_ | refine keep_memWrite ?_ | refine keep_setFlow ?_ | refine keep_ite ?_ ?_

theorem keep_execNetPortEnable {s0 : State} {d : Die} {n : Fin 2} {v : W32} {s : State} (hk : Keep s0 s) : KeepOut s0 (execNetPortEnable d n v s) := by
  unfold execNetPortEnable
  repeat' with_reducible first
    | assumption | exact keepOut_refused _ | refine keepOut_next ?_ | refine keep_fset ?_ | refine keep_onChk ?_ ?_ | refine keep_rwlIn ?_
    | refine keep_setRD ?_ | refine keep_viaWin ?_ ?_ | refine keep_ite ?_ ?_

theorem keep_execNetPortDisable {s0 : State} {d : Die} {n : Fin 2} {s : State} (hk : Keep s0 s) : KeepOut s0 (execNetPortDisable d n s) := by
  unfold execNetPortDisable
  repeat' with_reducible first
    | assumption | exact keepOut_refused _ | refine keepOut_next ?_ | refine keep_fset ?_ | refine keep_setRD ?_ | refine keep_viaWin ?_ ?_
    | refine keep_ite ?_ ?_ | refine keepOut_ite ?_ ?_

theorem keep_execLinkUp {s0 : State} {d : Die} {n : Fin 2} {half : Fin 2} {s : State} (hk : Keep s0 s) : KeepOut s0 (execLinkUp d n half s) := by
  unfold execLinkUp
  repeat' with_reducible first
    | assumption | exact keepOut_refused _ | refine keepOut_next ?_ | refine keep_fset ?_ | refine keep_ite ?_ ?_

theorem keep_execLinkLost {s0 : State} {d : Die} {n : Fin 2} {half : Fin 2} {s : State} (hk : Keep s0 s) : KeepOut s0 (execLinkLost d n half s) := by
  unfold execLinkLost
  repeat' with_reducible first
    | assumption | exact keepOut_refused _ | refine keepOut_next ?_ | refine keep_control ?_ | refine keep_fset ?_ | refine keep_raise ?_
    | refine keep_ite ?_ ?_ | refine keepOut_ite ?_ ?_

theorem keep_slotEnd {s0 s : State} {d : Nat} (hk : Keep s0 s) : Keep s0 (slotEnd s d) := by
  unfold slotEnd
  repeat' first
    | with_reducible first
        | assumption | refine keep_setFlow ?_ | refine keep_ite ?_ ?_ | refine keep_ite_fst ?_ ?_ | refine keep_ite_snd ?_ ?_
        | refine keep_foldl ?_ ?_ | refine keep_foldl_fst ?_ ?_ | refine keep_foldl_snd ?_ ?_
    | split | intro _ _ _

theorem keep_execCalendarSlotEnd {s0 : State} {d : Die} {s : State} (hk : Keep s0 s) : KeepOut s0 (execCalendarSlotEnd d s) := by
  unfold execCalendarSlotEnd
  repeat' with_reducible first
    | assumption | exact keepOut_refused _ | refine keepOut_next ?_ | refine keep_slotEnd ?_ | refine keep_wrW ?_ | refine keep_ite ?_ ?_
    | refine keepOut_ite ?_ ?_

/-! ### Machine/Chain.lean -/


theorem keep_putGroup {s0 s : State} {g : Group} (hk : Keep s0 s) : Keep s0 (putGroup s g) := by
  unfold putGroup
  repeat' with_reducible first | assumption | refine keep_withGroups ?_

theorem keep_closeGroup {s0 s : State} {d num : Nat} (hk : Keep s0 s) : Keep s0 (closeGroup s d num) := by
  unfold closeGroup
  repeat' with_reducible first | assumption | refine keep_withGroups ?_

theorem keep_execGroupSet {s0 : State} {d : Die} {r : Ring} {s : State} (hk : Keep s0 s) : KeepOut s0 (execGroupSet d r s) := by
  unfold execGroupSet
  repeat' with_reducible first | assumption | exact keepOut_refused _ | refine keepOut_next ?_ | refine keep_letIn ?_

theorem keep_execGroupClose {s0 : State} {d : Die} {r : Ring} {s : State} (hk : Keep s0 s) : KeepOut s0 (execGroupClose d r s) := by
  unfold execGroupClose
  repeat' with_reducible first | assumption | exact keepOut_refused _ | refine keepOut_next ?_ | refine keep_letIn ?_

theorem keep_sendNb {s0 s : State} {d v ring seq op hop seg group msg : Nat} {bs : List Byte} (hk : Keep s0 s) : Keep s0 (sendNb s d v ring seq op hop seg group msg bs) := by
  unfold sendNb
  repeat' first
    | with_reducible first
        | assumption | refine keep_emit ?_ | refine keep_sendOne ?_ | refine keep_ite ?_ ?_ | refine keep_ite_fst ?_ ?_ | refine keep_ite_snd ?_ ?_
        | refine keep_foldl ?_ ?_ | refine keep_foldl_fst ?_ ?_ | refine keep_foldl_snd ?_ ?_
    | split | intro _ _ _

theorem keep_sendHello {s0 s : State} {g : Group} (hk : Keep s0 s) : Keep s0 (sendHello s g) := by
  unfold sendHello
  repeat' first
    | with_reducible first
        | assumption | refine keep_resend ?_ | refine keep_sendNb ?_ | refine keep_ite ?_ ?_ | refine keep_ite_fst ?_ ?_ | refine keep_ite_snd ?_ ?_
        | refine keep_foldl ?_ ?_ | refine keep_foldl_fst ?_ ?_ | refine keep_foldl_snd ?_ ?_
    | split | intro _ _ _

theorem keep_groupStart {s0 s : State} {it : Item} (hk : Keep s0 s) : Keep s0 (groupStart s it) := by
  unfold groupStart
  repeat' with_reducible first | assumption | refine keep_putGroup ?_ | refine keep_putItem ?_ | refine keep_sendHello ?_

theorem keep_execHelloTimer {s0 : State} {d : Die} {g : W32} {s : State} (hk : Keep s0 s) : KeepOut s0 (execHelloTimer d g s) := by
  unfold execHelloTimer
  repeat' first
    | with_reducible first
        | assumption | exact keepOut_refused _ | refine keepOut_next ?_ | refine keep_sendHello ?_ | refine keep_ite ?_ ?_ | refine keepOut_ite ?_ ?_
        | refine keep_ite_fst ?_ ?_ | refine keep_ite_snd ?_ ?_
    | split

theorem keep_groupItemEnd {s0 s : State} {g : Group} {reason detail : Nat} (hk : Keep s0 s) : Keep s0 (groupItemEnd s g reason detail) := by
  unfold groupItemEnd
  repeat' first
    | with_reducible first
        | assumption | refine keep_endItem ?_
    | split

theorem keep_helloIn {s0 s : State} {d : Nat} {frm : Option Nat} {num : Nat} {bs : List Byte} (hk : Keep s0 s) : Keep s0 (helloIn s d frm num bs).1 := by
  unfold helloIn
  repeat' first
    | with_reducible first
        | assumption | refine keep_closeGroup ?_ | refine keep_groupItemEnd ?_ | refine keep_putGroup ?_ | refine keep_sendHello ?_
        | refine keep_ite ?_ ?_ | refine keep_ite_fst ?_ ?_ | refine keep_ite_snd ?_ ?_
    | split

theorem keep_execGroupSetBoundExpire {s0 : State} {d : Die} {r : Ring} {seq : W32} {s : State} (hk : Keep s0 s) : KeepOut s0 (execGroupSetBoundExpire d r seq s) := by
  unfold execGroupSetBoundExpire
  repeat' first
    | with_reducible first
        | assumption | exact keepOut_refused _ | refine keepOut_next ?_ | refine keep_closeGroup ?_ | refine keep_endItem ?_ | refine keep_ite ?_ ?_
        | refine keepOut_ite ?_ ?_ | refine keep_ite_fst ?_ ?_ | refine keep_ite_snd ?_ ?_
    | split

theorem keep_execChainSum {s0 : State} {d : Die} {r : Ring} {s : State} (hk : Keep s0 s) : KeepOut s0 (execChainSum d r s) := by
  unfold execChainSum
  repeat' with_reducible first | assumption | exact keepOut_refused _ | refine keepOut_next ?_ | refine keep_letIn ?_

theorem keep_execChainTopk {s0 : State} {d : Die} {r : Ring} {s : State} (hk : Keep s0 s) : KeepOut s0 (execChainTopk d r s) := by
  unfold execChainTopk
  repeat' with_reducible first | assumption | exact keepOut_refused _ | refine keepOut_next ?_ | refine keep_letIn ?_

theorem keep_execChainSign {s0 : State} {d : Die} {r : Ring} {s : State} (hk : Keep s0 s) : KeepOut s0 (execChainSign d r s) := by
  unfold execChainSign
  repeat' with_reducible first | assumption | exact keepOut_refused _ | refine keepOut_next ?_ | refine keep_letIn ?_

theorem keep_hopRun {s0 s : State} {it : Item} {sg pos : Nat} (hk : Keep s0 s) : Keep s0 (hopRun s it sg pos).1 := by
  unfold hopRun
  repeat' first
    | with_reducible first
        | assumption | refine keep_cmdRun ?_ | refine keep_holdAdd ?_ | refine keep_wr ?_ | refine keep_ite ?_ ?_ | refine keep_ite_fst ?_ ?_
        | refine keep_ite_snd ?_ ?_ | refine keep_foldl ?_ ?_ | refine keep_foldl_fst ?_ ?_ | refine keep_foldl_snd ?_ ?_
        | (refine keep_pair_fst (by with_reducible assumption) ?_) | (refine keep_pair_snd (by with_reducible assumption) ?_)
    | split | intro _ _ _

theorem keep_putChain {s0 s : State} {x : ChainX} (hk : Keep s0 s) : Keep s0 (putChain s x) := by
  unfold putChain
  repeat' with_reducible first | assumption | refine keep_withChains ?_

theorem keep_chainProgress {s0 s : State} {it : Item} {g : Group} (hk : Keep s0 s) : Keep s0 (chainProgress s it g) := by
  unfold chainProgress
  repeat' first
    | with_reducible first
        | assumption | refine keep_endItem ?_ | refine keep_ite ?_ ?_ | refine keep_ite_fst ?_ ?_ | refine keep_ite_snd ?_ ?_
    | split

theorem keep_chainHop {s0 s : State} {it : Item} {g : Group} {sg : Nat} (hk : Keep s0 s) : Keep s0 (chainHop s it g sg) := by
  unfold chainHop
  repeat' first
    | with_reducible first
        | assumption | refine keep_endItem ?_ | refine keep_hopRun ?_ | refine keep_putChain ?_ | refine keep_sendNb ?_ | refine keep_ite ?_ ?_
        | refine keep_ite_fst ?_ ?_ | refine keep_ite_snd ?_ ?_ | (refine keep_pair_fst (by with_reducible assumption) ?_)
        | (refine keep_pair_snd (by with_reducible assumption) ?_)
    | split

theorem keep_chainStart {s0 s : State} {it : Item} (hk : Keep s0 s) : Keep s0 (chainStart s it) := by
  unfold chainStart
  repeat' first
    | with_reducible first
        | assumption | refine keep_chainHop ?_ | refine keep_chainProgress ?_ | refine keep_putChain ?_ | refine keep_putItem ?_
        | refine keep_withChains ?_ | refine keep_ite ?_ ?_ | refine keep_ite_fst ?_ ?_ | refine keep_ite_snd ?_ ?_ | refine keep_foldl ?_ ?_
        | refine keep_foldl_fst ?_ ?_ | refine keep_foldl_snd ?_ ?_
    | split | intro _ _ _ | dsimp only

theorem keep_execPermute {s0 : State} {d : Die} {r : Ring} {s : State} (hk : Keep s0 s) : KeepOut s0 (execPermute d r s) := by
  unfold execPermute
  repeat' with_reducible first | assumption | exact keepOut_refused _ | refine keepOut_next ?_ | refine keep_letIn ?_

theorem keep_permGo {s0 : State} {it : Item} {g : Group} {s : State} {x : ChainX} {n : Nat} (h : Keep s0 s) : Keep s0 (permGo it g s x n) := by
  induction n generalizing s x with
  | zero =>
    unfold permGo
    repeat' with_reducible first
      | assumption | apply ih | refine keep_putChain ?_
  | succ n ih =>
    unfold permGo
    try dsimp only
    repeat' with_reducible first
      | assumption | apply ih | refine keep_putChain ?_ | refine keep_endItem ?_ | refine keep_extStore ?_ | refine keep_sendNb ?_
      | refine keep_ite ?_ ?_ | refine keep_ite_fst ?_ ?_

theorem keep_permStart {s0 s : State} {it : Item} (hk : Keep s0 s) : Keep s0 (permStart s it) := by
  unfold permStart
  repeat' first
    | with_reducible first
        | assumption | refine keep_endItem ?_ | refine keep_extStore ?_ | refine keep_permGo ?_ | refine keep_putItem ?_ | refine keep_withChains ?_
        | refine keep_ite ?_ ?_ | refine keep_ite_fst ?_ ?_ | refine keep_ite_snd ?_ ?_
    | split

theorem keep_collAcked {s0 s : State} {it : Item} (hk : Keep s0 s) : Keep s0 (collAcked s it) := by
  unfold collAcked
  repeat' first
    | with_reducible first
        | assumption | refine keep_chainProgress ?_ | refine keep_permGo ?_ | refine keep_ite ?_ ?_ | refine keep_ite_fst ?_ ?_
        | refine keep_ite_snd ?_ ?_
    | split

theorem keep_mismatch {s0 s : State} {d : Nat} {frm : Option Nat} {x : Option ChainX} (hk : Keep s0 s) : Keep s0 (mismatch s d frm x) := by
  unfold mismatch
  repeat' first
    | with_reducible first
        | assumption | refine keep_discard ?_ | refine keep_netNote ?_ | refine keep_putChain ?_ | refine keep_ite ?_ ?_ | refine keep_ite_fst ?_ ?_
        | refine keep_ite_snd ?_ ?_
    | split

theorem keep_chainIn {s0 s : State} {d : Nat} {frm : Option Nat} {op hop msg sg off num : Nat} {last : Bool} {bs : List Byte} (hk : Keep s0 s) : Keep s0 (chainIn s d frm op hop msg sg off num last bs).1 := by
  unfold chainIn
  repeat' first
    | with_reducible first
        | assumption | refine keep_chainHop ?_ | refine keep_chainProgress ?_ | refine keep_extStore ?_ | refine keep_mismatch ?_
        | refine keep_permGo ?_ | refine keep_putChain ?_ | refine keep_sendNb ?_ | refine keep_ite ?_ ?_ | refine keep_ite_fst ?_ ?_
        | refine keep_ite_snd ?_ ?_
    | split | intro _ _ _ | dsimp only

theorem keep_execChainBoundExpire {s0 : State} {d : Die} {r : Ring} {seq : W32} {s : State} (hk : Keep s0 s) : KeepOut s0 (execChainBoundExpire d r seq s) := by
  unfold execChainBoundExpire
  repeat' first
    | with_reducible first
        | assumption | exact keepOut_refused _ | refine keepOut_next ?_ | refine keep_endItem ?_ | refine keep_ite ?_ ?_ | refine keepOut_ite ?_ ?_
        | refine keep_ite_fst ?_ ?_ | refine keep_ite_snd ?_ ?_
    | split

theorem keep_execPlnStageWrite {s0 : State} {d : Die} {i : Fin 16} {v : W32} {s : State} (hk : Keep s0 s) : KeepOut s0 (execPlnStageWrite d i v s) := by
  unfold execPlnStageWrite
  repeat' with_reducible first
    | assumption | exact keepOut_refused _ | refine keepOut_next ?_ | refine keep_emit ?_ | refine keep_viaWin ?_ ?_ | refine keep_wr ?_
    | refine keep_ite ?_ ?_

theorem keep_execIdleClear {s0 : State} {d : Die} {row : Fin 17} {s : State} (hk : Keep s0 s) : KeepOut s0 (execIdleClear d row s) := by
  unfold execIdleClear
  repeat' first
    | with_reducible first
        | assumption | exact keepOut_refused _ | refine keepOut_next ?_ | refine keep_viaWin ?_ ?_ | refine keep_wrW ?_ | refine keep_foldl ?_ ?_
        | refine keep_foldl_fst ?_ ?_ | refine keep_foldl_snd ?_ ?_
    | split | intro _ _ _

/-! ### Machine/Ckp.lean -/


theorem keep_foldBed {s0 : State} {β : Type} {f : BedAcc → β → BedAcc} {l : List β} {a : BedAcc} (h : Keep s0 a.s)
    (hf : ∀ t x, Keep s0 t.s → Keep s0 (f t x).s) : Keep s0 (l.foldl f a).s := by
  induction l generalizing a with
  | nil => exact h
  | cons b l ih => exact ih (hf _ _ h)

theorem keep_execPoint {s0 : State} {d : Die} {r : Ring} {s : State} (hk : Keep s0 s) : KeepOut s0 (execPoint d r s) := by
  unfold execPoint
  repeat' with_reducible first | assumption | exact keepOut_refused _ | refine keepOut_next ?_ | refine keep_letIn ?_

theorem keep_pointWrite {s0 s : State} {it : Item} {k : Nat} (hk : Keep s0 s) : Keep s0 (pointWrite s it k) := by
  unfold pointWrite
  repeat' first
    | with_reducible first
        | assumption | refine keep_cleanExt ?_ | refine keep_sendMsg ?_ | refine keep_withSource ?_ ?_ | refine keep_ite ?_ ?_
        | refine keep_ite_fst ?_ ?_ | refine keep_ite_snd ?_ ?_
    | split | intro _ _ _

theorem keep_pointStart {s0 s : State} {it : Item} (hk : Keep s0 s) : Keep s0 (pointStart s it) := by
  unfold pointStart
  repeat' with_reducible first
    | assumption | refine keep_cleanExt ?_ | refine keep_pointWrite ?_ | refine keep_putItem ?_ | refine keep_ite ?_ ?_

theorem keep_pointAcked {s0 s : State} {it : Item} (hk : Keep s0 s) : Keep s0 (pointAcked s it) := by
  unfold pointAcked
  repeat' first
    | with_reducible first
        | assumption | refine keep_cleanExt ?_ | refine keep_endItem ?_ | refine keep_pointWrite ?_ | refine keep_putItem ?_ | refine keep_wrW ?_
        | refine keep_ite ?_ ?_ | refine keep_ite_fst ?_ ?_ | refine keep_ite_snd ?_ ?_ | refine keep_foldl ?_ ?_ | refine keep_foldl_fst ?_ ?_
        | refine keep_foldl_snd ?_ ?_
    | split | intro _ _ _

theorem keep_execBed {s0 : State} {d : Die} {r : Ring} {s : State} (hk : Keep s0 s) : KeepOut s0 (execBed d r s) := by
  unfold execBed
  repeat' with_reducible first | assumption | exact keepOut_refused _ | refine keepOut_next ?_ | refine keep_letIn ?_

theorem keep_execUnbed {s0 : State} {d : Die} {r : Ring} {s : State} (hk : Keep s0 s) : KeepOut s0 (execUnbed d r s) := by
  unfold execUnbed
  repeat' with_reducible first | assumption | exact keepOut_refused _ | refine keepOut_next ?_ | refine keep_letIn ?_

theorem keep_bedPage {s0 : State} {it : Item} {x : BedAcc} {i : Nat} (hk : Keep s0 x.s) : Keep s0 (bedPage it x i).s := by
  unfold bedPage
  dsimp only
  repeat' first
    | with_reducible first
        | assumption | refine keep_itemRead ?_ | refine keep_itemWrite ?_ | refine keep_cleanExt ?_ | refine keepTouch_ite ?_ ?_
        | refine keepTouch_okI ?_ | refine keepTouch_badI ?_ | (refine keepTouch_ok (by with_reducible assumption) ?_)
        | (refine keepTouch_bad (by with_reducible assumption) ?_)
    | split

theorem keep_bedDone {s0 s : State} {it : Item} (hk : Keep s0 s) : Keep s0 (bedDone s it) := by
  unfold bedDone
  repeat' first
    | with_reducible first
        | assumption | refine keep_bedPage ?_ | refine keep_cleanExt ?_ | refine keep_endItem ?_ | refine keep_extWrite ?_
        | refine keep_foldBed ?_ (fun _ _ ht => keep_bedPage ht) | refine keep_ite ?_ ?_ | refine keep_ite_fst ?_ ?_ | refine keep_ite_snd ?_ ?_
        | refine keep_foldl ?_ ?_ | refine keep_foldl_fst ?_ ?_ | refine keep_foldl_snd ?_ ?_
    | split | intro _ _ _ | dsimp only

theorem keep_unbedPage {s0 : State} {it : Item} {x : BedAcc} {i : Nat} (hk : Keep s0 x.s) : Keep s0 (unbedPage it x i).s := by
  unfold unbedPage
  dsimp only
  repeat' first
    | with_reducible first
        | assumption | refine keep_itemRead ?_ | refine keep_itemWrite ?_ | refine keep_cleanExt ?_ | refine keepTouch_ite ?_ ?_
        | refine keepTouch_okI ?_ | refine keepTouch_badI ?_ | (refine keepTouch_ok (by with_reducible assumption) ?_)
        | (refine keepTouch_bad (by with_reducible assumption) ?_)
    | split

theorem keep_unbedDone {s0 s : State} {it : Item} (hk : Keep s0 s) : Keep s0 (unbedDone s it) := by
  unfold unbedDone
  repeat' first
    | with_reducible first
        | assumption | refine keep_endItem ?_ | refine keep_extWrite ?_ | refine keep_unbedPage ?_
        | refine keep_foldBed ?_ (fun _ _ ht => keep_unbedPage ht) | refine keep_foldl ?_ ?_ | refine keep_foldl_fst ?_ ?_
        | refine keep_foldl_snd ?_ ?_
    | split | intro _ _ _ | dsimp only

theorem keep_execVerify {s0 : State} {d : Die} {r : Ring} {s : State} (hk : Keep s0 s) : KeepOut s0 (execVerify d r s) := by
  unfold execVerify
  repeat' with_reducible first | assumption | exact keepOut_refused _ | refine keepOut_next ?_ | refine keep_letIn ?_

theorem keep_execAdopt {s0 : State} {d : Die} {r : Ring} {s : State} (hk : Keep s0 s) : KeepOut s0 (execAdopt d r s) := by
  unfold execAdopt
  repeat' with_reducible first | assumption | exact keepOut_refused _ | refine keepOut_next ?_ | refine keep_letIn ?_

theorem keep_adoptDone {s0 s : State} {it : Item} (hk : Keep s0 s) : Keep s0 (adoptDone s it) := by
  unfold adoptDone
  repeat' first
    | with_reducible first
        | assumption | refine keep_endItem ?_ | refine keep_fset ?_ | refine keep_spareReg ?_ | refine keep_wr ?_ | refine keep_foldl ?_ ?_
        | refine keep_foldl_fst ?_ ?_ | refine keep_foldl_snd ?_ ?_
    | split | intro _ _ _

theorem keep_execCkpEnable {s0 : State} {d : Die} {v : W32} {s : State} (hk : Keep s0 s) : KeepOut s0 (execCkpEnable d v s) := by
  unfold execCkpEnable
  repeat' with_reducible first
    | assumption | exact keepOut_refused _ | refine keepOut_next ?_ | refine keep_finishEnable ?_ | refine keep_fset ?_ | refine keep_rwlIn ?_
    | refine keep_setRD ?_ | refine keep_spareReg ?_ | refine keep_viaWin ?_ ?_ | refine keep_ite ?_ ?_ | refine keepOut_ite ?_ ?_

theorem keep_execCkpDisable {s0 : State} {d : Die} {s : State} (hk : Keep s0 s) : KeepOut s0 (execCkpDisable d s) := by
  unfold execCkpDisable
  repeat' with_reducible first
    | assumption | exact keepOut_refused _ | refine keepOut_next ?_ | refine keep_fset ?_ | refine keep_setRD ?_ | refine keep_viaWin ?_ ?_
    | refine keep_ite ?_ ?_

/-! ### Machine/NetIn.lean -/


theorem keep_ctxProgress {s0 s : State} {c : Nat} (hk : Keep s0 s) : Keep s0 (ctxProgress s c) := by
  unfold ctxProgress
  repeat' first
    | with_reducible first
        | assumption | refine keep_collAcked ?_ | refine keep_endItem ?_ | refine keep_pointAcked ?_ | refine keep_ite ?_ ?_
        | refine keep_ite_fst ?_ ?_ | refine keep_ite_snd ?_ ?_ | refine keep_foldl ?_ ?_ | refine keep_foldl_fst ?_ ?_ | refine keep_foldl_snd ?_ ?_
    | split | intro _ _ _

theorem keep_retire {s0 s : State} {c psn : Nat} (hk : Keep s0 s) : Keep s0 (retire s c psn) := by
  unfold retire
  repeat' first
    | with_reducible first
        | assumption | refine keep_setFlow ?_ | refine keep_ite ?_ ?_ | refine keep_ite_fst ?_ ?_ | refine keep_ite_snd ?_ ?_
    | split | intro _ _ _ | dsimp only

theorem keep_acked {s0 s : State} {c psn : Nat} (hk : Keep s0 s) : Keep s0 (acked s c psn) := by
  unfold acked
  repeat' with_reducible first | assumption | refine keep_ctxProgress ?_ | refine keep_retire ?_

theorem keep_retry {s0 s : State} {c : Nat} {rnr : Bool} {detail : Nat} (hk : Keep s0 s) : Keep s0 (retry s c rnr detail) := by
  unfold retry
  repeat' with_reducible first
    | assumption | refine keep_ctxError ?_ | refine keep_resend ?_ | refine keep_setFlow ?_ | refine keep_ite ?_ ?_

theorem keep_execRoceAck {s0 : State} {d : Die} {ctx : Fin 262144} {psn : BitVec 24} {s : State} (hk : Keep s0 s) : KeepOut s0 (execRoceAck d ctx psn s) := by
  unfold execRoceAck
  repeat' with_reducible first
    | assumption | exact keepOut_refused _ | refine keepOut_next ?_ | refine keep_acked ?_ | refine keep_ite ?_ ?_

theorem keep_execRoceNak {s0 : State} {d : Die} {ctx : Fin 262144} {psn : BitVec 24} {code : Fin 4} {s : State} (hk : Keep s0 s) : KeepOut s0 (execRoceNak d ctx psn code s) := by
  unfold execRoceNak
  repeat' with_reducible first
    | assumption | exact keepOut_refused _ | refine keepOut_next ?_ | refine keep_acked ?_ | refine keep_ctxError ?_ | refine keep_retry ?_
    | refine keep_ite ?_ ?_ | refine keepOut_ite ?_ ?_

theorem keep_notify {s0 s : State} {c : Nat} (hk : Keep s0 s) : Keep s0 (notify s c) := by
  unfold notify
  repeat' with_reducible first | assumption | refine keep_setFlow ?_

theorem keep_execCnp {s0 : State} {d : Die} {ctx : Fin 262144} {s : State} (hk : Keep s0 s) : KeepOut s0 (execCnp d ctx s) := by
  unfold execCnp
  repeat' with_reducible first
    | assumption | exact keepOut_refused _ | refine keepOut_next ?_ | refine keep_notify ?_ | refine keep_ite ?_ ?_

theorem keep_execPollekAck {s0 : State} {d : Die} {ctx : Fin 262144} {psn : BitVec 32} {ece : Bool} {s : State} (hk : Keep s0 s) : KeepOut s0 (execPollekAck d ctx psn ece s) := by
  unfold execPollekAck
  repeat' with_reducible first
    | assumption | exact keepOut_refused _ | refine keepOut_next ?_ | refine keep_acked ?_ | refine keep_notify ?_ | refine keep_ite ?_ ?_
    | refine keepOut_ite ?_ ?_

theorem keep_execPollekNak {s0 : State} {d : Die} {ctx : Fin 262144} {psn : BitVec 32} {s : State} (hk : Keep s0 s) : KeepOut s0 (execPollekNak d ctx psn s) := by
  unfold execPollekNak
  repeat' with_reducible first
    | assumption | exact keepOut_refused _ | refine keepOut_next ?_ | refine keep_acked ?_ | refine keep_retry ?_ | refine keep_ite ?_ ?_
    | refine keepOut_ite ?_ ?_

theorem keep_execRtoExpire {s0 : State} {d : Die} {ctx : Fin 262144} {s : State} (hk : Keep s0 s) : KeepOut s0 (execRtoExpire d ctx s) := by
  unfold execRtoExpire
  repeat' with_reducible first
    | assumption | exact keepOut_refused _ | refine keepOut_next ?_ | refine keep_retry ?_ | refine keep_ite ?_ ?_

theorem keep_execAckTimer {s0 : State} {d : Die} {ctx : Fin 262144} {s : State} (hk : Keep s0 s) : KeepOut s0 (execAckTimer d ctx s) := by
  unfold execAckTimer
  repeat' with_reducible first
    | assumption | exact keepOut_refused _ | refine keepOut_next ?_ | refine keep_sendAck ?_ | refine keep_ite ?_ ?_

theorem keep_execNetBoundExpire {s0 : State} {d : Die} {r : Ring} {seq : W32} {s : State} (hk : Keep s0 s) : KeepOut s0 (execNetBoundExpire d r seq s) := by
  unfold execNetBoundExpire
  repeat' first
    | with_reducible first
        | assumption | exact keepOut_refused _ | refine keepOut_next ?_ | refine keep_ctxError ?_ | refine keep_endItem ?_ | refine keep_ite ?_ ?_
        | refine keepOut_ite ?_ ?_ | refine keep_ite_fst ?_ ?_ | refine keep_ite_snd ?_ ?_
    | split

theorem keep_took {s0 s : State} {c span : Nat} {last : Bool} (hk : Keep s0 s) : Keep s0 (took s c span last) := by
  unfold took
  repeat' with_reducible first | assumption | refine keep_sendAck ?_ | refine keep_setFlow ?_ | refine keep_ite ?_ ?_

theorem keep_marked {s0 s : State} {c : Nat} {ce : Bool} (hk : Keep s0 s) : Keep s0 (marked s c ce) := by
  unfold marked
  repeat' with_reducible first | assumption | refine keep_push ?_ | refine keep_setFlow ?_ | refine keep_ite ?_ ?_

theorem keep_invalidReq {s0 s : State} {c : Nat} (hk : Keep s0 s) : Keep s0 (invalidReq s c) := by
  unfold invalidReq
  repeat' with_reducible first | assumption | refine keep_netNote ?_ | refine keep_sendNak ?_

theorem keep_badKey {s0 s : State} {c : Nat} (hk : Keep s0 s) : Keep s0 (badKey s c) := by
  unfold badKey
  repeat' with_reducible first
    | assumption | refine keep_discard ?_ | refine keep_netNote ?_ | refine keep_sendNak ?_ | refine keep_ite ?_ ?_

theorem keep_netPut {s0 s : State} {g : NetReg} {va : Nat} {bs : List Byte} (hk : Keep s0 s) : Keep s0 (netPut s g va bs) := by
  unfold netPut
  repeat' first
    | with_reducible first
        | assumption | refine keep_devWrite ?_ | refine keep_ite ?_ ?_ | refine keep_ite_fst ?_ ?_ | refine keep_ite_snd ?_ ?_
        | refine keep_foldl ?_ ?_ | refine keep_foldl_fst ?_ ?_ | refine keep_foldl_snd ?_ ?_
        | (refine keep_pair_fst (by with_reducible assumption) ?_) | (refine keep_pair_snd (by with_reducible assumption) ?_)
    | split | intro _ _ _

theorem keep_recvDone {s0 s : State} {it : Item} {n : Nat} (hk : Keep s0 s) : Keep s0 (recvDone s it n) := by
  unfold recvDone
  repeat' with_reducible first | assumption | refine keep_endItem ?_ | refine keep_extWrite ?_

theorem keep_sendIn {s0 s : State} {c : Nat} {first last : Bool} {bs : List Byte} (hk : Keep s0 s) : Keep s0 (sendIn s c first last bs) := by
  unfold sendIn
  repeat' first
    | with_reducible first
        | assumption | refine keep_discard ?_ | refine keep_extWrite ?_ | refine keep_invalidReq ?_ | refine keep_recvDone ?_ | refine keep_sendNak ?_
        | refine keep_setFlow ?_ | refine keep_took ?_ | refine keep_ite ?_ ?_ | refine keep_ite_fst ?_ ?_ | refine keep_ite_snd ?_ ?_
    | split

theorem keep_writeIn {s0 s : State} {c : Nat} {first last : Bool} {va key len : Nat} {bs : List Byte} (hk : Keep s0 s) : Keep s0 (writeIn s c first last va key len bs) := by
  unfold writeIn
  repeat' first
    | with_reducible first
        | assumption | refine keep_badKey ?_ | refine keep_invalidReq ?_ | refine keep_netPut ?_ | refine keep_setFlow ?_ | refine keep_took ?_
        | refine keep_ite ?_ ?_ | refine keep_ite_fst ?_ ?_ | refine keep_ite_snd ?_ ?_
    | split

theorem keep_roceOrder {s0 s : State} {c psn : Nat} {ce : Bool} {k : State → State} (h : Keep s0 s)
    (hk : ∀ t, Keep s0 t → Keep s0 (k t)) : Keep s0 (roceOrder s c psn ce k) := by
  unfold roceOrder
  exact keep_ite (hk _ (keep_marked h)) (keep_ite (keep_sendAck (keep_marked h)) (keep_sendNak (keep_marked h)))

theorem keep_roceSendIn {s0 s : State} {c psn : Nat} {ce : Bool} {seg : Nat} {bs : List Byte} (hk : Keep s0 s) : Keep s0 (roceSendIn s c psn ce seg bs) := by
  unfold roceSendIn
  repeat' first
    | with_reducible first
        | assumption | refine keep_invalidReq ?_ | refine keep_roceOrder ?_ ?_ | refine keep_sendIn ?_ | refine keep_setFlow ?_
        | refine keep_ite ?_ ?_ | refine keep_ite_fst ?_ ?_ | refine keep_ite_snd ?_ ?_
    | split | intro _ _ _ | dsimp only | intro _ _

theorem keep_roceWriteIn {s0 s : State} {c psn : Nat} {ce : Bool} {seg va key len : Nat} {bs : List Byte} (hk : Keep s0 s) : Keep s0 (roceWriteIn s c psn ce seg va key len bs) := by
  unfold roceWriteIn
  repeat' first
    | with_reducible first
        | assumption | refine keep_invalidReq ?_ | refine keep_roceOrder ?_ ?_ | refine keep_writeIn ?_ | refine keep_ite ?_ ?_
        | refine keep_ite_fst ?_ ?_ | refine keep_ite_snd ?_ ?_
    | split | intro _ _ _ | dsimp only | intro _ _

theorem keep_roceReadIn {s0 s : State} {c psn : Nat} {ce : Bool} {va key len : Nat} (hk : Keep s0 s) : Keep s0 (roceReadIn s c psn ce va key len) := by
  unfold roceReadIn
  repeat' first
    | with_reducible first
        | assumption | refine keep_badKey ?_ | refine keep_invalidReq ?_ | refine keep_marked ?_ | refine keep_push ?_ | refine keep_sendNak ?_
        | refine keep_setFlow ?_ | refine keep_withRahead ?_ | refine keep_ite ?_ ?_ | refine keep_ite_fst ?_ ?_ | refine keep_ite_snd ?_ ?_
        | refine keep_foldl ?_ ?_ | refine keep_foldl_fst ?_ ?_ | refine keep_foldl_snd ?_ ?_
    | split | intro _ _ _

theorem keep_roceRespIn {s0 s : State} {c psn : Nat} {bs : List Byte} (hk : Keep s0 s) : Keep s0 (roceRespIn s c psn bs) := by
  unfold roceRespIn
  repeat' first
    | with_reducible first
        | assumption | refine keep_ctxError ?_ | refine keep_ctxProgress ?_ | refine keep_extWrite ?_ | refine keep_setFlow ?_ | refine keep_ite ?_ ?_
        | refine keep_ite_fst ?_ ?_ | refine keep_ite_snd ?_ ?_
    | split | intro _ _ _ | dsimp only

theorem keep_groupIn {s0 s : State} {d : Nat} {frm : Option Nat} {h : PHdr} (hk : Keep s0 s) : Keep s0 (groupIn s d frm h).1 := by
  unfold groupIn
  repeat' with_reducible first
    | assumption | refine keep_chainIn ?_ | refine keep_helloIn ?_ | refine keep_mismatch ?_ | refine keep_ite ?_ ?_ | refine keep_ite_fst ?_ ?_

theorem keep_pollekIn {s0 s : State} {c : Nat} {ce : Bool} {pkt : List Byte} (hk : Keep s0 s) : Keep s0 (pollekIn s c ce pkt) := by
  unfold pollekIn
  repeat' first
    | with_reducible first
        | assumption | refine keep_discard ?_ | refine keep_groupIn ?_ | refine keep_invalidReq ?_ | refine keep_marked ?_ | refine keep_sendAck ?_
        | refine keep_sendIn ?_ | refine keep_sendNak ?_ | refine keep_setFlow ?_ | refine keep_took ?_ | refine keep_writeIn ?_
        | refine keep_ite ?_ ?_ | refine keep_ite_fst ?_ ?_ | refine keep_ite_snd ?_ ?_ | (refine keep_pair_fst (by with_reducible assumption) ?_)
        | (refine keep_pair_snd (by with_reducible assumption) ?_)
    | split

theorem keep_inNow {s0 s : State} {i : Instr} (h : Keep s0 s) : Keep s0 (inNow s i) := by
  cases i <;> unfold inNow <;> (try dsimp only)
  all_goals repeat' with_reducible first
    | assumption | refine keep_roceSendIn ?_ | refine keep_roceWriteIn ?_ | refine keep_roceReadIn ?_ | refine keep_roceRespIn ?_
    | refine keep_marked ?_ | refine keep_pollekIn ?_ | refine keep_ite ?_ ?_

theorem keep_inbound {s0 s : State} {d c : Nat} {pollek held : Bool} {cmd : Instr} (hk : Keep s0 s) : Keep s0 (inbound s d c pollek held cmd) := by
  unfold inbound
  repeat' with_reducible first
    | assumption | refine keep_discard ?_ | refine keep_holdAdd ?_ | refine keep_inNow ?_ | refine keep_withRxbuf ?_ | refine keep_ite ?_ ?_

theorem keep_execRxReserveAdmit {s0 : State} {d : Die} {n : Fin 2} {s : State} (hk : Keep s0 s) : KeepOut s0 (execRxReserveAdmit d n s) := by
  unfold execRxReserveAdmit
  repeat' first
    | with_reducible first
        | assumption | exact keepOut_refused _ | refine keepOut_next ?_ | refine keep_inNow ?_ | refine keep_withRxbuf ?_
    | split

theorem keep_execRoceSend {s0 : State} {d : Die} {ctx : Fin 262144} {psn : BitVec 24} {ce : Bool} {seg : Fin 4} {held : Bool} {data : List Byte} {s : State} (hk : Keep s0 s) : KeepOut s0 (execRoceSend d ctx psn ce seg held data s) := by
  unfold execRoceSend
  repeat' with_reducible first | assumption | exact keepOut_refused _ | refine keepOut_next ?_ | refine keep_inbound ?_

theorem keep_execRoceWrite {s0 : State} {d : Die} {ctx : Fin 262144} {psn : BitVec 24} {ce : Bool} {seg : Fin 4} {held : Bool} {va : BitVec 64} {key : BitVec 32} {len : BitVec 32} {data : List Byte} {s : State} (hk : Keep s0 s) : KeepOut s0 (execRoceWrite d ctx psn ce seg held va key len data s) := by
  unfold execRoceWrite
  repeat' with_reducible first | assumption | exact keepOut_refused _ | refine keepOut_next ?_ | refine keep_inbound ?_

theorem keep_execRoceReadRequest {s0 : State} {d : Die} {ctx : Fin 262144} {psn : BitVec 24} {ce : Bool} {held : Bool} {va : BitVec 64} {key : BitVec 32} {len : BitVec 32} {s : State} (hk : Keep s0 s) : KeepOut s0 (execRoceReadRequest d ctx psn ce held va key len s) := by
  unfold execRoceReadRequest
  repeat' with_reducible first | assumption | exact keepOut_refused _ | refine keepOut_next ?_ | refine keep_inbound ?_

theorem keep_execRoceReadResponse {s0 : State} {d : Die} {ctx : Fin 262144} {psn : BitVec 24} {ce : Bool} {seg : Fin 4} {held : Bool} {data : List Byte} {s : State} (hk : Keep s0 s) : KeepOut s0 (execRoceReadResponse d ctx psn ce seg held data s) := by
  unfold execRoceReadResponse
  repeat' with_reducible first | assumption | exact keepOut_refused _ | refine keepOut_next ?_ | refine keep_inbound ?_

theorem keep_execPollekData {s0 : State} {d : Die} {ctx : Fin 262144} {ce : Bool} {held : Bool} {pkt : List Byte} {s : State} (hk : Keep s0 s) : KeepOut s0 (execPollekData d ctx ce held pkt s) := by
  unfold execPollekData
  repeat' with_reducible first | assumption | exact keepOut_refused _ | refine keepOut_next ?_ | refine keep_inbound ?_

theorem keep_collIn {s0 s : State} {d : Nat} {ctx : Option (Fin 262144)} {ce : Bool} {pkt : List Byte} (hk : Keep s0 s) : Keep s0 (collIn s d ctx ce pkt) := by
  unfold collIn
  repeat' first
    | with_reducible first
        | assumption | refine keep_discard ?_ | refine keep_groupIn ?_ | refine keep_pollekIn ?_ | refine keep_ite ?_ ?_ | refine keep_ite_fst ?_ ?_
        | refine keep_ite_snd ?_ ?_ | (refine keep_pair_fst (by with_reducible assumption) ?_)
        | (refine keep_pair_snd (by with_reducible assumption) ?_)
    | split

theorem keep_execHello {s0 : State} {d : Die} {ctx : Option (Fin 262144)} {ce : Bool} {pkt : List Byte} {s : State} (hk : Keep s0 s) : KeepOut s0 (execHello d ctx ce pkt s) := by
  unfold execHello
  repeat' with_reducible first | assumption | exact keepOut_refused _ | refine keepOut_next ?_ | refine keep_collIn ?_

theorem keep_execRedSum {s0 : State} {d : Die} {ctx : Option (Fin 262144)} {ce : Bool} {pkt : List Byte} {s : State} (hk : Keep s0 s) : KeepOut s0 (execRedSum d ctx ce pkt s) := by
  unfold execRedSum
  repeat' with_reducible first | assumption | exact keepOut_refused _ | refine keepOut_next ?_ | refine keep_collIn ?_

theorem keep_execRedTopk {s0 : State} {d : Die} {ctx : Option (Fin 262144)} {ce : Bool} {pkt : List Byte} {s : State} (hk : Keep s0 s) : KeepOut s0 (execRedTopk d ctx ce pkt s) := by
  unfold execRedTopk
  repeat' with_reducible first | assumption | exact keepOut_refused _ | refine keepOut_next ?_ | refine keep_collIn ?_

theorem keep_execRedSign {s0 : State} {d : Die} {ctx : Option (Fin 262144)} {ce : Bool} {pkt : List Byte} {s : State} (hk : Keep s0 s) : KeepOut s0 (execRedSign d ctx ce pkt s) := by
  unfold execRedSign
  repeat' with_reducible first | assumption | exact keepOut_refused _ | refine keepOut_next ?_ | refine keep_collIn ?_

theorem keep_execGather {s0 : State} {d : Die} {ctx : Option (Fin 262144)} {ce : Bool} {pkt : List Byte} {s : State} (hk : Keep s0 s) : KeepOut s0 (execGather d ctx ce pkt s) := by
  unfold execGather
  repeat' with_reducible first | assumption | exact keepOut_refused _ | refine keepOut_next ?_ | refine keep_collIn ?_

theorem keep_execPerm {s0 : State} {d : Die} {ctx : Option (Fin 262144)} {ce : Bool} {pkt : List Byte} {s : State} (hk : Keep s0 s) : KeepOut s0 (execPerm d ctx ce pkt s) := by
  unfold execPerm
  repeat' with_reducible first | assumption | exact keepOut_refused _ | refine keepOut_next ?_ | refine keep_collIn ?_

theorem keep_execNvmeResponse {s0 : State} {d : Die} {ctx : Fin 262144} {data : List Byte} {s : State} (hk : Keep s0 s) : KeepOut s0 (execNvmeResponse d ctx data s) := by
  unfold execNvmeResponse
  repeat' first
    | with_reducible first
        | assumption | exact keepOut_refused _ | refine keepOut_next ?_ | refine keep_endItem ?_ | refine keep_extWrite ?_ | refine keep_setFlow ?_
        | refine keep_took ?_ | refine keep_ite ?_ ?_ | refine keepOut_ite ?_ ?_ | refine keep_ite_fst ?_ ?_ | refine keep_ite_snd ?_ ?_
    | split

theorem keep_execExceptionFrame {s0 : State} {d : Die} {n : Fin 2} {data : List Byte} {s : State} (hk : Keep s0 s) : KeepOut s0 (execExceptionFrame d n data s) := by
  unfold execExceptionFrame
  repeat' first
    | with_reducible first
        | assumption | exact keepOut_refused _ | refine keepOut_next ?_ | refine keep_takeFree ?_ | refine keep_discard ?_ | refine keep_extWrite ?_ | refine keep_recvDone ?_
        | refine keep_ite ?_ ?_ | refine keepOut_ite ?_ ?_ | refine keep_ite_fst ?_ ?_ | refine keep_ite_snd ?_ ?_
    | split | intro _ _ _ | dsimp only

/-! ### Machine/Attach.lean -/


theorem keep_execWdogCtrlWrite {s0 : State} {k : Key} {v : W32} {s : State} (hk : Keep s0 s) : KeepOut s0 (execWdogCtrlWrite k v s) := by
  unfold execWdogCtrlWrite
  repeat' with_reducible first
    | assumption | exact keepOut_refused _ | refine keepOut_next ?_ | refine keep_fset ?_ | refine keep_viaWin ?_ ?_ | refine keep_withWdog ?_
    | refine keep_ite ?_ ?_ | refine keepOut_ite ?_ ?_

theorem keep_execWdogKick {s0 : State} {k : Key} {s : State} (hk : Keep s0 s) : KeepOut s0 (execWdogKick k s) := by
  unfold execWdogKick
  repeat' with_reducible first
    | assumption | exact keepOut_refused _ | refine keepOut_next ?_ | refine keep_viaWin ?_ ?_ | refine keep_withWdog ?_

theorem keep_execWdogExpire {s0 : State} {k : Key} {s : State} (hk : Keep s0 s) : KeepOut s0 (execWdogExpire k s) := by
  unfold execWdogExpire
  repeat' with_reducible first
    | assumption | exact keepOut_refused _ | refine keepOut_next ?_ | refine keep_fset ?_ | refine keep_note ?_ | refine keep_withResetQ ?_
    | refine keep_withWdog ?_ | refine keep_ite ?_ ?_ | refine keepOut_ite ?_ ?_

theorem keep_markAttach {s0 s : State} {d : Nat} (hk : Keep s0 s) : Keep s0 (markAttach s d) := by
  unfold markAttach
  repeat' with_reducible first | assumption | refine keep_withHostx ?_

theorem keep_execAttachEnable {s0 : State} {d : Die} {s : State} (hk : Keep s0 s) : KeepOut s0 (execAttachEnable d s) := by
  unfold execAttachEnable
  repeat' with_reducible first
    | assumption | exact keepOut_refused _ | refine keepOut_next ?_ | refine keep_finishEnable ?_ | refine keep_markAttach ?_
    | refine keep_viaWin ?_ ?_

theorem keep_execAttachRecordRewrite {s0 : State} {d : Die} {s : State} (hk : Keep s0 s) : KeepOut s0 (execAttachRecordRewrite d s) := by
  unfold execAttachRecordRewrite
  repeat' with_reducible first
    | assumption | exact keepOut_refused _ | refine keepOut_next ?_ | refine keep_memWrite ?_ | refine keep_withHostx ?_ | refine keep_ite ?_ ?_
    | refine keepOut_ite ?_ ?_

theorem keep_direct {s0 s : State} {d : Nat} (hk : Keep s0 s) : Keep s0 (direct s d) := by
  unfold direct
  repeat' with_reducible first | assumption | refine keep_setHoldX ?_ | refine keep_ite ?_ ?_

theorem keep_execAttachClaim {s0 : State} {d : Die} {v : W32} {s : State} (hk : Keep s0 s) : KeepOut s0 (execAttachClaim d v s) := by
  unfold execAttachClaim
  repeat' first
    | with_reducible first
        | assumption | exact keepOut_refused _ | refine keepOut_next ?_ | refine keep_direct ?_ | refine keep_setHost ?_ | refine keep_setRD ?_
        | refine keep_viaWin ?_ ?_ | refine keep_wr ?_ | refine keep_ite ?_ ?_ | refine keepOut_ite ?_ ?_ | refine keep_ite_fst ?_ ?_
        | refine keep_ite_snd ?_ ?_ | refine keep_foldl ?_ ?_ | refine keep_foldl_fst ?_ ?_ | refine keep_foldl_snd ?_ ?_
    | split | intro _ _ _

theorem keep_execAttachFinish {s0 : State} {d : Die} {v : W32} {s : State} (hk : Keep s0 s) : KeepOut s0 (execAttachFinish d v s) := by
  unfold execAttachFinish
  repeat' first
    | with_reducible first
        | assumption | exact keepOut_refused _ | refine keepOut_next ?_ | refine keep_direct ?_ | refine keep_fset ?_ | refine keep_ringCodes ?_
        | refine keep_setHost ?_ | refine keep_setRD ?_ | refine keep_viaWin ?_ ?_ | refine keep_ite ?_ ?_ | refine keepOut_ite ?_ ?_
        | refine keep_ite_fst ?_ ?_ | refine keep_ite_snd ?_ ?_ | refine keep_foldl ?_ ?_ | refine keep_foldl_fst ?_ ?_ | refine keep_foldl_snd ?_ ?_
    | split | intro _ _ _

theorem keep_holdAction {s0 s : State} {d act : Nat} (hk : Keep s0 s) : Keep s0 (holdAction s d act) := by
  unfold holdAction
  repeat' with_reducible first | assumption | refine keep_fset ?_ | refine keep_setRD ?_ | refine keep_ite ?_ ?_

theorem keep_execHoldReplay {s0 : State} {d : Die} {s : State} (hk : Keep s0 s) : KeepOut s0 (execHoldReplay d s) := by
  unfold execHoldReplay
  repeat' with_reducible first
    | assumption | exact keepOut_refused _ | refine keepOut_next ?_ | refine keep_holdAction ?_ | refine keep_viaWin ?_ ?_

theorem keep_execHoldDiscard {s0 : State} {d : Die} {s : State} (hk : Keep s0 s) : KeepOut s0 (execHoldDiscard d s) := by
  unfold execHoldDiscard
  repeat' with_reducible first
    | assumption | exact keepOut_refused _ | refine keepOut_next ?_ | refine keep_holdAction ?_ | refine keep_viaWin ?_ ?_

theorem keep_unheld {s0 s : State} {d : Nat} {fate : Option (Nat × Nat)} (hk : Keep s0 s) : Keep s0 (unheld s d fate) := by
  unfold unheld
  repeat' with_reducible first | assumption | refine keep_withItems ?_

theorem keep_execHoldDrainDone {s0 : State} {d : Die} {s : State} (hk : Keep s0 s) : KeepOut s0 (execHoldDrainDone d s) := by
  unfold execHoldDrainDone
  repeat' first
    | with_reducible first
        | assumption | exact keepOut_refused _ | refine keepOut_next ?_ | refine keep_fset ?_ | refine keep_memWrite ?_ | refine keep_memWriteAt ?_
        | refine keep_note ?_ | refine keep_pointAcked ?_ | refine keep_setHoldX ?_ | refine keep_touchSkt ?_ | refine keep_unheld ?_
        | refine keep_ite ?_ ?_ | refine keepOut_ite ?_ ?_ | refine keep_ite_fst ?_ ?_ | refine keep_ite_snd ?_ ?_ | refine keep_foldl ?_ ?_
        | refine keep_foldl_fst ?_ ?_ | refine keep_foldl_snd ?_ ?_
    | split | intro _ _ _

theorem keep_retryStalled {s0 s : State} {d : Nat} (hk : Keep s0 s) : Keep s0 (retryStalled s d) := by
  unfold retryStalled
  repeat' first
    | with_reducible first
        | assumption | refine keep_devWrite ?_ | refine keep_setHoldX ?_ | refine keep_withItems ?_ | refine keep_ite ?_ ?_
        | refine keep_ite_fst ?_ ?_ | refine keep_ite_snd ?_ ?_ | refine keep_foldl ?_ ?_ | refine keep_foldl_fst ?_ ?_ | refine keep_foldl_snd ?_ ?_
        | (refine keep_pair_fst (by with_reducible assumption) ?_) | (refine keep_pair_snd (by with_reducible assumption) ?_)
    | split | intro _ _ _

theorem keep_execHoldStallResume {s0 : State} {d : Die} {s : State} (hk : Keep s0 s) : KeepOut s0 (execHoldStallResume d s) := by
  unfold execHoldStallResume
  repeat' first
    | with_reducible first
        | assumption | exact keepOut_refused _ | refine keepOut_next ?_ | refine keep_endItem ?_ | refine keep_retryStalled ?_
        | refine keep_foldl ?_ ?_ | refine keep_foldl_fst ?_ ?_ | refine keep_foldl_snd ?_ ?_
    | split | intro _ _ _

theorem keep_execStalledItemBoundExpire {s0 : State} {d : Die} {r : Ring} {seq : W32} {s : State} (hk : Keep s0 s) : KeepOut s0 (execStalledItemBoundExpire d r seq s) := by
  unfold execStalledItemBoundExpire
  repeat' first
    | with_reducible first
        | assumption | exact keepOut_refused _ | refine keepOut_next ?_ | refine keep_endItem ?_ | refine keep_ite ?_ ?_ | refine keepOut_ite ?_ ?_
        | refine keep_ite_fst ?_ ?_ | refine keep_ite_snd ?_ ?_
    | split

/-! ### Machine/RegFx.lean -/


/-- The first register found in a list of choices keeps when each does. -/
theorem keepOpt_orElse {s0 : State} {a b : Option State} (h1 : KeepOpt s0 a) (h2 : KeepOpt s0 b) : KeepOpt s0 (a.orElse fun _ => b) := by
  cases a with
  | none => exact h2
  | some t => exact h1

theorem keepOpt_getD {s0 t : State} {a : Option State} (h1 : KeepOpt s0 a) (h2 : Keep s0 t) : Keep s0 (a.getD t) := by
  cases a with
  | none => exact h2
  | some t => exact h1

theorem keep_after {s0 s : State} {o : Out} (h : Keep s0 s) (ho : KeepOut s0 o) : Keep s0 (after s o) := by
  unfold after
  split
  · exact ho _ (Eq.refl _)
  all_goals exact h

theorem keep_enableWrite {s0 s : State} {a : Nat} {v : W32} {en dis : State → Out} (h : Keep s0 s)
    (he : KeepOut s0 (en s)) (hd : KeepOut s0 (dis s)) : Keep s0 (enableWrite s a v en dis) := by
  unfold enableWrite
  exact keep_ite (keep_after h he) (keep_ite (keep_after h hd) (keep_regWrite4 h))

theorem keep_enableOff {s0 : State} {a : Nat} {s : State} (hk : Keep s0 s) : KeepOut s0 (enableOff a s) := by
  unfold enableOff
  repeat' with_reducible first | assumption | exact keepOut_refused _ | refine keepOut_next ?_ | refine keep_fset ?_

theorem keep_ringStore {s0 s : State} {u a : Nat} {name : String} {i : Nat} {v : W32} (hk : Keep s0 s) : KeepOpt s0 (ringStore s u a name i v) := by
  unfold ringStore
  repeat' first
    | with_reducible first
        | assumption | refine keep_after ?_ ?_ | refine keep_enableWrite ?_ ?_ ?_ | refine keep_execRingDisable ?_ | refine keep_execRingDoorbell ?_
        | refine keep_execRingEnable ?_ | refine keep_execXltDisable ?_ | refine keep_execXltEnable ?_ | refine keepOpt_ite ?_ ?_
        | refine keepOpt_someI ?_ | exact keepOpt_noneI | (refine keepOpt_some (by with_reducible assumption) ?_)
    | split

theorem keep_unitStore {s0 s : State} {u a : Nat} {name : String} {i j : Nat} {v : W32} (hk : Keep s0 s) : KeepOpt s0 (unitStore s u a name i j v) := by
  unfold unitStore
  repeat' first
    | with_reducible first
        | assumption | refine keep_after ?_ ?_ | refine keep_enableWrite ?_ ?_ ?_ | refine keep_execBlockFence ?_ | refine keep_execBlockTest ?_
        | refine keep_execCkpDisable ?_ | refine keep_execCkpEnable ?_ | refine keep_execCtxDisable ?_ | refine keep_execCtxEnable ?_
        | refine keep_execFtgDisable ?_ | refine keep_execFtgEnable ?_ | refine keep_execLdgBudgetWrite ?_ | refine keep_execLdgDisable ?_
        | refine keep_execLdgEnable ?_ | refine keep_execLdgModuleWrite ?_ | refine keep_execPdRequestOff ?_ | refine keep_execPdRequestOn ?_
        | refine keep_execPlbDisable ?_ | refine keep_execPlbEnable ?_ | refine keep_execRetireRequest ?_ | refine keep_execSktEvacuate ?_
        | refine keep_execSktOffline ?_ | refine keep_execSktOnline ?_ | refine keep_regWrite4 ?_ | refine keep_ite ?_ ?_ | refine keep_ite_fst ?_ ?_
        | refine keep_ite_snd ?_ ?_ | refine keepOpt_ite ?_ ?_ | refine keepOpt_someI ?_ | exact keepOpt_noneI
        | (refine keepOpt_some (by with_reducible assumption) ?_)
    | split

theorem keep_linkStore {s0 s : State} {u a : Nat} {name : String} {i : Nat} {v : W32} (hk : Keep s0 s) : KeepOpt s0 (linkStore s u a name i v) := by
  unfold linkStore
  repeat' first
    | with_reducible first
        | assumption | refine keep_after ?_ ?_ | refine keep_enableOff ?_ | refine keep_enableWrite ?_ ?_ ?_ | refine keep_execAtomModeWrite ?_
        | refine keep_execBndDisable ?_ | refine keep_execBndEnable ?_ | refine keep_execBndRetrain ?_ | refine keep_execFltDisable ?_
        | refine keep_execFltEnable ?_ | refine keep_execFltFlagsClear ?_ | refine keep_execFltHeadWrite ?_ | refine keep_execFltRingEnable ?_
        | refine keep_execNetPortDisable ?_ | refine keep_execNetPortEnable ?_ | refine keep_ite ?_ ?_ | refine keep_ite_fst ?_ ?_
        | refine keep_ite_snd ?_ ?_ | refine keepOpt_ite ?_ ?_ | refine keepOpt_someI ?_ | exact keepOpt_noneI
        | (refine keepOpt_some (by with_reducible assumption) ?_)
    | split

theorem keep_hostStore {s0 s : State} {u a : Nat} {name : String} {i : Nat} {v : W32} (hk : Keep s0 s) : KeepOpt s0 (hostStore s u a name i v) := by
  unfold hostStore
  repeat' first
    | with_reducible first
        | assumption | refine keep_after ?_ ?_ | refine keep_enableOff ?_ | refine keep_enableWrite ?_ ?_ ?_ | refine keep_execAttachEnable ?_
        | refine keep_execHoldDiscard ?_ | refine keep_execHoldReplay ?_ | refine keep_execImgRaiseSvn ?_ | refine keep_execImgUpdate ?_
        | refine keep_execJrnlDisable ?_ | refine keep_execJrnlEnable ?_ | refine keep_execPlnStageWrite ?_ | refine keep_execWdogCtrlWrite ?_
        | refine keep_resetReq ?_ | refine keep_viaWin ?_ ?_ | refine keepOut_next ?_ | refine keep_resetReq ?_ | refine keep_ite ?_ ?_
        | refine keep_ite_fst ?_ ?_ | refine keep_ite_snd ?_ ?_ | refine keepOpt_ite ?_ ?_ | refine keepOpt_someI ?_ | exact keepOpt_noneI
        | (refine keepOpt_some (by with_reducible assumption) ?_)
    | split

theorem keep_woStore {s0 s : State} {u : Nat} {k : Win} {o : Nat} {v : W32} (hk : Keep s0 s) : Keep s0 (woStore s u k o v) := by
  unfold woStore
  repeat' first
    | with_reducible first
        | assumption | refine keep_after ?_ ?_ | refine keep_execAttachClaim ?_ | refine keep_execAttachFinish ?_ | refine keep_execCntInc ?_
        | refine keep_execFbResume ?_ | refine keep_execIdleClear ?_ | refine keep_execInvAll ?_ | refine keep_execInvAsid ?_
        | refine keep_execInvRange ?_ | refine keep_execSealExtend ?_ | refine keep_execWdogKick ?_ | refine keep_ite ?_ ?_
        | refine keep_ite_fst ?_ ?_ | refine keep_ite_snd ?_ ?_
    | split

theorem keep_regStore {s0 s : State} {a : Nat} {v : W32} (hk : Keep s0 s) : Keep s0 (regStore s a v) := by
  unfold regStore
  repeat' first
    | with_reducible first
        | assumption | refine keep_hostStore ?_ | refine keep_linkStore ?_ | refine keep_regWrite4 ?_ | refine keep_ringStore ?_
        | refine keep_unitStore ?_ | refine keep_woStore ?_ | refine keepOpt_getD ?_ ?_ | refine keepOpt_orElse ?_ ?_
        | (refine keepOpt_some (by with_reducible assumption) ?_)
    | split | intro _ _ _ | dsimp only

theorem keep_execRegisterWrite {s0 : State} {pcie : Bool} {a : BitVec 52} {size : Nat} {v : W64} {s : State} (hk : Keep s0 s) : KeepOut s0 (execRegisterWrite pcie a size v s) := by
  unfold execRegisterWrite
  repeat' first
    | with_reducible first
        | assumption | exact keepOut_refused _ | refine keepOut_next ?_ | refine keep_accFault ?_ | refine keep_regStore ?_ | refine keep_ite ?_ ?_
        | refine keepOut_ite ?_ ?_ | refine keep_ite_fst ?_ ?_ | refine keep_ite_snd ?_ ?_
    | split

theorem keep_drainRegs {s0 s : State} (hk : Keep s0 s) : Keep s0 (drainRegs s) := by
  unfold drainRegs
  repeat' first
    | with_reducible first
        | assumption | refine keep_regStore ?_ | refine keep_withRegq ?_ | refine keep_foldl ?_ ?_ | refine keep_foldl_fst ?_ ?_
        | refine keep_foldl_snd ?_ ?_
    | split | intro _ _ _

theorem keep_execHodDone {s0 : State} {d : Die} {n : Blk} {c : Ctx} {i : Nat} {s : State} (hk : Keep s0 s) : KeepOut s0 (execHodDone d n c i s) := by
  unfold execHodDone
  repeat' with_reducible first
    | assumption | exact keepOut_refused _ | refine keepOut_next ?_ | refine keep_drainRegs ?_ | refine keep_hodDone ?_

/-! ### Machine/Finish.lean -/


theorem keep_moveStart {s0 s : State} {it : Item} (hk : Keep s0 s) : Keep s0 (moveStart s it) := by
  unfold moveStart
  repeat' first
    | with_reducible first
        | assumption | refine keep_endItem ?_ | refine keep_putItem ?_ | refine keep_ite ?_ ?_ | refine keep_ite_fst ?_ ?_ | refine keep_ite_snd ?_ ?_
    | split

theorem keep_itemStart {s0 s : State} {it : Item} (hk : Keep s0 s) : Keep s0 (itemStart s it) := by
  unfold itemStart
  repeat' with_reducible first
    | assumption | refine keep_chainStart ?_ | refine keep_groupStart ?_ | refine keep_moveStart ?_ | refine keep_netStart ?_
    | refine keep_permStart ?_ | refine keep_pointStart ?_ | refine keep_powerStart ?_ | refine keep_putItem ?_ | refine keep_ite ?_ ?_

theorem keep_execItemStart {s0 : State} {d : Die} {r : Ring} {seq : W32} {s : State} (hk : Keep s0 s) : KeepOut s0 (execItemStart d r seq s) := by
  unfold execItemStart
  repeat' first
    | with_reducible first
        | assumption | exact keepOut_refused _ | refine keepOut_next ?_ | refine keep_itemStart ?_ | refine keep_ite ?_ ?_ | refine keepOut_ite ?_ ?_
        | refine keep_ite_fst ?_ ?_ | refine keep_ite_snd ?_ ?_
    | split

theorem keep_abortItem {s0 s : State} {t : Item} (hk : Keep s0 s) : Keep s0 (abortItem s t) := by
  unfold abortItem
  repeat' with_reducible first
    | assumption | refine keep_closeGroup ?_ | refine keep_ctxError ?_ | refine keep_endItem ?_ | refine keep_ite ?_ ?_

theorem keep_abortDone {s0 s : State} {it : Item} (hk : Keep s0 s) : Keep s0 (abortDone s it) := by
  unfold abortDone
  repeat' first
    | with_reducible first
        | assumption | refine keep_abortItem ?_ | refine keep_endItem ?_
    | split

theorem keep_itemComplete {s0 s : State} {it : Item} (hk : Keep s0 s) : Keep s0 (itemComplete s it) := by
  unfold itemComplete
  repeat' first
    | with_reducible first
        | assumption | refine keep_abortDone ?_ | refine keep_adoptDone ?_ | refine keep_bedDone ?_ | refine keep_closeGroup ?_
        | refine keep_drainRegs ?_ | refine keep_endItem ?_ | refine keep_flowSetDone ?_ | refine keep_moveDone ?_ ?_ | refine keep_netDeregDone ?_
        | refine keep_netRegDone ?_ | refine keep_unbedDone ?_ | refine keep_unloadDone ?_ | refine keep_ite ?_ ?_ | refine keep_ite_fst ?_ ?_
        | refine keep_ite_snd ?_ ?_
    | exact fun _ ht => keep_drainRegs ht | split

theorem keep_execItemComplete {s0 : State} {d : Die} {r : Ring} {seq : W32} {s : State} (hk : Keep s0 s) : KeepOut s0 (execItemComplete d r seq s) := by
  unfold execItemComplete
  repeat' first
    | with_reducible first
        | assumption | exact keepOut_refused _ | refine keepOut_next ?_ | refine keep_itemComplete ?_ | refine keep_ite ?_ ?_
        | refine keepOut_ite ?_ ?_ | refine keep_ite_fst ?_ ?_ | refine keep_ite_snd ?_ ?_
    | split

/-! ### Machine/Idle.lean -/


theorem keep_tickCounters {s0 s : State} (hk : Keep s0 s) : Keep s0 (tickCounters s) := by
  unfold tickCounters
  repeat' first
    | with_reducible first
        | assumption | refine keep_wrW ?_ | refine keep_ite ?_ ?_ | refine keep_ite_fst ?_ ?_ | refine keep_ite_snd ?_ ?_ | refine keep_foldl ?_ ?_
        | refine keep_foldl_fst ?_ ?_ | refine keep_foldl_snd ?_ ?_
    | split | intro _ _ _

theorem keep_tickWdog {s0 s : State} (hk : Keep s0 s) : Keep s0 (tickWdog s) := by
  unfold tickWdog
  repeat' first
    | with_reducible first
        | assumption | refine keep_withWdog ?_ | refine keep_ite ?_ ?_ | refine keep_ite_fst ?_ ?_ | refine keep_ite_snd ?_ ?_
        | refine keep_foldl ?_ ?_ | refine keep_foldl_fst ?_ ?_ | refine keep_foldl_snd ?_ ?_
    | split | intro _ _ _

theorem keep_idleAdd {s0 s : State} {d c k : Nat} (hk : Keep s0 s) : Keep s0 (idleAdd s d c k) := by
  unfold idleAdd
  repeat' with_reducible first | assumption | refine keep_wrW ?_

theorem keep_tickIdle {s0 s : State} {d : Nat} (hk : Keep s0 s) : Keep s0 (tickIdle s d) := by
  unfold tickIdle
  repeat' first
    | with_reducible first
        | assumption | refine keep_idleAdd ?_ | refine keep_ite ?_ ?_ | refine keep_ite_fst ?_ ?_ | refine keep_ite_snd ?_ ?_
        | refine keep_foldl ?_ ?_ | refine keep_foldl_fst ?_ ?_ | refine keep_foldl_snd ?_ ?_
    | split | intro _ _ _

theorem keep_idleCycle {s0 s : State} (hk : Keep s0 s) : Keep s0 (idleCycle s) := by
  unfold idleCycle
  repeat' first
    | with_reducible first
        | assumption | refine keep_drainRegs ?_ | refine keep_flitTimes ?_ | refine keep_tickCounters ?_ | refine keep_tickIdle ?_
        | refine keep_tickWdog ?_ | refine keep_foldl ?_ ?_ | refine keep_foldl_fst ?_ ?_ | refine keep_foldl_snd ?_ ?_
    | split | intro _ _ _

end Sys2Proof.Machine
end

