-- ==== Sys2Proof/Tests/Slice0.lean ====
section
/-! SUPPORT. Tests: a witness for the hypotheses of every statement's every clause, ill-formed terms that WellFormed refuses, and small
tests of single steps with results taken from the spec. -/

open Sys2Proof Sys2Proof.Machine

set_option maxRecDepth 16384
set_option linter.unusedVariables false

/-- Test state: context 0 of Block 0 of die 0 RUNNING, its next instruction word `w`. -/
def demoCtx (w : Nat) : State := fset (setCtxX State.reset 0 0 0 { ctxDef 0 with prog := [w] }) (Reg.BLK_CTX_STATUS 0 0 0) 0 3 3
/-- Test state: Block 0 of die 0 reachable and ALLOC, word 0 of its scratchpad granted to outside accesses. -/
def demoSpad : State :=
  fset (fset (setPd (setPd (fset State.reset (Reg.BLK_STATE 0 0) 0 3 0) 0 2) 16 2) (Reg.BLK_RGN_EXT 0 0 0) 29 3 7) (Reg.BLK_RGN_EXT 0 0 0) 0 13 0
/-- Test state: a started Mason operation whose every word the regions grant. -/
def demoMason : State :=
  wr (fset (setCtxX State.reset 0 0 0 { ctxDef 0 with mason := [MOp.mk 0 0 0 0 0 true 0] }) (Reg.BLK_CTX_STATUS 0 0 0) 0 3 3)
    (Reg.BLK_RGN 0 0 0 0 0) 0xF7FF0000
/-- Test image: one run from logical Block 0 to itself and one lintel descriptor of one row of 64 bytes, depth 1. -/
def demoImg : List Byte := (List.range 0x120).map (fun i =>
  if i = 0x14 ∨ i = 0xAC ∨ i = 0xB4 ∨ i = 0x104 then 1 else if i = 0xA8 then 0xE0 else if i = 0xB0 then 0xF0 else if i = 0x100 then 64
  else if i = 0x113 then 8 else 0)
/-- Test plan of that image, placed on Block 0, context 0. -/
def demoPlan : Plan := ⟨0, (ctxDef 0).plan, demoImg, [(0, 0)], [0, 1, 2], 0⟩
/-- Test state: that plan running, with word 0 granted to its masters and to outside accesses. -/
def demoLintel : State :=
  wr (wr (((demoCtx 0).withPlans [demoPlan])) (Reg.BLK_RGN_EXT 0 0 0) 0xE0000000) (Reg.BLK_RGN 0 0 0 3 0) 0xE0000000
/-- Test state: that plan's lintel with the row of generation 1 sent by its producer. -/
def demoSent : State := setCtxX demoLintel 0 0 0 { ctxX demoLintel 0 0 0 with hods := [HodOp.mk 0 1 0 1 false false true] }
/-- Test state: context 0 of Block 0 with every scratchpad word granted to its vector unit. -/
def demoVec : State := wr (demoCtx (3 * 2 ^ 58)) (Reg.BLK_RGN 0 0 0 1 0) 0xF7FF0000
/-- Test image with one parameter slot. -/
def demoSlotImg : List Byte := (List.range 0x40).map (fun i => if i = 0x15 then 1 else 0)
/-- Test state: ring 0 of die 0 ACTIVE with one entry, its pages cached onto stack 0. -/
def demoRing (desc : List Byte) : State :=
  let s := setXunit State.reset 0 { xltDef 0 with cache := [⟨3, 0, 0, 0x200000, 0x100000000000, 7⟩] }
  let s := fset (fset (fset s (Reg.RING_CFG 0 0) 1 5 6) (Reg.RING_CFG 0 0) 6 5 6) (Reg.RING_STATUS 0 0) 0 2 1
  let s := fset (fset s (Reg.RING_CQ_BASE_LO 0 0) 12 20 16) (Reg.RING_SQ_TAIL 0 0) 0 17 1
  memWrite (setRingX s 0 0 ⟨[0], false, false, none, false⟩) 0x100000000000 desc
/-- Test descriptor with an opcode. -/
def demoDesc (op : Nat) : List Byte := leBytes 1 op ++ List.replicate 63 0
/-- Test item of an opcode, started at time 0, on die 0 ring 0. -/
def demoItem (op obj : Nat) (started : Bool) : Item := {
  die := 0, ring := 0, seq := 0, tag := 0, opcode := op, flags := 0, asid := 0, desc := demoDesc op, param := [], obs := 0, start := 0
  bound := 0, started := started, uses := [], extents := [], resv := [], charges := [], pred := [], late := 0, fate := none, obj := obj
  held := false, cflags := 0, caux := 0, jrnl := none, eMoved := false, phase := 0 }
/-- Test state with that item accepted. -/
def demoItems (op obj : Nat) (started : Bool) : State := State.reset.withItems [demoItem op obj started]
/-- Test state: ring 0 of die 0 ready to be enabled in address space 1. -/
def demoEnable : State :=
  let s := fset (fset State.reset (Reg.XLT_CTRL 0) 0 1 1) (Reg.XLT_ASID_BASE_HI 0) 0 20 0x1000
  let s := fset s (Reg.RING_CQ_BASE_LO 0 0) 12 20 16
  memWrite s (0x100000000000 + 16) [1]
/-- A front entry that is read and meets a test. -/
theorem frontWit (s : State) (d r : Nat) (P : State → List Byte → Bool)
    (h : (match frontEntry s d r with | .inr p => P p.1 p.2 | .inl _ => false) = true) :
    ∃ t desc, frontEntry s d r = .inr (t, desc) ∧ P t desc = true := by
  cases e : frontEntry s d r with
  | inl t => rw [e] at h; exact absurd h Bool.false_ne_true
  | inr p => rw [e] at h; exact ⟨p.1, p.2, rfl, h⟩
/-- An answer that meets a test. -/
theorem optWit {α : Type} (o : Option α) (P : α → Bool) (h : (match o with | some x => P x | none => false) = true) :
    ∃ x, o = some x ∧ P x = true := by
  cases o with
  | none => exact absurd h Bool.false_ne_true
  | some x => exact ⟨x, rfl, h⟩
/-- An access that is made. -/
theorem gotWit (g : Got) (h : (match g with | .ok _ _ => true | _ => false) = true) : ∃ t bs, g = .ok t bs := by
  cases g with
  | ok t bs => exact ⟨t, bs, rfl⟩
  | stop t => exact absurd h Bool.false_ne_true
/-- Test state: the plan of `demoPlan` resident on Block 0, context 0, READY, with an accepted RUN of it. -/
def demoRun (started : Bool) : State :=
  let s := ((demoItems 2 0 started).withPlans [{ demoPlan with handle := 0 }])
  let s := fset (fset (setPd (setPd s 0 2) 16 2) (Reg.BLK_STATE 0 0) 0 3 0) (Reg.BLK_CTX_STATUS 0 0 0) 0 3 2
  setCtxX s 0 0 0 { ctxDef 0 with plan := 0, ended := started }
/-- Test state: stack 0's Footing ON and enabled. -/
def demoFtg (started : Bool) : State :=
  let s := fset (demoItems 6 (0 * 8 + 3) started) (Reg.FTG_CTRL 8) 0 1 1
  setPd s 108 2
/-- Test state: Keystone 0's root port on and translating, one page cached onto stack 0. -/
def demoPcie : State :=
  let s := setXunit State.reset 4 { xltDef 4 with cache := [⟨3, 1, 0, 0x200000, 0x100000000000, 7⟩] }
  setPd (fset (fset s (Reg.XLT_CTRL 4) 0 1 1) (homeReg 0) 0 2 1) (dKio 0) 2
/-- A translated request's pages lie in present memory. -/
theorem pagesWit (t : Xlated) (h : (extPages t.ext).all (fun p =>
    (match place t.s p.1 with | .ctrl _ _ => false | _ => true) && (homeGone t.s p.1).isNone) = true) :
    ∀ p ∈ extPages t.ext, (∀ a b, place t.s p.1 ≠ .ctrl a b) ∧ homeGone t.s p.1 = none := by
  intro p hp
  have h := List.all_eq_true.mp h p hp
  simp only [Bool.and_eq_true, Option.isNone_iff_eq_none] at h
  exact ⟨fun a b e => by rw [e] at h; exact absurd h.1 Bool.false_ne_true, h.2⟩
/-- Test state: line 0 of stack 0 SHARED by agent 1, or held modified by it, its home active; with a probe of it outstanding. -/
def demoDir (st : Nat) (probe : Option Nat) : State :=
  let l := 0x100000000000 / 128
  let s := fset State.reset (homeReg 0) 0 2 1
  let s := (s.withDir [⟨0, l, if st = 1 then 0 else 2, if st = 1 then [1] else []⟩]).withCopies [⟨1, l, st, List.replicate 128 7⟩]
  match probe with
  | some p => s.withTxns [⟨0, l, none, p, [1], none, false, none⟩]
  | none => s
/-- Test state: joint 0 of die 0 in a STATE with its domain ON, and the far Keystone's joint. -/
def demoBond (st : Nat) (x : BondX) : State :=
  setBondX (setPd (fset State.reset (Reg.BND_STATUS 0 0) 0 3 st) (dJoint 0 0) 2) 0 0 x
/-- Test ticket of a kind from Keystone 0, joint 0: epoch, width, all 26 groups good, no SWITCH. -/
def demoTicket (kind epoch width : Nat) : List Byte :=
  let b := leBytes 1 kind ++ leBytes 1 epoch ++ leBytes 1 width ++ leBytes 1 4 ++ leBytes 4 0x3FFFFFF ++ List.replicate 6 0
  b ++ leBytes 2 (crcMsb (0x1021 : BitVec 16) 0xFFFF b).toNat
/-- Test flit with SEQ 0 of epoch 0. -/
def demoFlit : List Byte :=
  let b : List Byte := List.replicate 248 0
  b ++ leBytes 8 (flitCrc b)
/-- Test flit of epoch 0 whose SEQ is far outside the window. -/
def demoFar : List Byte :=
  let b : List Byte := leBytes 2 10000 ++ List.replicate 246 0
  b ++ leBytes 8 (flitCrc b)
/-- Test state: context 0 of die 0 READY with a record of a KIND and payload code 1, its link UP. -/
def demoFlow (kind : Nat) (x : FlowX) : State :=
  let s := fset (fset State.reset (Reg.NET_CTX_BASE_HI 0) 0 20 0x1000) (Reg.NET_PORT_STATUS 0 0) 0 2 2
  setFlow (memWrite s 0x100000000000 (leBytes 1 kind ++ List.replicate 69 0 ++ [1])) 0 { x with st := 1 }
/-- Test state: host Keystones 0 and 1 in the same host state. -/
def demoHost (h : Nat) : State := setHost (setHost State.reset 0 h) 1 h
/-- Test state: an attach area and a holding area of die 0 in stack 0, and the record enabled. -/
def demoAttach : State :=
  fset (fset (fset (fset State.reset (Reg.GLB_ATTACH_BASE_HI 0) 0 20 0x1000) (Reg.GLB_HOLD_BASE_HI 0) 0 20 0x1000) (Reg.GLB_HOLD_BASE_LO 0) 26 6 1) (Reg.GLB_ATTACH_CTRL 0) 0 1 1

/-! ### Witnesses -/

theorem wit_PowerPinsComplete_1 : ∃ (slot : BitVec 6) (s : State),
    s.modx.rail = false := ⟨5, { State.reset with modx := { State.reset.modx with rail := false } }, by decide⟩

theorem wit_PowerPinsComplete_2 : ∃ (s : State),
    s.modx.rail = true ∧ s.modx.pkgRails = true ∧ s.modx.inReset = false := ⟨State.reset, by decide⟩

theorem wit_PowerPinsComplete_3 : ∃ (s : State),
    s.modx.rail = true ∧ bit s Reg.GLB_MOD_STATUS 6 = true ∧ (fget s Reg.GLB_MOD_STATUS 13 2 = 1 ∨ fget s Reg.GLB_MOD_STATUS 13 2 = 2) := ⟨State.reset, by decide⟩

theorem wit_PowerPinsComplete_4 : ∃ (s : State),
    s.modx.rail = true ∧ bit s Reg.GLB_MOD_STATUS 6 = true ∧ (fget s Reg.GLB_MOD_STATUS 13 2 = 0 ∨ fget s Reg.GLB_MOD_STATUS 13 2 = 3) := ⟨fset (State.reset) (Reg.GLB_MOD_STATUS) 13 2 3, by decide⟩

theorem wit_PowerPinsComplete_5 : ∃ (ns : Nat) (s : State),
    10000 ≤ ns ∧ s.modx.rail = true ∧ s.hup.cur = none := ⟨10000, State.reset, by decide⟩

theorem wit_PowerPinsComplete_6 : ∃ (ns : Nat) (s : State),
    10000 ≤ ns ∧ s.modx.rail = true ∧ s.hup.cur.isSome := ⟨10000, { State.reset with hup := ⟨[], some (.counter 3), []⟩ }, by decide⟩

theorem wit_PowerPinsComplete_7 : ∃ (ns : Nat) (s : State),
    ns < 1000 := ⟨999, State.reset, by decide⟩

theorem wit_InputBandsComplete_1 : ∃ (v : BitVec 16) (s : State),
    6600 < v.toNat ∧ s.modx.rail = true := ⟨6601, State.reset, by decide⟩

theorem wit_InputBandsComplete_2 : ∃ (v : BitVec 16) (s : State),
    4600 ≤ v.toNat ∧ v.toNat < 5000 ∧ s.modx.rail = true := ⟨4600, State.reset, by decide⟩

theorem wit_InputBandsComplete_3 : ∃ (v : BitVec 16) (s : State),
    5000 ≤ v.toNat ∧ v.toNat ≤ 6600 ∧ s.modx.rail = true := ⟨5000, State.reset, by decide⟩

theorem wit_InputBandsComplete_4 : ∃ (v : BitVec 16) (s : State),
    v.toNat < 4600 ∧ s.modx.rail = true := ⟨4599, State.reset, by decide⟩

theorem wit_InputBandsComplete_5 : ∃ (s : State),
    s.modx.rail = true := ⟨State.reset, by decide⟩

theorem wit_InputBandsComplete_6 : ∃ (t : BitVec 11) (s : State),
    s.modx.rail = true := ⟨200, State.reset, by decide⟩

theorem wit_ClockLossComplete_1 : ∃ (u : Unit6) (s : State),
    u.val ∉ s.pllOff := ⟨2, State.reset, by decide⟩

theorem wit_ClockLossComplete_4 : ∃ (u : Fin 20) (i : Fin 24) (t : BitVec 11) (s : State),
    u.val < 4 ∧ tq t < 4 * (256 + s.cfg.limits.getD 1 115) := ⟨0, 0, 100, State.reset, by decide⟩

theorem wit_ClockLossComplete_5 : ∃ (u : Fin 20) (i : Fin 24) (t : BitVec 11) (s : State),
    u.val < 4 ∧ 4 * (256 + s.cfg.limits.getD 1 115) ≤ tq t := ⟨0, 0, 480, State.reset, by decide⟩

theorem wit_ClockLossComplete_6 : ∃ (u : Fin 20) (i : Fin 24) (t : BitVec 11) (s : State),
    8 ≤ u.val := ⟨8, 0, 0, State.reset, by decide⟩

theorem wit_ResetsComplete_5 : ∃ (k : Key) (s : State),
    (hostState (resetServed s 3 (fun t => t == 4 + k.val || t == 6)) k ≠ 2) := ⟨0, State.reset, by decide⟩

theorem wit_ResetsComplete_6 : ∃ (k : Key) (s : State),
    (hostState (resetServed s 3 (fun t => t == 4 + k.val || t == 6)) k = 2) := ⟨0, fset (State.reset) (Reg.GLB_ATTACH_CTRL 0) 24 3 2, by decide⟩

theorem wit_ResetsComplete_9 : ∃ (k : Key) (s : State),
    hostState s k = 2 := ⟨0, fset (State.reset) (Reg.GLB_ATTACH_CTRL 0) 24 3 2, by decide⟩

theorem wit_ResetsComplete_10 : ∃ (k : Key) (cl : Fin 12) (s : State),
    (tget natDef s.l2busy k).testBit cl = true := ⟨0, 1, ((State.reset).withL2busy [(0, 2)]), by decide⟩

theorem wit_ResetRequestsComplete_1 : ∃ (d : Die) (target : BitVec 3) (s : State),
    winOpen s d := ⟨0, 0, State.reset, by decide⟩

theorem wit_ResetRequestsComplete_2 : ∃ (d : Die) (target : BitVec 3) (s : State),
    winOpen s d := ⟨0, 0, State.reset, by decide⟩

theorem wit_ResetRequestsComplete_3 : ∃ (d : Die) (target : BitVec 3) (s : State),
    winOpen s d := ⟨0, 0, State.reset, by decide⟩

theorem wit_ResetRequestsComplete_4 : ∃ (d : Die) (target : BitVec 3) (s : State),
    winOpen s d := ⟨0, 0, State.reset, by decide⟩

theorem wit_ResetRequestsComplete_5 : ∃ (d : Die) (target : BitVec 3) (s : State),
    winOpen s d := ⟨0, 0, State.reset, by decide⟩

theorem wit_ResetRequestsComplete_6 : ∃ (d typ target : Nat) (s : State),
    bit s (Reg.GLB_RESET_CTRL d) 31 = true := ⟨0, 1, 0, fset (State.reset) (Reg.GLB_RESET_CTRL 0) 31 1 1, by decide⟩

theorem wit_ResetRequestsComplete_7 : ∃ (d typ target : Nat) (s : State),
    bit s (Reg.GLB_RESET_CTRL d) 31 = false ∧ (4 ≤ typ ∧ typ ≤ 5) ∧ target < 4 := ⟨0, 4, 0, State.reset, by decide⟩

theorem wit_ResetRequestsComplete_8 : ∃ (d typ target : Nat) (s : State),
    bit s (Reg.GLB_RESET_CTRL d) 31 = false ∧ (4 ≤ typ ∧ typ ≤ 5) ∧ 4 ≤ target := ⟨0, 4, 4, State.reset, by decide⟩

theorem wit_ResetRequestsComplete_9 : ∃ (d typ target : Nat) (s : State),
    bit s (Reg.GLB_RESET_CTRL d) 31 = false ∧ (typ = 2 ∨ typ = 3) ∧ target = 4 ∧ hostState s 0 = 2 := ⟨0, 2, 4, fset (State.reset) (Reg.GLB_ATTACH_CTRL 0) 24 3 2, by decide⟩

theorem wit_BootCommandsComplete_1 : ∃ (pass : BitVec 4) (pos : List (Fin 4)) (s : State),
    fget s Reg.GLB_BOOT_STATUS 6 4 = 1 := ⟨15, [0, 1, 2, 3], fset (State.reset) (Reg.GLB_BOOT_STATUS) 6 4 1, by decide⟩

theorem wit_BootCommandsComplete_2 : ∃ (good : BitVec 20) (caps : List (BitVec 10)) (s : State),
    s.modx.powerGood = true ∧ s.modx.inReset = false ∧ s.modx.faultN = false ∧ fget s Reg.GLB_BOOT_STATUS 6 4 < 9 := ⟨0, [], State.reset, by decide⟩

theorem wit_BootCommandsComplete_3 : ∃ (s : State),
    fget s Reg.GLB_BOOT_STATUS 6 4 ≠ 9 := ⟨State.reset, by decide⟩

theorem wit_BootCommandsComplete_4 : ∃ (d : Die) (j1 j2 kp : Option (Fin 4)) (s : State),
    fget s (Reg.GLB_DIE_IDENT d) 2 2 = 0 ∧ ((posVotes j1 j2 kp).length < 2 * ((posVotes j1 j2 kp).filter (fun p => p == fget s (Reg.GLB_DIE_IDENT d) 0 2)).length) := ⟨0, some 1, none, none, State.reset, by decide⟩

theorem wit_BootCommandsComplete_5 : ∃ (d : Die) (s : State),
    fget s (Reg.GLB_DIE_IDENT d) 2 2 = 0 := ⟨0, State.reset, by decide⟩

theorem wit_BootCommandsComplete_6 : ∃ (good : BitVec 20) (caps : List (BitVec 10)) (s : State),
    s.modx.powerGood = true ∧ s.modx.inReset = false ∧ s.modx.faultN = false ∧ (1 ≤ fget s Reg.GLB_BOOT_STATUS 6 4 ∧ fget s Reg.GLB_BOOT_STATUS 6 4 ≤ 3) ∧ good.getLsbD (cornerstone s) = false ∧ ((bootGood s good (if fget s Reg.GLB_BOOT_STATUS 6 4 = 2 then [cornerstone s] else [0, 1, 2, 3])).modx.l4 = false) := ⟨0xFFFFE, [], wr State.reset Reg.GLB_BOOT_STATUS 0x40, by decide⟩

theorem wit_PowerDomainsComplete_1 : ∃ (u : Fin 20) (dom : BitVec 7) (s : State),
    winOpen s u ∧ (¬ (u.val = 6 ∨ u.val = 7)) := ⟨0, 0, State.reset, by decide⟩

theorem wit_PowerDomainsComplete_2 : ∃ (u : Fin 20) (dom : BitVec 7) (s : State),
    winOpen s u ∧ (¬ (u.val = 6 ∨ u.val = 7)) := ⟨0, 0, State.reset, by decide⟩

theorem wit_PowerDomainsComplete_3 : ∃ (u dom : Nat) (on : Bool) (s : State),
    bit s (Reg.GLB_PD_CTRL u) 31 = true := ⟨0, 0, true, fset (State.reset) (Reg.GLB_PD_CTRL 0) 31 1 1, by decide⟩

theorem wit_PowerDomainsComplete_4 : ∃ (u dom : Nat) (on : Bool) (s : State),
    bit s (Reg.GLB_PD_CTRL u) 31 = false ∧ winTakes u dom = false := ⟨0, 120, true, State.reset, by decide⟩

theorem wit_PowerDomainsComplete_5 : ∃ (u dom : Nat) (on : Bool) (s : State),
    bit s (Reg.GLB_PD_CTRL u) 31 = false ∧ winTakes u dom = true := ⟨0, 0, true, State.reset, by decide⟩

theorem wit_PowerDomainsComplete_6 : ∃ (q : Unit6) (r : PwrReq) (rs : List PwrReq) (s : State),
    tget seqDef s.seqs q = ⟨r :: rs, none⟩ ∧ transOk s r.dom r.on = false := ⟨0, ⟨dMortar 0, false, .ctrl 0⟩, [], ((State.reset).withSeqs [(0, ⟨[⟨dMortar 0, false, .ctrl 0⟩], none⟩)]), by decide⟩

theorem wit_PowerDomainsComplete_7 : ∃ (q : Unit6) (r : PwrReq) (rs : List PwrReq) (s : State),
    tget seqDef s.seqs q = ⟨r :: rs, none⟩ ∧ transOk s r.dom r.on = true ∧ ((pd s r.dom = (if r.on then 2 else 0))) ∧ (r.on = true ∨ committedTo s r.dom = false) := ⟨0, ⟨dMortar 0, true, .ctrl 0⟩, [], setPd (((State.reset).withSeqs [(0, ⟨[⟨dMortar 0, true, .ctrl 0⟩], none⟩)])) (dMortar 0) 2, by decide⟩

theorem wit_PowerDomainsComplete_8 : ∃ (q : Unit6) (r : PwrReq) (rs : List PwrReq) (s : State),
    tget seqDef s.seqs q = ⟨r :: rs, none⟩ ∧ transOk s r.dom r.on = true ∧ ((pd s r.dom ≠ (if r.on then 2 else 0))) ∧ (r.on = true ∨ committedTo s r.dom = false) := ⟨0, ⟨dCourse 0 0, true, .ctrl 0⟩, [], setPd (((State.reset).withSeqs [(0, ⟨[⟨dCourse 0 0, true, .ctrl 0⟩], none⟩)])) 0 0, by decide⟩

theorem wit_PowerDomainsComplete_9 : ∃ (dom : Fin 120) (s : State),
    pd s dom = 1 := ⟨0, setPd State.reset 0 1, by decide⟩

theorem wit_PowerDomainsComplete_10 : ∃ (dom : Fin 120) (s : State),
    pd s dom = 3 ∧ ¬ (108 ≤ dom.val) ∧ (¬ (dom.val < 96 ∧ 20 ≤ dom.val % 24)) := ⟨0, setPd State.reset 0 3, by decide⟩

theorem wit_PowerDomainsComplete_11 : ∃ (dom : Fin 120) (s : State),
    pd s dom = 3 ∧ 108 ≤ dom.val ∧ stackFaulted s (dom.val - 108) = false := ⟨108, setPd State.reset 108 3, by decide⟩

theorem wit_PowerDomainsComplete_12 : ∃ (q : Unit6) (r : PwrReq) (rs : List PwrReq) (u : Nat) (s : State),
    tget seqDef s.seqs q = ⟨r :: rs, none⟩ ∧ transOk s r.dom r.on = true ∧ (r.on = false ∧ r.org = .ctrl u) ∧ committedTo s r.dom = true := ⟨0, ⟨0, false, .ctrl 0⟩, [], 0, (State.reset.withSeqs [(0, ⟨[⟨0, false, .ctrl 0⟩], none⟩)]).withItems [{ demoItem 2 0 true with uses := [0] }], by decide⟩

theorem wit_PowerDomainsComplete_13 : ∃ (dom : Fin 120) (s : State),
    pd s dom = 3 ∧ (dom.val < 96 ∧ 20 ≤ dom.val % 24) := ⟨20, setPd State.reset 20 3, by decide⟩

theorem wit_PowerDomainsComplete_14 : ∃ (dom : Fin 120) (s : State),
    pd s dom = 3 ∧ 108 ≤ dom.val ∧ stackFaulted s (dom.val - 108) = true := ⟨108, fset (setPd State.reset 108 3) (Reg.FTG_HBM_STATUS 8) 4 2 2, by decide⟩

theorem wit_ImageUpdateComplete_1 : ∃ (s : State),
    bit s Reg.GLB_IMG_CTRL 31 = false ∧ s.update = none ∧ holding s = false ∧ (4096 ≤ (rd s Reg.GLB_IMG_LEN).toNat ∧ (rd s Reg.GLB_IMG_LEN).toNat ≤ 130023424) ∧ imgSrc s % 4096 = 0 := ⟨wr State.reset Reg.GLB_IMG_LEN 4096, by decide⟩

theorem wit_ImageUpdateComplete_2 : ∃ (s : State),
    bit s Reg.GLB_IMG_CTRL 31 = true := ⟨fset (State.reset) (Reg.GLB_IMG_CTRL) 31 1 1, by decide⟩

theorem wit_ImageUpdateComplete_3 : ∃ (s : State),
    bit s Reg.GLB_IMG_CTRL 31 = false ∧ s.update = none ∧ holding s = false ∧ (rd s Reg.GLB_IMG_LEN).toNat < 4096 := ⟨State.reset, by decide⟩

theorem wit_ImageUpdateComplete_4 : ∃ (u : Update) (s : State),
    s.update = some u ∧ fget s Reg.GLB_IMG_CTRL 2 3 = 1 := ⟨⟨1, 0, 4096, shippedImg, []⟩, fset (((State.reset).withUpdate (some ⟨1, 0, 4096, shippedImg, []⟩))) Reg.GLB_IMG_CTRL 2 3 1, by decide⟩

theorem wit_ImageUpdateComplete_5 : ∃ (u : Update) (s : State),
    s.update = some u ∧ fget s Reg.GLB_IMG_CTRL 2 3 = 3 := ⟨⟨1, 0, 4096, shippedImg, []⟩, fset (((State.reset).withUpdate (some ⟨1, 0, 4096, shippedImg, []⟩))) Reg.GLB_IMG_CTRL 2 3 3, by decide⟩

theorem wit_ImageUpdateComplete_6 : ∃ (s : State),
    bit s Reg.GLB_IMG_CTRL 31 = false ∧ s.update = none ∧ s.flash.counters.getD 0 0 < (bootedSlot s).img.svn := ⟨(((State.reset).withFlash ⟨[⟨1, 0x3F, [], { shippedImg with svn := 1 }⟩, emptySlot], ⟨[], []⟩, [0, 0, 0, 0], []⟩)), by decide⟩

theorem wit_ImageUpdateComplete_7 : ∃ (s : State),
    (bootedSlot s).img.svn ≤ s.flash.counters.getD 0 0 := ⟨State.reset, by decide⟩

theorem wit_ImageUpdateComplete_9 : ∃ (v : W32) (s : State),
    getBits v 4 1 = 1 ∧ 8 ≤ getBits v 0 4 := ⟨0x18, State.reset, by decide⟩

theorem wit_ImageUpdateComplete_10 : ∃ (v : W32) (s : State),
    getBits v 4 1 = 1 ∧ getBits v 0 4 < 8 := ⟨0x17, State.reset, by decide⟩

theorem wit_ImageUpdateComplete_11 : ∃ (s : State),
    (s.update.isSome = true ∨ holding s = true) := ⟨fset State.reset Reg.HUP_STATUS 0 2 2, by decide⟩

theorem wit_ImageUpdateComplete_12 : ∃ (s : State),
    bit s Reg.GLB_IMG_CTRL 31 = false ∧ s.update = none ∧ holding s = false ∧ 4096 ≤ (rd s Reg.GLB_IMG_LEN).toNat ∧ (130023424 < (rd s Reg.GLB_IMG_LEN).toNat ∨ imgSrc s % 4096 ≠ 0) := ⟨wr State.reset Reg.GLB_IMG_LEN 130023425, by decide⟩

theorem wit_HoldUpStoreComplete_1 : ∃ (usable : BitVec 16) (s : State),
    fget s Reg.HUP_STATUS 0 2 = 0 ∧ ((((List.range 4).map (fun c => fget s (Reg.HUP_COST c) 0 16)).foldl max 0) + 20000 ≤ usable.toNat) := ⟨65535, State.reset, by decide⟩

theorem wit_HoldUpStoreComplete_2 : ∃ (w : StoreWork) (usable : BitVec 16) (s : State),
    s.modx.rail = true ∧ s.hup.cur = none ∧ nextStore s.hup.queue = some w ∧ fget s (Reg.HUP_COST w.cls) 0 16 + 20000 ≤ usable.toNat ∧ (¬ (w.cls = 3 ∧ holding s = true)) := ⟨.counter 3, 65535, ((State.reset).withHup ⟨[.counter 3], none, []⟩), by decide⟩

theorem wit_HoldUpStoreComplete_3 : ∃ (w : StoreWork) (usable : BitVec 16) (s : State),
    s.modx.rail = true ∧ s.hup.cur = none ∧ nextStore s.hup.queue = some w ∧ usable.toNat < fget s (Reg.HUP_COST w.cls) 0 16 + 20000 ∧ holding s = false ∧ bit s Reg.GLB_MOD_STATUS 6 = true := ⟨.counter 3, 0, ((State.reset).withHup ⟨[.counter 3], none, []⟩), by decide⟩

theorem wit_HoldUpStoreComplete_4 : ∃ (w : StoreWork) (usable : BitVec 16) (s : State),
    s.hup.cur = some w := ⟨.counter 3, 0, ((State.reset).withHup ⟨[], some (.counter 3), []⟩), by decide⟩

theorem wit_FaultUnitComplete_1 : ∃ (d : Die) (v : W32) (s : State),
    winOpen s d := ⟨0, 1, State.reset, by decide⟩

theorem wit_FaultUnitComplete_2 : ∃ (d : Die) (s : State),
    winOpen s d ∧ (s.recov.any (fun r => r.owner == d.val) = true) := ⟨0, ((State.reset).withRecov [⟨0, 1, .course 0 0, 3, 0, 0, 0, false, false, false, false, false, false, 0, 0⟩]), by decide⟩

theorem wit_FaultUnitComplete_3 : ∃ (d : Die) (s : State),
    winOpen s d ∧ (s.recov.any (fun r => r.owner == d.val) = false) := ⟨0, State.reset, by decide⟩

theorem wit_FaultUnitComplete_4 : ∃ (d : Die) (r : Fin 16) (v : W32) (s : State),
    winOpen s d ∧ fringBase (rwlIn s (Reg.FLT_RING_CTRL d r) 2 v) d r % 0x40000 = 0 ∧ inOwnStack (rwlIn s (Reg.FLT_RING_CTRL d r) 2 v) d (fringBase (rwlIn s (Reg.FLT_RING_CTRL d r) 2 v) d r) 0x40000 = true ∧ ((∀ q : Fin 16, q ≠ r → bit (rwlIn s (Reg.FLT_RING_CTRL d r) 2 v) (Reg.FLT_RING_CTRL d q) 0 = false)) := ⟨0, 0, 1, wr State.reset (Reg.FLT_RING_BASE_HI 0 0) 0x1000, by decide⟩

theorem wit_FaultUnitComplete_5 : ∃ (d : Die) (r : Fin 16) (v : BitVec 13) (s : State),
    winOpen s d ∧ (v.toNat + 8192 - fget s (Reg.FLT_RING_HEAD d r) 0 13) % 8192 ≤ (fget s (Reg.FLT_RING_TAIL d r) 0 13 + 8192 - fget s (Reg.FLT_RING_HEAD d r) 0 13) % 8192 := ⟨0, 0, 0, State.reset, by decide⟩

theorem wit_FaultUnitComplete_6 : ∃ (d : Die) (r : Fin 16) (v : BitVec 13) (s : State),
    winOpen s d ∧ ¬ ((v.toNat + 8192 - fget s (Reg.FLT_RING_HEAD d r) 0 13) % 8192 ≤ (fget s (Reg.FLT_RING_TAIL d r) 0 13 + 8192 - fget s (Reg.FLT_RING_HEAD d r) 0 13) % 8192) := ⟨0, 0, 1, State.reset, by decide⟩

theorem wit_FaultUnitComplete_7 : ∃ (d : Die) (r : Fin 16) (s : State),
    (fring s d r).ovf.isEmpty = false ∧ (fring s d r).waiting.isEmpty = true ∧ bit s (Reg.FLT_RING_CTRL d r) 0 = true ∧ ¬ (fringFree s d r ≤ 16) := ⟨0, 0, fset (((State.reset).withFring [(0, ⟨[⟨0, 0, ⟨0, 0, 0, 0, 0, 0, 0, 0, 0, 1, 0, []⟩, ⟨0, 0, 0, 0, 0, 0, 0, 0, 0, 1, 0, []⟩, 1, false⟩], [], 1, 1, 0, 0⟩)])) (Reg.FLT_RING_CTRL 0 0) 0 1 1, by decide⟩

theorem wit_FaultUnitComplete_8 : ∃ (d : Die) (v : W32) (same : BitVec 4) (s : State),
    winOpen s d := ⟨0, 1, 0, State.reset, by decide⟩

theorem wit_RecoveriesComplete_1 : ∃ (u : Unit6) (num : Nat) (r : Recovery) (s : State),
    recovOf s u num = some r ∧ (¬ (r.pkgSlot = true ∨ s.pkgQ.contains (u.val, num) = true)) := ⟨0, 1, ⟨0, 1, .course 0 0, 2, 0, 0, 0, false, false, false, false, false, false, 0, 0⟩, ((State.reset).withRecov [⟨0, 1, .course 0 0, 2, 0, 0, 0, false, false, false, false, false, false, 0, 0⟩]), by decide⟩

theorem wit_RecoveriesComplete_2 : ∃ (u : Unit6) (num : Nat) (r : Recovery) (s : State),
    recovOf s u num = some r ∧ (¬ (r.running = true ∨ (r.dom.slots.1 = true ∧ (!r.dieSlot) = true) ∨ (r.dom.slots.2 = true ∧ (!r.pkgSlot) = true))) := ⟨0, 1, ⟨0, 1, .course 0 0, 2, 0, 0, 0, true, true, false, false, false, false, 0, 0⟩, ((State.reset).withRecov [⟨0, 1, .course 0 0, 2, 0, 0, 0, true, true, false, false, false, false, 0, 0⟩]), by decide⟩

theorem wit_RecoveriesComplete_3 : ∃ (u : Unit6) (num : Nat) (r : Recovery) (s : State),
    recovOf s u num = some r ∧ r.running = true := ⟨0, 1, ⟨0, 1, .course 0 0, 2, 0, 0, 0, true, true, false, false, true, false, 0, 0⟩, ((State.reset).withRecov [⟨0, 1, .course 0 0, 2, 0, 0, 0, true, true, false, false, true, false, 0, 0⟩]), by decide⟩

theorem wit_RecoveriesComplete_4 : ∃ (u : Unit6) (num : Nat) (r : Recovery) (s : State),
    recovOf s u num = some r ∧ r.running = true := ⟨0, 1, ⟨0, 1, .course 0 0, 2, 0, 0, 0, true, true, false, false, true, false, 0, 0⟩, ((State.reset).withRecov [⟨0, 1, .course 0 0, 2, 0, 0, 0, true, true, false, false, true, false, 0, 0⟩]), by decide⟩

theorem wit_RecoveriesComplete_5 : ∃ (u : Unit6) (num : Nat) (r : Recovery) (s : State),
    recovOf s u num = some r := ⟨0, 1, ⟨0, 1, .course 0 0, 2, 0, 0, 0, false, false, false, false, false, false, 0, 0⟩, ((State.reset).withRecov [⟨0, 1, .course 0 0, 2, 0, 0, 0, false, false, false, false, false, false, 0, 0⟩]), by decide⟩

theorem wit_RecoveriesComplete_6 : ∃ (i : Fin 12) (j : Fin 16) (s : State),
    i.val < 4 := ⟨0, 0, State.reset, by decide⟩

theorem wit_RecoveriesComplete_7 : ∃ (i : Fin 12) (j : Fin 16) (s : State),
    i.val < 4 ∧ j.val < 3 := ⟨0, 0, State.reset, by decide⟩

theorem wit_RecoveriesComplete_9 : ∃ (i : Fin 12) (j : Fin 16) (s : State),
    i.val < 4 := ⟨0, 0, State.reset, by decide⟩

theorem wit_RecoveriesComplete_10 : ∃ (i : Fin 12) (j : Fin 16) (s : State),
    i.val < 2 := ⟨0, 0, State.reset, by decide⟩

theorem wit_LedgerWritesComplete_1 : ∃ (d : Die) (s : State),
    winOpen s d := ⟨0, State.reset, by decide⟩

theorem wit_LedgerWritesComplete_2 : ∃ (d : Die) (s : State),
    winOpen s d ∧ ((s.items.any (fun i => i.charges.any (fun c => c.budget / 32 == d.val && decide (0 < c.uj))) || (ledgerX s d).kept.any (fun c => decide (0 < c.uj))) = false) := ⟨0, State.reset, by decide⟩

theorem wit_LedgerWritesComplete_3 : ∃ (d : Die) (s : State),
    winOpen s d ∧ ((s.items.any (fun i => i.charges.any (fun c => c.budget / 32 == d.val && decide (0 < c.uj))) || (ledgerX s d).kept.any (fun c => decide (0 < c.uj))) = true) := ⟨0, setLedgerX State.reset 0 { ledgerX State.reset 0 with kept := [⟨0, 0, 1⟩] }, by decide⟩

theorem wit_LedgerWritesComplete_5 : ∃ (d : Die) (i : Fin 21) (v : W32) (s : State),
    winOpen s d := ⟨0, 0, 1000, State.reset, by decide⟩

theorem wit_LedgerEventsComplete_3 : ∃ (d : Die) (b : Fin 21) (s : State),
    (ledgerX s d).stalled.contains b.val = false := ⟨0, 0, State.reset, by decide⟩

theorem wit_LedgerEventsComplete_4 : ∃ (d src : Die) (reads : List (Fin 24 × BitVec 11)) (s : State),
    outOf s src = false := ⟨0, 1, [], State.reset, by decide⟩

theorem wit_LedgerEventsComplete_5 : ∃ (d : Die) (s : State),
    outOf s d = false ∧ s.pllOff.contains d.val = false := ⟨0, State.reset, by decide⟩

theorem wit_LedgerEventsComplete_7 : ∃ (d : Die) (b : Fin 21) (s : State),
    (ledgerX s d).stalled.contains b.val = false := ⟨0, 0, State.reset, by decide⟩

theorem wit_LedgerEventsComplete_8 : ∃ (d : Die) (b : Fin 21) (s : State),
    (ledgerX s d).stalled.contains b.val = true := ⟨0, 0, setLedgerX State.reset 0 { ledgerX State.reset 0 with stalled := [0] }, by decide⟩

theorem wit_LedgerEventsComplete_9 : ∃ (d src : Die) (reads : List (Fin 24 × BitVec 11)) (s : State),
    outOf s src = true := ⟨0, 2, [], State.reset.withAbsent [2], by decide⟩

theorem wit_RepairAndRetirementComplete_1 : ∃ (h : Stack) (pc bank : Fin 64) (row : Nat) (s : State),
    footingUp s h = true ∧ (stackX s h).cur = none ∧ (stackX s h).due.contains (pc.val, bank.val, row) = true ∧ ((stackX s h).last.all (fun p => decide (p + 64 ≤ period s (h / 3))) = true) ∧ ¬ (4 ≤ tget natDef (stackX s h).used (pc.val * 64 + bank.val)) := ⟨0, 0, 0, 5, setPd (setStackX State.reset 0 { stackX State.reset 0 with due := [(0, 0, 5)] }) 108 2, by decide⟩

theorem wit_RepairAndRetirementComplete_2 : ∃ (h : Stack) (k : Nat × Nat × Nat) (s : State),
    (stackX s h).cur = some k := ⟨0, (1, 2, 3), setStackX State.reset 0 { stackX State.reset 0 with cur := some (1, 2, 3) }, by decide⟩

theorem wit_RepairAndRetirementComplete_3 : ∃ (h : Stack) (pc : Fin 64) (s : State),
    winOpen s (8 + h) ∧ bit s (Reg.FTG_RETIRE_CTRL (8 + h)) 31 = true := ⟨0, 0, setPd (fset (State.reset) (Reg.FTG_RETIRE_CTRL 8) 31 1 1) 108 2, by decide⟩

theorem wit_RepairAndRetirementComplete_4 : ∃ (h : Stack) (pc : Fin 64) (s : State),
    winOpen s (8 + h) ∧ bit s (Reg.FTG_RETIRE_CTRL (8 + h)) 31 = false ∧ pcState (fset s (Reg.FTG_RETIRE_CTRL (8 + h)) 0 6 pc) h pc = 0 ∧ stackFaulted (fset s (Reg.FTG_RETIRE_CTRL (8 + h)) 0 6 pc) h = false ∧ retiringPc (fset s (Reg.FTG_RETIRE_CTRL (8 + h)) 0 6 pc) h pc = false ∧ reserveFree (fset s (Reg.FTG_RETIRE_CTRL (8 + h)) 0 6 pc) h = true := ⟨0, 0, setPd (fset (State.reset) (Reg.FTG_HBM_STATUS 8) 0 2 2) 108 2, by decide⟩

theorem wit_RepairAndRetirementComplete_5 : ∃ (h : Stack) (r : Retire) (s : State),
    (stackX s h).ret = some r ∧ footingUp s h = true ∧ outOf s (h / 3) = false ∧ (r.forced = true ∨ r.before.all (fun k => (findItem s k.1 k.2.1 k.2.2).isNone) = true) := ⟨0, ⟨3, true, false, false, []⟩, setPd (setStackX State.reset 0 { stackX State.reset 0 with ret := some ⟨3, true, false, false, []⟩ }) 108 2, by decide⟩

theorem wit_RepairAndRetirementComplete_6 : ∃ (h : Stack) (r : Retire) (s : State),
    (stackX s h).ret = some r ∧ r.copying = true ∧ outOf s (h / 3) = false ∧ footingUp s h = true := ⟨0, ⟨3, true, false, true, []⟩, setPd (setStackX State.reset 0 { stackX State.reset 0 with ret := some ⟨3, true, false, true, []⟩ }) 108 2, by decide⟩

theorem wit_RepairAndRetirementComplete_7 : ∃ (h : Stack) (pc : Fin 64) (s : State),
    isOn s (dFooting h) = true := ⟨0, 0, setPd State.reset 108 2, by decide⟩

theorem wit_RepairAndRetirementComplete_8 : ∃ (h : Stack) (pc : Fin 64) (s : State),
    winOpen s (8 + h) ∧ bit s (Reg.FTG_RETIRE_CTRL (8 + h)) 31 = false ∧ pcState (fset s (Reg.FTG_RETIRE_CTRL (8 + h)) 0 6 pc) h pc ≠ 0 := ⟨0, 3, fset (setPd State.reset 108 2) (Reg.FTG_PC_STATE 8 0) 6 2 1, by decide⟩

theorem wit_RepairAndRetirementComplete_9 : ∃ (h : Stack) (pc : Fin 64) (s : State),
    winOpen s (8 + h) ∧ bit s (Reg.FTG_RETIRE_CTRL (8 + h)) 31 = false ∧ pcState (fset s (Reg.FTG_RETIRE_CTRL (8 + h)) 0 6 pc) h pc = 0 ∧ stackFaulted (fset s (Reg.FTG_RETIRE_CTRL (8 + h)) 0 6 pc) h = true := ⟨0, 3, fset (setPd State.reset 108 2) (Reg.FTG_HBM_STATUS 8) 4 2 2, by decide⟩

theorem wit_RepairAndRetirementComplete_10 : ∃ (h : Stack) (pc : Fin 64) (s : State),
    winOpen s (8 + h) ∧ bit s (Reg.FTG_RETIRE_CTRL (8 + h)) 31 = false ∧ pcState (fset s (Reg.FTG_RETIRE_CTRL (8 + h)) 0 6 pc) h pc = 0 ∧ stackFaulted (fset s (Reg.FTG_RETIRE_CTRL (8 + h)) 0 6 pc) h = false ∧ retiringPc (fset s (Reg.FTG_RETIRE_CTRL (8 + h)) 0 6 pc) h pc = false ∧ reserveFree (fset s (Reg.FTG_RETIRE_CTRL (8 + h)) 0 6 pc) h = false := ⟨0, 3, fset (setPd State.reset 108 2) (Reg.FTG_HBM_STATUS 8) 0 2 0, by decide⟩

theorem wit_RepairAndRetirementComplete_11 : ∃ (h : Stack) (pc bank : Fin 64) (row : Nat) (s : State),
    footingUp s h = true ∧ (stackX s h).cur = none ∧ (stackX s h).due.contains (pc.val, bank.val, row) = true ∧ ((stackX s h).last.all (fun p => decide (p + 64 ≤ period s (h / 3))) = true) ∧ 4 ≤ tget natDef (stackX s h).used (pc.val * 64 + bank.val) := ⟨0, 0, 0, 5, setPd (setStackX State.reset 0 { stackX State.reset 0 with due := [(0, 0, 5)], used := [(0, 4)] }) 108 2, by decide⟩

theorem wit_SocketServiceComplete_1 : ∃ (n : Socket) (s : State),
    winOpen s (4 + n / 3) ∧ bit s (sktCtrl n) 31 = true := ⟨0, fset (State.reset) (sktCtrl 0) 31 1 1, by decide⟩

theorem wit_SocketServiceComplete_2 : ∃ (n : Socket) (s : State),
    winOpen s (4 + n / 3) ∧ bit s (sktCtrl n) 31 = false ∧ sktState s n = 1 ∧ ((List.range 6).all (fun m => m == n.val || decide (sktState s m ≤ 1)) = true) := ⟨0, fset (State.reset) (Reg.GLB_SKT_STATUS 4 0) 0 3 1, by decide⟩

theorem wit_SocketServiceComplete_3 : ∃ (n : Socket) (s : State),
    winOpen s (4 + n / 3) ∧ bit s (sktCtrl n) 31 = false ∧ sktState s n = 2 := ⟨0, fset (State.reset) (Reg.GLB_SKT_STATUS 4 0) 0 3 2, by decide⟩

theorem wit_SocketServiceComplete_4 : ∃ (n : Socket) (s : State),
    winOpen s (4 + n / 3) ∧ bit s (sktCtrl n) 31 = false ∧ sktState s n = 2 := ⟨0, fset (State.reset) (Reg.GLB_SKT_STATUS 4 0) 0 3 2, by decide⟩

theorem wit_SocketServiceComplete_5 : ∃ (n : Socket) (s : State),
    winOpen s (4 + n / 3) ∧ bit s (sktCtrl n) 31 = false ∧ (sktState s n = 3 ∨ sktState s n = 6) := ⟨0, fset (State.reset) (Reg.GLB_SKT_STATUS 4 0) 0 3 3, by decide⟩

theorem wit_SocketServiceComplete_6 : ∃ (n : Socket) (s : State),
    bit s (sktCtrl n) 31 = true ∧ sktState s n = 2 := ⟨0, fset (fset (State.reset) (Reg.GLB_SKT_STATUS 4 0) 0 3 2) (sktCtrl 0) 31 1 1, by decide⟩

theorem wit_SocketServiceComplete_7 : ∃ (n : Socket) (cap : BitVec 10) (s : State),
    bit s (sktCtrl n) 31 = true ∧ sktState s n = 4 := ⟨0, 64, fset (fset (State.reset) (Reg.GLB_SKT_STATUS 4 0) 0 3 4) (sktCtrl 0) 31 1 1, by decide⟩

theorem wit_SocketServiceComplete_8 : ∃ (n : Socket) (cap : BitVec 10) (s : State),
    bit s (sktCtrl n) 31 = true ∧ (sktState s n = 4 ∨ sktState s n = 5) := ⟨0, 64, fset (fset (State.reset) (Reg.GLB_SKT_STATUS 4 0) 0 3 4) (sktCtrl 0) 31 1 1, by decide⟩

theorem wit_SocketServiceComplete_9 : ∃ (n : Socket) (s : State),
    sktState s n = 5 := ⟨0, fset (State.reset) (Reg.GLB_SKT_STATUS 4 0) 0 3 5, by decide⟩

theorem wit_SocketServiceComplete_10 : ∃ (n : Socket) (s : State),
    winOpen s (4 + n / 3) ∧ bit s (sktCtrl n) 31 = false ∧ sktState s n ≠ 2 := ⟨0, fset State.reset (Reg.GLB_SKT_STATUS 4 0) 0 3 0, by decide⟩

theorem wit_SocketServiceComplete_11 : ∃ (n : Socket) (s : State),
    winOpen s (4 + n / 3) ∧ bit s (sktCtrl n) 31 = false ∧ (sktState s n ≠ 2 ∧ sktState s n ≠ 3 ∧ sktState s n ≠ 6) := ⟨0, fset State.reset (Reg.GLB_SKT_STATUS 4 0) 0 3 1, by decide⟩

theorem wit_SocketServiceComplete_12 : ∃ (n : Socket) (s : State),
    winOpen s (4 + n / 3) ∧ bit s (sktCtrl n) 31 = false ∧ (¬ (sktState s n = 1 ∧ (List.range 6).all (fun m => m == n.val || decide (sktState s m ≤ 1)) = true)) := ⟨0, fset State.reset (Reg.GLB_SKT_STATUS 4 0) 0 3 2, by decide⟩

theorem wit_SocketServiceComplete_13 : ∃ (n : Socket) (s : State),
    winOpen s (4 + n / 3) ∧ bit s (sktCtrl n) 31 = true := ⟨0, fset State.reset (sktCtrl 0) 31 1 1, by decide⟩

theorem wit_BlockControlComplete_1 : ∃ (d : Die) (n : Blk) (s : State),
    winOpen s d := ⟨0, 0, State.reset, by decide⟩

theorem wit_BlockControlComplete_2 : ∃ (d : Die) (n : Blk) (s : State),
    winOpen s d ∧ blkState s d n = 2 ∧ tget natDef (setRD s (Reg.BLK_CTRL d n) 8 0 0).btest (d * 288 + n) = 0 := ⟨0, 0, fset (State.reset) (Reg.BLK_STATE 0 0) 0 3 2, by decide⟩

theorem wit_BlockControlComplete_3 : ∃ (d : Die) (n : Blk) (s : State),
    winOpen s d ∧ blkState s d n ≠ 2 := ⟨0, 0, State.reset, by decide⟩

theorem wit_BlockControlComplete_4 : ∃ (d : Die) (n : Blk) (pass : Bool) (s : State),
    tget natDef s.btest (d * 288 + n) = 1 := ⟨0, 0, true, ((State.reset).withBtest [(0, 1)]), by decide⟩

theorem wit_BlockControlComplete_5 : ∃ (d : Die) (n : Blk) (s : State),
    2 ≤ tget natDef s.btest (d * 288 + n) := ⟨0, 0, ((State.reset).withBtest [(0, 2)]), by decide⟩

theorem wit_BlockControlComplete_6 : ∃ (d : Die) (n : Blk) (c : Ctx) (s : State),
    winOpen s d ∧ ctxChecks s d n c = none ∧ ctxState (setRD (fset s (Reg.BLK_CTX_CTRL d n c) 0 1 1) (Reg.BLK_CTX_STATUS d n c) 8 0 0) d n c = 1 := ⟨0, 0, 0, fset (fset (setPd (fset (State.reset) (Reg.BLK_CTX_STATUS 0 0 0) 0 3 1) 0 2) (Reg.BLK_MASON_CFG 0 0 0) 0 7 4) (Reg.BLK_STATE 0 0) 0 3 0, by decide⟩

theorem wit_BlockControlComplete_7 : ∃ (d n c : Nat) (r t : Nat) (s : State),
    ctxChecks s d n c = some (r, t) := ⟨0, 0, 0, Rsn.CFG_MISSING, 0x15, fset (fset (setPd (State.reset) 0 2) (Reg.BLK_MASON_CFG 0 0 0) 0 7 4) (Reg.BLK_STATE 0 0) 0 3 0, by decide⟩

theorem wit_BlockControlComplete_8 : ∃ (d : Die) (n : Blk) (c : Ctx) (s : State),
    winOpen s d ∧ inRun s d n c = true := ⟨0, 0, 0, demoCtx 0, by decide⟩

theorem wit_BlockControlComplete_9 : ∃ (d : Die) (n : Blk) (c : Ctx) (s : State),
    winOpen s d ∧ inRun s d n c = false ∧ ctxState (fset s (Reg.BLK_CTX_CTRL d n c) 0 1 0) d n c = 2 := ⟨0, 0, 0, fset (State.reset) (Reg.BLK_CTX_STATUS 0 0 0) 0 3 2, by decide⟩

theorem wit_BlockControlComplete_10 : ∃ (d : Die) (n : Blk) (s : State),
    winOpen s d ∧ blkState s d n = 2 ∧ tget natDef (setRD s (Reg.BLK_CTRL d n) 8 0 0).btest (d * 288 + n) ≠ 0 := ⟨0, 0, (fset State.reset (Reg.BLK_STATE 0 0) 0 3 2).withBtest [(0, 1)], by decide⟩

theorem wit_BlockControlComplete_11 : ∃ (d : Die) (n : Blk) (c : Ctx) (s : State),
    winOpen s d := ⟨0, 0, 0, State.reset, by decide⟩

theorem wit_ScratchpadAccessComplete_1 : ∃ (d : Die) (n : Blk) (m : Fin 5) (c : Ctx) (off : BitVec 21) (len : Nat) (s : State),
    (0 < len ∧ len ≤ 256) ∧ m.val = 4 ∧ blockRefusal s d n = none ∧ accCheck s d n 4 0 0 off.toNat len = none ∧ poisonedAt s (spadAddr d n off.toNat) len = false := ⟨0, 0, 4, 0, 0, 8, demoSpad, by decide⟩

theorem wit_ScratchpadAccessComplete_2 : ∃ (d : Die) (n : Blk) (m : Fin 5) (c : Ctx) (off : BitVec 21) (data : List Byte) (s : State),
    (0 < data.length ∧ data.length ≤ 256) ∧ m.val = 4 ∧ blockRefusal s d n = none ∧ accCheck s d n 4 0 1 off.toNat data.length = none := ⟨0, 0, 4, 0, 0, [1, 2], demoSpad, by decide⟩

theorem wit_ScratchpadAccessComplete_3 : ∃ (d : Die) (n : Blk) (m : Fin 5) (c : Ctx) (off : BitVec 21) (data : List Byte) (s : State),
    (0 < data.length ∧ data.length ≤ 256) ∧ m.val = 4 ∧ blockRefusal s d n = none ∧ accCheck s d n 4 0 2 off.toNat data.length = none := ⟨0, 0, 4, 0, 0, [1, 2], demoSpad, by decide⟩

theorem wit_ScratchpadAccessComplete_4 : ∃ (d : Die) (n : Blk) (m : Fin 5) (c : Ctx) (off : BitVec 21) (data : List Byte) (s : State),
    (0 < data.length ∧ data.length ≤ 256) ∧ m.val = 4 ∧ blockRefusal s d n = none ∧ accCheck s d n 4 0 3 off.toNat data.length = none := ⟨0, 0, 4, 0, 0, [1, 2], demoSpad, by decide⟩

theorem wit_ScratchpadAccessComplete_5 : ∃ (d : Die) (n : Blk) (m : Fin 5) (c : Ctx) (off : BitVec 21) (data : List Byte) (r t : Nat) (s : State),
    (0 < data.length ∧ data.length ≤ 256) ∧ blockRefusal s d n = some (r, t) := ⟨0, 0, 4, 0, 0, [1], Rsn.STATE, 0x16, fset (demoSpad) (Reg.BLK_STATE 0 0) 0 3 1, by decide⟩

theorem wit_ScratchpadAccessComplete_6 : ∃ (d : Die) (n : Blk) (m : Fin 5) (c : Ctx) (off : BitVec 21) (len : Nat) (bs : List Byte) (t s : State),
    (0 < len ∧ len ≤ 256) ∧ m.val ≠ 4 ∧ blockRefusal s d n = none ∧ ownRead s d n m c off.toNat len = .ok t bs := by
  obtain ⟨t, bs, h⟩ := gotWit (ownRead (wr demoSpad (Reg.BLK_RGN 0 0 0 1 0) 0xF7FF0000) 0 0 1 0 0 8) (by decide)
  exact ⟨0, 0, 1, 0, 0, 8, bs, t, wr demoSpad (Reg.BLK_RGN 0 0 0 1 0) 0xF7FF0000, by decide, by decide, by decide, h⟩

theorem wit_ScratchpadAccessComplete_7 : ∃ (d : Die) (n : Blk) (m : Fin 5) (c : Ctx) (off : BitVec 21) (data : List Byte) (t : State) (bs : List Byte) (s : State),
    (0 < data.length ∧ data.length ≤ 256) ∧ m.val ≠ 4 ∧ blockRefusal s d n = none ∧ ownWrite s d n m c 1 off.toNat data = .ok t bs := by
  obtain ⟨t, bs, h⟩ := gotWit (ownWrite (wr demoSpad (Reg.BLK_RGN 0 0 0 1 0) 0xF7FF0000) 0 0 1 0 1 0 [1, 2]) (by decide)
  exact ⟨0, 0, 1, 0, 0, [1, 2], t, bs, wr demoSpad (Reg.BLK_RGN 0 0 0 1 0) 0xF7FF0000, by decide, by decide, by decide, h⟩

theorem wit_ScratchpadAccessComplete_8 : ∃ (d : Die) (n : Blk) (m : Fin 5) (c : Ctx) (off : BitVec 21) (len r a b : Nat) (s : State),
    (0 < len ∧ len ≤ 256) ∧ m.val = 4 ∧ blockRefusal s d n = none ∧ accCheck s d n 4 0 0 off.toNat len = some (r, a, b) := ⟨0, 0, 4, 0, 256, 8, Rsn.RIGHTS, 1, 1, demoSpad, by decide⟩

theorem wit_BlockFlagClearsComplete_1 : ∃ (d : Die) (n : Blk) (c : Ctx) (v : W32) (same : BitVec 7) (sat : BitVec 16) (s : State),
    winOpen s d ∧ v.toNat % 128 &&& same.toNat = 0 ∧ (v.toNat % 128).testBit 5 = false ∧ same.toNat.testBit 5 = false := ⟨0, 0, 0, 1, 2, 0, State.reset, by decide⟩

theorem wit_BlockFlagClearsComplete_2 : ∃ (d : Die) (n : Blk) (v : W32) (s : State),
    winOpen s d ∧ v.getLsbD 31 = true := ⟨0, 0, 0x80000000, State.reset, by decide⟩

theorem wit_BlockFlagClearsComplete_3 : ∃ (d : Die) (n : Blk) (v q : W32) (s : State),
    winOpen s d ∧ v.getLsbD 31 = true := ⟨0, 0, 0x80000000, 0, State.reset, by decide⟩

theorem wit_BlockFlagClearsComplete_4 : ∃ (d : Die) (n : Blk) (c : Ctx) (v : W32) (same : BitVec 7) (sat : BitVec 16) (s : State),
    winOpen s d := ⟨0, 0, 0, 1, 2, 0, State.reset, by decide⟩

theorem wit_BlockFlagClearsComplete_5 : ∃ (d : Die) (n : Blk) (v : W32) (s : State),
    winOpen s d ∧ v.getLsbD 31 = false := ⟨0, 0, 0, State.reset, by decide⟩

theorem wit_BlockFlagClearsComplete_6 : ∃ (d : Die) (n : Blk) (v q : W32) (s : State),
    winOpen s d ∧ v.getLsbD 31 = false := ⟨0, 0, 0, 0, State.reset, by decide⟩

theorem wit_IssuerComplete_1 : ∃ (d : Die) (n : Blk) (c : Ctx) (x : CtxX) (w : Nat) (s : State),
    issuing s d n c 0x01 = some (x, w) := ⟨0, 0, 0, { ctxDef 0 with prog := [1*2^58+5] }, 1*2^58+5, demoCtx (1*2^58+5), by decide⟩

theorem wit_IssuerComplete_2 : ∃ (d : Die) (n : Blk) (c : Ctx) (x : CtxX) (w : Nat) (s : State),
    issuing s d n c 0x02 = some (x, w) := ⟨0, 0, 0, { ctxDef 0 with prog := [2*2^58+0] }, 2*2^58+0, demoCtx (2*2^58+0), by decide⟩

theorem wit_IssuerComplete_3 : ∃ (d : Die) (n : Blk) (c : Ctx) (x : CtxX) (w : Nat) (s : State),
    issuing s d n c 0x06 = some (x, w) := ⟨0, 0, 0, { ctxDef 0 with prog := [6*2^58+17] }, 6*2^58+17, demoCtx (6*2^58+17), by decide⟩

theorem wit_IssuerComplete_4 : ∃ (d : Die) (n : Blk) (c : Ctx) (x : CtxX) (w : Nat) (s : State),
    issuing s d n c 0x07 = some (x, w) := ⟨0, 0, 0, { ctxDef 0 with prog := [7*2^58+65538] }, 7*2^58+65538, demoCtx (7*2^58+65538), by decide⟩

theorem wit_IssuerComplete_5 : ∃ (d : Die) (n : Blk) (c : Ctx) (x : CtxX) (w : Nat) (s : State),
    issuing s d n c 0x3F = some (x, w) := ⟨0, 0, 0, { ctxDef 0 with prog := [63*2^58+0] }, 63*2^58+0, demoCtx (63*2^58+0), by decide⟩

theorem wit_IssuerComplete_6 : ∃ (d : Die) (n : Blk) (c : Ctx) (x : CtxX) (w : Nat) (s : State),
    issuing s d n c 0x05 = some (x, w) ∧ waitMet x w = true := ⟨0, 0, 0, { ctxDef 0 with prog := [5*2^58+0] }, 5*2^58+0, demoCtx (5*2^58+0), by decide⟩

theorem wit_IssuerComplete_7 : ∃ (d : Die) (n : Blk) (c : Ctx) (x : CtxX) (w : Nat) (s : State),
    issuing s d n c 0x05 = some (x, w) ∧ waitMet x w = false := ⟨0, 0, 0, { ctxDef 0 with prog := [5*2^58+16] }, 5*2^58+16, demoCtx (5*2^58+16), by decide⟩

theorem wit_IssuerComplete_8 : ∃ (d : Die) (n : Blk) (c : Ctx) (x : CtxX) (w : Nat) (s : State),
    issuing s d n c 0x08 = some (x, w) ∧ allDone x = true := ⟨0, 0, 0, { ctxDef 0 with prog := [8*2^58+0] }, 8*2^58+0, demoCtx (8*2^58+0), by decide⟩

theorem wit_IssuerComplete_9 : ∃ (d : Die) (n : Blk) (c : Ctx) (x : CtxX) (w : Nat) (s : State),
    issuing s d n c 0x08 = some (x, w) ∧ allDone x = false := ⟨0, 0, 0, { ctxDef 0 with prog := [8*2^58], vec := [1] }, 8*2^58, fset (setCtxX State.reset 0 0 0 { ctxDef 0 with prog := [8*2^58], vec := [1] }) (Reg.BLK_CTX_STATUS 0 0 0) 0 3 3, by decide⟩

theorem wit_IssuerComplete_10 : ∃ (d : Die) (n : Blk) (c : Ctx) (x : CtxX) (w : Nat) (p : Plan) (s : State),
    issuing s d n c 0x04 = some (x, w) ∧ planOf s d x.plan = some p := ⟨0, 0, 0, { ctxDef 0 with prog := [4*2^58] }, 4*2^58, ⟨0, (ctxDef 0).plan, [], [], [], 0⟩, (demoCtx (4*2^58)).withPlans [⟨0, (ctxDef 0).plan, [], [], [], 0⟩], by decide⟩

theorem wit_IssuerComplete_11 : ∃ (d : Die) (n : Blk) (c : Ctx) (w : Nat) (s : State),
    ctxState s d n c = 4 ∧ fget s (Reg.BLK_CTX_STATUS d n c) 24 4 ≠ 4 ∧ courseStalled s d (n / 18) = false ∧ (ctxX s d n c).prog[(ctxX s d n c).pc]? = some w ∧ iOp w = 5 ∧ waitMet (ctxX s d n c) w = true := ⟨0, 0, 0, 5*2^58, fset (demoCtx (5*2^58)) (Reg.BLK_CTX_STATUS 0 0 0) 0 3 4, by decide⟩

theorem wit_TransfersComplete_1 : ∃ (d : Die) (n : Blk) (c : Ctx) (i : Nat) (s : State),
    inRun s d n c = true := ⟨0, 0, 0, 0, fset (setCtxX State.reset 0 0 0 { ctxDef 0 with hods := [HodOp.mk 0 1 0 0 false false false] }) (Reg.BLK_CTX_STATUS 0 0 0) 0 3 3, by decide⟩

theorem wit_TransfersComplete_2 : ∃ (d : Die) (n : Blk) (c : Ctx) (i : Nat) (o : HodOp) (p : Plan) (s : State),
    inRun s d n c = true ∧ ((ctxX s d n c).hods.find? (fun o => o.id == i && !o.held && !o.actual) = some o) ∧ planOf s d (ctxX s d n c).plan = some p ∧ (p.hod o.desc).lintel = false ∧ ((opKind (p.hod o.desc).src ≠ 0 → ∀ it, runItem s d (ctxX s d n c).plan = some it → ∀ k < (p.hod o.desc).rows, extAway s d it.extents (slotAddr it (opSlot (p.hod o.desc).src) + opOff (p.hod o.desc).src + k * (p.hod o.desc).sstr) (p.hod o.desc).rowBytes = false)) := ⟨0, 0, 0, 0, HodOp.mk 0 1 0 0 false false false, ⟨0, (ctxDef 0).plan, [], [], [], 0⟩, (fset (setCtxX State.reset 0 0 0 { ctxDef 0 with hods := [HodOp.mk 0 1 0 0 false false false] }) (Reg.BLK_CTX_STATUS 0 0 0) 0 3 3).withPlans [⟨0, (ctxDef 0).plan, [], [], [], 0⟩], by decide⟩

theorem wit_TransfersComplete_3 : ∃ (d : Die) (n : Blk) (c : Ctx) (i : Nat) (count : BitVec 20) (p : Plan) (s : State),
    planOf s d (ctxX s d n c).plan = some p ∧ inRun s d n c = true := ⟨0, 0, 0, 0, 3, demoPlan, demoLintel, by decide⟩

theorem wit_TransfersComplete_4 : ∃ (d : Die) (n : Blk) (c : Ctx) (i : Nat) (p : Plan) (s : State),
    planOf s d (ctxX s d n c).plan = some p ∧ inRun s d n c = true := ⟨0, 0, 0, 0, ⟨0, (ctxDef 0).plan, [], [], [], 0⟩, (demoCtx 0).withPlans [⟨0, (ctxDef 0).plan, [], [], [], 0⟩], by decide⟩

theorem wit_TransfersComplete_5 : ∃ (d : Die) (n : Blk) (i : Fin 64) (g : BitVec 20) (c desc slot row : Nat) (p : Plan) (s : State),
    tagCtx s d n i = some (c, p, desc, slot, row) ∧ (¬ ((g.toNat ≤ p.depth ∧ fget s (Reg.BLK_LINTEL_TAG d n i) 0 20 = 0) ∨ (p.depth < g.toNat ∧ fget s (Reg.BLK_LINTEL_TAG d n i) 0 20 = g.toNat - p.depth))) := ⟨0, 0, 0, 2, 0, 0, 0, 0, demoPlan, demoLintel, by decide⟩

theorem wit_TransfersComplete_6 : ∃ (d : Die) (n : Blk) (i : Fin 64) (g : BitVec 20) (c desc slot row : Nat) (p : Plan) (s : State),
    tagCtx s d n i = some (c, p, desc, slot, row) ∧ ((g.toNat ≤ p.depth ∧ fget s (Reg.BLK_LINTEL_TAG d n i) 0 20 = 0) ∨ (p.depth < g.toNat ∧ fget s (Reg.BLK_LINTEL_TAG d n i) 0 20 = g.toNat - p.depth)) ∧ rowSent s p desc g.toNat slot row = true ∧ ((opKind (p.hod desc).src = 0 ∨ ∃ it, runItem s d p.handle = some it ∧ extAway s d it.extents (slotAddr it (opSlot (p.hod desc).src) + opOff (p.hod desc).src + row * (p.hod desc).sstr) (p.hod desc).rowBytes = false)) ∧ accCheck s d n 4 0 1 (opOff (p.hod desc).dst + (slot * (p.hod desc).rows + row) * (p.hod desc).dstr) (p.hod desc).rowBytes = none := ⟨0, 0, 0, 1, 0, 0, 0, 0, demoPlan, demoSent, by decide⟩

theorem wit_TransfersComplete_7 : ∃ (d : Die) (n : Blk) (c : Ctx) (i : Nat) (o : HodOp) (p : Plan) (s : State),
    inRun s d n c = true ∧ ((ctxX s d n c).hods.find? (fun o => o.id == i && !o.held && !o.actual) = some o) ∧ planOf s d (ctxX s d n c).plan = some p ∧ (p.hod o.desc).lintel = true := ⟨0, 0, 0, 0, HodOp.mk 0 1 0 1 false false true, demoPlan, demoSent, by decide⟩

theorem wit_TransfersComplete_8 : ∃ (d : Die) (n : Blk) (i : Fin 64) (g : BitVec 20) (c desc slot row : Nat) (p : Plan) (r : Nat × Nat × Nat) (s : State),
    tagCtx s d n i = some (c, p, desc, slot, row) ∧ ((g.toNat ≤ p.depth ∧ fget s (Reg.BLK_LINTEL_TAG d n i) 0 20 = 0) ∨ (p.depth < g.toNat ∧ fget s (Reg.BLK_LINTEL_TAG d n i) 0 20 = g.toNat - p.depth)) ∧ rowSent s p desc g.toNat slot row = true ∧ opKind (p.hod desc).src = 0 ∧ accCheck s d n 4 0 1 (opOff (p.hod desc).dst + (slot * (p.hod desc).rows + row) * (p.hod desc).dstr) (p.hod desc).rowBytes = some r := ⟨0, 0, 0, 1, 0, 0, 0, 0, demoPlan, (Rsn.RIGHTS, 2, 0), wr demoSent (Reg.BLK_RGN_EXT 0 0 0) 0, by decide⟩

theorem wit_TransfersComplete_9 : ∃ (d : Die) (n : Blk) (i : Fin 64) (g : BitVec 20) (c desc slot row : Nat) (p : Plan) (s : State),
    tagCtx s d n i = some (c, p, desc, slot, row) ∧ ((g.toNat ≤ p.depth ∧ fget s (Reg.BLK_LINTEL_TAG d n i) 0 20 = 0) ∨ (p.depth < g.toNat ∧ fget s (Reg.BLK_LINTEL_TAG d n i) 0 20 = g.toNat - p.depth)) ∧ rowSent s p desc g.toNat slot row = false := ⟨0, 0, 0, 1, 0, 0, 0, 0, demoPlan, demoLintel, by decide⟩

theorem wit_MasonAndPlumbComplete_1 : ∃ (d : Die) (n : Blk) (c : Ctx) (o : MOp) (s : State),
    inRun s d n c = true ∧ ((ctxX s d n c).mason.filter (·.started)).length < 2 ∧ ((ctxX s d n c).mason.find? (fun o => !o.started) = some o) := ⟨0, 0, 0, MOp.mk 0 0 0 0 0 false 0, fset (setCtxX State.reset 0 0 0 { ctxDef 0 with mason := [MOp.mk 0 0 0 0 0 false 0] }) (Reg.BLK_CTX_STATUS 0 0 0) 0 3 3, by decide⟩

theorem wit_MasonAndPlumbComplete_2 : ∃ (d : Die) (n : Blk) (c : Ctx) (o : MOp) (os : List MOp) (s : State),
    (ctxX s d n c).mason = o :: os ∧ o.started = true ∧ inRun s d n c = true ∧ masonCheck s d n c o = (none, none) := ⟨0, 0, 0, MOp.mk 0 0 0 0 0 true 0, [], demoMason, by decide⟩

theorem wit_MasonAndPlumbComplete_3 : ∃ (d : Die) (x : Sample) (s : State),
    tget plumbDef s.plumb d = some x ∧ fget s (Reg.PLB_STATUS d) 0 2 = 2 := ⟨0, ⟨0, 0, 0, 0, 0, 0, [], []⟩, fset (((State.reset).withPlumb [(0, some ⟨0, 0, 0, 0, 0, 0, [], []⟩)])) (Reg.PLB_STATUS 0) 0 2 2, by decide⟩

theorem wit_MasonAndPlumbComplete_4 : ∃ (d : Die) (v : W32) (s : State),
    winOpen s d ∧ plbChecks (rwlIn s (Reg.PLB_CTRL d) 0xFFE v) d = none := ⟨0, 12, wr State.reset (Reg.PLB_TABLE_BASE_HI 0) 0x1000, by decide⟩

theorem wit_MasonAndPlumbComplete_5 : ∃ (d : Die) (s : State),
    winOpen s d := ⟨0, State.reset, by decide⟩

theorem wit_MasonAndPlumbComplete_6 : ∃ (d : Die) (n : Blk) (c : Ctx) (o : MOp) (os : List MOp) (r : AccKind × Nat × Nat × Nat) (w : Option Nat) (s : State),
    (ctxX s d n c).mason = o :: os ∧ o.started = true ∧ inRun s d n c = true ∧ masonCheck s d n c o = (some r, w) := ⟨0, 0, 0, MOp.mk 0 0 0 0 0 true 0, [], (1, Rsn.RIGHTS, 2, 3072), none, wr demoMason (Reg.BLK_RGN 0 0 0 0 0) 0, by decide⟩

theorem wit_MasonAndPlumbComplete_7 : ∃ (d : Die) (n : Blk) (c : Ctx) (o : MOp) (os : List MOp) (w : Nat) (s : State),
    (ctxX s d n c).mason = o :: os ∧ o.started = true ∧ inRun s d n c = true ∧ masonCheck s d n c o = (none, some w) := ⟨0, 0, 0, MOp.mk (2 ^ 43) 0 0 0 0 true 0, [], 3072, (setCtxX demoMason 0 0 0 { ctxX demoMason 0 0 0 with mason := [MOp.mk (2 ^ 43) 0 0 0 0 true 0] }).withPoison [spadAddr 0 0 (256 * 3072)], by decide⟩

theorem wit_MasonAndPlumbComplete_8 : ∃ (d : Die) (v : W32) (r e : Nat) (s : State),
    winOpen s d ∧ plbChecks (rwlIn s (Reg.PLB_CTRL d) 0xFFE v) d = some (r, e) := ⟨0, 0, Rsn.CFG_RANGE, 0x81, State.reset, by decide⟩

theorem wit_VectorElementwiseComplete_1 : ∃ (mk : Die → Blk → Ctx → Instr) (base : Nat) (d : Die) (n : Blk) (c : Ctx) (x : CtxX) (w : Nat) (s : State),
    (((mk, base) ∈ ([(Instr.add, 0x00), (Instr.sub, 0x04), (Instr.mul, 0x08), (Instr.fma, 0x0C), 
      (Instr.div, 0x10), (Instr.sqrt, 0x14), (Instr.min, 0x18), (Instr.max, 0x1C), (Instr.minnum, 0x20), (Instr.maxnum, 0x24), 
      (Instr.cmpeq, 0x28), (Instr.cmplt, 0x2C), (Instr.cmple, 0x30), (Instr.exp2, 0x34), (Instr.log2, 0x38), (Instr.tanh, 0x3C), (Instr.sigmoid, 0x40), (Instr.erf, 0x44), (Instr.sinpi, 0x48), (Instr.cospi, 0x4C), (Instr.rsqrt, 0x50)] : List ((Die → Blk → Ctx → Instr) × Nat)))) ∧ issuing s d n c 0x03 = some (x, w) ∧ vecLegal (planSlots s d x) w = true ∧ (vOp w < 0x54 ∧ vOp w / 4 * 4 = base) := by
  refine ⟨Instr.add, 0, 0, 0, 0, { ctxDef 0 with prog := [3*2^58] }, 3*2^58, demoCtx (3*2^58), by simp, by decide⟩

theorem wit_VectorElementwiseComplete_2 : ∃ (d n c w : Nat) (as bs : List Byte) (t u : State) (s : State),
    vLen w = 1 ∧ unary (vOp w / 4 * 4) = false ∧ isReg (vAux w) = false ∧ vOp w / 4 * 4 ≠ 0x0C ∧ ownRead s d n 1 c (256 * vSrc w) 256 = .ok t as ∧ ownRead t d n 1 c (256 * vAux w) 256 = .ok u bs := ⟨0, 0, 0, 0, _, _, _, _, demoVec, by decide, by decide, by decide, by decide, rfl, rfl⟩

theorem wit_VectorOthersComplete_1 : ∃ (d : Die) (n : Blk) (c : Ctx) (x : CtxX) (w : Nat) (s : State),
    issuing s d n c 0x03 = some (x, w) ∧ vecLegal (planSlots s d x) w = true ∧ vOp w = 0x54 := ⟨0, 0, 0, { ctxDef 0 with prog := [3*2^58 + 0x54 + 0x1800*2^34] }, 3*2^58 + 0x54 + 0x1800*2^34, demoCtx (3*2^58 + 0x54 + 0x1800*2^34), by decide⟩

theorem wit_VectorOthersComplete_2 : ∃ (d : Die) (n : Blk) (c : Ctx) (x : CtxX) (w : Nat) (s : State),
    issuing s d n c 0x03 = some (x, w) ∧ vecLegal (planSlots s d x) w = true ∧ vOp w = 0x58 := ⟨0, 0, 0, { ctxDef 0 with prog := [3*2^58 + 0x58 + 0x1800*2^34] }, 3*2^58 + 0x58 + 0x1800*2^34, demoCtx (3*2^58 + 0x58 + 0x1800*2^34), by decide⟩

theorem wit_VectorOthersComplete_3 : ∃ (d : Die) (n : Blk) (c : Ctx) (x : CtxX) (w : Nat) (s : State),
    issuing s d n c 0x03 = some (x, w) ∧ vecLegal (planSlots s d x) w = true ∧ vOp w = 0x5C := ⟨0, 0, 0, { ctxDef 0 with prog := [3*2^58 + 0x5C + 0x1800*2^34] }, 3*2^58 + 0x5C + 0x1800*2^34, (demoCtx (3*2^58 + 0x5C + 0x1800*2^34)).withPlans [⟨0, (ctxDef 0).plan, demoSlotImg, [], [], 0⟩], by decide⟩

theorem wit_VectorOthersComplete_4 : ∃ (d : Die) (n : Blk) (c : Ctx) (x : CtxX) (w : Nat) (s : State),
    issuing s d n c 0x03 = some (x, w) ∧ vecLegal (planSlots s d x) w = true ∧ 0x80 ≤ vOp w := ⟨0, 0, 0, { ctxDef 0 with prog := [3*2^58 + 0x81] }, 3*2^58 + 0x81, demoCtx (3*2^58 + 0x81), by decide⟩

theorem wit_VectorOthersComplete_5 : ∃ (d : Die) (n : Blk) (c : Ctx) (x : CtxX) (w : Nat) (f : Fmt) (s : State),
    issuing s d n c 0x03 = some (x, w) ∧ vecLegal (planSlots s d x) w = true ∧ vOp w = 0x68 ∧ srcFmt s d n c = some f := ⟨0, 0, 0, { ctxDef 0 with prog := [3*2^58 + 0x68 + 0x1800*2^34] }, 3*2^58 + 0x68 + 0x1800*2^34, b32, demoCtx (3*2^58 + 0x68 + 0x1800*2^34), by decide⟩

theorem wit_VectorOthersComplete_6 : ∃ (d : Die) (n : Blk) (c : Ctx) (x : CtxX) (w : Nat) (f : Fmt) (s : State),
    issuing s d n c 0x03 = some (x, w) ∧ vecLegal (planSlots s d x) w = true ∧ vOp w = 0x69 ∧ srcFmt s d n c = some f := ⟨0, 0, 0, { ctxDef 0 with prog := [3*2^58 + 0x69 + 0x1800*2^34] }, 3*2^58 + 0x69 + 0x1800*2^34, b32, demoCtx (3*2^58 + 0x69 + 0x1800*2^34), by decide⟩

theorem wit_VectorOthersComplete_7 : ∃ (d : Die) (n : Blk) (c : Ctx) (x : CtxX) (w : Nat) (s : State),
    issuing s d n c 0x03 = some (x, w) ∧ vecLegal (planSlots s d x) w = true ∧ vOp w = 0x6A := ⟨0, 0, 0, { ctxDef 0 with prog := [3*2^58 + 0x6A + 0x1800*2^34] }, 3*2^58 + 0x6A + 0x1800*2^34, demoCtx (3*2^58 + 0x6A + 0x1800*2^34), by decide⟩

theorem wit_VectorOthersComplete_8 : ∃ (d : Die) (n : Blk) (c : Ctx) (x : CtxX) (w : Nat) (f : Fmt) (s : State),
    issuing s d n c 0x03 = some (x, w) ∧ vecLegal (planSlots s d x) w = true ∧ vOp w = 0x60 ∧ srcFmt s d n c = some f := ⟨0, 0, 0, { ctxDef 0 with prog := [3*2^58 + 0x60 + 0x1800*2^34] }, 3*2^58 + 0x60 + 0x1800*2^34, b32, demoCtx (3*2^58 + 0x60 + 0x1800*2^34), by decide⟩

theorem wit_VectorOthersComplete_9 : ∃ (d : Die) (n : Blk) (c : Ctx) (x : CtxX) (w : Nat) (f : Fmt) (s : State),
    issuing s d n c 0x03 = some (x, w) ∧ vecLegal (planSlots s d x) w = true ∧ vOp w = 0x61 ∧ srcFmt s d n c = some f := ⟨0, 0, 0, { ctxDef 0 with prog := [3*2^58 + 0x61 + 0x1800*2^34] }, 3*2^58 + 0x61 + 0x1800*2^34, b32, demoCtx (3*2^58 + 0x61 + 0x1800*2^34), by decide⟩

theorem wit_VectorOthersComplete_10 : ∃ (d : Die) (n : Blk) (c : Ctx) (x : CtxX) (w : Nat) (f : Fmt) (s : State),
    issuing s d n c 0x03 = some (x, w) ∧ vecLegal (planSlots s d x) w = true ∧ vOp w = 0x62 ∧ srcFmt s d n c = some f := ⟨0, 0, 0, { ctxDef 0 with prog := [3*2^58 + 0x62 + 0x1800*2^34] }, 3*2^58 + 0x62 + 0x1800*2^34, b32, demoCtx (3*2^58 + 0x62 + 0x1800*2^34), by decide⟩

theorem wit_VectorOthersComplete_11 : ∃ (d : Die) (n : Blk) (c : Ctx) (x : CtxX) (w : Nat) (f : Fmt) (s : State),
    issuing s d n c 0x03 = some (x, w) ∧ vecLegal (planSlots s d x) w = true ∧ vOp w = 0x63 ∧ srcFmt s d n c = some f := ⟨0, 0, 0, { ctxDef 0 with prog := [3*2^58 + 0x63 + 0x1800*2^34] }, 3*2^58 + 0x63 + 0x1800*2^34, b32, demoCtx (3*2^58 + 0x63 + 0x1800*2^34), by decide⟩

theorem wit_VectorOthersComplete_12 : ∃ (d : Die) (n : Blk) (c : Ctx) (x : CtxX) (w : Nat) (f : Fmt) (s : State),
    issuing s d n c 0x03 = some (x, w) ∧ vecLegal (planSlots s d x) w = true ∧ vOp w = 0x64 ∧ srcFmt s d n c = some f := ⟨0, 0, 0, { ctxDef 0 with prog := [3*2^58 + 0x64 + 0x1800*2^34] }, 3*2^58 + 0x64 + 0x1800*2^34, b32, demoCtx (3*2^58 + 0x64 + 0x1800*2^34), by decide⟩

theorem wit_VectorOthersComplete_13 : ∃ (d : Die) (n : Blk) (c : Ctx) (k : Nat) (ks : List Nat) (s : State),
    (ctxX s d n c).vec = k :: ks ∧ inRun s d n c = true := ⟨0, 0, 0, 1, [], fset (setCtxX State.reset 0 0 0 { ctxDef 0 with vec := [1] }) (Reg.BLK_CTX_STATUS 0 0 0) 0 3 3, by decide⟩

theorem wit_VectorOthersComplete_14 : ∃ (d n c w : Nat) (bs : List Byte) (t s : State),
    ownRead s d n 1 c (256 * vSrc w) 256 = .ok t bs := ⟨0, 0, 0, 0, _, _, demoVec, rfl⟩

theorem wit_ManagementComplete_1 : ∃ (ver : Byte) (tag : BitVec 16) (data : List Byte) (s : State),
    s.modx.rail = true ∧ ver = 1 ∧ ready s = true ∧ (data.length = 6 ∧ 1 ≤ fld data 4 2 ∧ fld data 4 2 ≤ 1024 ∧ fld data 0 4 + fld data 4 2 ≤ 0x100000) := ⟨1, 0, [0, 0, 0, 0, 1, 0], fset State.reset Reg.GLB_BOOT_STATUS 2 1 1, by decide⟩

theorem wit_ManagementComplete_2 : ∃ (ver : Byte) (tag : BitVec 16) (data : List Byte) (s : State),
    s.modx.rail = true ∧ ver = 1 ∧ ready s = true ∧ data.length = 32 := ⟨1, 0, List.replicate 32 0, fset State.reset Reg.GLB_BOOT_STATUS 2 1 1, by decide⟩

theorem wit_ManagementComplete_3 : ∃ (ver : Byte) (tag : BitVec 16) (data : List Byte) (s : State),
    s.modx.rail = true ∧ ver = 1 ∧ ready s = true ∧ data.length = 32 := ⟨1, 0, List.replicate 32 0, fset State.reset Reg.GLB_BOOT_STATUS 2 1 1, by decide⟩

theorem wit_ManagementComplete_4 : ∃ (ver : Byte) (tag : BitVec 16) (data : List Byte) (s : State),
    s.modx.rail = true ∧ ver = 1 ∧ ready s = true ∧ (data.length = 36 ∧ fld data 32 1 < 4 ∧ fld data 33 1 < 4) ∧ outOf s (fld data 32 1) = false ∧ bit s (Reg.SEAL_JRNL_CTRL (fld data 32 1) (fld data 33 1)) 0 = true := ⟨1, 0, List.replicate 36 0, fset (fset State.reset Reg.GLB_BOOT_STATUS 2 1 1) (Reg.SEAL_JRNL_CTRL 0 0) 0 1 1, by decide⟩

theorem wit_ManagementComplete_5 : ∃ (ver : Byte) (tag : BitVec 16) (data : List Byte) (s : State),
    s.modx.rail = true ∧ ver = 1 ∧ data.length = 0 := ⟨1, 0, [], fset State.reset Reg.GLB_BOOT_STATUS 2 1 1, by decide⟩

theorem wit_ManagementComplete_6 : ∃ (ver : Byte) (tag : BitVec 16) (data : List Byte) (s : State),
    s.modx.rail = true ∧ ver = 1 ∧ ready s = true ∧ (data.length = 2 ∧ fld data 0 1 ≠ 0) ∧ resetChk s (fld data 0 1) (fld data 1 1) = none := ⟨1, 0, [1, 0], fset State.reset Reg.GLB_BOOT_STATUS 2 1 1, by decide⟩

theorem wit_ManagementComplete_7 : ∃ (ver : Byte) (tag : BitVec 16) (data : List Byte) (s : State),
    s.modx.rail = true ∧ ver = 1 ∧ ready s = true ∧ (data.length = 2 ∧ fld data 0 1 ≠ 0) ∧ resetChk s (fld data 0 1) (fld data 1 1) = some (Rsn.CFG_RANGE, 0x8A) := ⟨1, 0, [6, 0], fset State.reset Reg.GLB_BOOT_STATUS 2 1 1, by decide⟩

theorem wit_ManagementComplete_8 : ∃ (ver : Byte) (tag : BitVec 16) (data : List Byte) (s : State),
    s.modx.rail = true ∧ ver = 1 ∧ ready s = true ∧ data.length = 4 ∧ (fld data 0 2 < 8192 ∧ fld data 2 2 < 1024) ∧ moduleChk s (fld data 0 2 + fld data 2 2 * 65536) = none := ⟨1, 0, leBytes 2 4800 ++ leBytes 2 300, fset State.reset Reg.GLB_BOOT_STATUS 2 1 1, by decide⟩

theorem wit_ManagementComplete_9 : ∃ (ver : Byte) (tag : BitVec 16) (data : List Byte) (s : State),
    s.modx.rail = true ∧ ver = 1 ∧ (data.length = 1 ∧ fld data 0 1 < 64) := ⟨1, 0, [3], fset State.reset Reg.GLB_BOOT_STATUS 2 1 1, by decide⟩

theorem wit_ManagementComplete_10 : ∃ (ver : Byte) (tag : BitVec 16) (data : List Byte) (s : State),
    s.modx.rail = true ∧ ver = 1 ∧ ready s = true ∧ (data.length = 1 ∧ fld data 0 1 ≤ 1) := ⟨1, 0, [1], fset State.reset Reg.GLB_BOOT_STATUS 2 1 1, by decide⟩

theorem wit_ManagementComplete_11 : ∃ (ver : Byte) (tag : BitVec 16) (data : List Byte) (s : State),
    s.modx.rail = true ∧ ver = 1 ∧ data.length ≠ 6 := ⟨1, 0, [], State.reset, by decide⟩

theorem wit_I3cAndMctpComplete_1 : ∃ (a : BitVec 7) (s : State),
    s.modx.rail = true ∧ s.modx.i3c = none := ⟨8, State.reset, by decide⟩

theorem wit_I3cAndMctpComplete_2 : ∃ (e : Byte) (s : State),
    s.modx.rail = true ∧ (e ≠ 0 ∧ e ≠ 0xFF) := ⟨8, State.reset, by decide⟩

theorem wit_I3cAndMctpComplete_3 : ∃ (s : State),
    s.modx.rail = true := ⟨State.reset, by decide⟩

theorem wit_I3cAndMctpComplete_4 : ∃ (t : Byte) (s : State),
    s.modx.rail = true ∧ (t = 0xFF ∨ t = 0 ∨ t = 0x7F) := ⟨0x7F, State.reset, by decide⟩

theorem wit_I3cAndMctpComplete_5 : ∃ (s : State),
    s.modx.rail = true := ⟨State.reset, by decide⟩

theorem wit_RegisterAccessComplete_1 : ∃ (pcie : Bool) (a : BitVec 52) (u : Nat) (q : Win × Nat) (v : W64) (s : State),
    winOf a.toNat = some (u, q) ∧ winGone s u = false ∧ a.toNat % 4 = 0 := ⟨false, BitVec.ofNat 52 (Reg.GLB_CTL_COUNT_LO 0), 0, ((winOf (Reg.GLB_CTL_COUNT_LO 0)).getD (0, .ashlar, 0)).2, 5, State.reset, by decide⟩

theorem wit_RegisterAccessComplete_2 : ∃ (pcie : Bool) (a : BitVec 52) (u : Nat) (q : Win × Nat) (v : W64) (s : State),
    winOf a.toNat = some (u, q) ∧ winGone s u = false ∧ a.toNat % 8 = 0 := ⟨false, BitVec.ofNat 52 (Reg.GLB_CTL_COUNT_LO 0 / 8 * 8), 0, ((winOf (Reg.GLB_CTL_COUNT_LO 0 / 8 * 8)).getD (0, .ashlar, 0)).2, 5, State.reset, by decide⟩

theorem wit_RegisterAccessComplete_3 : ∃ (pcie : Bool) (a : BitVec 52) (z : Nat) (v : W64) (s : State),
    ((winOf a.toNat = none ∨ (∃ u q, winOf a.toNat = some (u, q) ∧ winGone s u = true) ∨ ¬ (z = 4 ∧ a.toNat % 4 = 0 ∨ z = 8 ∧ a.toNat % 8 = 0))) := ⟨false, 0, 3, 0, State.reset, Or.inr (Or.inr (by decide))⟩

theorem wit_RegisterAccessComplete_4 : ∃ (a : BitVec 52) (u : Nat) (q : Win × Nat) (w : W64) (s : State),
    winOf a.toNat = some (u, q) ∧ winGone s u = false ∧ livePair s a.toNat = some w := ⟨BitVec.ofNat 52 (Reg.GLB_CTL_COUNT_LO 0), 0, ((winOf (Reg.GLB_CTL_COUNT_LO 0)).getD (0, .ashlar, 0)).2, 0, State.reset, by decide⟩

theorem wit_RegisterAccessComplete_5 : ∃ (d : Die) (j : Fin 4) (v : W32) (s : State),
    winOpen s d ∧ bit s (Reg.SEAL_JRNL_CTRL d j) 0 = false ∧ jrnlChecks (rwlIn s (Reg.SEAL_JRNL_CTRL d j) 0xFFFF003E v) d j = none := ⟨0, 0, 12, fset State.reset (Reg.SEAL_JRNL_BASE_HI 0 0) 0 20 0x1000, by decide⟩

theorem wit_RegisterAccessComplete_6 : ∃ (d : Die) (j : Fin 4) (s : State),
    winOpen s d ∧ rd s (Reg.SEAL_JRNL_TAIL d j) = rd s (Reg.SEAL_JRNL_HEAD d j) := ⟨0, 0, State.reset, by decide⟩

theorem wit_RegisterAccessComplete_7 : ∃ (d : Die) (j : Fin 4) (s : State),
    winOpen s d ∧ rd s (Reg.SEAL_JRNL_TAIL d j) ≠ rd s (Reg.SEAL_JRNL_HEAD d j) := ⟨0, 0, wr State.reset (Reg.SEAL_JRNL_HEAD 0 0) 1, by decide⟩

theorem wit_RegisterAccessComplete_8 : ∃ (a u o : Nat) (k : Win) (v : W32) (r : RegRow) (is : List Nat) (s : State),
    winOf a = some (u, k, o) ∧ regAt (canonReg a) = some (u, r, is) ∧ ringStore s u (canonReg a) r.name (is.getD 0 0) v = none ∧ unitStore s u (canonReg a) r.name (is.getD 0 0) (is.getD 1 0) v = none ∧ linkStore s u (canonReg a) r.name (is.getD 0 0) v = none ∧ hostStore s u (canonReg a) r.name (is.getD 0 0) v = none := ⟨Reg.BLK_RGN_EXT 0 0 0, _, _, .ashlar, 5, _, _, State.reset, rfl, rfl, by decide, by decide, by decide, by decide⟩

theorem wit_RegisterAccessComplete_9 : ∃ (d : Die) (j : Fin 4) (v : W32) (s : State),
    winOpen s d ∧ bit s (Reg.SEAL_JRNL_CTRL d j) 0 = true ∧ jrnlChecks (rwlIn s (Reg.SEAL_JRNL_CTRL d j) 0xFFFF003E v) d j = none := ⟨0, 0, 0x1, wr (wr State.reset (Reg.SEAL_JRNL_BASE_HI 0 0) 0x1000) (Reg.SEAL_JRNL_CTRL 0 0) 0x10000D, by decide⟩

theorem wit_RegisterAccessComplete_10 : ∃ (d : Die) (j : Fin 4) (v : W32) (r e : Nat) (s : State),
    winOpen s d ∧ jrnlChecks (rwlIn s (Reg.SEAL_JRNL_CTRL d j) 0xFFFF003E v) d j = some (r, e) := ⟨0, 0, 0, Rsn.CFG_RANGE, 0xCD, State.reset, by decide⟩

theorem wit_RegisterAccessComplete_11 : ∃ (a : BitVec 52) (s : State),
    ((winOf a.toNat = none ∨ ∃ u q, winOf a.toNat = some (u, q) ∧ winGone s u = true)) := ⟨0, State.reset, Or.inl (by decide)⟩

theorem wit_PlainItemsAdmitted_1 : ∃ (d : Die) (r : Ring) (t : State) (desc : List Byte) (s : State),
    frontEntry s d r = .inr (t, desc) ∧ dOp desc = 1 := by
  obtain ⟨t, desc, h1, h2⟩ := frontWit (demoRing (demoDesc 1)) 0 0 (fun t desc => decide (dOp desc = 1)) (by decide)
  exact ⟨0, 0, t, desc, _, h1, of_decide_eq_true h2⟩

theorem wit_PlainItemsAdmitted_2 : ∃ (d : Die) (r : Ring) (t : State) (desc : List Byte) (s : State),
    frontEntry s d r = .inr (t, desc) ∧ dOp desc = 2 := by
  obtain ⟨t, desc, h1, h2⟩ := frontWit (demoRing (demoDesc 2)) 0 0 (fun t desc => decide (dOp desc = 2)) (by decide)
  exact ⟨0, 0, t, desc, _, h1, of_decide_eq_true h2⟩

theorem wit_PlainItemsAdmitted_3 : ∃ (d : Die) (r : Ring) (t : State) (desc : List Byte) (s : State),
    frontEntry s d r = .inr (t, desc) ∧ dOp desc = 3 := by
  obtain ⟨t, desc, h1, h2⟩ := frontWit (demoRing (demoDesc 3)) 0 0 (fun t desc => decide (dOp desc = 3)) (by decide)
  exact ⟨0, 0, t, desc, _, h1, of_decide_eq_true h2⟩

theorem wit_PlainItemsAdmitted_4 : ∃ (d : Die) (r : Ring) (t : State) (desc : List Byte) (s : State),
    frontEntry s d r = .inr (t, desc) ∧ dOp desc = 4 := by
  obtain ⟨t, desc, h1, h2⟩ := frontWit (demoRing (demoDesc 4)) 0 0 (fun t desc => decide (dOp desc = 4)) (by decide)
  exact ⟨0, 0, t, desc, _, h1, of_decide_eq_true h2⟩

theorem wit_PlainItemsAdmitted_5 : ∃ (d : Die) (r : Ring) (t : State) (desc : List Byte) (s : State),
    frontEntry s d r = .inr (t, desc) ∧ dOp desc = 5 := by
  obtain ⟨t, desc, h1, h2⟩ := frontWit (demoRing (demoDesc 5)) 0 0 (fun t desc => decide (dOp desc = 5)) (by decide)
  exact ⟨0, 0, t, desc, _, h1, of_decide_eq_true h2⟩

theorem wit_PlainItemsAdmitted_6 : ∃ (d : Die) (r : Ring) (t : State) (desc : List Byte) (s : State),
    frontEntry s d r = .inr (t, desc) ∧ (dOp desc = 7 ∧ dfld desc 0x11 1 ≠ 2) := by
  obtain ⟨t, desc, h1, h2⟩ := frontWit (demoRing (leBytes 1 7 ++ List.replicate 16 0 ++ leBytes 1 1 ++ List.replicate 46 0)) 0 0 (fun t desc => decide (dOp desc = 7 ∧ dfld desc 0x11 1 ≠ 2)) (by decide)
  exact ⟨0, 0, t, desc, _, h1, of_decide_eq_true h2⟩

theorem wit_PlainItemsAdmitted_7 : ∃ (d : Die) (r : Ring) (t : State) (desc : List Byte) (s : State),
    frontEntry s d r = .inr (t, desc) ∧ (dOp desc = 7 ∧ dfld desc 0x11 1 = 2) := by
  obtain ⟨t, desc, h1, h2⟩ := frontWit (demoRing (leBytes 1 7 ++ List.replicate 16 0 ++ leBytes 1 2 ++ List.replicate 46 0)) 0 0 (fun t desc => decide (dOp desc = 7 ∧ dfld desc 0x11 1 = 2)) (by decide)
  exact ⟨0, 0, t, desc, _, h1, of_decide_eq_true h2⟩

theorem wit_PlainItemsAdmitted_8 : ∃ (d : Die) (r : Ring) (t : State) (desc : List Byte) (s : State),
    frontEntry s d r = .inr (t, desc) ∧ dOp desc = 8 := by
  obtain ⟨t, desc, h1, h2⟩ := frontWit (demoRing (demoDesc 8)) 0 0 (fun t desc => decide (dOp desc = 8)) (by decide)
  exact ⟨0, 0, t, desc, _, h1, of_decide_eq_true h2⟩

theorem wit_FootingCommandsAdmitted_1 : ∃ (d : Die) (r : Ring) (t : State) (desc : List Byte) (s : State),
    frontEntry s d r = .inr (t, desc) ∧ ftgMine d r 0x01 t desc = true := by
  obtain ⟨t, desc, h1, h2⟩ := frontWit (demoRing (demoDesc 6)) 0 0 (fun t desc => decide (ftgMine 0 0 0x01 t desc = true)) (by decide)
  exact ⟨0, 0, t, desc, _, h1, of_decide_eq_true h2⟩

theorem wit_FootingCommandsAdmitted_2 : ∃ (d : Die) (r : Ring) (t : State) (desc : List Byte) (s : State),
    frontEntry s d r = .inr (t, desc) ∧ ftgMine d r 0x02 t desc = true := by
  obtain ⟨t, desc, h1, h2⟩ := frontWit (demoRing (demoDesc 6)) 0 0 (fun t desc => decide (ftgMine 0 0 0x02 t desc = true)) (by decide)
  exact ⟨0, 0, t, desc, _, h1, of_decide_eq_true h2⟩

theorem wit_FootingCommandsAdmitted_3 : ∃ (d : Die) (r : Ring) (t : State) (desc : List Byte) (s : State),
    frontEntry s d r = .inr (t, desc) ∧ ftgMine d r 0x03 t desc = true := by
  obtain ⟨t, desc, h1, h2⟩ := frontWit (demoRing (demoDesc 6)) 0 0 (fun t desc => decide (ftgMine 0 0 0x03 t desc = true)) (by decide)
  exact ⟨0, 0, t, desc, _, h1, of_decide_eq_true h2⟩

theorem wit_FootingCommandsAdmitted_4 : ∃ (d : Die) (r : Ring) (t : State) (desc : List Byte) (s : State),
    frontEntry s d r = .inr (t, desc) ∧ ftgMine d r 0x10 t desc = true := by
  obtain ⟨t, desc, h1, h2⟩ := frontWit (demoRing (demoDesc 6)) 0 0 (fun t desc => decide (ftgMine 0 0 0x10 t desc = true)) (by decide)
  exact ⟨0, 0, t, desc, _, h1, of_decide_eq_true h2⟩

theorem wit_FootingCommandsAdmitted_5 : ∃ (d : Die) (r : Ring) (t : State) (desc : List Byte) (s : State),
    frontEntry s d r = .inr (t, desc) ∧ ftgMine d r 0x20 t desc = true := by
  obtain ⟨t, desc, h1, h2⟩ := frontWit (demoRing (demoDesc 6)) 0 0 (fun t desc => decide (ftgMine 0 0 0x20 t desc = true)) (by decide)
  exact ⟨0, 0, t, desc, _, h1, of_decide_eq_true h2⟩

theorem wit_FootingCommandsAdmitted_6 : ∃ (d : Die) (r : Ring) (t : State) (desc : List Byte) (s : State),
    frontEntry s d r = .inr (t, desc) ∧ ftgMine d r 0x21 t desc = true := by
  obtain ⟨t, desc, h1, h2⟩ := frontWit (demoRing (demoDesc 6)) 0 0 (fun t desc => decide (ftgMine 0 0 0x21 t desc = true)) (by decide)
  exact ⟨0, 0, t, desc, _, h1, of_decide_eq_true h2⟩

theorem wit_FootingCommandsAdmitted_7 : ∃ (d : Die) (r : Ring) (t : State) (desc : List Byte) (s : State),
    frontEntry s d r = .inr (t, desc) ∧ ftgMine d r 0x22 t desc = true := by
  obtain ⟨t, desc, h1, h2⟩ := frontWit (demoRing (demoDesc 6)) 0 0 (fun t desc => decide (ftgMine 0 0 0x22 t desc = true)) (by decide)
  exact ⟨0, 0, t, desc, _, h1, of_decide_eq_true h2⟩

theorem wit_FootingCommandsAdmitted_8 : ∃ (d : Die) (r : Ring) (t : State) (desc : List Byte) (s : State),
    frontEntry s d r = .inr (t, desc) ∧ ftgMine d r 0x30 t desc = true := by
  obtain ⟨t, desc, h1, h2⟩ := frontWit (demoRing (demoDesc 6)) 0 0 (fun t desc => decide (ftgMine 0 0 0x30 t desc = true)) (by decide)
  exact ⟨0, 0, t, desc, _, h1, of_decide_eq_true h2⟩

theorem wit_FootingCommandsAdmitted_9 : ∃ (d : Die) (r : Ring) (t : State) (desc : List Byte) (s : State),
    frontEntry s d r = .inr (t, desc) ∧ ftgMine d r 0x40 t desc = true := by
  obtain ⟨t, desc, h1, h2⟩ := frontWit (demoRing (demoDesc 6)) 0 0 (fun t desc => decide (ftgMine 0 0 0x40 t desc = true)) (by decide)
  exact ⟨0, 0, t, desc, _, h1, of_decide_eq_true h2⟩

theorem wit_FootingCommandsAdmitted_10 : ∃ (d : Die) (r : Ring) (t : State) (desc : List Byte) (s : State),
    frontEntry s d r = .inr (t, desc) ∧ ftgMine d r 0x41 t desc = true := by
  obtain ⟨t, desc, h1, h2⟩ := frontWit (demoRing (demoDesc 6)) 0 0 (fun t desc => decide (ftgMine 0 0 0x41 t desc = true)) (by decide)
  exact ⟨0, 0, t, desc, _, h1, of_decide_eq_true h2⟩

theorem wit_NetworkItemsAdmitted_1 : ∃ (d : Die) (r : Ring) (t : State) (desc : List Byte) (s : State),
    frontEntry s d r = .inr (t, desc) ∧ dOp desc = 0x20 := by
  obtain ⟨t, desc, h1, h2⟩ := frontWit (demoRing (demoDesc 32)) 0 0 (fun t desc => decide (dOp desc = 0x20)) (by decide)
  exact ⟨0, 0, t, desc, _, h1, of_decide_eq_true h2⟩

theorem wit_NetworkItemsAdmitted_2 : ∃ (d : Die) (r : Ring) (t : State) (desc : List Byte) (s : State),
    frontEntry s d r = .inr (t, desc) ∧ dOp desc = 0x21 := by
  obtain ⟨t, desc, h1, h2⟩ := frontWit (demoRing (demoDesc 33)) 0 0 (fun t desc => decide (dOp desc = 0x21)) (by decide)
  exact ⟨0, 0, t, desc, _, h1, of_decide_eq_true h2⟩

theorem wit_NetworkItemsAdmitted_3 : ∃ (d : Die) (r : Ring) (t : State) (desc : List Byte) (s : State),
    frontEntry s d r = .inr (t, desc) ∧ dOp desc = 0x22 := by
  obtain ⟨t, desc, h1, h2⟩ := frontWit (demoRing (demoDesc 34)) 0 0 (fun t desc => decide (dOp desc = 0x22)) (by decide)
  exact ⟨0, 0, t, desc, _, h1, of_decide_eq_true h2⟩

theorem wit_NetworkItemsAdmitted_4 : ∃ (d : Die) (r : Ring) (t : State) (desc : List Byte) (s : State),
    frontEntry s d r = .inr (t, desc) ∧ dOp desc = 0x23 := by
  obtain ⟨t, desc, h1, h2⟩ := frontWit (demoRing (demoDesc 35)) 0 0 (fun t desc => decide (dOp desc = 0x23)) (by decide)
  exact ⟨0, 0, t, desc, _, h1, of_decide_eq_true h2⟩

theorem wit_NetworkItemsAdmitted_5 : ∃ (d : Die) (r : Ring) (t : State) (desc : List Byte) (s : State),
    frontEntry s d r = .inr (t, desc) ∧ dOp desc = 0x24 := by
  obtain ⟨t, desc, h1, h2⟩ := frontWit (demoRing (demoDesc 36)) 0 0 (fun t desc => decide (dOp desc = 0x24)) (by decide)
  exact ⟨0, 0, t, desc, _, h1, of_decide_eq_true h2⟩

theorem wit_NetworkItemsAdmitted_6 : ∃ (d : Die) (r : Ring) (t : State) (desc : List Byte) (s : State),
    frontEntry s d r = .inr (t, desc) ∧ dOp desc = 0x25 := by
  obtain ⟨t, desc, h1, h2⟩ := frontWit (demoRing (demoDesc 37)) 0 0 (fun t desc => decide (dOp desc = 0x25)) (by decide)
  exact ⟨0, 0, t, desc, _, h1, of_decide_eq_true h2⟩

theorem wit_NetworkItemsAdmitted_7 : ∃ (d : Die) (r : Ring) (t : State) (desc : List Byte) (s : State),
    frontEntry s d r = .inr (t, desc) ∧ dOp desc = 0x26 := by
  obtain ⟨t, desc, h1, h2⟩ := frontWit (demoRing (demoDesc 38)) 0 0 (fun t desc => decide (dOp desc = 0x26)) (by decide)
  exact ⟨0, 0, t, desc, _, h1, of_decide_eq_true h2⟩

theorem wit_NetworkItemsAdmitted_8 : ∃ (d : Die) (r : Ring) (t : State) (desc : List Byte) (s : State),
    frontEntry s d r = .inr (t, desc) ∧ dOp desc = 0x28 := by
  obtain ⟨t, desc, h1, h2⟩ := frontWit (demoRing (demoDesc 40)) 0 0 (fun t desc => decide (dOp desc = 0x28)) (by decide)
  exact ⟨0, 0, t, desc, _, h1, of_decide_eq_true h2⟩

theorem wit_NetworkItemsAdmitted_9 : ∃ (d : Die) (r : Ring) (t : State) (desc : List Byte) (s : State),
    frontEntry s d r = .inr (t, desc) ∧ dOp desc = 0x29 := by
  obtain ⟨t, desc, h1, h2⟩ := frontWit (demoRing (demoDesc 41)) 0 0 (fun t desc => decide (dOp desc = 0x29)) (by decide)
  exact ⟨0, 0, t, desc, _, h1, of_decide_eq_true h2⟩

theorem wit_NetworkItemsAdmitted_10 : ∃ (d : Die) (r : Ring) (t : State) (desc : List Byte) (s : State),
    frontEntry s d r = .inr (t, desc) ∧ dOp desc = 0x2A := by
  obtain ⟨t, desc, h1, h2⟩ := frontWit (demoRing (demoDesc 42)) 0 0 (fun t desc => decide (dOp desc = 0x2A)) (by decide)
  exact ⟨0, 0, t, desc, _, h1, of_decide_eq_true h2⟩

theorem wit_NetworkItemsAdmitted_11 : ∃ (d : Die) (r : Ring) (t : State) (desc : List Byte) (s : State),
    frontEntry s d r = .inr (t, desc) ∧ dOp desc = 0x2B := by
  obtain ⟨t, desc, h1, h2⟩ := frontWit (demoRing (demoDesc 43)) 0 0 (fun t desc => decide (dOp desc = 0x2B)) (by decide)
  exact ⟨0, 0, t, desc, _, h1, of_decide_eq_true h2⟩

theorem wit_NetworkItemsAdmitted_12 : ∃ (d : Die) (r : Ring) (t : State) (desc : List Byte) (s : State),
    frontEntry s d r = .inr (t, desc) ∧ dOp desc = 0x2C := by
  obtain ⟨t, desc, h1, h2⟩ := frontWit (demoRing (demoDesc 44)) 0 0 (fun t desc => decide (dOp desc = 0x2C)) (by decide)
  exact ⟨0, 0, t, desc, _, h1, of_decide_eq_true h2⟩

theorem wit_NetworkItemsAdmitted_13 : ∃ (d : Die) (r : Ring) (t : State) (desc : List Byte) (s : State),
    frontEntry s d r = .inr (t, desc) ∧ dOp desc = 0x2D := by
  obtain ⟨t, desc, h1, h2⟩ := frontWit (demoRing (demoDesc 45)) 0 0 (fun t desc => decide (dOp desc = 0x2D)) (by decide)
  exact ⟨0, 0, t, desc, _, h1, of_decide_eq_true h2⟩

theorem wit_NetworkItemsAdmitted_14 : ∃ (d : Die) (r : Ring) (t : State) (desc : List Byte) (s : State),
    frontEntry s d r = .inr (t, desc) ∧ dOp desc = 0x2E := by
  obtain ⟨t, desc, h1, h2⟩ := frontWit (demoRing (demoDesc 46)) 0 0 (fun t desc => decide (dOp desc = 0x2E)) (by decide)
  exact ⟨0, 0, t, desc, _, h1, of_decide_eq_true h2⟩

theorem wit_NetworkItemsAdmitted_15 : ∃ (d : Die) (r : Ring) (t : State) (desc : List Byte) (s : State),
    frontEntry s d r = .inr (t, desc) ∧ (dOp desc = 0x27 ∧ dfld desc 0x14 1 ≠ 2 ∧ dfld desc 0x14 1 ≠ 3) := by
  obtain ⟨t, desc, h1, h2⟩ := frontWit (demoRing (leBytes 1 39 ++ List.replicate 19 0 ++ leBytes 1 0 ++ List.replicate 43 0)) 0 0 (fun t desc => decide (dOp desc = 0x27 ∧ dfld desc 0x14 1 ≠ 2 ∧ dfld desc 0x14 1 ≠ 3)) (by decide)
  exact ⟨0, 0, t, desc, _, h1, of_decide_eq_true h2⟩

theorem wit_NetworkItemsAdmitted_16 : ∃ (d : Die) (r : Ring) (t : State) (desc : List Byte) (s : State),
    frontEntry s d r = .inr (t, desc) ∧ (dOp desc = 0x27 ∧ dfld desc 0x14 1 = 2) := by
  obtain ⟨t, desc, h1, h2⟩ := frontWit (demoRing (leBytes 1 39 ++ List.replicate 19 0 ++ leBytes 1 2 ++ List.replicate 43 0)) 0 0 (fun t desc => decide (dOp desc = 0x27 ∧ dfld desc 0x14 1 = 2)) (by decide)
  exact ⟨0, 0, t, desc, _, h1, of_decide_eq_true h2⟩

theorem wit_NetworkItemsAdmitted_17 : ∃ (d : Die) (r : Ring) (t : State) (desc : List Byte) (s : State),
    frontEntry s d r = .inr (t, desc) ∧ (dOp desc = 0x27 ∧ dfld desc 0x14 1 = 3) := by
  obtain ⟨t, desc, h1, h2⟩ := frontWit (demoRing (leBytes 1 39 ++ List.replicate 19 0 ++ leBytes 1 3 ++ List.replicate 43 0)) 0 0 (fun t desc => decide (dOp desc = 0x27 ∧ dfld desc 0x14 1 = 3)) (by decide)
  exact ⟨0, 0, t, desc, _, h1, of_decide_eq_true h2⟩

theorem wit_NetworkItemsAdmitted_22 : ∃ (d r : Nat) (desc : List Byte) (w : Want) (f : Item → Item) (ext : List Extent) (start : Nat) (sh : Shape) (t : State),
    searchF t d w (itemLimit t d desc ((ringX t d r).obs.headD 0)).1 (itemLimit t d desc ((ringX t d r).obs.headD 0)).2 none (max (ctl t d) w.after) true 256 = .inl (start, sh) ∧ cqRoom t d r = true ∧ ((t.items.filter (fun i => i.die == d)).length < 131072) := ⟨0, 0, [], ⟨0, fun _ _ => ⟨1, 0, [], [], [], 0⟩, fun _ => 0⟩, id, [], 0, ⟨1, 0, [], [], [], 0⟩, setRingX State.reset 0 0 { ringX State.reset 0 0 with obs := [0] }, rfl, by decide, by decide⟩

theorem wit_NetworkItemsAdmitted_23 : ∃ (d : Die) (r : Ring) (t : State) (desc : List Byte) (s : State),
    frontEntry s d r = .inr (t, desc) ∧ dOp desc = 0x27 ∧ (dfld desc 0x14 1 = 0 ∨ 4 ≤ dfld desc 0x14 1) := by
  obtain ⟨t, desc, h1, h2⟩ := frontWit (demoRing (leBytes 1 39 ++ List.replicate 63 0)) 0 0 (fun t desc => decide (dOp desc = 0x27 ∧ (dfld desc 0x14 1 = 0 ∨ 4 ≤ dfld desc 0x14 1))) (by decide)
  exact ⟨0, 0, t, desc, _, h1, of_decide_eq_true h2⟩

theorem wit_CheckpointItemsAdmitted_1 : ∃ (d : Die) (r : Ring) (t : State) (desc : List Byte) (s : State),
    frontEntry s d r = .inr (t, desc) ∧ dOp desc = 0x30 := by
  obtain ⟨t, desc, h1, h2⟩ := frontWit (demoRing (demoDesc 48)) 0 0 (fun t desc => decide (dOp desc = 0x30)) (by decide)
  exact ⟨0, 0, t, desc, _, h1, of_decide_eq_true h2⟩

theorem wit_CheckpointItemsAdmitted_2 : ∃ (d : Die) (r : Ring) (t : State) (desc : List Byte) (s : State),
    frontEntry s d r = .inr (t, desc) ∧ dOp desc = 0x31 := by
  obtain ⟨t, desc, h1, h2⟩ := frontWit (demoRing (demoDesc 49)) 0 0 (fun t desc => decide (dOp desc = 0x31)) (by decide)
  exact ⟨0, 0, t, desc, _, h1, of_decide_eq_true h2⟩

theorem wit_CheckpointItemsAdmitted_3 : ∃ (d : Die) (r : Ring) (t : State) (desc : List Byte) (s : State),
    frontEntry s d r = .inr (t, desc) ∧ dOp desc = 0x32 := by
  obtain ⟨t, desc, h1, h2⟩ := frontWit (demoRing (demoDesc 50)) 0 0 (fun t desc => decide (dOp desc = 0x32)) (by decide)
  exact ⟨0, 0, t, desc, _, h1, of_decide_eq_true h2⟩

theorem wit_CheckpointItemsAdmitted_4 : ∃ (d : Die) (r : Ring) (t : State) (desc : List Byte) (s : State),
    frontEntry s d r = .inr (t, desc) ∧ dOp desc = 0x33 := by
  obtain ⟨t, desc, h1, h2⟩ := frontWit (demoRing (demoDesc 51)) 0 0 (fun t desc => decide (dOp desc = 0x33)) (by decide)
  exact ⟨0, 0, t, desc, _, h1, of_decide_eq_true h2⟩

theorem wit_CheckpointItemsAdmitted_5 : ∃ (d : Die) (r : Ring) (t : State) (desc : List Byte) (s : State),
    frontEntry s d r = .inr (t, desc) ∧ dOp desc = 0x34 := by
  obtain ⟨t, desc, h1, h2⟩ := frontWit (demoRing (demoDesc 52)) 0 0 (fun t desc => decide (dOp desc = 0x34)) (by decide)
  exact ⟨0, 0, t, desc, _, h1, of_decide_eq_true h2⟩

theorem wit_CheckpointItemsAdmitted_6 : ∃ (d r : Nat) (desc : List Byte) (a b : Nat) (w : Nat × Nat) (t u s : State),
    settle s d r desc (.refuse t a b w) = u := ⟨0, 0, [], 1, 2, (0, 0), State.reset, _, State.reset, rfl⟩

theorem wit_CheckpointItemsAdmitted_7 : ∃ (d r : Nat) (desc : List Byte) (w : Want) (f : Item → Item) (t : Nat) (sh : Shape) (s : State),
    searchF s d w (itemLimit s d desc ((ringX s d r).obs.headD 0)).1 (itemLimit s d desc ((ringX s d r).obs.headD 0)).2 none (max (ctl s d) w.after) true 256 = .inl (t, sh) ∧ cqRoom s d r = true ∧ ((s.items.filter (fun i => i.die == d)).length < 131072) := ⟨0, 0, demoDesc 8, plainWant 0 1024 0 [], id, _, _, demoRing (demoDesc 8), rfl, by decide, by decide⟩

theorem wit_RingsComplete_1 : ∃ (d : Die) (r : Ring) (tail : BitVec 17) (k : Nat) (s : State),
    winOpen s d ∧ (tail.toNat % (2 * sqEntries s d r) + 2 * sqEntries s d r - fget s (Reg.RING_SQ_HEAD d r) 0 17 % (2 * sqEntries s d r)) % (2 * sqEntries s d r) = k ∧ k ≤ sqEntries s d r := ⟨0, 0, 1, 1, demoRing [], by decide⟩

theorem wit_RingsComplete_2 : ∃ (d : Die) (r : Ring) (v : W32) (s : State),
    winOpen s d ∧ ringChecks (rwlIn s (Reg.RING_CFG d r) 0xFFFFFFFE v) d r = none ∧ ringState (fset (rwlIn s (Reg.RING_CFG d r) 0xFFFFFFFE v) (Reg.RING_CFG d r) 0 1 1) d r = 0 := ⟨0, 0, 0x1018C, demoEnable, by decide⟩

theorem wit_RingsComplete_3 : ∃ (d : Die) (r : Ring) (v : W32) (a b : Nat) (s : State),
    winOpen s d ∧ ringChecks (rwlIn s (Reg.RING_CFG d r) 0xFFFFFFFE v) d r = some (a, b) := ⟨0, 0, 0, Rsn.CFG_RANGE, 0x90, State.reset, by decide⟩

theorem wit_RingsComplete_4 : ∃ (d : Die) (r : Ring) (s : State),
    winOpen s d ∧ fget s (Reg.RING_OUTSTANDING d r) 0 17 = 0 := ⟨0, 0, State.reset, by decide⟩

theorem wit_RingsComplete_5 : ∃ (d : Die) (r : Ring) (s : State),
    winOpen s d ∧ fget s (Reg.RING_OUTSTANDING d r) 0 17 ≠ 0 := ⟨0, 0, fset State.reset (Reg.RING_OUTSTANDING 0 0) 0 17 1, by decide⟩

theorem wit_RingsComplete_6 : ∃ (d : Die) (s : State),
    (xunit s d).batch.isEmpty = false := ⟨0, setXunit State.reset 0 { xltDef 0 with batch := [⟨0, 0, 0, 0, 1, 0, 0⟩] }, by decide⟩

theorem wit_RingsComplete_7 : ∃ (d : Die) (v : W32) (recs : List PFRec) (rest : List (Nat × List PFRec)) (s : State),
    winOpen s d ∧ (xunit s d).closed = (v.toNat, recs) :: rest := ⟨0, 5, [], [], setXunit State.reset 0 { xltDef 0 with closed := [(5, [])] }, by decide⟩

theorem wit_RingsComplete_8 : ∃ (d : Die) (v : W32) (n : Nat) (recs : List PFRec) (rest : List (Nat × List PFRec)) (s : State),
    winOpen s d ∧ (xunit s d).closed = (n, recs) :: rest ∧ v.toNat ≠ n := ⟨0, 6, 5, [], [], setXunit State.reset 0 { xltDef 0 with closed := [(5, [])] }, by decide⟩

theorem wit_RingsComplete_9 : ∃ (d : Die) (r : Ring) (tail : BitVec 17) (s : State),
    winOpen s d ∧ sqEntries s d r < (tail.toNat % (2 * sqEntries s d r) + 2 * sqEntries s d r - fget s (Reg.RING_SQ_HEAD d r) 0 17 % (2 * sqEntries s d r)) % (2 * sqEntries s d r) := ⟨0, 0, 100, State.reset, by decide⟩

theorem wit_RingsComplete_10 : ∃ (d : Die) (v : W32) (s : State),
    winOpen s d ∧ (xunit s d).closed = [] := ⟨0, 5, State.reset, by decide⟩

theorem wit_RingsComplete_11 : ∃ (d : Die) (s : State),
    (xunit s d).batch.isEmpty = true := ⟨0, State.reset, by decide⟩

theorem wit_TranslationUnitsComplete_1 : ∃ (u : Unit6) (asid : BitVec 16) (s : State),
    winOpen s u ∧ (xunit s u).inv.length < 16 := ⟨0, 0, State.reset, by decide⟩

theorem wit_TranslationUnitsComplete_2 : ∃ (u : Unit6) (asid : BitVec 16) (s : State),
    winOpen s u ∧ (xunit s u).inv.length < 16 := ⟨0, 0, State.reset, by decide⟩

theorem wit_TranslationUnitsComplete_3 : ∃ (u : Unit6) (s : State),
    winOpen s u ∧ (xunit s u).inv.length < 16 := ⟨0, State.reset, by decide⟩

theorem wit_TranslationUnitsComplete_4 : ∃ (u : Unit6) (i : Inv) (rest : List Inv) (s : State),
    (xunit s u).inv = i :: rest ∧ invHeld s i = false := ⟨0, ⟨1, 3, 0, 0, 0, [], []⟩, [], setXunit State.reset 0 { xltDef 0 with inv := [⟨1, 3, 0, 0, 0, [], []⟩] }, by decide⟩

theorem wit_TranslationUnitsComplete_5 : ∃ (u : Unit6) (v : W32) (s : State),
    winOpen s u := ⟨0, 2, State.reset, by decide⟩

theorem wit_TranslationUnitsComplete_6 : ∃ (u : Unit6) (s : State),
    winOpen s u ∧ ((if u.val < 4 then enabledRings s u = [] else rootPortOn s (u - 4) = false)) := ⟨0, State.reset, by decide⟩

theorem wit_TranslationUnitsComplete_7 : ∃ (u : Unit6) (asid : BitVec 16) (s : State),
    winOpen s u ∧ 16 ≤ (xunit s u).inv.length := ⟨0, 2, setXunit State.reset 0 { xltDef 0 with inv := List.replicate 16 ⟨1, 3, 0, 0, 0, [], []⟩ }, by decide⟩

theorem wit_TranslationUnitsComplete_8 : ∃ (u : Unit6) (s : State),
    winOpen s u ∧ (¬ (if u.val < 4 then enabledRings s u = [] else rootPortOn s (u - 4) = false)) := ⟨0, fset (fset State.reset (Reg.RING_CFG 0 0) 0 1 1) (Reg.XLT_CTRL 0) 0 1 1, by decide⟩

theorem wit_ItemsBeginAndEnd_1 : ∃ (d : Die) (r : Ring) (seq : W32) (it : Item) (s : State),
    findItem s d r seq.toNat = some it ∧ (it.started = false ∧ it.start ≤ ctl s d) ∧ outOf s d = false ∧ startStalled s it = false := ⟨0, 0, 0, demoItem 8 0 false, demoItems 8 0 false, by decide⟩

theorem wit_ItemsBeginAndEnd_2 : ∃ (it : Item) (s : State),
    (it.opcode = 4 ∨ it.opcode = 5 ∨ it.opcode = 8 ∨ it.opcode = 0x2E ∨ it.opcode = 0x31 ∨ it.opcode = 0x32 ∨ it.opcode = 0x34) := ⟨demoItem 8 0 false, State.reset, by decide⟩

theorem wit_ItemsBeginAndEnd_3 : ∃ (d : Die) (r : Ring) (seq : W32) (it : Item) (s : State),
    findItem s d r seq.toNat = some it ∧ it.started = true ∧ outOf s d = false := ⟨0, 0, 0, demoItem 8 0 true, demoItems 8 0 true, by decide⟩

theorem wit_ItemsBeginAndEnd_4 : ∃ (it : Item) (s : State),
    it.opcode = 8 ∧ fenceMet s it = true := ⟨demoItem 8 0 true, State.reset, by decide⟩

theorem wit_ItemsBeginAndEnd_5 : ∃ (it : Item) (s : State),
    it.opcode = 4 := ⟨demoItem 4 0 true, State.reset, by decide⟩

theorem wit_ItemsBeginAndEnd_6 : ∃ (it : Item) (s : State),
    it.opcode = 1 ∧ itemWaits s it = false := ⟨demoItem 1 0 true, State.reset, by decide⟩

theorem wit_ItemsBeginAndEnd_7 : ∃ (d : Die) (r : Ring) (seq : W32) (it : Item) (s : State),
    findItem s d r seq.toNat = some it ∧ (it.opcode = 3 ∧ it.started = true) ∧ itemWaits s it = false ∧ ((s.items.find? (fun i => i.die == d.val && i.opcode == 3)).map (fun i => (i.ring, i.seq)) = some (r.val, seq.toNat)) := ⟨0, 0, 0, demoItem 3 0 true, demoItems 3 0 true, by decide⟩

theorem wit_ItemsBeginAndEnd_8 : ∃ (d : Die) (r : Ring) (seq : W32) (it : Item) (p q : Plan) (u s : State),
    findItem s d r seq.toNat = some it ∧ (it.opcode = 2 ∧ it.started = false ∧ it.start ≤ ctl s d) ∧ planOf s d it.obj = some p ∧ (replacePlan s p (runFree (s.withItems (s.items.filter (fun i => ¬ (i.die = it.die ∧ i.ring = it.ring ∧ i.seq = it.seq)))) d it.start (ceilDiv p.cycles 2)) = some (u, q)) ∧ ((∀ b ∈ q.place, (∀ c < 4, inRun u d b.1 c = false) ∧ ctxState u d b.1 b.2 = 2 ∧ courseStalled u d (b.1 / 18) = false)) := by
  obtain ⟨⟨u, q⟩, h1, h2⟩ := optWit (replacePlan (demoRun false) { demoPlan with handle := 0 } (runFree ((demoRun false).withItems ((demoRun false).items.filter (fun i => ¬ (i.die = 0 ∧ i.ring = 0 ∧ i.seq = 0)))) 0 0 (ceilDiv ({ demoPlan with handle := 0 } : Plan).cycles 2)))
    (fun x => x.2.place.all (fun b => (List.range 4).all (fun c => !inRun x.1 0 b.1 c) && ctxState x.1 0 b.1 b.2 == 2 && !courseStalled x.1 0 (b.1 / 18))) (by decide)
  exact ⟨0, 0, 0, demoItem 2 0 false, { demoPlan with handle := 0 }, q, u, demoRun false, by decide, by decide, by decide, h1, by simpa [List.all_eq_true, and_assoc] using h2⟩

theorem wit_ItemsBeginAndEnd_9 : ∃ (d : Die) (r : Ring) (seq : W32) (it : Item) (p : Plan) (s : State),
    findItem s d r seq.toNat = some it ∧ planOf s d it.obj = some p ∧ (it.opcode = 2 ∧ it.started = true) ∧ (p.place.all (fun b => (ctxX s d b.1 b.2).ended && !inRun s d b.1 b.2) = true) := ⟨0, 0, 0, demoItem 2 0 true, { demoPlan with handle := 0 }, demoRun true, by decide⟩

theorem wit_PcieRequestsComplete_1 : ∃ (k : Key) (pasid : Option (BitVec 20)) (va : BitVec 64) (kind : Fin 13) (len : Nat) (data : List Byte) (s : State),
    (outOf s (4 + k.val) = false ∧ isOn s (dKio k) = true ∧ s.modx.perst.getD k false = false) ∧ kind.val = 12 := ⟨0, none, 0, 12, 0, [], demoPcie, by decide⟩

theorem wit_PcieRequestsComplete_2 : ∃ (k : Key) (pasid : Option (BitVec 20)) (va : BitVec 64) (len asid : Nat) (data bs : List Byte) (t : Xlated) (u s : State),
    (outOf s (4 + k.val) = false ∧ isOn s (dKio k) = true ∧ s.modx.perst.getD k false = false) ∧ ((asid = (match pasid with | some p => p.toNat | none => fget s (Reg.XLT_PCIE_ASID (4 + k.val)) 0 16) ∧ 1 ≤ asid ∧ asid ≤ 0xFFFF)) ∧ (1 ≤ len ∧ len ≤ 4096) ∧ bit t.s (Reg.XLT_CTRL (4 + k.val)) 0 = true ∧ xlatAll s (4 + k.val) 3 asid true [(va.toNat, len, 1)] = t ∧ (t.bad = none ∧ t.miss = []) ∧ ((∀ p ∈ extPages t.ext, (∀ a b, place t.s p.1 ≠ .ctrl a b) ∧ homeGone t.s p.1 = none)) ∧ pcieRead t.s (extPages t.ext) [] false = .ok u bs false := ⟨0, some 1, 0, 4, 1, [], _, _, _, demoPcie, by decide, by decide, by decide, by decide, rfl, by decide, pagesWit _ (by decide), rfl⟩

theorem wit_PcieRequestsComplete_3 : ∃ (k : Key) (pasid : Option (BitVec 20)) (va : BitVec 64) (len asid : Nat) (data : List Byte) (t : Xlated) (s : State),
    (outOf s (4 + k.val) = false ∧ isOn s (dKio k) = true ∧ s.modx.perst.getD k false = false) ∧ ((asid = (match pasid with | some p => p.toNat | none => fget s (Reg.XLT_PCIE_ASID (4 + k.val)) 0 16) ∧ 1 ≤ asid ∧ asid ≤ 0xFFFF)) ∧ (1 ≤ data.length ∧ data.length ≤ 512) ∧ bit t.s (Reg.XLT_CTRL (4 + k.val)) 0 = true ∧ xlatAll s (4 + k.val) 3 asid true [(va.toNat, data.length, 3)] = t ∧ (t.bad = none ∧ t.miss = []) ∧ ((∀ p ∈ extPages t.ext, (∀ a b, place t.s p.1 ≠ .ctrl a b) ∧ homeGone t.s p.1 = none)) := ⟨0, some 1, 0, 4, 1, [1, 2, 3, 4], _, demoPcie, by decide, by decide, by decide, by decide, rfl, by decide, pagesWit _ (by decide)⟩

theorem wit_PcieRequestsComplete_4 : ∃ (k : Key) (pasid : Option (BitVec 20)) (va : BitVec 64) (len asid : Nat) (data bs : List Byte) (t : Xlated) (u s : State),
    (outOf s (4 + k.val) = false ∧ isOn s (dKio k) = true ∧ s.modx.perst.getD k false = false) ∧ ((asid = (match pasid with | some p => p.toNat | none => fget s (Reg.XLT_PCIE_ASID (4 + k.val)) 0 16) ∧ 1 ≤ asid ∧ asid ≤ 0xFFFF)) ∧ (1 ≤ len ∧ len ≤ 4096) ∧ bit t.s (Reg.XLT_CTRL (4 + k.val)) 0 = true ∧ xlatAll s (4 + k.val) 3 asid true [(va.toNat, len, 1)] = t ∧ (t.bad = none ∧ t.miss = []) ∧ ((∀ p ∈ extPages t.ext, (∀ a b, place t.s p.1 ≠ .ctrl a b) ∧ homeGone t.s p.1 = none)) ∧ pcieRead t.s (extPages t.ext) [] false = .ok u bs true := ⟨0, some 1, 0, 4, 1, [], _, _, _, demoPcie.withPoison [0x100000000000], by decide, by decide, by decide, by decide, rfl, by decide, pagesWit _ (by decide), rfl⟩

theorem wit_PcieRequestsComplete_5 : ∃ (k : Key) (pasid : Option (BitVec 20)) (va : BitVec 64) (kind : Fin 13) (len asid : Nat) (data : List Byte) (t : Xlated) (s : State),
    (outOf s (4 + k.val) = false ∧ isOn s (dKio k) = true ∧ s.modx.perst.getD k false = false) ∧ ((asid = (match pasid with | some p => p.toNat | none => fget s (Reg.XLT_PCIE_ASID (4 + k.val)) 0 16) ∧ 1 ≤ asid ∧ asid ≤ 0xFFFF)) ∧ (kind.val = 2 ∨ kind.val = 7 ∨ kind.val = 8) ∧ ((len = 4 ∨ len = 8) ∧ va.toNat % len = 0) ∧ bit t.s (Reg.XLT_CTRL (4 + k.val)) 0 = true ∧ xlatAll s (4 + k.val) 3 asid true [(va.toNat, len, 7)] = t ∧ (t.bad = none ∧ t.miss = []) := ⟨0, some 1, 0, 2, 4, 1, [], _, demoPcie, by decide, by decide, by decide, by decide, by decide, rfl, by decide⟩

theorem wit_PcieRequestsComplete_6 : ∃ (k : Key) (pasid : Option (BitVec 20)) (va : BitVec 64) (kind : Fin 13) (len asid : Nat) (data : List Byte) (s : State),
    (outOf s (4 + k.val) = false ∧ isOn s (dKio k) = true ∧ s.modx.perst.getD k false = false) ∧ (asid = (match pasid with | some p => p.toNat | none => fget s (Reg.XLT_PCIE_ASID (4 + k.val)) 0 16)) ∧ (kind.val = 2 ∨ kind.val = 7 ∨ kind.val = 8) ∧ (len ≠ 4 ∧ len ≠ 8 ∨ va.toNat % len ≠ 0) := ⟨0, some 1, 0, 2, 3, 1, [], demoPcie, by decide⟩

theorem wit_PcieRequestsComplete_7 : ∃ (k : Key) (pasid : Option (BitVec 20)) (va : BitVec 64) (kind : Fin 13) (len asid : Nat) (data : List Byte) (s : State),
    (outOf s (4 + k.val) = false ∧ isOn s (dKio k) = true ∧ s.modx.perst.getD k false = false) ∧ (asid = (match pasid with | some p => p.toNat | none => fget s (Reg.XLT_PCIE_ASID (4 + k.val)) 0 16)) ∧ (asid = 0 ∨ 0xFFFF < asid) ∧ (kind.val = 0 ∧ 1 ≤ len ∧ len ≤ 4096 ∨ kind.val = 1 ∧ 1 ≤ data.length ∧ data.length ≤ 512) := ⟨0, none, 0, 0, 4, 0, [], demoPcie, by decide⟩

theorem wit_PcieRequestsComplete_8 : ∃ (k : Key) (pasid : Option (BitVec 20)) (va : BitVec 64) (len asid a b : Nat) (data : List Byte) (t : Xlated) (s : State),
    (outOf s (4 + k.val) = false ∧ isOn s (dKio k) = true ∧ s.modx.perst.getD k false = false) ∧ ((asid = (match pasid with | some p => p.toNat | none => fget s (Reg.XLT_PCIE_ASID (4 + k.val)) 0 16) ∧ 1 ≤ asid ∧ asid ≤ 0xFFFF)) ∧ (1 ≤ len ∧ len ≤ 4096) ∧ bit t.s (Reg.XLT_CTRL (4 + k.val)) 0 = true ∧ xlatAll s (4 + k.val) 3 asid true [(va.toNat, len, 1)] = t ∧ t.bad = some (a, b) := ⟨0, some 1, 0x8000000000000000, 4, 1, _, _, [], _, demoPcie, by decide, by decide, by decide, by decide, rfl, rfl⟩

theorem wit_FootingsComplete_1 : ∃ (h : Stack) (s : State),
    winOpen s (8 + h) := ⟨0, demoFtg true, by decide⟩

theorem wit_FootingsComplete_2 : ∃ (h : Stack) (s : State),
    winOpen s (8 + h) ∧ stackItems s h = [] := ⟨0, setPd State.reset 108 2, by decide⟩

theorem wit_FootingsComplete_3 : ∃ (h : Stack) (s : State),
    winOpen s (8 + h) ∧ stackItems s h ≠ [] := ⟨0, demoFtg true, by decide⟩

theorem wit_FootingsComplete_4 : ∃ (h : Stack) (e : Fin 5) (it : Item) (its : List Item) (s : State),
    engineItems s h e = it :: its ∧ (it.started = false ∧ it.start ≤ ctl s (h / 3)) ∧ (enginesUp s h = true ∧ outOf s (h / 3) = false ∧ bayStalled s h = false) ∧ cmdWaits s h it = false := ⟨0, 3, demoItem 6 3 false, [], demoFtg false, by decide⟩

theorem wit_FootingsComplete_5 : ∃ (h : Stack) (e : Fin 5) (ecc : List (Nat × Bool)) (it : Item) (s : State),
    (engineItems s h e).find? (·.started) = some it ∧ (outOf s (h / 3) = false ∧ footingUp s h = true) := ⟨0, 3, [], demoItem 6 3 true, demoFtg true, by decide⟩

theorem wit_FootingsComplete_6 : ∃ (h : Stack) (ecc : Fin 17) (s : State),
    bit s (Reg.FTG_CTRL (8 + h)) 1 = true ∧ (enginesUp s h = true ∧ outOf s (h / 3) = false) ∧ (((stackItems s h).filter (·.started)).any (fun i => piecesMeet (cmdPieces i false ++ cmdPieces i true) [(hbmAddr h (256 * fget s (Reg.FTG_PATROL_POS (8 + h)) 0 29), 256)]) = false) := ⟨0, 0, fset (demoFtg false) (Reg.FTG_CTRL 8) 1 1 1, by decide⟩

theorem wit_FootingsComplete_7 : ∃ (h : Stack) (e : Fin 5) (it : Item) (its : List Item) (s : State),
    engineItems s h e = it :: its ∧ (it.started = false ∧ it.start ≤ ctl s (h / 3)) ∧ (enginesUp s h = true ∧ outOf s (h / 3) = false ∧ bayStalled s h = false) ∧ cmdWaits s h it = true := ⟨0, 3, { demoItem 6 3 false with seq := 1, extents := [⟨0, 0x100000000000, 128⟩] }, [], (demoFtg false).withItems [{ demoItem 6 2 true with extents := [⟨0, 0x100000000000, 128⟩] }, { demoItem 6 3 false with seq := 1, extents := [⟨0, 0x100000000000, 128⟩] }], by decide⟩

theorem wit_FootingsComplete_8 : ∃ (h : Stack) (ecc : Fin 17) (s : State),
    bit s (Reg.FTG_CTRL (8 + h)) 1 = true ∧ (enginesUp s h = true ∧ outOf s (h / 3) = false) ∧ (((stackItems s h).filter (·.started)).any (fun i => piecesMeet (cmdPieces i false ++ cmdPieces i true) [(hbmAddr h (256 * fget s (Reg.FTG_PATROL_POS (8 + h)) 0 29), 256)]) = true) := ⟨0, 0, fset ((demoFtg true).withItems [{ demoItem 6 3 true with extents := [⟨0, 0x100000000000, 128⟩] }]) (Reg.FTG_CTRL 8) 1 1 1, by decide⟩

theorem wit_RequestsAtHomesComplete_1 : ∃ (home : Fin 18) (line : Nat) (a : Fin 64) (tn : BitVec 12) (ecc : Fin 9) (s : State),
    a.val < 40 ∧ owns s a line = false := ⟨0, 0x2000000000, 1, 0, 0, State.reset, by decide⟩

theorem wit_RequestsAtHomesComplete_2 : ∃ (home : Fin 18) (line : Nat) (a : Fin 64) (tn : BitVec 12) (ecc : Fin 9) (s : State),
    a.val < 28 ∧ owns s a line = false := ⟨0, 0x2000000000, 1, 0, 0, State.reset, by decide⟩

theorem wit_RequestsAtHomesComplete_3 : ∃ (home : Fin 18) (line : Nat) (a : Fin 64) (tn : BitVec 12) (ecc : Fin 9) (s : State),
    a.val < 28 ∧ owns s a line = false := ⟨0, 0x2000000000, 1, 0, 0, State.reset, by decide⟩

theorem wit_RequestsAtHomesComplete_4 : ∃ (home : Fin 18) (line : Nat) (a : Fin 64) (tn : BitVec 12) (ecc : Fin 9) (s : State),
    nonCaching home a = true := ⟨0, 0x2000000000, 40, 0, 0, State.reset, by decide⟩

theorem wit_RequestsAtHomesComplete_5 : ∃ (home : Fin 18) (line : Nat) (a : Fin 64) (tn : BitVec 12) (ecc : Fin 9) (s : State),
    a.val < 62 ∧ reaching home a = true := ⟨0, 0x2000000000, 1, 0, 0, State.reset, by decide⟩

theorem wit_RequestsAtHomesComplete_6 : ∃ (home : Fin 18) (line : Nat) (a : Fin 64) (tn : BitVec 12) (data : List Byte) (s : State),
    nonCaching home a = true ∧ data.length = 128 := ⟨0, 0x2000000000, 40, 0, List.replicate 128 1, State.reset, by decide⟩

theorem wit_RequestsAtHomesComplete_7 : ∃ (home : Fin 18) (line : Nat) (a : Fin 64) (tn : BitVec 12) (en : BitVec 128) (data : List Byte) (ecc : Fin 9) (s : State),
    nonCaching home a = true ∧ data.length = 128 := ⟨0, 0x2000000000, 40, 0, 3, List.replicate 128 1, 0, State.reset, by decide⟩

theorem wit_RequestsAtHomesComplete_8 : ∃ (home : Fin 18) (addr : Nat) (a : Fin 64) (tn : BitVec 12) (op : Fin 10) (size : Fin 2) (v w : W64) (ecc : Fin 9) (s : State),
    atomOk s addr size = true ∧ a.val < 62 ∧ reaching home a = true := ⟨0, 0x100000000000, 1, 0, 0, 0, 1, 0, 0, State.reset, by decide⟩

theorem wit_RequestsAtHomesComplete_9 : ∃ (s : State) (r : Req),
    (lineHome s r.line = r.home ∧ homed s r.line = true ∧ rangeCode s r.home r.line = none) ∧ (homeAbsent s r.home = false ∧ isDead s r.home r.a = false) ∧ (s.answers = [] ∧ s.waitq = [] ∧ s.txns = []) := ⟨demoDir 1 none, plainReq State.reset 0 0x2000000000 2 0 0 0, by decide⟩

theorem wit_RequestsAtHomesComplete_10 : ∃ (s : State) (r : Req),
    (r.kind ≠ 5 ∧ r.done = none) ∧ ((((r.kind ≤ 2 ∨ r.kind = 8) ∧ dirOf s r.line = none) → (dirSetOf s r.home r.line).length < dirWays)) ∧ (snoopsOf (readLine s r) r).2 = [] := ⟨demoDir 1 none, plainReq State.reset 0 0x2000000000 2 0 0 0, by decide⟩

theorem wit_RequestsAtHomesComplete_11 : ∃ (s : State) (r : Req) (code : Nat) (as : List Nat),
    (r.kind ≠ 5 ∧ r.done = none) ∧ ((((r.kind ≤ 2 ∨ r.kind = 8) ∧ dirOf s r.line = none) → (dirSetOf s r.home r.line).length < dirWays)) ∧ snoopsOf (readLine s r) r = (code, as) ∧ as ≠ [] := ⟨demoDir 3 none, plainReq State.reset 0 0x2000000000 2 0 1 0, 1, [1], by decide⟩

theorem wit_RequestsAtHomesComplete_12 : ∃ (s : State) (r : Req),
    (r.kind = 5 ∧ r.done = none) := ⟨State.reset, plainReq State.reset 0 0x2000000000 2 0 5 0, by decide⟩

theorem wit_RequestsAtHomesComplete_13 : ∃ (home : Fin 18) (line : Nat) (a : Fin 64) (tn : BitVec 12) (ecc : Fin 9) (s : State),
    owns s a line = true := ⟨0, 0x2000000000, 1, 0, 0, demoDir 3 none, by decide⟩

theorem wit_AtomicsComplete_1 : ∃ (mk : Fin 40 → Nat → Fin 2 → W64 → Instr) (op : Nat) (a : Fin 40) (addr : Nat) (size : Fin 2) (v : W64) (s : State),
    (((mk, op) ∈ ([(Instr.atomAdd, 0), (Instr.atomSmin, 1), (Instr.atomSmax, 2), (Instr.atomUmin, 3), 
      (Instr.atomUmax, 4), (Instr.atomSwap, 5), (Instr.atomAnd, 7), (Instr.atomOr, 8), (Instr.atomXor, 9)] : List ((Fin 40 → Nat → Fin 2 → W64 → Instr) × Nat)))) := ⟨Instr.atomAdd, 0, 0, 0, 0, 0, State.reset, by simp⟩

theorem wit_AtomicsComplete_3 : ∃ (s : State) (a addr size op v w : Nat),
    a < 28 ∧ atomOk s addr size = false := ⟨State.reset, 0, 0x100000000001, 0, 0, 1, 0, by decide⟩

theorem wit_AtomicsComplete_4 : ∃ (s : State) (a addr size op v w : Nat),
    a < 28 ∧ atomOk s addr size = true ∧ fget s (Reg.COH_ATOM_CTRL (agentUnit a)) 0 2 = 1 := ⟨fset (State.reset) (Reg.COH_ATOM_CTRL 4) 0 2 1, 0, 0x100000000000, 0, 0, 1, 0, by decide⟩

theorem wit_AtomicsComplete_5 : ∃ (s : State) (a addr size op v w : Nat) (c : Copy),
    a < 28 ∧ atomOk s addr size = true ∧ fget s (Reg.COH_ATOM_CTRL (agentUnit a)) 0 2 = 2 ∧ copyOf s a (home s addr / 128) = some c ∧ 2 ≤ c.st := ⟨fset (demoDir 3 none) (Reg.COH_ATOM_CTRL 4) 0 2 2, 1, 0x100000000000, 0, 0, 1, 0, ⟨1, 0x2000000000, 3, List.replicate 128 7⟩, by decide⟩

theorem wit_AtomicsComplete_6 : ∃ (old v : Nat),
    (old < 2 ^ 32 ∧ v < 2 ^ 32) := ⟨3, 5, by decide⟩

theorem wit_AtomicsComplete_7 : ∃ (u : Unit6) (v : W32) (s : State),
    winOpen s u ∧ getBits v 0 2 ≠ 3 := ⟨0, 1, State.reset, by decide⟩

theorem wit_AtomicsComplete_8 : ∃ (u : Unit6) (v : W32) (s : State),
    winOpen s u ∧ getBits v 0 2 = 3 := ⟨0, 3, State.reset, by decide⟩

theorem wit_AtomicsComplete_9 : ∃ (s : State) (a addr size op v w : Nat),
    a < 28 ∧ atomOk s addr size = true ∧ fget s (Reg.COH_ATOM_CTRL (agentUnit a)) 0 2 = 0 ∧ 2 ≤ tget predDef s.pred (predKey a (home s addr)) := ⟨State.reset, 0, 0x100000000000, 0, 0, 0, 0, by decide⟩

theorem wit_AtomicsComplete_10 : ∃ (s : State) (a addr size op v w : Nat),
    a < 28 ∧ atomOk s addr size = true ∧ (fget s (Reg.COH_ATOM_CTRL (agentUnit a)) 0 2 = 2 ∨ (fget s (Reg.COH_ATOM_CTRL (agentUnit a)) 0 2 = 0 ∧ tget predDef s.pred (predKey a (home s addr)) < 2)) ∧ ((∀ c, copyOf s a (home s addr / 128) = some c → c.st < 2)) := ⟨wr State.reset (Reg.COH_ATOM_CTRL 4) 2, 0, 0x100000000000, 0, 0, 0, 0, by decide, by decide, Or.inl (by decide), by
    have e : copyOf (wr State.reset (Reg.COH_ATOM_CTRL 4) 2) 0 (home (wr State.reset (Reg.COH_ATOM_CTRL 4) 2) 0x100000000000 / 128) = none := by decide
    intro c h; rw [show copyOf (wr State.reset (Reg.COH_ATOM_CTRL 4) 2) 0 (home (wr State.reset (Reg.COH_ATOM_CTRL 4) 2) 0x100000000000 / 128) = some c from h] at e; exact absurd e (by simp)⟩

theorem wit_AtomicsComplete_11 : ∃ (s : State) (r : Req) (d : List Byte),
    operandPoisoned (atomCount s r.a 16) r = false := ⟨State.reset, plainReq State.reset 0 0x2000000000 2 0 8 0, [], by decide⟩

theorem wit_AtomicsComplete_12 : ∃ (mk : Fin 40 → Nat → Fin 2 → W64 → Instr) (a : Fin 40) (addr : Nat) (size : Fin 2) (v : W64) (s : State),
    28 ≤ a.val ∧ mk ∈ [Instr.atomAdd, Instr.atomSmin, Instr.atomSmax, Instr.atomUmin, Instr.atomUmax, Instr.atomSwap, Instr.atomAnd, Instr.atomOr, Instr.atomXor] := ⟨Instr.atomAdd, 28, 0, 0, 0, State.reset, by decide, by simp⟩

theorem wit_SnoopsComplete_1 : ∃ (mk : Fin 40 → Nat → Fin 64 → Instr) (code keep : Nat) (a : Fin 40) (line : Nat) (q : Fin 64) (s : State),
    (((mk, code, keep) ∈ ([(Instr.probeShare, 0, 1), (Instr.probeYield, 1, 0), (Instr.probeDrop, 2, 0), (Instr.probeCopy, 3, 3), (Instr.probeFlush, 4, 2)] : List ((Fin 40 → Nat → Fin 64 → Instr) × Nat × Nat)))) := ⟨Instr.probeShare, 0, 1, 0, 0, 0, State.reset, by simp⟩

theorem wit_SnoopsComplete_2 : ∃ (s : State) (a line code keep : Nat) (c : Copy),
    snooped s a (canonLine s line) code = true ∧ copyOf s a (canonLine s line) = some c ∧ (c.st = 3 ∧ code ≠ 2 ∧ code ≠ 3) ∧ (0 < keep ∧ keep < 3) := ⟨demoDir 3 (some 0), 1, 0x2000000000, 0, 1, ⟨1, 0x2000000000, 3, List.replicate 128 7⟩, by decide⟩

theorem wit_SnoopsComplete_3 : ∃ (home : Fin 18) (line : Nat) (a : Fin 40) (t : Txn) (c : Copy) (s : State),
    (s.txns.find? (fun t => t.home == home.val && t.line == canonLine s line && t.wait.contains a.val) = some t) ∧ ((respsOf s home a).find? (fun c => c.line == canonLine s line) = some c ∧ (respsOf s home a).find? (fun x => x.data.isEmpty == c.data.isEmpty) = some c) := ⟨0, 0x2000000000, 1, ⟨0, 0x2000000000, none, 0, [1], none, false, none⟩, ⟨1, 0x2000000000, 1, []⟩, (demoDir 3 (some 0)).withResps [⟨1, 0x2000000000, 1, []⟩], by decide⟩

theorem wit_SnoopsComplete_4 : ∃ (home : Fin 18) (line : Nat) (a : Fin 40) (c : Copy) (e : DirEnt) (s : State),
    lineHome s (canonLine s line) = home.val ∧ copyOf s a (canonLine s line) = some c ∧ c.st = 3 ∧ (homeAbsent s home = false ∧ isDead s home a = false) ∧ (s.txns = [] ∧ s.resps = []) ∧ dirOf s (canonLine s line) = some e ∧ e.excl = a.val + 1 := ⟨0, 0x2000000000, 1, ⟨1, 0x2000000000, 3, List.replicate 128 7⟩, ⟨0, 0x2000000000, 2, []⟩, demoDir 3 none, by decide⟩

theorem wit_SnoopsComplete_5 : ∃ (home : Fin 18) (line : Nat) (r : Req) (s : State),
    lineBusy s (canonLine s line) = false ∧ (s.waitq.find? (fun r => r.home == home.val && r.line == canonLine s line) = some r) := ⟨0, 0x2000000000, plainReq State.reset 0 0x2000000000 2 0 0 0, (demoDir 1 none).withWaitq [plainReq State.reset 0 0x2000000000 2 0 0 0], by decide⟩

theorem wit_SnoopsComplete_6 : ∃ (s : State) (a line code keep : Nat),
    snooped s a (canonLine s line) code = true ∧ copyOf s a (canonLine s line) = none := ⟨(demoDir 3 (some 0)).withCopies [], 1, 0x2000000000, 0, 1, by decide⟩

theorem wit_SnoopsComplete_7 : ∃ (s : State) (a line code keep : Nat) (c : Copy),
    snooped s a (canonLine s line) code = true ∧ copyOf s a (canonLine s line) = some c := ⟨demoDir 3 (some 0), 1, 0x2000000000, 0, 1, ⟨1, 0x2000000000, 3, List.replicate 128 7⟩, by decide⟩

theorem wit_SnoopsComplete_8 : ∃ (s : State) (a line code keep : Nat),
    snooped s a (canonLine s line) code = false := ⟨State.reset, 1, 0, 0, 0, by decide⟩

theorem wit_SnoopsComplete_9 : ∃ (home : Fin 18) (line : Nat) (a : Fin 40) (c : Copy) (t : Txn) (s : State),
    lineHome s (canonLine s line) = home.val ∧ copyOf s a (canonLine s line) = some c ∧ (c.st = 3 ∧ (respsOf s home a).any (fun c => !c.data.isEmpty) = false) ∧ (homeAbsent s home = false ∧ isDead s home a = false) ∧ (s.txns.find? (fun t => t.line == canonLine s line && t.wait.contains a.val) = some t) := ⟨0, 0x2000000000, 1, ⟨1, 0x2000000000, 3, List.replicate 128 7⟩, ⟨0, 0x2000000000, none, 0, [1], none, false, none⟩, demoDir 3 (some 0), by decide⟩

theorem wit_SnoopsComplete_10 : ∃ (home : Fin 18) (line : Nat) (a : Fin 40) (c : Copy) (s : State),
    lineHome s (canonLine s line) = home.val ∧ copyOf s a (canonLine s line) = some c ∧ (c.st = 3 ∧ (respsOf s home a).any (fun c => !c.data.isEmpty) = false) ∧ homeAbsent s home = true := ⟨0, 0x2000000000, 1, ⟨1, 0x2000000000, 3, List.replicate 128 7⟩, fset (demoDir 3 none) (homeReg 0) 0 2 0, by decide⟩

theorem wit_ReclaimsComplete_1 : ∃ (home : Fin 18) (a : Fin 40) (s : State),
    (homeAbsent s home = false ∧ s.txns = []) := ⟨0, 1, demoDir 3 none, by decide⟩

theorem wit_ReclaimsComplete_2 : ∃ (home : Fin 18) (r : Nat × Nat × Nat) (s : State),
    (s.reclaims.find? (fun r => r.1 == home.val) = some r) ∧ s.reclaims.erase r = [] := ⟨0, (0, 1, 1), ((State.reset).withReclaims [(0, 1, 1)]), by decide⟩

theorem wit_ReclaimsComplete_3 : ∃ (e : Fin 10) (line len : Nat) (s : State),
    0 < len := ⟨0, 5, 128, State.reset, by decide⟩

theorem wit_ReclaimsComplete_4 : ∃ (a : Fin 40) (addr len : Nat) (s : State),
    a.val < 24 ∧ (0 < len ∧ len ≤ 2 ^ 32) ∧ ((List.range ((addr % 4096 + len - 1) / 4096 + 1)).all (fun i => homed s ((addr / 4096 + i) * 32)) = true) := ⟨0, 0x100000000000, 64, State.reset, by decide⟩

theorem wit_ReclaimsComplete_5 : ∃ (a : Fin 40) (addr len : Nat) (s : State),
    a.val < 24 ∧ (0 < len ∧ len ≤ 2 ^ 32) ∧ ((List.range ((addr % 4096 + len - 1) / 4096 + 1)).all (fun i => homed s ((addr / 4096 + i) * 32)) = false) := ⟨0, 0xF00000000000, 64, State.reset, by decide⟩

theorem wit_JointControlComplete_1 : ∃ (u : Unit6) (j : Joint) (s : State),
    winOpen s u ∧ noJoint u j = false ∧ (connected j = true ∧ isOn s (jointDom u j) = true) ∧ bndState (bndLast (fset s (Reg.BND_CTRL u j) 0 1 1) u j 0 0) u j = 0 := ⟨0, 0, demoBond 0 (bondDef 0), by decide⟩

theorem wit_JointControlComplete_2 : ∃ (u : Unit6) (j : Joint) (s : State),
    winOpen s u ∧ noJoint u j = false ∧ jointHeld s u j = false := ⟨0, 0, demoBond 4 (bondDef 0), by decide⟩

theorem wit_JointControlComplete_3 : ∃ (u : Unit6) (j : Joint) (s : State),
    winOpen s u ∧ noJoint u j = false ∧ jointHeld s u j = false ∧ bndState s u j = 4 := ⟨0, 0, demoBond 4 (bondDef 0), by decide⟩

theorem wit_JointControlComplete_4 : ∃ (u : Unit6) (j : Joint) (s : State),
    winOpen s u ∧ noJoint u j = false ∧ jointHeld s u j = true := ⟨0, 0, State.reset.withItems [{ demoItem 1 0 true with resv := [⟨resJoint 0 0 0, 0, 1⟩] }], by decide⟩

theorem wit_JointControlComplete_5 : ∃ (u : Unit6) (j : Joint) (s : State),
    (connected j = true ∧ isOn s (jointDom u j) = true) ∧ (bndState s u j = 1 ∨ bndState s u j = 6) := ⟨0, 0, demoBond 1 (bondDef 0), by decide⟩

theorem wit_JointControlComplete_6 : ∃ (u : Unit6) (j : Joint) (good pol : BitVec 26) (s : State),
    (bndState s u j = 2 ∨ bndState s u j = 3) ∧ (bondX s u j).own = 0 ∧ pol = 0 ∧ 8 ≤ (goodList good.toNat).length := ⟨0, 0, 0x3FFFFFF, 0, demoBond 2 (bondDef 0), by decide⟩

theorem wit_JointControlComplete_7 : ∃ (u : Unit6) (j : Joint) (good : BitVec 26) (s : State),
    bndState s u j = 2 ∧ (goodList good.toNat).length < 8 := ⟨0, 0, 0x7F, demoBond 2 (bondDef 0), by decide⟩

theorem wit_JointControlComplete_8 : ∃ (u : Unit6) (j : Joint) (s : State),
    (bndState s u j = 3 ∨ bndState s u j = 5) ∧ (bondX s u j).own ≠ 0 := ⟨0, 0, demoBond 3 { bondDef 0 with own := 24 }, by decide⟩

theorem wit_JointControlComplete_9 : ∃ (u : Unit6) (j : Joint) (s : State),
    (bndState s u j = 3 ∨ bndState s u j = 5) ∧ (bondX s u j).own ≠ 0 ∧ (bondX s u j).sentW = none := ⟨0, 0, demoBond 3 { bondDef 0 with own := 24 }, by decide⟩

theorem wit_JointControlComplete_10 : ∃ (u : Unit6) (j : Joint) (s : State),
    bndState s u j = 4 := ⟨0, 0, demoBond 4 (bondDef 0), by decide⟩

theorem wit_JointControlComplete_11 : ∃ (u : Unit6) (j : Joint) (s : State),
    bndState s u j = 5 := ⟨0, 0, demoBond 5 (bondDef 0), by decide⟩

theorem wit_JointControlComplete_12 : ∃ (u : Unit6) (j : Joint) (s : State),
    winOpen s u ∧ noJoint u j = false ∧ connected j = false := ⟨0, 3, State.reset, by decide⟩

theorem wit_JointControlComplete_13 : ∃ (u : Unit6) (j : Joint) (s : State),
    winOpen s u ∧ noJoint u j = false ∧ (connected j = true ∧ isOn s (jointDom u j) = false) := ⟨0, 0, setPd State.reset (dJoint 0 0) 0, by decide⟩

theorem wit_JointControlComplete_14 : ∃ (u : Unit6) (j : Joint) (s : State),
    winOpen s u ∧ noJoint u j = false ∧ jointHeld s u j = false ∧ bndState s u j ≠ 4 := ⟨0, 0, State.reset, by decide⟩

theorem wit_JointControlComplete_15 : ∃ (u : Unit6) (j : Joint) (s : State),
    winOpen s u ∧ noJoint u j = true := ⟨4, 3, State.reset, by decide⟩

theorem wit_JointControlComplete_16 : ∃ (u : Unit6) (j : Joint) (w : Nat) (s : State),
    (bndState s u j = 3 ∨ bndState s u j = 5) ∧ (bondX s u j).own ≠ 0 ∧ (bondX s u j).sentW = some w := ⟨0, 0, 20, demoBond 3 { bondDef 0 with own := 24, sentW := some 20 }, by decide⟩

theorem wit_JointControlComplete_17 : ∃ (u : Unit6) (j : Joint) (s : State),
    (connected j = true ∧ isOn s (jointDom u j) = true) ∧ bndState s u j = 4 := ⟨0, 0, demoBond 4 (bondDef 0), by decide⟩

theorem wit_TicketsAndFlitsComplete_1 : ∃ (u : Unit6) (j : Joint) (t : List Byte) (s : State),
    (bndState s u j = 3 ∨ bndState s u j = 5) ∧ (bondX s u j).own ≠ 0 ∧ ticketOk t 1 = true ∧ dfld t 1 1 = (bondX s u j).e ∧ identOk s u j (dfld t 3 1 % 8) (dfld t 3 1 / 8 % 4) = true ∧ 8 ≤ dfld t 2 1 := ⟨0, 0, demoTicket 1 1 24, demoBond 3 { bondDef 0 with own := 24, e := 1 }, by decide⟩

theorem wit_TicketsAndFlitsComplete_2 : ∃ (u : Unit6) (j : Joint) (t : List Byte) (s : State),
    (bndState s u j = 3 ∨ bndState s u j = 5) ∧ (bondX s u j).own ≠ 0 ∧ ticketOk t 2 = true ∧ dfld t 1 1 = (bondX s u j).e ∧ identOk s u j (dfld t 3 1 % 8) (dfld t 3 1 / 8 % 4) = true ∧ 8 ≤ dfld t 2 1 := ⟨0, 0, demoTicket 2 1 24, demoBond 3 { bondDef 0 with own := 24, e := 1 }, by decide⟩

theorem wit_TicketsAndFlitsComplete_3 : ∃ (s : State) (u j w : Nat),
    ((bondX s u j).sentW = some w ∧ (bondX s u j).gotW = some w) ∧ (8 ≤ w ∧ w < 32) := ⟨demoBond 3 { bondDef 0 with sentW := some 24, gotW := some 24 }, 0, 0, 24, by decide⟩

theorem wit_TicketsAndFlitsComplete_4 : ∃ (u : Unit6) (j : Joint) (t : List Byte) (s : State),
    bndState s u j = 4 ∧ ticketOk t 3 = true ∧ dfld t 1 1 = (fget s (Reg.BND_STATUS u j) 8 8 + 1) % 256 ∧ (bondX s u j).narrow = none ∧ fget s (Reg.BND_STATUS u j) 3 5 ≤ min (fget s (Reg.BND_STATUS u j) 3 5) (widthOf (dfld t 2 1)) + 4 ∧ 0 < min (fget s (Reg.BND_STATUS u j) 3 5) (widthOf (dfld t 2 1)) := ⟨0, 0, demoTicket 3 1 20, fset (demoBond 4 (bondDef 0)) (Reg.BND_STATUS 0 0) 3 5 24, by decide⟩

theorem wit_TicketsAndFlitsComplete_5 : ∃ (u : Unit6) (j : Joint) (t : List Byte) (n : Narrow) (q : Nat) (s : State),
    bndState s u j = 4 ∧ ticketOk t 4 = true ∧ dfld t 1 1 = (fget s (Reg.BND_STATUS u j) 8 8 + 1) % 256 ∧ (bondX s u j).narrow = some n ∧ (n.rxSwitch = none ∧ n.txSwitch = some q) ∧ (fget s (Reg.BND_STATUS u j) 3 5 ≤ min n.width (widthOf (dfld t 2 1)) + 4 ∧ 0 < min n.width (widthOf (dfld t 2 1))) := ⟨0, 0, demoTicket 4 1 20, ⟨0, 20, true, some 128, none⟩, 128, demoBond 4 { bondDef 0 with narrow := some ⟨0, 20, true, some 128, none⟩ }, by decide⟩

theorem wit_TicketsAndFlitsComplete_6 : ∃ (u : Unit6) (j : Joint) (n : Narrow) (s : State),
    (bondX s u j).narrow = some n ∧ bndState s u j = 4 ∧ (n.txSwitch = none ∨ n.rxSwitch = none) := ⟨0, 0, ⟨0, 20, true, none, none⟩, demoBond 4 { bondDef 0 with narrow := some ⟨0, 20, true, none, none⟩ }, by decide⟩

theorem wit_TicketsAndFlitsComplete_7 : ∃ (u : Unit6) (j : Joint) (f : List Byte) (s : State),
    f.length = 256 ∧ flitCrc f ≠ leNat (f.drop 248) ∧ bndState s u j = 4 := ⟨0, 0, List.replicate 256 1, demoBond 4 (bondDef 0), by decide +kernel⟩

theorem wit_TicketsAndFlitsComplete_8 : ∃ (u : Unit6) (j : Joint) (f : List Byte) (s : State),
    f.length = 256 ∧ flitCrc f = leNat (f.drop 248) ∧ bndState s u j = 4 ∧ (flitFld f 61 1 = 0 ∧ flitFld f 33 1 = 0) ∧ flitFld f 0 16 = (bondX s u j).expect ∧ (bondX s u j).narrow = none ∧ flitFld f 34 8 = fget s (Reg.BND_STATUS u j) 8 8 := ⟨0, 0, demoFlit, demoBond 4 (bondDef 0), by decide +kernel⟩

theorem wit_TicketsAndFlitsComplete_9 : ∃ (u : Unit6) (j : Joint) (t : List Byte) (s : State),
    (bndState s u j = 3 ∨ bndState s u j = 5) ∧ (bondX s u j).own ≠ 0 ∧ dfld t 1 1 = (bondX s u j).e ∧ identOk s u j (dfld t 3 1 % 8) (dfld t 3 1 / 8 % 4) = false := ⟨0, 0, [1, 1, 24, 0], demoBond 3 { bondDef 0 with own := 24, e := 1 }, by decide⟩

theorem wit_TicketsAndFlitsComplete_10 : ∃ (u : Unit6) (j : Joint) (t : List Byte) (s : State),
    (bndState s u j = 3 ∨ bndState s u j = 5) ∧ (bondX s u j).own ≠ 0 ∧ ticketOk t 2 = true ∧ dfld t 1 1 = (bondX s u j).e ∧ identOk s u j (dfld t 3 1 % 8) (dfld t 3 1 / 8 % 4) = true ∧ dfld t 2 1 < 8 := ⟨0, 0, demoTicket 2 1 4, demoBond 3 { bondDef 0 with own := 24, e := 1 }, by decide⟩

theorem wit_TicketsAndFlitsComplete_11 : ∃ (u : Unit6) (j : Joint) (t : List Byte) (n : Narrow) (s : State),
    bndState s u j = 4 ∧ ticketOk t 4 = true ∧ dfld t 1 1 = (fget s (Reg.BND_STATUS u j) 8 8 + 1) % 256 ∧ (bondX s u j).narrow = some n ∧ n.rxSwitch = none ∧ (min n.width (widthOf (dfld t 2 1)) + 4 < fget s (Reg.BND_STATUS u j) 3 5 ∨ min n.width (widthOf (dfld t 2 1)) = 0) := ⟨0, 0, demoTicket 4 1 20, ⟨0, 20, true, some 128, none⟩, fset (demoBond 4 { bondDef 0 with narrow := some ⟨0, 20, true, some 128, none⟩ }) (Reg.BND_STATUS 0 0) 3 5 26, by decide⟩

theorem wit_TicketsAndFlitsComplete_12 : ∃ (u : Unit6) (j : Joint) (f : List Byte) (s : State),
    f.length = 256 ∧ flitCrc f = leNat (f.drop 248) ∧ bndState s u j = 4 ∧ flitFld f 61 1 = 0 ∧ (bondX s u j).narrow = none ∧ flitFld f 34 8 = fget s (Reg.BND_STATUS u j) 8 8 ∧ (2048 < (flitFld f 0 16 + 65536 - (bondX s u j).expect) % 65536 ∧ (flitFld f 0 16 + 65536 - (bondX s u j).expect) % 65536 < 65536 - 2048) := ⟨0, 0, demoFar, demoBond 4 (bondDef 0), by decide +kernel⟩

theorem wit_DiesLeaveAndReturn_1 : ∃ (u dead : Unit6) (s : State),
    u ≠ dead ∧ outOf s u = false ∧ cutOff s dead = true := ⟨0, 2, (demoBond 0 (bondDef 0)).withAbsent [1, 3, 5], by decide⟩

theorem wit_DiesLeaveAndReturn_2 : ∃ (s : State) (v : Nat),
    outOf s v = true := ⟨((State.reset).withAbsent [2]), 2, by decide⟩

theorem wit_DiesLeaveAndReturn_3 : ∃ (d : Unit6) (j : Nat) (s : State),
    d.val < 4 ∧ (outOf s d = true ∧ s.pllOff.contains d.val = false) ∧ (j < 3 ∧ bndState s d j = 4) := ⟨0, 0, (demoBond 4 (bondDef 0)).withAbsent [0], by decide⟩

theorem wit_DiesLeaveAndReturn_4 : ∃ (d : Unit6) (s : State),
    s.rejoins.contains d.val = true ∧ (s.reclaims.any (fun r => decide (24 ≤ r.2.1 ∧ r.2.1 < 40)) = false) ∧ fget s (Reg.GLB_DIE_IDENT d) 2 2 = 1 := ⟨0, fset (((State.reset).withRejoins [0])) (Reg.GLB_DIE_IDENT 0) 2 2 1, by decide⟩

theorem wit_PortsComplete_1 : ∃ (d : Die) (n : Fin 2) (v : W32) (s : State),
    winOpen s d ∧ portChecks (rwlIn s (Reg.NET_PORT_CFG d n) 0x1F1F06 v) d n = none ∧ bit (rwlIn s (Reg.NET_PORT_CFG d n) 0x1F1F06 v) (Reg.NET_PORT_CFG d n) 0 = false ∧ s.modx.l4 = false := ⟨0, 0, 0, fset State.reset (Reg.NET_CTX_BASE_HI 0) 0 20 0x1000, by decide⟩

theorem wit_PortsComplete_2 : ∃ (d : Die) (n : Fin 2) (v : W32) (a b : Nat) (s : State),
    winOpen s d ∧ portChecks (rwlIn s (Reg.NET_PORT_CFG d n) 0x1F1F06 v) d n = some (a, b) := ⟨0, 0, 0, Rsn.CFG_RANGE, 0xEC, State.reset, by decide⟩

theorem wit_PortsComplete_3 : ∃ (d : Die) (n : Fin 2) (s : State),
    winOpen s d ∧ ((∀ c ∈ ctxsOf s d, (flow s c).st = 1 → cPort s c ≠ n.val)) ∧ ((∀ i ∈ s.items, i.die = d.val → i.uses.contains (400 + 2 * d.val + n.val) = false)) := ⟨0, 0, State.reset, by decide⟩

theorem wit_PortsComplete_4 : ∃ (d : Die) (n : Fin 2) (c : Nat) (s : State),
    winOpen s d ∧ c ∈ ctxsOf s d ∧ ((flow s c).st = 1 ∧ cPort s c = n.val) := ⟨0, 0, 0, demoFlow 1 (flowDef 0), by decide⟩

theorem wit_PortsComplete_5 : ∃ (d : Die) (n half : Fin 2) (s : State),
    linkState s d n half = 1 ∧ (outOf s d = false ∧ s.modx.l4 = false) := ⟨0, 0, 0, fset (State.reset) (Reg.NET_PORT_STATUS 0 0) 0 2 1, by decide⟩

theorem wit_PortsComplete_6 : ∃ (d : Die) (n half : Fin 2) (s : State),
    linkState s d n half = 2 := ⟨0, 0, 0, fset (State.reset) (Reg.NET_PORT_STATUS 0 0) 0 2 2, by decide⟩

theorem wit_TransportsComplete_1 : ∃ (d : Die) (c : Fin 262144) (psn : BitVec 24) (s : State),
    ctxLive s d c = true ∧ cKind s c ≠ 1 := ⟨0, 0, 0, demoFlow 0 (flowDef 0), by decide⟩

theorem wit_TransportsComplete_2 : ∃ (d : Die) (c : Fin 262144) (psn : BitVec 24) (s : State),
    ctxLive s d c = true ∧ cKind s c ≠ 1 ∧ (flow (acked s c ((psn.toNat + 2 ^ 24 - 1) % 2 ^ 24)) c).st = 1 := ⟨0, 0, 0, demoFlow 0 (flowDef 0), by decide⟩

theorem wit_TransportsComplete_3 : ∃ (d : Die) (c : Fin 262144) (psn : BitVec 24) (code : Fin 4) (s : State),
    ctxLive s d c = true ∧ cKind s c ≠ 1 ∧ (flow (acked s c ((psn.toNat + 2 ^ 24 - 1) % 2 ^ 24)) c).st = 1 ∧ 2 ≤ code.val := ⟨0, 0, 0, 2, demoFlow 0 (flowDef 0), by decide⟩

theorem wit_TransportsComplete_4 : ∃ (d : Die) (c : Fin 262144) (s : State),
    ctxLive s d c = true ∧ cKind s c ≠ 3 := ⟨0, 0, demoFlow 0 (flowDef 0), by decide⟩

theorem wit_TransportsComplete_5 : ∃ (d : Die) (c : Fin 262144) (psn : BitVec 32) (ece : Bool) (s : State),
    ctxLive s d c = true ∧ cKind s c = 1 := ⟨0, 0, 0, true, demoFlow 1 (flowDef 0), by decide⟩

theorem wit_TransportsComplete_6 : ∃ (d : Die) (c : Fin 262144) (psn : BitVec 32) (s : State),
    ctxLive s d c = true ∧ cKind s c = 1 ∧ (flow (acked s c psn.toNat) c).st = 1 := ⟨0, 0, 0, demoFlow 1 (flowDef 0), by decide⟩

theorem wit_TransportsComplete_7 : ∃ (d : Die) (c : Fin 262144) (s : State),
    ((flow s c).st = 1 ∧ c / 65536 = d.val ∧ outOf s d = false) ∧ (flow s c).tx ≠ [] := ⟨0, 0, demoFlow 1 { flowDef 0 with tx := [⟨0, 1, 0, 0, 0, 0, ⟨.packet, [], []⟩⟩] }, by decide⟩

theorem wit_TransportsComplete_8 : ∃ (s : State) (c : Nat),
    (cf s c 0x44 1 = 7 ∨ (flow s c).tries < cf s c 0x44 1) := ⟨setFlow (memWriteAt (demoFlow 1 (flowDef 0)) (0x100000000000 + 0x44) [7]) 0 (flowDef 0), 0, by decide⟩

theorem wit_TransportsComplete_9 : ∃ (d : Die) (c : Fin 262144) (s : State),
    ctxLive s d c = true ∧ 0 < (flow s c).unacked := ⟨0, 0, demoFlow 1 { flowDef 0 with unacked := 1 }, by decide⟩

theorem wit_TransportsComplete_10 : ∃ (d : Die) (r : Ring) (seq : W32) (it : Item) (s : State),
    findItem s d r seq.toNat = some it ∧ it.bound ≤ ctl s d ∧ it.opcode = 0x23 := ⟨0, 0, 0, demoItem 0x23 0 true, demoItems 0x23 0 true, by decide⟩

theorem wit_TransportsComplete_11 : ∃ (d : Die) (r : Ring) (seq : W32) (it : Item) (s : State),
    findItem s d r seq.toNat = some it ∧ it.bound ≤ ctl s d ∧ (it.opcode = 0x20 ∨ it.opcode = 0x21 ∨ it.opcode = 0x22 ∨ it.opcode = 0x28 ∨ it.opcode = 0x30) := ⟨0, 0, 0, demoItem 0x20 0 true, demoItems 0x20 0 true, by decide⟩

theorem wit_InboundPacketsComplete_1 : ∃ (d : Die) (c : Fin 262144) (psn : BitVec 24) (ce : Bool) (seg : Fin 4) (data : List Byte) (s : State),
    (c / 65536 = d.val ∧ outOf s d = false) ∧ ((flow s c).st = 1 ∧ ctxUp s c = true) ∧ tget rxbufDef s.rxbuf (2 * d + cPort s c) = [] ∧ (cKind s c ≠ 1 ∧ cKind s c ≠ 3) := ⟨0, 0, 0, false, 3, [1, 2], demoFlow 0 (flowDef 0), by decide⟩

theorem wit_InboundPacketsComplete_2 : ∃ (d : Die) (c : Fin 262144) (psn : BitVec 24) (ce : Bool) (seg : Fin 4) (va : BitVec 64) (key len : BitVec 32) (data : List Byte) (s : State),
    (c / 65536 = d.val ∧ outOf s d = false) ∧ ((flow s c).st = 1 ∧ ctxUp s c = true) ∧ tget rxbufDef s.rxbuf (2 * d + cPort s c) = [] ∧ (cKind s c ≠ 1 ∧ cKind s c ≠ 3) := ⟨0, 0, 0, false, 3, 0, 0, 2, [1, 2], demoFlow 0 (flowDef 0), by decide⟩

theorem wit_InboundPacketsComplete_3 : ∃ (d : Die) (c : Fin 262144) (psn : BitVec 24) (ce : Bool) (va : BitVec 64) (key len : BitVec 32) (s : State),
    (c / 65536 = d.val ∧ outOf s d = false) ∧ ((flow s c).st = 1 ∧ ctxUp s c = true) ∧ tget rxbufDef s.rxbuf (2 * d + cPort s c) = [] ∧ (cKind s c ≠ 1 ∧ cKind s c ≠ 3) := ⟨0, 0, 0, false, 0, 0, 2, demoFlow 0 (flowDef 0), by decide⟩

theorem wit_InboundPacketsComplete_4 : ∃ (d : Die) (c : Fin 262144) (psn : BitVec 24) (ce : Bool) (seg : Fin 4) (data : List Byte) (s : State),
    (c / 65536 = d.val ∧ outOf s d = false) ∧ ((flow s c).st = 1 ∧ ctxUp s c = true) ∧ tget rxbufDef s.rxbuf (2 * d + cPort s c) = [] ∧ (cKind s c ≠ 1 ∧ cKind s c ≠ 3) := ⟨0, 0, 0, false, 3, [1, 2], demoFlow 0 (flowDef 0), by decide⟩

theorem wit_InboundPacketsComplete_5 : ∃ (d : Die) (c : Fin 262144) (ce : Bool) (pkt : List Byte) (s : State),
    (c / 65536 = d.val ∧ outOf s d = false) ∧ ((flow s c).st = 1 ∧ ctxUp s c = true) ∧ tget rxbufDef s.rxbuf (2 * d + cPort s c) = [] ∧ cKind s c = 1 := ⟨0, 0, false, [1, 2], demoFlow 1 (flowDef 0), by decide⟩

theorem wit_InboundPacketsComplete_6 : ∃ (s : State) (c : Nat) (ce : Bool) (pkt : List Byte),
    pollekRead pkt true = none := ⟨demoFlow 1 (flowDef 0), 0, false, [1, 2], by decide⟩

theorem wit_InboundPacketsComplete_7 : ∃ (mk : Die → Option (Fin 262144) → Bool → List Byte → Instr) (d : Die) (c : Fin 262144) (ce : Bool) (pkt : List Byte) (s : State),
    ((mk ∈ ([Instr.hello, Instr.redSum, Instr.redTopk, Instr.redSign, Instr.gather, Instr.perm] : List (Die → Option (Fin 262144) → Bool → List Byte → Instr)))) ∧ (c / 65536 = d.val ∧ outOf s d = false) ∧ ((flow s c).st = 1 ∧ ctxUp s c = true) ∧ cKind s c = 1 := ⟨Instr.hello, 0, 0, false, [], demoFlow 1 (flowDef 0), by simp, by decide⟩

theorem wit_InboundPacketsComplete_8 : ∃ (mk : Die → Option (Fin 262144) → Bool → List Byte → Instr) (d : Die) (h : PHdr) (ce : Bool) (pkt : List Byte) (s : State),
    ((mk ∈ ([Instr.hello, Instr.redSum, Instr.redTopk, Instr.redSign, Instr.gather, Instr.perm] : List (Die → Option (Fin 262144) → Bool → List Byte → Instr)))) ∧ outOf s d = false ∧ pollekRead pkt false = some h ∧ 2 ≤ h.op := ⟨Instr.gather, 0, ⟨0, 5, 0, 0, 0, 0, 0, 0, [], []⟩, false, [0x11, 0, 5] ++ List.replicate 29 0, State.reset, by simp, by decide, rfl, by decide⟩

theorem wit_InboundPacketsComplete_9 : ∃ (d : Die) (n : Fin 2) (i : Instr) (is : List Instr) (s : State),
    tget rxbufDef s.rxbuf (2 * d + n) = i :: is := ⟨0, 0, .cnp 0 0, [], (demoFlow 1 (flowDef 0)).withRxbuf [(0, [.cnp 0 0])], by decide⟩

theorem wit_InboundPacketsComplete_10 : ∃ (d : Die) (c : Fin 262144) (psn : BitVec 24) (ce : Bool) (seg : Fin 4) (data : List Byte) (s : State),
    (c / 65536 = d.val ∧ outOf s d = false) ∧ ((flow s c).st = 1 ∧ ctxUp s c = true) ∧ (cKind s c ≠ 1 ∧ cKind s c ≠ 3) ∧ ((tget rxbufDef s.rxbuf (2 * d + cPort s c)).map inBytes).sum + data.length ≤ 2097152 := ⟨0, 0, 0, false, 3, [1], demoFlow 0 (flowDef 0), by decide⟩

theorem wit_InboundPacketsComplete_11 : ∃ (d : Die) (c : Fin 262144) (data : List Byte) (it : Item) (s : State),
    ctxLive s d c = true ∧ cKind s c = 2 ∧ data.length = 16 ∧ (s.items.find? (fun i => ofCtx i d c && i.opcode == 0x28 && i.started && i.phase == dfld data 12 2) = some it) ∧ dfld data 14 2 / 2 = 0 := ⟨0, 0, List.replicate 16 0, demoItem 0x28 0 true, (demoFlow 2 (flowDef 0)).withItems [demoItem 0x28 0 true], by decide⟩

theorem wit_InboundPacketsComplete_12 : ∃ (d : Die) (n : Fin 2) (data : List Byte) (s : State),
    outOf s d = false ∧ rawCtxs s d n = [] := ⟨0, 0, [1], State.reset, by decide⟩

theorem wit_InboundPacketsComplete_13 : ∃ (d : Die) (n : Fin 2) (c : Nat) (data : List Byte) (it : Item) (s : State),
    outOf s d = false ∧ frameOk data = true ∧ ((ctxsOf s d).filter (fun c => (flow s c).st == 1 && cKind s c == 3 && cPort s c == n.val && ctxUp s c) = [c]) ∧ recvOf s c = some it ∧ data.length ≤ dfld it.desc 0x20 4 := ⟨0, 0, 0, List.replicate 60 0, { demoItem 0x23 0 true with desc := List.replicate 33 0 ++ [1] ++ List.replicate 30 0 }, (demoFlow 3 (flowDef 0)).withItems [{ demoItem 0x23 0 true with desc := List.replicate 33 0 ++ [1] ++ List.replicate 30 0 }], by decide⟩

theorem wit_InboundPacketsComplete_14 : ∃ (d : Die) (n : Fin 2) (data : List Byte) (s : State),
    outOf s d = false ∧ (rawCtxs s d n).length ≤ 1 ∧ (data.length < 60 ∨ 9216 < data.length ∨ (data.drop 12).take 2 = [0x88, 0x08]) := ⟨0, 0, [], State.reset, by decide⟩

theorem wit_HostAttachmentComplete_1 : ∃ (k : Key) (v : W32) (s : State),
    winOpen s (4 + k) ∧ getBits v 16 2 ≠ 3 := ⟨0, 5, State.reset, by decide⟩

theorem wit_HostAttachmentComplete_2 : ∃ (k : Key) (v : W32) (s : State),
    winOpen s (4 + k) ∧ getBits v 16 2 = 3 := ⟨0, 0x30000, State.reset, by decide⟩

theorem wit_HostAttachmentComplete_3 : ∃ (k : Key) (s : State),
    winOpen s (4 + k) := ⟨0, State.reset, by decide⟩

theorem wit_HostAttachmentComplete_4 : ∃ (k : Key) (s : State),
    bit s (Reg.GLB_HOST_WDOG_STATUS (4 + k)) 0 = true ∧ fget s (Reg.GLB_HOST_WDOG_CTRL (4 + k)) 16 2 = 1 := ⟨0, fset (fset State.reset (Reg.GLB_HOST_WDOG_STATUS 4) 0 1 1) (Reg.GLB_HOST_WDOG_CTRL 4) 16 2 1, by decide⟩

theorem wit_HostAttachmentComplete_5 : ∃ (d : Die) (s : State),
    winOpen s d := ⟨0, demoAttach, by decide⟩

theorem wit_HostAttachmentComplete_6 : ∃ (d : Die) (v : W32) (s : State),
    winOpen s d ∧ v = rd s Reg.GLB_ATTACH_EPOCH + 1 ∧ (∀ k < 2, tget natDef s.l2busy k = 0 ∧ hostState s k ≠ 2) := ⟨0, 1, State.reset, by decide⟩

theorem wit_HostAttachmentComplete_7 : ∃ (d : Die) (v : W32) (s : State),
    winOpen s d ∧ v ≠ rd s Reg.GLB_ATTACH_EPOCH + 1 := ⟨0, 2, State.reset, by decide⟩

theorem wit_HostAttachmentComplete_8 : ∃ (d : Die) (v : W32) (s : State),
    winOpen s d ∧ v.getLsbD 0 = true ∧ (∀ k < 2, hostState s k ≠ 2) ∧ (∀ p < 4, outOf s p = false → holdsAny s p = false) := ⟨0, 1, demoHost 4, by decide⟩

theorem wit_HostAttachmentComplete_9 : ∃ (d : Die) (s : State),
    bit s (Reg.GLB_ATTACH_CTRL d) 0 = true ∧ outOf s d = false ∧ (tget hostxDef s.hostx d).dirty = true := ⟨0, demoAttach.withHostx [(0, { hostxDef 0 with dirty := true })], by decide⟩

theorem wit_HoldingAreaComplete_1 : ∃ (d : Die) (s : State),
    winOpen s d ∧ (∃ k < 2, hostState s k = 3 ∨ hostState s k = 4) ∧ bit s (Reg.GLB_HOLD_CTRL d) 31 = false := ⟨0, demoHost 3, by decide⟩

theorem wit_HoldingAreaComplete_2 : ∃ (d : Die) (s : State),
    winOpen s d ∧ (∀ k < 2, hostState s k ≠ 3 ∧ hostState s k ≠ 4) := ⟨0, State.reset, by decide⟩

theorem wit_HoldingAreaComplete_3 : ∃ (d : Die) (s : State),
    bit s (Reg.GLB_HOLD_CTRL d) 31 = true ∧ outOf s d = false ∧ (∀ k < 2, hostState s k ≠ 2) ∧ (∀ i ∈ s.items, i.opcode ≠ 0x30) := ⟨0, fset (demoHost 3) (Reg.GLB_HOLD_CTRL 0) 31 1 1, by decide⟩

theorem wit_HoldingAreaComplete_5 : ∃ (d : Die) (r : Ring) (seq : W32) (it : Item) (s : State),
    findItem s d r seq.toNat = some it ∧ it.bound ≤ ctl s d ∧ ((holdX s d).stalled.any (fun w => w.1 == r.val && w.2.1 == seq.toNat) = true ∨ itemWaits s it = true) := ⟨0, 0, 0, demoItem 1 0 true, setHoldX (demoItems 1 0 true) 0 { holdX State.reset 0 with stalled := [(0, 0, 0, [])] }, by decide⟩

theorem wit_CheckpointAndStagesComplete_1 : ∃ (d : Die) (v : W32) (s : State),
    winOpen s d ∧ ckpBusy s d = false ∧ ckpChecks (rwlIn (fset s (Reg.CKP_STATUS d) 2 3 0) (Reg.CKP_CTRL d) 0xE v) d = none := ⟨0, 0, fset (fset State.reset (Reg.CKP_SPLIT 0) 0 6 12) (Reg.CKP_SPLIT 0) 8 6 40, by decide⟩

theorem wit_CheckpointAndStagesComplete_2 : ∃ (d : Die) (s : State),
    winOpen s d ∧ ckpBusy s d = false := ⟨0, State.reset, by decide⟩

theorem wit_CheckpointAndStagesComplete_3 : ∃ (d : Die) (v : W32) (s : State),
    winOpen s d ∧ ckpBusy s d = true := ⟨0, 0, demoItems 0x31 0 true, by decide⟩

theorem wit_CheckpointAndStagesComplete_4 : ∃ (d : Die) (i : Fin 16) (v : W32) (s : State),
    winOpen s d ∧ (v.getLsbD 20 = false ∨ (planOf s d (getBits v 0 16)).isSome = true) := ⟨0, 0, 7, State.reset, by decide⟩

theorem wit_CheckpointAndStagesComplete_5 : ∃ (d : Die) (row : Fin 17) (s : State),
    winOpen s d := ⟨0, 3, State.reset, by decide⟩

theorem wit_CheckpointAndStagesComplete_6 : ∃ (d : Die) (g : W32) (x : Group) (s : State),
    groupOf s d g.toNat = some x ∧ x.st = 1 ∧ outOf s d = false := ⟨0, 5, ⟨0, 5, [], 1, (0, 0), false, false, 0, 0⟩, ((State.reset).withGroups [⟨0, 5, [], 1, (0, 0), false, false, 0, 0⟩]), by decide⟩

theorem wit_CheckpointAndStagesComplete_7 : ∃ (d : Die) (r : Ring) (seq : W32) (it : Item) (s : State),
    findItem s d r seq.toNat = some it ∧ it.bound ≤ ctl s d ∧ (0x29 ≤ it.opcode ∧ it.opcode ≤ 0x2C) := ⟨0, 0, 0, demoItem 0x29 0 true, demoItems 0x29 0 true, by decide⟩

theorem wit_CheckpointAndStagesComplete_8 : ∃ (d : Die) (r : Ring) (seq : W32) (it : Item) (s : State),
    findItem s d r seq.toNat = some it ∧ it.bound ≤ ctl s d ∧ it.opcode = 0x2D := ⟨0, 0, 0, demoItem 0x2D 0 true, demoItems 0x2D 0 true, by decide⟩

theorem wit_CheckpointAndStagesComplete_9 : ∃ (d : Die) (v : W32) (r e : Nat) (s : State),
    winOpen s d ∧ ckpBusy s d = false ∧ ckpChecks (rwlIn (fset s (Reg.CKP_STATUS d) 2 3 0) (Reg.CKP_CTRL d) 0xE v) d = some (r, e) := ⟨0, 0, Rsn.CFG_RANGE, 0x2E, fset State.reset (Reg.CKP_SPLIT 0) 0 6 0, by decide⟩

theorem wit_CheckpointAndStagesComplete_10 : ∃ (d : Die) (i : Fin 16) (v : W32) (s : State),
    winOpen s d ∧ v.getLsbD 20 = true ∧ planOf s d (getBits v 0 16) = none := ⟨0, 0, 0x100000, State.reset, by decide⟩

theorem wit_QueueKept_1 : ∃ (c : Instr) (s t : State), exec c s = .next t := ⟨.fbBatchIdleClose 0, State.reset, _, exec_fbBatchIdleClose _ _⟩
theorem wit_QueueKept_2 : (Instr.spadRead 0 0 0 0 0 256).wf = true := by decide

theorem wit_EmptyQueueIdles : State.reset.pending = [] ∧ State.reset.regq = [] ∧ ∀ u < 6, ∀ j < 3, bndState State.reset u j ≠ 4 := by decide

theorem wit_StepKeepsCanon : State.reset.Canon ∧ step State.reset = .next (idleCycle State.reset) :=
  ⟨⟨by decide, by decide, by decide, by decide⟩, rfl⟩

theorem wit_IntegerConversion_1 : b32.dec 0x7FC00000 = .nan := by decide
theorem wit_IntegerConversion_2 : b32.dec 0xFF800000 = .inf true := by decide
theorem wit_IntegerConversion_3 : b32.dec 0x40200000 = .num false 10485760 (-22) := by decide
theorem wit_IntegerConversion_low : toInt b32 0xC3010000 (-128) 127 = (-128, fNV) := by decide
theorem wit_IntegerConversion_high : toInt b32 0x43000000 (-128) 127 = (127, fNV) := by decide
theorem wit_IntegerConversion_tie : toInt b32 0x40200000 (-128) 127 = (2, 0) := by decide
theorem wit_IntegerConversion_exact : toInt b32 0xC3000000 (-128) 127 = (-128, 0) := by decide

theorem wit_StripedView_2 : ∃ o, o = 12 * stackMin State.reset - 1 ∧ o < 12 * stackMin State.reset := ⟨913217421311, by decide⟩
theorem wit_StripedView_3 : ∃ o n, 0 < n ∧ o + n ≤ 12 * stackMin State.reset := ⟨913217421311, 1, by decide⟩
theorem wit_StripedView_4 : ∃ o n, o < 0xD800000000 ∧ 0 < n ∧ 12 * stackMin State.reset < o + n := ⟨913217421311, 2, by decide⟩
theorem wit_StripedView_5 : ∃ h x, h < 12 ∧ x < stackMin State.reset := ⟨11, 76101451775, by decide⟩
theorem wit_StripedView_6 : ∃ h x, h < 12 ∧ x < 0x2000000000 := ⟨11, 137438953471, by decide⟩
theorem wit_StripedView_7 : ∀ h < 12, fget State.reset (Reg.FTG_HBM_STATUS (8 + h)) 0 2 = 1 := by decide

theorem wit_PseudoChannels_2 : ∃ L a b, a < 64 ∧ b < 64 ∧ granulePc (64 * L + a) = granulePc (64 * L + b) := ⟨73, 63, 63, by decide⟩
theorem wit_PseudoChannels_4 : ∃ o, o < stackSize State.reset 11 := ⟨76101451775, by decide⟩
theorem wit_PseudoChannels_5 : ∃ pc L, pc < 64 ∧ L ≤ (1152 - 18 * fget State.reset (Reg.FTG_HBM_STATUS (8 + 11)) 0 2) * 1048576 / 256 - 1 := ⟨63, 4644863, by decide⟩
theorem wit_PseudoChannels_6 : ∃ k r l, 1 ≤ k ∧ k ≤ 2 ∧ r < 64 ∧ l < (1152 - 18 * k) * 4096 := ⟨1, 63, 4644863, by decide⟩

theorem wit_MemoryReadAfterWrite_1 : ∃ (i : Nat) (bs : List Byte), i < bs.length := ⟨1, [5, 6], by decide⟩
theorem wit_MemoryReadAfterWrite_2 : ∃ (a x : Nat) (bs : List Byte), (x < a ∨ a + bs.length ≤ x) := ⟨16, 18, [5, 6], by decide⟩
theorem wit_MemoryReadAfterWrite_3 : Memory.wf [(3, 7)] = true := by decide
theorem wit_MemoryReadAfterWrite_4 : State.reset.copies = [] ∧ State.reset.txns = [] ∧ State.reset.wbs = [] ∧ State.reset.resps = [] ∧ State.reset.waitq = [] := by decide

theorem wit_CommandsThatStoreNothing : ∃ t, exec (.wdogKick 0) State.reset = .next t := ⟨_, by rw [exec_wdogKick]; unfold execWdogKick; exact viaWin_open (by decide)⟩

theorem wit_NextStore : nextStore [.image 2, .counter 1, .log 0 1, .log 0 2] = some (.log 0 1) := by decide

theorem wit_WindowsOutOfService_1 : ∃ (d : Die) (s : State), winGone s d = true := ⟨2, State.reset.withAbsent [2], by decide⟩
theorem wit_WindowsOutOfService_2 : ∃ (h : Stack) (s : State), winGone s (8 + h) = false ∧ pd s (dFooting h) = 0 := ⟨3, State.reset, by decide⟩


/-! ### Ill-formed terms -/

theorem test_wf_spadRead_long : (Instr.spadRead 0 0 0 0 0 257).wf = false := by decide
theorem test_wf_spadWrite_empty : (Instr.spadWrite 0 0 0 0 0 []).wf = false := by decide
theorem test_wf_spadSetWrite_long : (Instr.spadSetWrite 0 0 0 0 0 (List.replicate 257 0)).wf = false := by decide
theorem test_wf_spadClearWrite_empty : (Instr.spadClearWrite 0 0 0 0 0 []).wf = false := by decide
theorem test_wf_pdRequestOn_window6 : (Instr.pdRequestOn 6 0).wf = false := by decide
theorem test_wf_pdRequestOff_window7 : (Instr.pdRequestOff 7 0).wf = false := by decide
theorem test_wf_pcieRequest_read_empty : (Instr.pcieRequest 0 none 0 0 0 []).wf = false := by decide
theorem test_wf_pcieRequest_write_long : (Instr.pcieRequest 0 none 0 1 0 (List.replicate 513 0)).wf = false := by decide
theorem test_wf_flitReceive_short (u : Unit6) (j : Joint) (o : Option (Fin 24)) : (Instr.flitReceive u j [0] o).wf = false := by
  simp [Instr.wf]
theorem test_wf_putLine_short (a b c d) : (Instr.putLine a b c d [0]).wf = false := by simp [Instr.wf]
theorem test_wf_putBytes_short (a b c d e f) : (Instr.putBytes a b c d e [0] f).wf = false := by simp [Instr.wf]
theorem test_wf_spadRead_whole : (Instr.spadRead 0 0 0 0 0 256).wf = true := by decide

/-! ### Worked cases of the spec -/

/-- 02 R64's worked case, first row: 3.3 at E = 122. -/
theorem test_gf8a_normal : (gf8a.ofFV (b32.dec 0x40533333) 122 none) = (0x6D, false, fNX) := by decide
/-- Second row: 20.0 saturates. -/
theorem test_gf8a_saturates : (gf8a.ofFV (b32.dec 0x41A00000) 122 none) = (0x7F, true, 0) := by decide
/-- Fourth row: 0.0003 is tiny and inexact. -/
theorem test_gf8a_tiny : (gf8a.ofFV (b32.dec 0x399D4952) 122 none) = (0x05, false, fNX ||| fUF) := by decide
/-- 02 R52, worked case: 1.0e-6 to binary16. -/
theorem test_b16_tiny : convFmt b32 b16 0x358637BD = (0x0011, fNX ||| fUF) := by decide
/-- 02 R66's worked case: 0.1 to GF16 under R51. -/
theorem test_gf16_rounds : (convFmt b32 gf16 0x3DCCCCCD).1 = 0x3B9A := by decide
/-- The same, dithered with a draw of 0x5A3C. -/
theorem test_gf16_dithers : (gf16.encDither (b32.dec 0x3DCCCCCD) 0x5A3C).1 = 0x3B99 := by decide
/-- 02 R58's worked case: a GF4 group's first two bytes. -/
theorem test_gf4_packs : packBits 4 [3, 13, 1, 7] = [0xD3, 0x71] := by decide
/-- 06 R158's worked case: a striped address lies in stack H10. -/
theorem test_striped : place State.reset 0x1C004D2F6A18 = .hbm 10 0x66E9A18 := by decide
/-- Its granule lies in pseudo-channel 6 at local index 6,586. -/
theorem test_granule : granulePc (0x66E9A18 / 256) = (6, 6586) := by decide
/-- 06 R163's worked case: with pseudo-channel 6 retired it lies in PC35, in a reserve row. -/
theorem test_relocated : physIndex 1 [6] 6 6586 = (35, 1134 * 4096 + 104) := by decide
/-- 08 R209's worked case: a = 0.05 takes E = 114 in GF8a. -/
theorem test_absmax_gf8a : absmaxE gf8a (b32.dec 0x3D4CCCCD).dy = (114, false) := by decide
/-- And E = 121 in GF4. -/
theorem test_absmax_gf4 : absmaxE gf4 (b32.dec 0x3D4CCCCD).dy = (121, false) := by decide
/-- 05, worked case of ZC64: a group with ten non-zero bytes takes a record of 24 bytes that begins with the mask. -/
theorem test_zc64 : (zcGroup ((List.range 64).map (fun i => if [0, 3, 7, 12, 20, 33, 41, 50, 58, 63].contains i then 1 else 0))).length = 24 ∧
    (zcGroup ((List.range 64).map (fun i => if [0, 3, 7, 12, 20, 33, 41, 50, 58, 63].contains i then 1 else 0))).take 8 =
      leBytes 8 0x8404020200101089 := by decide
/-- 18 R452: the order of the classes. -/
theorem test_store_order : nextStore [.image 2, .counter 1, .log 0 1, .log 0 2] = some (.log 0 1) := by decide
/-- A command at the front of the queue runs, and the next one waits: 20 R489's pulse below 1 µs changes nothing. -/
theorem test_front : step (State.reset.withPending [.modResetAssert 999, .modEnFall]) = .next (State.reset.withPending [.modEnFall]) := rfl
end

section
/-! PROOFS. Register accesses (00 R13, R14; 21 R501, R503, R513) and the enables of the treatment journals (19 R480). -/

namespace Sys2Proof.Machine

/-! ### REGISTER_WRITE -/

section
variable {pcie : Bool} {a : BitVec 52} {u : Nat} {q : Win × Nat} {v : W64} {s : State}

/-- Through an open window 4 aligned bytes are one store, 8 aligned bytes two, and any other access is refused. -/
theorem execRegisterWrite_open {size : Nat} (hw : winOf a.toNat = some (u, q)) (ho : winGone s u = false) :
    execRegisterWrite pcie a size v s =
      if size = 4 ∧ a.toNat % 4 = 0 then .next (regStore s a.toNat (v.setWidth 32))
      else if size = 8 ∧ a.toNat % 8 = 0 then
        .next (regStore (regStore s a.toNat (v.setWidth 32)) (a.toNat + 4) ((v >>> 32).setWidth 32))
      else .next (accFault s pcie) := by
  simp only [execRegisterWrite, hw, ho, Bool.false_eq_true, if_false]

/-- Outside the control windows every register write is refused. -/
theorem execRegisterWrite_outside {size : Nat} (hw : winOf a.toNat = none) :
    execRegisterWrite pcie a size v s = .next (accFault s pcie) := by
  simp only [execRegisterWrite, hw]

/-- Through the window of a unit out of service every register write is refused. -/
theorem execRegisterWrite_gone {size : Nat} (hw : winOf a.toNat = some (u, q)) (hg : winGone s u = true) :
    execRegisterWrite pcie a size v s = .next (accFault s pcie) := by
  simp only [execRegisterWrite, hw, hg, if_true]

/-- A register write of another size or alignment is refused, wherever it goes. -/
theorem execRegisterWrite_misaligned {size : Nat} (hz : ¬ (size = 4 ∧ a.toNat % 4 = 0 ∨ size = 8 ∧ a.toNat % 8 = 0)) :
    execRegisterWrite pcie a size v s = .next (accFault s pcie) := by
  obtain ⟨h4, h8⟩ := not_or.mp hz
  cases hw : winOf a.toNat with
  | none => exact execRegisterWrite_outside hw
  | some p =>
    cases hg : winGone s p.1 with
    | true => exact execRegisterWrite_gone hw hg
    | false => rw [execRegisterWrite_open hw hg, if_neg h4, if_neg h8]

/-! ### LO_READ_LATCH -/

/-- A read of a LO register through an open window answers the live value's low half and latches its upper half. -/
theorem execLoReadLatch_live {w : W64} (hw : winOf a.toNat = some (u, q)) (ho : winGone s u = false)
    (hl : livePair s a.toNat = some w) :
    execLoReadLatch a s =
      .next (emit (s.withLatch (tset latchDef s.latch a.toNat ((w >>> 32).setWidth 32))) .readValue
        [a.toNat, (w.setWidth 32).toNat] []) := by
  simp only [execLoReadLatch, hw, ho, hl, Bool.false_eq_true, if_false]

/-- Outside the control windows a LO read is refused. -/
theorem execLoReadLatch_outside (hw : winOf a.toNat = none) : execLoReadLatch a s = .next (accFault s false) := by
  simp only [execLoReadLatch, hw]

/-- Through the window of a unit out of service a LO read is refused. -/
theorem execLoReadLatch_gone (hw : winOf a.toNat = some (u, q)) (hg : winGone s u = true) :
    execLoReadLatch a s = .next (accFault s false) := by
  simp only [execLoReadLatch, hw, hg, if_true]

end

/-! ### A register with no command behind it -/

/-- Where none of the families of registers with an effect of their own claims a write, it is a plain store. -/
theorem regStore_plain {a u o : Nat} {k : Win} {v : W32} {r : RegRow} {is : List Nat} {s : State}
    (hw : winOf a = some (u, k, o)) (hr : regAt (canonReg a) = some (u, r, is))
    (hring : ringStore s u (canonReg a) r.name (is.getD 0 0) v = none)
    (hunit : unitStore s u (canonReg a) r.name (is.getD 0 0) (is.getD 1 0) v = none)
    (hlink : linkStore s u (canonReg a) r.name (is.getD 0 0) v = none)
    (hhost : hostStore s u (canonReg a) r.name (is.getD 0 0) v = none) :
    regStore s a v = regWrite4 s a v := by
  simp only [regStore, hw, hr, hring, hunit, hlink, hhost, Option.orElse_none, Option.getD_none]

/-! ### The treatment journals -/

section
variable {d : Die} {j : Fin 4} {v : W32} {s : State}

/-- A journal whose checks pass is enabled with an empty chain, unless it was enabled already: then its chain stays. -/
theorem execJrnlEnable_pass (hw : winOpen s d)
    (hc : jrnlChecks (rwlIn s (Reg.SEAL_JRNL_CTRL d j) 0xFFFF003E v) d j = none) :
    execJrnlEnable d j v s =
      .next (if bit s (Reg.SEAL_JRNL_CTRL d j) 0 then rwlIn s (Reg.SEAL_JRNL_CTRL d j) 0xFFFF003E v
        else setJournal (fset (rwlIn s (Reg.SEAL_JRNL_CTRL d j) 0xFFFF003E v) (Reg.SEAL_JRNL_CTRL d j) 0 1 1) d j ⟨[], 0, 0, []⟩) := by
  unfold execJrnlEnable
  rw [viaWin_open hw]
  simp only [hc]

/-- A journal whose checks fail answers the codes of the first one that does. -/
theorem execJrnlEnable_fail {r e : Nat} (hw : winOpen s d)
    (hc : jrnlChecks (rwlIn s (Reg.SEAL_JRNL_CTRL d j) 0xFFFF003E v) d j = some (r, e)) :
    execJrnlEnable d j v s = .next (emit (rwlIn s (Reg.SEAL_JRNL_CTRL d j) 0xFFFF003E v) .refusal [r, e] []) := by
  unfold execJrnlEnable
  rw [viaWin_open hw]
  simp only [hc]

/-- Disabling a journal clears its ENABLE where TAIL equals HEAD and is refused while they differ. -/
theorem execJrnlDisable_open (hw : winOpen s d) :
    execJrnlDisable d j s =
      if rd s (Reg.SEAL_JRNL_TAIL d j) = rd s (Reg.SEAL_JRNL_HEAD d j) then .next (fset s (Reg.SEAL_JRNL_CTRL d j) 0 1 0)
      else .next (emit s .refusal [Rsn.STATE, 0xCB] []) := viaWin_open hw

end

/-- Settles O27: each clause is the case of the command's equation that its hypotheses choose. -/
theorem registerAccessComplete : Obligations.RegisterAccessComplete := by
  refine ⟨?write4, ?write8, ?refused, ?loRead, ?enabled, ?disabled, ?disableRefused, ?plain, ?keptChain, ?enableRefused,
    ?loRefused⟩
  case write4 =>
    intro pcie a u q v s hw ho h4
    rw [exec_registerWrite, execRegisterWrite_open hw ho, if_pos ⟨rfl, h4⟩]
  case write8 =>
    intro pcie a u q v s hw ho h8
    rw [exec_registerWrite, execRegisterWrite_open hw ho, if_neg (fun h => absurd h.1 (by decide)), if_pos ⟨rfl, h8⟩]
  case refused =>
    intro pcie a z v s h
    rw [exec_registerWrite]
    obtain hw | ⟨u, q, hw, hg⟩ | hz := h
    · exact execRegisterWrite_outside hw
    · exact execRegisterWrite_gone hw hg
    · exact execRegisterWrite_misaligned hz
  case loRead =>
    intro a u q w s hw ho hl
    rw [exec_loReadLatch, execLoReadLatch_live hw ho hl]
  case enabled =>
    intro d j v s hw hb hc
    rw [exec_jrnlEnable, execJrnlEnable_pass hw hc, hb, if_neg Bool.false_ne_true]
  case disabled =>
    intro d j s hw hd
    rw [exec_jrnlDisable, execJrnlDisable_open hw, if_pos hd]
  case disableRefused =>
    intro d j s hw hd
    rw [exec_jrnlDisable, execJrnlDisable_open hw, if_neg hd]
  case plain =>
    intro a u o k v r is s hw hr hring hunit hlink hhost
    exact regStore_plain hw hr hring hunit hlink hhost
  case keptChain =>
    intro d j v s hw hb hc
    rw [exec_jrnlEnable, execJrnlEnable_pass hw hc, if_pos hb]
  case enableRefused =>
    intro d j v r e s hw hc
    rw [exec_jrnlEnable, execJrnlEnable_fail hw hc]
  case loRefused =>
    intro a s h
    rw [exec_loReadLatch]
    obtain hw | ⟨u, q, hw, hg⟩ := h
    · exact execLoReadLatch_outside hw
    · exact execLoReadLatch_gone hw hg

end Sys2Proof.Machine
end

section
/-! PROOFS. The power sequencers (01 R41-R44, 03 R102): what leaves their queues alone, and what the request at the head of one can do. -/

namespace Sys2Proof.Machine

/-- What each step of a fold keeps, the fold keeps. -/
theorem foldl_keeps {σ β γ : Type} (g : σ → γ) {f : σ → β → σ} {l : List β} {s : σ} (hf : ∀ t x, g (f t x) = g t) :
    g (l.foldl f s) = g s :=
  List.foldlRecOn (motive := fun t => g t = g s) l f rfl fun t h x _ => (hf t x).trans h

/-! ### What leaves the power sequencers alone

A power transition that starts ends commands, moves homes and resets registers, and none of that touches a sequencer. One equation per
field and per operation says so, in the order of the model's definitions. -/

section
variable (s : State)

/-! Writes of the other fields, and the model's own writes. The laws of Laws/State hold by rfl, and simp would leave it to the kernel to see
that, through the table of registers; these are equations to rewrite with. -/

@[simp] theorem State.withRegs_seqs (v) : (s.withRegs v).seqs = s.seqs := by cases s; rfl
@[simp] theorem State.withWide_seqs (v) : (s.withWide v).seqs = s.seqs := by cases s; rfl
@[simp] theorem State.withLatch_seqs (v) : (s.withLatch v).seqs = s.seqs := by cases s; rfl
@[simp] theorem State.withMem_seqs (v) : (s.withMem v).seqs = s.seqs := by cases s; rfl
@[simp] theorem State.withPoison_seqs (v) : (s.withPoison v).seqs = s.seqs := by cases s; rfl
@[simp] theorem State.withFlips_seqs (v) : (s.withFlips v).seqs = s.seqs := by cases s; rfl
@[simp] theorem State.withCopies_seqs (v) : (s.withCopies v).seqs = s.seqs := by cases s; rfl
@[simp] theorem State.withDir_seqs (v) : (s.withDir v).seqs = s.seqs := by cases s; rfl
@[simp] theorem State.withTxns_seqs (v) : (s.withTxns v).seqs = s.seqs := by cases s; rfl
@[simp] theorem State.withWaitq_seqs (v) : (s.withWaitq v).seqs = s.seqs := by cases s; rfl
@[simp] theorem State.withResps_seqs (v) : (s.withResps v).seqs = s.seqs := by cases s; rfl
@[simp] theorem State.withWbs_seqs (v) : (s.withWbs v).seqs = s.seqs := by cases s; rfl
@[simp] theorem State.withReclaims_seqs (v) : (s.withReclaims v).seqs = s.seqs := by cases s; rfl
@[simp] theorem State.withNamed_seqs (v) : (s.withNamed v).seqs = s.seqs := by cases s; rfl
@[simp] theorem State.withRahead_seqs (v) : (s.withRahead v).seqs = s.seqs := by cases s; rfl
@[simp] theorem State.withFring_seqs (v) : (s.withFring v).seqs = s.seqs := by cases s; rfl
@[simp] theorem State.withStackx_seqs (v) : (s.withStackx v).seqs = s.seqs := by cases s; rfl
@[simp] theorem State.withCtxx_seqs (v) : (s.withCtxx v).seqs = s.seqs := by cases s; rfl
@[simp] theorem State.withBtest_seqs (v) : (s.withBtest v).seqs = s.seqs := by cases s; rfl
@[simp] theorem State.withPlumb_seqs (v) : (s.withPlumb v).seqs = s.seqs := by cases s; rfl
@[simp] theorem State.withXlt_seqs (v) : (s.withXlt v).seqs = s.seqs := by cases s; rfl
@[simp] theorem State.withSktLast_seqs (v) : (s.withSktLast v).seqs = s.seqs := by cases s; rfl
@[simp] theorem State.withHold_seqs (v) : (s.withHold v).seqs = s.seqs := by cases s; rfl
@[simp] theorem State.withJournals_seqs (v) : (s.withJournals v).seqs = s.seqs := by cases s; rfl
@[simp] theorem State.withLedger_seqs (v) : (s.withLedger v).seqs = s.seqs := by cases s; rfl
@[simp] theorem State.withItems_seqs (v) : (s.withItems v).seqs = s.seqs := by cases s; rfl
@[simp] theorem State.withNetRegs_seqs (v) : (s.withNetRegs v).seqs = s.seqs := by cases s; rfl
@[simp] theorem State.withGroups_seqs (v) : (s.withGroups v).seqs = s.seqs := by cases s; rfl
@[simp] theorem State.withChains_seqs (v) : (s.withChains v).seqs = s.seqs := by cases s; rfl
@[simp] theorem State.withSitesOut_seqs (v) : (s.withSitesOut v).seqs = s.seqs := by cases s; rfl

theorem seqs_wr (a : Nat) (v : W32) : (wr s a v).seqs = s.seqs := by rw [wr_seqs]
theorem seqs_wrW (a : Nat) (v : W64) : (wrW s a v).seqs = s.seqs := by rw [wrW_seqs]
theorem seqs_fset (a lo n v : Nat) : (fset s a lo n v).seqs = s.seqs := by rw [fset_seqs]
theorem seqs_emit (k : MK) (args : List Nat) (data : List Byte) : (emit s k args data).seqs = s.seqs := by rw [emit_seqs]
theorem seqs_requestStore (w : StoreWork) : (requestStore s w).seqs = s.seqs := by rw [requestStore_seqs]
theorem seqs_takeFree : (takeFree s).2.seqs = s.seqs := by rw [takeFree_snd_seqs]
theorem seqs_setPd (n v : Nat) : (setPd s n v).seqs = s.seqs := by rw [setPd_seqs]

/-! Memory and the directories (11 R280, R284) -/

@[simp] theorem dirUse_seqs (h : Nat) : (dirUse s h).seqs = s.seqs := by simp only [dirUse, seqs_fset]

@[simp] theorem dirUses_seqs (es : List DirEnt) : (dirUses s es).seqs = s.seqs := by
  unfold dirUses
  exact foldl_keeps State.seqs fun t h => dirUse_seqs t h

@[simp] theorem performReq_seqs (r : Req) : (performReq s r).1.seqs = s.seqs := by
  simp only [performReq, apply_ite Prod.fst, apply_ite State.seqs, State.withFlips_seqs, State.withPoison_seqs, State.withMem_seqs,
    ite_self]

@[simp] theorem performPending_seqs (hit : Nat → Bool) : (performPending s hit).seqs = s.seqs := by
  simp only [performPending, State.withTxns_seqs, State.withWaitq_seqs]
  refine (foldl_keeps (fun y : State × List Req => y.1.seqs) fun y r => ?_).trans
    (foldl_keeps (fun x : State × List Txn => x.1.seqs) fun x t => ?_)
  · split
    · exact performReq_seqs _ _
    · rfl
  · split
    · split
      · exact performReq_seqs _ _
      · rfl
    · rfl

@[simp] theorem dropLines_seqs (l n : Nat) : (dropLines s l n).seqs = s.seqs := by
  simp only [dropLines, apply_ite State.seqs, dirUses_seqs, performPending_seqs, State.withTxns_seqs, State.withResps_seqs,
    State.withWbs_seqs, State.withDir_seqs, State.withCopies_seqs, State.withMem_seqs, ite_self]

@[simp] theorem memWriteAt_seqs (a : Nat) (bs : List Byte) : (memWriteAt s a bs).seqs = s.seqs := by
  simp only [memWriteAt, State.withFlips_seqs, State.withPoison_seqs, State.withMem_seqs, dropLines_seqs]

@[simp] theorem memWriteF_seqs (f : Nat) (s : State) (a : Nat) (bs : List Byte) : (memWriteF s a bs f).seqs = s.seqs := by
  induction f generalizing s a bs with
  | zero => rfl
  | succ f ih => simp only [memWriteF, apply_ite State.seqs, ih, memWriteAt_seqs, ite_self]

@[simp] theorem memWrite_seqs (a : Nat) (bs : List Byte) : (memWrite s a bs).seqs = s.seqs := by
  simp only [memWrite, memWriteF_seqs]

@[simp] theorem purgeRange_seqs (l n : Nat) : (purgeRange s l n).seqs = s.seqs := by
  unfold purgeRange
  exact foldl_keeps State.seqs fun t e => by simp only [purgeOne, State.withRahead_seqs]

@[simp] theorem writeBackAll_seqs (hit : Copy → Bool) : (writeBackAll s hit).seqs = s.seqs := by
  simp only [writeBackAll, dirUses_seqs, State.withDir_seqs, State.withCopies_seqs, State.withMem_seqs]

/-! Interrupts and fault records (15 R372, 16 R385-R393) -/

@[simp] theorem holdAdd_seqs (a lo n k : Nat) : (holdAdd s a lo n k).seqs = s.seqs := by simp only [holdAdd, seqs_fset]

@[simp] theorem sendMsi_seqs (addr data : Nat) : (sendMsi s addr data).seqs = s.seqs := by
  unfold sendMsi
  split
  · simp only [apply_ite State.seqs, holdAdd_seqs, seqs_emit, ite_self]
  · exact seqs_emit _ _ _ _

@[simp] theorem setFring_seqs (d r : Nat) (x : FRingX) : (setFring s d r x).seqs = s.seqs := by
  simp only [setFring, State.withFring_seqs]

@[simp] theorem fringPut_seqs (d r : Nat) (x : FRec) : (fringPut s d r x).seqs = s.seqs := by
  simp only [fringPut, apply_ite State.seqs, sendMsi_seqs, seqs_fset, memWrite_seqs, ite_self]

@[simp] theorem fringAbsorb_seqs (d r : Nat) (x : FRec) : (fringAbsorb s d r x).seqs = s.seqs := by
  simp only [fringAbsorb, fringOvfReg, seqs_fset, setFring_seqs]

@[simp] theorem logWords_seqs (d i : Nat) (x : FRec) : (logWords s d i x).seqs = s.seqs := by
  unfold logWords
  exact foldl_keeps State.seqs fun t k => seqs_wr _ _ _

@[simp] theorem logFatal_seqs (d : Nat) (x : FRec) : (logFatal s d x).seqs = s.seqs := by
  simp only [logFatal, apply_ite State.seqs, seqs_requestStore, seqs_fset, logWords_seqs, holdAdd_seqs, ite_self]

@[simp] theorem modEvent_seqs (i : Nat) : (modEvent s i).seqs = s.seqs := by simp only [modEvent, seqs_fset]

@[simp] theorem putRecord_seqs (d : Nat) (x : FRec) : (putRecord s d x).seqs = s.seqs := by
  simp only [putRecord, apply_ite State.seqs, fringPut_seqs, fringAbsorb_seqs, setFring_seqs, modEvent_seqs, seqs_fset,
    logFatal_seqs, ite_self]

@[simp] theorem recordAt_seqs (e : Ev) (level flags recovery : Nat) : (recordAt s e level flags recovery).seqs = s.seqs := by
  simp only [recordAt, putRecord_seqs, seqs_wrW]

/-! Stacks and their registers (06 R166, 07 R206) -/

@[simp] theorem setStackX_seqs (h : Nat) (x : StackX) : (setStackX s h x).seqs = s.seqs := by
  simp only [setStackX, State.withStackx_seqs]

@[simp] theorem setPc_seqs (h pc v : Nat) : (setPc s h pc v).seqs = s.seqs := by simp only [setPc, seqs_fset]

@[simp] theorem applyPcs_seqs (h : Nat) (warm : Bool) : (applyPcs s h warm).seqs = s.seqs := by
  have hgone (l : List Nat) (t : State) : (l.foldl (fun s i => setPc s h i 2) t).seqs = t.seqs :=
    foldl_keeps State.seqs fun t i => setPc_seqs t h i 2
  unfold applyPcs
  dsimp only
  split <;> simp only [apply_ite State.seqs, setStackX_seqs, setPc_seqs, seqs_fset, hgone, ite_self]

/-! Contexts, samples and runs (03 R104, 08 R219, R224) -/

@[simp] theorem setCtxState_seqs (d n c v : Nat) : (setCtxState s d n c v).seqs = s.seqs := by
  simp only [setCtxState, apply_ite State.seqs, seqs_fset, ite_self]

@[simp] theorem dropOps_seqs (d n c : Nat) : (dropOps s d n c).seqs = s.seqs := by simp only [dropOps, setCtxX, State.withCtxx_seqs]

@[simp] theorem loseSample_seqs (d : Nat) : (loseSample s d).seqs = s.seqs := by
  unfold loseSample
  split
  · simp only [seqs_fset, State.withPlumb_seqs]
  · rfl

@[simp] theorem dropSample_seqs (d : Nat) : (dropSample s d).seqs = s.seqs := by
  simp only [dropSample, wrapAdd, apply_ite State.seqs, loseSample_seqs, seqs_fset, ite_self]

@[simp] theorem dropCapture_seqs (d n c : Nat) : (dropCapture s d n c).seqs = s.seqs := by
  unfold dropCapture
  split
  · simp only [apply_ite State.seqs, dropSample_seqs, ite_self]
  · rfl

@[simp] theorem dropCourseCapture_seqs (d c : Nat) : (dropCourseCapture s d c).seqs = s.seqs := by
  unfold dropCourseCapture
  split
  · simp only [apply_ite State.seqs, dropCapture_seqs, ite_self]
  · rfl

@[simp] theorem runReport_seqs (p : Plan) : (runReport s p).seqs = s.seqs := by
  simp only [runReport, apply_ite State.seqs, memWrite_seqs, ite_self]

@[simp] theorem endContexts_seqs (p : Plan) : (endContexts s p).seqs = s.seqs := by
  unfold endContexts
  exact foldl_keeps State.seqs fun t b => by
    simp only [apply_ite State.seqs, setCtxState_seqs, dropCapture_seqs, dropOps_seqs, ite_self]

@[simp] theorem stopRun_seqs (d h : Nat) : (stopRun s d h).1.seqs = s.seqs := by
  unfold stopRun
  split
  · simp only [runReport_seqs, endContexts_seqs]
  · rfl

/-! Translation, completion records and journals (10 R261, 09 R236-R238, 19 R475) -/

@[simp] theorem setXunit_seqs (u : Nat) (x : XUnit) : (setXunit s u x).seqs = s.seqs := by simp only [setXunit, State.withXlt_seqs]

@[simp] theorem lookup_seqs (u bay asid va : Nat) : (lookup s u bay asid va).2.seqs = s.seqs := by
  unfold lookup
  cases cacheHit (xunit s u) bay asid va with
  | some e => rfl
  | none =>
    cases walk s u asid va with
    | ok e => simp only [setXunit_seqs]
    | missing l => rfl
    | bad r d pa => rfl

@[simp] theorem touchSkt_seqs (a : Nat) : (touchSkt s a).seqs = s.seqs := by
  simp only [touchSkt, apply_ite State.seqs, State.withSktLast_seqs, ite_self]

@[simp] theorem setHoldX_seqs (d : Nat) (x : HoldX) : (setHoldX s d x).seqs = s.seqs := by simp only [setHoldX, State.withHold_seqs]

@[simp] theorem holdState_seqs (d : Nat) : (holdState s d).seqs = s.seqs := by
  simp only [holdState, apply_ite State.seqs, seqs_fset, ite_self]

@[simp] theorem ringNotify_seqs (d r kind : Nat) (want : Bool) : (ringNotify s d r kind want).seqs = s.seqs := by
  simp only [ringNotify, apply_ite State.seqs, sendMsi_seqs, ite_self]

@[simp] theorem putCrec_seqs (d r tag seq kind scope reason detail flags time aux : Nat) (want : Bool) :
    (putCrec s d r tag seq kind scope reason detail flags time aux want).seqs = s.seqs := by
  simp only [putCrec, ringNotify_seqs, seqs_emit, seqs_fset]
  split
  · simp only [apply_ite State.seqs, holdState_seqs, seqs_fset, memWrite_seqs, touchSkt_seqs, lookup_seqs, ite_self]
  · exact lookup_seqs _ _ _ _ _

@[simp] theorem journalItem_seqs (it : Item) (reason detail flags : Nat) : (journalItem s it reason detail flags).seqs = s.seqs := by
  unfold journalItem
  split
  · rfl
  · simp only [setJournal, State.withJournals_seqs, seqs_fset, memWrite_seqs]

/-! The end of an item (09 R247, R249) -/

@[simp] theorem loseOut_seqs (it : Item) : (loseOut s it).seqs = s.seqs := by
  unfold loseOut
  refine foldl_keeps State.seqs fun t r => foldl_keeps State.seqs fun u p => ?_
  split
  · rfl
  · simp only [apply_ite State.seqs, memWrite_seqs, seqs_takeFree, ite_self]

@[simp] theorem ftgStatus_seqs (h : Nat) : (ftgStatus s h).seqs = s.seqs := by
  unfold ftgStatus
  exact (foldl_keeps State.seqs fun t e => by
    simp only [apply_ite State.seqs, seqs_fset, seqs_takeFree, ite_self]).trans (seqs_fset _ _ _ _ _)

@[simp] theorem dropRegs_seqs (p : NetReg → Bool) : (dropRegs s p).seqs = s.seqs := by
  unfold dropRegs
  exact (foldl_keeps State.seqs fun t u => by simp only [apply_ite State.seqs, setXunit_seqs, ite_self]).trans
    (State.withNetRegs_seqs _ _)

@[simp] theorem dropItem_seqs (it : Item) : (dropItem s it).seqs = s.seqs := by
  have hledger (l : List Nat) (f : State → Nat → LedgerX) : (l.foldl (fun s d => setLedgerX s d (f s d)) s).seqs = s.seqs :=
    foldl_keeps State.seqs fun t d => by simp only [setLedgerX, State.withLedger_seqs]
  simp only [dropItem, extReg, ckpCount, apply_ite State.seqs, seqs_fset, ftgStatus_seqs, dropRegs_seqs, State.withChains_seqs,
    State.withItems_seqs, hledger, ite_self]

@[simp] theorem groupEnd_seqs (it : Item) (reason detail : Nat) : (groupEnd s it reason detail).seqs = s.seqs := by
  simp only [groupEnd, apply_ite State.seqs, State.withGroups_seqs, ite_self]

@[simp] theorem globalPurge_seqs (it : Item) : (globalPurge s it).seqs = s.seqs := by
  unfold globalPurge
  exact foldl_keeps State.seqs fun t p => by simp only [seqs_emit, purgeRange_seqs]

@[simp] theorem endItem_seqs (it : Item) (reason detail : Nat) : (endItem s it reason detail).seqs = s.seqs := by
  simp only [endItem, apply_ite Prod.fst, apply_ite State.seqs, setHoldX_seqs, State.withItems_seqs, dropItem_seqs, groupEnd_seqs,
    putCrec_seqs, globalPurge_seqs, loseOut_seqs, journalItem_seqs, stopRun_seqs, ite_self]

@[simp] theorem endCommands_seqs (h reason detail : Nat) : (endCommands s h reason detail).seqs = s.seqs := by
  unfold endCommands
  exact foldl_keeps State.seqs fun t i => endItem_seqs t i _ _

/-! Homes (11 R292) -/

@[simp] theorem queuedAt_seqs (h : Nat) : (queuedAt s h).seqs = s.seqs := by simp only [queuedAt, seqs_fset]

@[simp] theorem refuseReq_seqs (r : Req) (code : Nat) : (refuseReq s r code).seqs = s.seqs := by
  simp only [refuseReq, cohMsg, apply_ite State.seqs, recordAt_seqs, seqs_emit, ite_self]

@[simp] theorem homeLost_seqs (h : Nat) : (homeLost s h).seqs = s.seqs := by
  simp only [homeLost, State.withCopies_seqs, State.withDir_seqs, State.withTxns_seqs, State.withWaitq_seqs, State.withResps_seqs,
    State.withWbs_seqs, State.withReclaims_seqs]
  exact foldl_keeps State.seqs fun t r => refuseReq_seqs t r _

@[simp] theorem homeReturn_seqs (h : Nat) : (homeReturn s h).seqs = s.seqs := by
  unfold homeReturn
  refine (foldl_keeps State.seqs fun t l => ?_).trans ?_
  · simp only [poisonLine, State.withPoison_seqs]
  · simp only [State.withNamed_seqs, writeBackAll_seqs]

@[simp] theorem homesChanged_seqs : (homesChanged s).seqs = s.seqs := by
  unfold homesChanged
  refine (foldl_keeps State.seqs fun t h => ?_).trans (State.withCopies_seqs _ _)
  simp only [apply_ite State.seqs, dirUse_seqs, queuedAt_seqs, seqs_fset, homeReturn_seqs, homeLost_seqs, State.withCopies_seqs, ite_self]

/-! Domains, Courses and Footings (01 R38, 03 R102, R105, 07 R206) -/

@[simp] theorem recount_seqs (d : Nat) : (recount s d).seqs = s.seqs := by simp only [recount, seqs_fset, State.withSitesOut_seqs]

@[simp] theorem clearBlockRegs_seqs (d n : Nat) : (clearBlockRegs s d n).seqs = s.seqs := by
  simp only [clearBlockRegs, apply_ite State.seqs, seqs_fset, State.withCtxx_seqs, State.withRegs_seqs, ite_self]

@[simp] theorem courseWake_seqs (d c : Nat) : (courseWake s d c).seqs = s.seqs := by
  unfold courseWake
  exact foldl_keeps State.seqs fun t i => by simp only [apply_ite State.seqs, seqs_fset, clearBlockRegs_seqs, ite_self]

@[simp] theorem dropTests_seqs (d c : Nat) : (dropTests s d c).seqs = s.seqs := by
  unfold dropTests
  exact foldl_keeps State.seqs fun t i => by simp only [apply_ite State.seqs, seqs_fset, State.withBtest_seqs, ite_self]

@[simp] theorem footingWake_seqs (h : Nat) : (footingWake s h).seqs = s.seqs := by
  simp only [footingWake, clearRegs, applyPcs_seqs, State.withLatch_seqs, State.withWide_seqs, State.withRegs_seqs]

end

/-! ### Requests through a control window (01 R43, R44) -/

section
variable {u dom : Nat} {on : Bool} {s : State}

/-- A window that is BUSY refuses a request and keeps its register. -/
theorem pdRequest_busy (hb : bit s (Reg.GLB_PD_CTRL u) 31 = true) : pdRequest s u dom on = emit s .refusal [Rsn.STATE, 0] [] := by
  simp only [pdRequest, hb, if_true]

/-- A domain the window does not name completes the request with CFG_RANGE. -/
theorem pdRequest_unnamed (hb : bit s (Reg.GLB_PD_CTRL u) 31 = false) (hw : winTakes u dom = false) :
    pdRequest s u dom on = fset (fset s (Reg.GLB_PD_CTRL u) 0 7 dom) (Reg.GLB_PD_CTRL u) 16 8 Rsn.CFG_RANGE := by
  simp only [pdRequest, hb, hw, Bool.false_eq_true, if_false, Bool.not_false, if_true]

/-- Any other request waits at the end of its sequencer's queue, its window BUSY. -/
theorem pdRequest_queued (hb : bit s (Reg.GLB_PD_CTRL u) 31 = false) (hw : winTakes u dom = true) :
    pdRequest s u dom on =
      fset ((fset s (Reg.GLB_PD_CTRL u) 0 7 dom).withSeqs (tset seqDef s.seqs (seqOf dom)
        { tget seqDef s.seqs (seqOf dom) with queue := (tget seqDef s.seqs (seqOf dom)).queue ++ [⟨dom, on, .ctrl u⟩] }))
        (Reg.GLB_PD_CTRL u) 31 1 1 := by
  simp only [pdRequest, hb, hw, Bool.false_eq_true, if_false, Bool.not_true, seqs_fset]

end

/-! ### The request at the head of an idle sequencer's queue (01 R42, R43, 09 R248) -/

section
variable {q : Unit6} {r : PwrReq} {rs : List PwrReq} {s : State}

/-- One that breaks R42 leaves the queue refused. -/
theorem execPdQueueHead_refused (hq : tget seqDef s.seqs q = ⟨r :: rs, none⟩) (hr : transOk s r.dom r.on = false) :
    execPdQueueHead q s = .next (pwrRefuse (s.withSeqs (tset seqDef s.seqs q ⟨rs, none⟩)) r) := by
  simp only [execPdQueueHead, hq, hr, Bool.not_false, if_true]

/-- One of a window for OFF is refused with STATE 0xAA while an accepted item uses the domain. -/
theorem execPdQueueHead_committed {u : Nat} (hq : tget seqDef s.seqs q = ⟨r :: rs, none⟩) (hr : transOk s r.dom r.on = true)
    (hoff : r.on = false) (ho : r.org = .ctrl u) (hc : committedTo s r.dom = true) :
    execPdQueueHead q s = .next (pwrDone (s.withSeqs (tset seqDef s.seqs q ⟨rs, none⟩)) r Rsn.STATE 0xAA) := by
  rw [hoff] at hr
  simp only [execPdQueueHead, hq, hoff, hr, ho, hc, Bool.not_true, Bool.not_false, Bool.and_self, Bool.false_eq_true, if_false, if_true]

/-- No commitment stands against a request for ON, nor against one whose domain no item uses. -/
theorem not_heldBack (b : Bool) (h : r.on = true ∨ committedTo s r.dom = false) : ¬ (!r.on && b && committedTo s r.dom) = true := by
  obtain h | h := h <;> simp [h]

/-- A domain that already is there completes the request at once. -/
theorem execPdQueueHead_already (hq : tget seqDef s.seqs q = ⟨r :: rs, none⟩) (hr : transOk s r.dom r.on = true)
    (hp : pd s r.dom = if r.on then 2 else 0) (hc : r.on = true ∨ committedTo s r.dom = false) :
    execPdQueueHead q s = .next (pwrDone (s.withSeqs (tset seqDef s.seqs q ⟨rs, none⟩)) r 0 0) := by
  simp only [execPdQueueHead, hq, hr, Bool.not_true, Bool.false_eq_true, if_false]
  rw [if_neg (not_heldBack _ hc), if_pos hp]

/-- Any other request is the sequencer's transition from now on: what starts with it leaves the sequencers alone. -/
theorem execPdQueueHead_starts (hq : tget seqDef s.seqs q = ⟨r :: rs, none⟩) (hr : transOk s r.dom r.on = true)
    (hp : pd s r.dom ≠ if r.on then 2 else 0) (hc : r.on = true ∨ committedTo s r.dom = false) :
    ∃ t, execPdQueueHead q s = .next t ∧ t.seqs = tset seqDef s.seqs q ⟨rs, some r⟩ := by
  simp only [execPdQueueHead, hq, hr, Bool.not_true, Bool.false_eq_true, if_false]
  rw [if_neg (not_heldBack _ hc), if_neg hp]
  refine ⟨_, rfl, ?_⟩
  simp only [apply_ite State.seqs, homesChanged_seqs, recount_seqs, footingWake_seqs, endCommands_seqs, courseWake_seqs,
    dropCourseCapture_seqs, dropTests_seqs, seqs_setPd, State.withSeqs_seqs, ite_self]

end

/-! ### The end of a transition (01 R41, 03 R102, 12 R304, 16 R405) -/

section
variable {dom : Fin 120} {s : State}

/-- Zeroing a scratchpad leaves the items alone. -/
theorem zeroSpad_items (s : State) (d n : Nat) : (zeroSpad s d n).items = s.items := by
  simp only [zeroSpad, memLose, State.withFlips_items, State.withPoison_items, State.withMem_items]

/-- A domain that was WAKING is ON, after what its Blocks or its joint do, which leaves the items alone. -/
theorem execDomainWakeDone_waking (hp : pd s dom = 1) :
    ∃ t, execDomainWakeDone dom s = .next (transEnd (setPd t dom 2) dom) ∧ t.items = s.items := by
  unfold execDomainWakeDone
  dsimp only
  rw [if_neg (not_not.mpr hp)]
  refine ⟨_, rfl, ?_⟩
  split
  · refine foldl_keeps State.items fun t i => ?_
    split
    · rw [fset_items, zeroSpad_items]
    · rfl
  · split
    · rw [fset_items]
    · rfl

/-- A joint's end that was QUIESCING is OFF, its BND_STATUS cleared. -/
theorem execDomainOffDone_joint (hp : pd s dom = 3) (hj : dom.val < 96 ∧ 20 ≤ dom.val % 24) :
    execDomainOffDone dom s =
      .next (transEnd (setPd (fset s (Reg.BND_STATUS (dom / 24) (dom % 24 - 20)) 0 8 0) dom 0) dom) := by
  unfold execDomainOffDone
  dsimp only
  rw [if_neg (not_not.mpr hp), if_pos hj]

/-- A domain that is neither a joint nor a Footing is OFF, with nothing else done. -/
theorem execDomainOffDone_other (hp : pd s dom = 3) (hj : ¬ (dom.val < 96 ∧ 20 ≤ dom.val % 24)) (hf : dom.val < 108) :
    execDomainOffDone dom s = .next (transEnd (setPd s dom 0) dom) := by
  unfold execDomainOffDone
  dsimp only
  rw [if_neg (not_not.mpr hp), if_neg hj, if_pos hf]

/-- A Footing that is OFF has lost its stack's contents; that of a FAULTED stack is recorded with POISON 0x4A. -/
theorem execDomainOffDone_footing (hp : pd s dom = 3) (hf : 108 ≤ dom.val) :
    execDomainOffDone dom s =
      .next (transEnd (setPd (if stackFaulted s (dom.val - 108) then
        note (stackOff s (dom.val - 108)) ((dom.val - 108) / 3) Rsn.POISON 0x4A 3 (dom.val - 108) []
        else stackOff s (dom.val - 108)) dom 0) dom) := by
  unfold execDomainOffDone
  dsimp only
  rw [if_neg (not_not.mpr hp), if_neg (fun hj => by omega), if_neg (Nat.not_lt.mpr hf)]

end

/-- Settles O8: each clause is the case of the command's equation that its hypotheses choose. -/
theorem powerDomainsComplete : Obligations.PowerDomainsComplete := by
  refine ⟨?requestOn, ?requestOff, ?busy, ?unnamed, ?queued, ?refused, ?already, ?starts, ?wakes, ?off, ?stackOff, ?committed,
    ?jointOff, ?faultedOff⟩
  case requestOn =>
    intro u dom s hw hu
    rw [exec_pdRequestOn, execPdRequestOn, viaWin_open hw, if_neg hu]
  case requestOff =>
    intro u dom s hw hu
    rw [exec_pdRequestOff, execPdRequestOff, viaWin_open hw, if_neg hu]
  case busy =>
    intro u dom on s hb
    exact pdRequest_busy hb
  case unnamed =>
    intro u dom on s hb hw
    exact pdRequest_unnamed hb hw
  case queued =>
    intro u dom on s hb hw
    exact pdRequest_queued hb hw
  case refused =>
    intro q r rs s hq hr
    rw [exec_pdQueueHead, execPdQueueHead_refused hq hr, pwrRefuse]
    cases r.org with
    | ctrl u => rfl
    | item d g n => rfl
    | fault u num =>
      dsimp only
      cases recovOf (s.withSeqs (tset seqDef s.seqs q ⟨rs, none⟩)) u num with
      | none => rfl
      | some v => simp only [recovLate]
  case already =>
    intro q r rs s hq hr hp hc
    rw [exec_pdQueueHead, execPdQueueHead_already hq hr hp hc]
  case starts =>
    intro q r rs s hq hr hp hc
    obtain ⟨t, ht, hseqs⟩ := execPdQueueHead_starts hq hr hp hc
    exact ⟨t, ht, by rw [hseqs, tget_tset_same]⟩
  case wakes =>
    intro dom s hp
    exact execDomainWakeDone_waking hp
  case off =>
    intro dom s hp hf hj
    rw [exec_domainOffDone, execDomainOffDone_other hp hj (Nat.not_le.mp hf)]
  case stackOff =>
    intro dom s hp hf hs
    rw [exec_domainOffDone, execDomainOffDone_footing hp hf, hs, if_neg Bool.false_ne_true]
  case committed =>
    intro q r rs u s hq hr ⟨hoff, ho⟩ hc
    rw [exec_pdQueueHead, execPdQueueHead_committed hq hr hoff ho hc]
  case jointOff =>
    intro dom s hp hj
    rw [exec_domainOffDone, execDomainOffDone_joint hp hj]
  case faultedOff =>
    intro dom s hp hf hs
    rw [exec_domainOffDone, execDomainOffDone_footing hp hf, hs, if_pos rfl]

end Sys2Proof.Machine
end

section
/-! PROOFS. Conversion to an integer (02 R60, R63): nearest with ties to even, the nearest bound out of range, 0 for a NaN. -/

namespace Sys2Proof.Machine

section
variable {f : Fmt} {x m : Nat} {lo hi e : Int} {n : Bool}

/-! ### The rounded value -/

/-- The integer nearest to `m * 2^e`, the even one of two at the same distance: the magnitude that toInt clamps. -/
def nearestInt (m : Nat) (e : Int) : Nat := if 0 ≤ e then m * 2 ^ e.toNat else (rneShift m (-e).toNat false).1

/-- A right shift by `k + 1` bits rounds to within half of `2^(k + 1)`, and at that distance to an even quotient. -/
theorem rneShift_succ_near (m k : Nat) :
    let r := (rneShift m (k + 1) false).1
    r * 2 ^ (k + 1) ≤ m + 2 ^ k ∧ m ≤ r * 2 ^ (k + 1) + 2 ^ k ∧
      (r * 2 ^ (k + 1) = m + 2 ^ k ∨ m = r * 2 ^ (k + 1) + 2 ^ k → r % 2 = 0) := by
  have hpos : 0 < 2 ^ k := Nat.two_pow_pos k
  have hpow : 2 ^ (k + 1) = 2 * 2 ^ k := Nat.pow_succ'
  have hlt : m % 2 ^ (k + 1) < 2 ^ (k + 1) := Nat.mod_lt _ (Nat.two_pow_pos _)
  have hdiv : m / 2 ^ (k + 1) * 2 ^ (k + 1) + m % 2 ^ (k + 1) = m := Nat.div_add_mod' m _
  simp only [rneShift, Nat.add_one_ne_zero, if_false, Nat.add_sub_cancel, Bool.false_or, Bool.or_eq_true,
    Bool.and_eq_true, decide_eq_true_eq]
  generalize m / 2 ^ (k + 1) = q at *
  generalize m % 2 ^ (k + 1) = r at *
  split
  case isTrue hup =>
    rw [Nat.add_one_mul]
    omega
  case isFalse hdown =>
    omega

/-- The rounded value lies within a half of the exact one, and at a half it is even. -/
theorem nearestInt_near (m : Nat) (e : Int) :
    2 * |(nearestInt m e : ℚ) - m * 2 ^ e| ≤ 1 ∧ (2 * |(nearestInt m e : ℚ) - m * 2 ^ e| = 1 → nearestInt m e % 2 = 0) := by
  cases e with
  | ofNat k =>
    have hexact : (nearestInt m (Int.ofNat k) : ℚ) - m * 2 ^ (Int.ofNat k) = 0 := by
      simp [nearestInt]
    rw [hexact]
    norm_num
  | negSucc k =>
    obtain ⟨hhi, hlo, htie⟩ := rneShift_succ_near m k
    have hr : nearestInt m (Int.negSucc k) = (rneShift m (k + 1) false).1 := rfl
    rw [hr, zpow_negSucc]
    generalize (rneShift m (k + 1) false).1 = r at *
    have hscale : 2 * |(r : ℚ) - m * (2 ^ (k + 1))⁻¹| = |(r : ℚ) * 2 ^ (k + 1) - m| / 2 ^ k := by
      have hp : (0 : ℚ) < 2 ^ (k + 1) := by positivity
      have hfrac : (r : ℚ) - m * (2 ^ (k + 1))⁻¹ = (r * 2 ^ (k + 1) - m) / 2 ^ (k + 1) := by field_simp
      rw [hfrac, abs_div, abs_of_pos hp, pow_succ]
      field_simp
    rw [hscale, div_le_one (by positivity), div_eq_one_iff_eq (by positivity), abs_le]
    refine ⟨⟨?_, ?_⟩, fun hhalf => htie ?_⟩
    · have : (m : ℚ) ≤ r * 2 ^ (k + 1) + 2 ^ k := by exact_mod_cast hlo
      linarith
    · have : (r : ℚ) * 2 ^ (k + 1) ≤ m + 2 ^ k := by exact_mod_cast hhi
      linarith
    · obtain habove | hbelow := eq_or_eq_neg_of_abs_eq hhalf
      · left
        have : (r : ℚ) * 2 ^ (k + 1) = m + 2 ^ k := by linarith
        exact_mod_cast this
      · right
        have : (m : ℚ) = r * 2 ^ (k + 1) + 2 ^ k := by linarith
        exact_mod_cast this

/-! ### The cases of toInt -/

/-- A NaN gives 0 and signals invalid. -/
theorem toInt_nan (h : f.dec x = .nan) : toInt f x lo hi = (0, fNV) := by
  simp only [toInt, h]

/-- An infinity gives the bound of its sign and signals invalid. -/
theorem toInt_inf (h : f.dec x = .inf n) : toInt f x lo hi = (if n then lo else hi, fNV) := by
  simp only [toInt, h]

/-- A finite value is rounded and then held between the bounds. -/
theorem toInt_num (h : f.dec x = .num n m e) {v : Int} (hv : v = if n then -(nearestInt m e : Int) else nearestInt m e) :
    toInt f x lo hi = if v < lo then (lo, fNV) else if hi < v then (hi, fNV) else (v, 0) := by
  simp only [toInt, h, hv, nearestInt, apply_ite Prod.fst]

end

/-- The vector unit converts binary32 to a signed integer of `k` bits between `-2^(k-1)` and `2^(k-1) - 1`: codes 4, 6 and 7. -/
theorem cvtElem_signed {b x : Nat} {u : Option Nat} (hb : b = 4 ∨ b = 6 ∨ b = 7) :
    cvtElem 0 b x u =
      (uInt (cvtBits b) (toInt b32 x (-(2 ^ (cvtBits b - 1) : Nat)) ((2 ^ (cvtBits b - 1) : Nat) - 1)).1,
        (toInt b32 x (-(2 ^ (cvtBits b - 1) : Nat)) ((2 ^ (cvtBits b - 1) : Nat) - 1)).2) := by
  obtain rfl | rfl | rfl := hb <;> rfl

/-- It converts to the unsigned 8-bit integers, code 5, between 0 and 255. -/
theorem cvtElem_unsigned (x : Nat) (u : Option Nat) :
    cvtElem 0 5 x u = (uInt 8 (toInt b32 x 0 255).1, (toInt b32 x 0 255).2) := rfl

/-- Settles O54: the rounded value is `nearestInt`, and toInt clamps it. -/
theorem integerConversion : Obligations.IntegerConversion := by
  refine ⟨?nan, ?inf, ?num, ?codes⟩
  case nan => exact fun f x lo hi h => toInt_nan h
  case inf => exact fun f x lo hi n h => toInt_inf h
  case num =>
    intro f x m lo hi e n h
    obtain ⟨hnear, heven⟩ := nearestInt_near m e
    refine ⟨nearestInt m e, hnear, heven, fun hbelow => ?_, fun hlo habove => ?_, fun hlo hhi => ?_⟩
    · rw [toInt_num h rfl, if_pos hbelow]
    · rw [toInt_num h rfl, if_neg (not_lt.mpr hlo), if_pos habove]
    · rw [toInt_num h rfl, if_neg (not_lt.mpr hlo), if_neg (not_lt.mpr hhi)]
  case codes =>
    exact fun x u => ⟨cvtElem_signed (.inl rfl), cvtElem_unsigned x u, cvtElem_signed (.inr (.inl rfl)),
      cvtElem_signed (.inr (.inr rfl))⟩

end Sys2Proof.Machine
end

section
/-! PROOFS. The clears of a Block's exception flags and violation record (02 R69, 03 R101, 16 R403). -/

namespace Sys2Proof.Machine

section
variable {d : Die} {n : Blk} {c : Ctx} {v q : W32} {same : BitVec 7} {sat : BitVec 16} {s : State}

/-- The state after a clear of FP_FLAGS, before a collision is counted: the named flags are 0 unless hardware sets them in the same cycle,
SAT_COUNT goes with its flag, and what saturates in the cycle is counted from there. -/
def fpFlagsCleared (s : State) (a cl same sat : Nat) : State :=
  let t := fset s a 0 7 ((fget s a 0 7 &&& (127 - cl)) ||| same)
  let t := if cl.testBit 5 then fset t a 16 16 0 else t
  if same.testBit 5 then holdAdd t a 16 16 sat else t

/-- Where neither the clear nor hardware touches the saturation flag, the clear is of the seven flag bits alone. -/
theorem fpFlagsCleared_noSat {a cl same sat : Nat} (hcl : cl.testBit 5 = false) (hsame : same.testBit 5 = false) :
    fpFlagsCleared s a cl same sat = fset s a 0 7 ((fget s a 0 7 &&& (127 - cl)) ||| same) := by
  simp only [fpFlagsCleared, hcl, hsame, Bool.false_eq_true, if_false]

/-- Through an open window a clear of FP_FLAGS acts, and counts a collision where hardware sets a flag it names. -/
theorem execFpFlagsClear_open (hw : winOpen s d) :
    execFpFlagsClear d n c v same sat s =
      .next (if v.toNat % 128 &&& same.toNat ≠ 0 then
          holdAdd (fpFlagsCleared s (Reg.BLK_FP_FLAGS d n c) (v.toNat % 128) same.toNat sat.toNat) (Reg.BLK_W1C_EVENTS d n) (6 * c.val) 6 1
        else fpFlagsCleared s (Reg.BLK_FP_FLAGS d n c) (v.toNat % 128) same.toNat sat.toNat) := by
  unfold execFpFlagsClear
  exact viaWin_open hw

/-- With no refusal in the same cycle, VALID written 1 zeroes VIOL and VALID written 0 clears nothing. -/
theorem execViolClear_quiet (hw : winOpen s d) :
    execViolClear d n v none s = .next (if v.getLsbD 31 then wr s (Reg.BLK_VIOL d n) 0 else s) := by
  unfold execViolClear
  exact viaWin_open hw

/-- A refusal recorded in the same cycle stands against VALID written 1 and counts a collision; with VALID written 0 it is kept where none
stood. -/
theorem execViolClear_refusal (hw : winOpen s d) :
    execViolClear d n v (some q) s =
      if v.getLsbD 31 then
        .next (holdAdd (wr s (Reg.BLK_VIOL d n) ((q &&& 0x0FFF7FFF) ||| 0x80000000)) (Reg.BLK_W1C_EVENTS d n) 24 6 1)
      else .next (if bit s (Reg.BLK_VIOL d n) 31 then s else wr s (Reg.BLK_VIOL d n) ((q &&& 0x0FFF7FFF) ||| 0x80000000)) := by
  unfold execViolClear
  exact viaWin_open hw

end

/-- Settles O19: each clause is the case of the command's equation that its hypotheses choose. -/
theorem blockFlagClearsComplete : Obligations.BlockFlagClearsComplete := by
  refine ⟨?flags, ?viol, ?violRefusal, ?flagsAll, ?violKept, ?violKeptRefusal⟩
  case flags =>
    intro d n c v same sat s hw hdisjoint hcl hsame
    rw [exec_fpFlagsClear, execFpFlagsClear_open hw, if_neg (not_not.mpr hdisjoint), fpFlagsCleared_noSat hcl hsame]
  case viol =>
    intro d n v s hw hone
    rw [exec_violClear, execViolClear_quiet hw, if_pos hone]
  case violRefusal =>
    intro d n v q s hw hone
    rw [exec_violClear, execViolClear_refusal hw, if_pos hone]
  case flagsAll =>
    intro d n c v same sat s hw
    rw [exec_fpFlagsClear, execFpFlagsClear_open hw]
    rfl
  case violKept =>
    intro d n v s hw hzero
    rw [exec_violClear, execViolClear_quiet hw, hzero, if_neg Bool.false_ne_true]
  case violKeptRefusal =>
    intro d n v q s hw hzero
    rw [exec_violClear, execViolClear_refusal hw, hzero, if_neg Bool.false_ne_true]

end Sys2Proof.Machine
end

section
/-! PROOFS. The commands that store nothing (02 R69, 03 R74, R76, 04 R118, 14 R360, 15 R370): what they leave of memory and beside it. -/

namespace Sys2Proof.Machine

/-! ### What a store could change -/

/-- The memory, its poison marks, the agents' copies of lines, the outstanding items and the queue. -/
def State.stored (s : State) : List Host.Cell × List Nat × List Copy × List Item × List Instr :=
  (s.mem, s.poison, s.copies, s.items, s.pending)

/-- An outcome stores nothing when its next state holds what the state held. -/
def StoresNothing (s : State) (o : Out) : Prop := ∀ t, o = .next t → t.stored = s.stored

section
variable (s : State)

@[simp] theorem stored_wr (a : Nat) (v : W32) : (wr s a v).stored = s.stored := by cases s; rfl
@[simp] theorem stored_wrW (a : Nat) (v : W64) : (wrW s a v).stored = s.stored := by cases s; rfl
@[simp] theorem stored_emit (k : MK) (args : List Nat) (data : List Byte) : (emit s k args data).stored = s.stored := by cases s; rfl
@[simp] theorem stored_takeFree : (takeFree s).2.stored = s.stored := by cases s; rfl
@[simp] theorem stored_withWdog (v) : (s.withWdog v).stored = s.stored := by cases s; rfl
@[simp] theorem stored_setCtxX (d n c : Nat) (x : CtxX) : (setCtxX s d n c x).stored = s.stored := by cases s; rfl

@[simp] theorem stored_fset (a lo n v : Nat) : (fset s a lo n v).stored = s.stored := by simp only [fset, stored_wr]

@[simp] theorem stored_holdAdd (a lo n k : Nat) : (holdAdd s a lo n k).stored = s.stored := by simp only [holdAdd, stored_fset]

@[simp] theorem stored_setRD (a lo r d : Nat) : (setRD s a lo r d).stored = s.stored := by simp only [setRD, stored_fset]

@[simp] theorem stored_setCtxState (d n c v : Nat) : (setCtxState s d n c v).stored = s.stored := by
  simp only [setCtxState, apply_ite State.stored, stored_fset, ite_self]

@[simp] theorem stored_enterWait (d n c : Nat) (cause : Option Nat) : (enterWait s d n c cause).stored = s.stored := by
  cases cause with
  | none => simp only [enterWait, stored_fset, stored_takeFree]
  | some k => simp only [enterWait, stored_fset]

end

section
variable {d : Die} {n : Blk} {c : Ctx} {v : W32} {s t : State}

theorem storesNothing_next (h : t.stored = s.stored) : StoresNothing s (.next t) := fun _ e => by cases e; exact h

/-- A write through a window stores nothing when what it does behind an open one does not. -/
theorem storesNothing_viaWin {u : Nat} {f : State → Out} (h : StoresNothing s (f s)) : StoresNothing s (viaWin s u f) := by
  unfold viaWin
  split
  · exact storesNothing_next (stored_emit _ _ _ _)
  · split
    · exact storesNothing_next rfl
    · exact h

/-! ### Instructions of a context (03 R76, 04 R118) -/

/-- An instruction of a context stores nothing when what it does with an issued word does not; with none issued nothing changes. -/
theorem storesNothing_issuing {op : Nat} {f : CtxX → Nat → Out} (h : ∀ x w, StoresNothing s (f x w)) :
    StoresNothing s (match issuing s d n c op with
      | some (x, w) => f x w
      | none => .next s) := by
  cases issuing s d n c op with
  | none => exact storesNothing_next rfl
  | some p => exact h p.1 p.2

theorem execOpnd_storesNothing : StoresNothing s (execOpnd d n c s) :=
  storesNothing_issuing fun _ _ => storesNothing_next (stored_setCtxX _ _ _ _ _)

theorem execMason_storesNothing : StoresNothing s (execMason d n c s) :=
  storesNothing_issuing fun _ _ => storesNothing_next (stored_setCtxX _ _ _ _ _)

theorem execSignal_storesNothing : StoresNothing s (execSignal d n c s) :=
  storesNothing_issuing fun _ _ => storesNothing_next (stored_setCtxX _ _ _ _ _)

theorem execLoop_storesNothing : StoresNothing s (execLoop d n c s) :=
  storesNothing_issuing fun _ _ => storesNothing_next (stored_setCtxX _ _ _ _ _)

theorem execWaitg_storesNothing : StoresNothing s (execWaitg d n c s) := by
  refine storesNothing_issuing fun x w => ?_
  split
  · exact storesNothing_next (stored_setCtxX _ _ _ _ _)
  · exact storesNothing_next (stored_enterWait _ _ _ _ _)

theorem execFencew_storesNothing : StoresNothing s (execFencew d n c s) := by
  refine storesNothing_issuing fun x w => ?_
  split
  · exact storesNothing_next (stored_setCtxX _ _ _ _ _)
  · exact storesNothing_next (stored_enterWait _ _ _ _ _)

theorem execCtxEnd_storesNothing : StoresNothing s (execCtxEnd d n c s) :=
  storesNothing_issuing fun _ _ => storesNothing_next (by rw [stored_setCtxState, stored_setCtxX])

/-! ### Writes through a control window -/

theorem execCtxDisable_storesNothing : StoresNothing s (execCtxDisable d n c s) := by
  refine storesNothing_viaWin ?_
  dsimp only
  split
  · exact storesNothing_next (stored_setRD _ _ _ _ _)
  · refine storesNothing_next ?_
    simp only [apply_ite State.stored, stored_setCtxState, stored_fset, ite_self]

theorem execFpFlagsClear_storesNothing {same : BitVec 7} {sat : BitVec 16} :
    StoresNothing s (execFpFlagsClear d n c v same sat s) := by
  refine storesNothing_viaWin (storesNothing_next ?_)
  simp only [apply_ite State.stored, stored_holdAdd, stored_fset, ite_self]

theorem execViolClear_storesNothing {same : Option W32} : StoresNothing s (execViolClear d n v same s) := by
  refine storesNothing_viaWin ?_
  cases same with
  | none => exact storesNothing_next (by simp only [apply_ite State.stored, stored_wr, ite_self])
  | some q =>
    dsimp only
    split
    · exact storesNothing_next (by rw [stored_holdAdd, stored_wr])
    · exact storesNothing_next (by simp only [apply_ite State.stored, stored_wr, ite_self])

theorem execWdogKick_storesNothing {k : Key} : StoresNothing s (execWdogKick k s) :=
  storesNothing_viaWin (storesNothing_next (stored_withWdog _ _))

theorem execWdogCtrlWrite_storesNothing {k : Key} : StoresNothing s (execWdogCtrlWrite k v s) := by
  refine storesNothing_viaWin ?_
  dsimp only
  split
  · exact storesNothing_next (stored_fset _ _ _ _ _)
  · exact storesNothing_next (by simp only [stored_fset, stored_withWdog])

theorem execAtomModeWrite_storesNothing {u : Unit6} : StoresNothing s (execAtomModeWrite u v s) := by
  refine storesNothing_viaWin ?_
  dsimp only
  split
  · exact storesNothing_next (by rw [stored_emit, stored_fset])
  · exact storesNothing_next (by simp only [stored_fset])

theorem execPlnStageWrite_storesNothing {i : Fin 16} : StoresNothing s (execPlnStageWrite d i v s) := by
  refine storesNothing_viaWin (storesNothing_next ?_)
  simp only [apply_ite State.stored, stored_emit, stored_wr, ite_self]

theorem execIdleClear_storesNothing {row : Fin 17} : StoresNothing s (execIdleClear d row s) :=
  storesNothing_viaWin (storesNothing_next (foldl_keeps State.stored fun t _ => stored_wrW t _ _))

/-! ### A link that comes up -/

theorem execLinkUp_storesNothing {p half : Fin 2} : StoresNothing s (execLinkUp d p half s) := by
  refine storesNothing_next ?_
  simp only [apply_ite State.stored, stored_fset, ite_self]

end

/-- Settles O58: each command of the list stores nothing, and what is stored holds the memory that every address reads. -/
theorem commandsThatStoreNothing : Obligations.CommandsThatStoreNothing := by
  intro d n c u k i row p half v same sat vs x s t hx ht
  have hx : StoresNothing s (exec x s) := by
    clear ht
    revert x
    simp only [List.forall_mem_cons, exec_opnd, exec_mason, exec_waitg, exec_signal, exec_loop, exec_fencew, exec_ctxEnd,
      exec_ctxDisable, exec_fpFlagsClear, exec_violClear, exec_wdogKick, exec_wdogCtrlWrite, exec_atomModeWrite,
      exec_plnStageWrite, exec_idleClear, exec_linkUp]
    exact ⟨execOpnd_storesNothing, execMason_storesNothing, execWaitg_storesNothing, execSignal_storesNothing,
      execLoop_storesNothing, execFencew_storesNothing, execCtxEnd_storesNothing, execCtxDisable_storesNothing,
      execFpFlagsClear_storesNothing, execViolClear_storesNothing, execWdogKick_storesNothing, execWdogCtrlWrite_storesNothing,
      execAtomModeWrite_storesNothing, execPlnStageWrite_storesNothing, execIdleClear_storesNothing, execLinkUp_storesNothing,
      List.forall_mem_nil _⟩
  have hstored : t.stored = s.stored := hx t ht
  simp only [State.stored, Prod.mk.injEq] at hstored
  obtain ⟨hmem, hpoison, hcopies, hitems, hpending⟩ := hstored
  exact ⟨fun a => by rw [hmem], hmem, hpoison, hcopies, hitems, hpending⟩

end Sys2Proof.Machine
end

section
/-! PROOFS. The elementwise vector operations (03 R87-R89, 04 R118). -/

namespace Sys2Proof.Machine

/-- The commands of the elementwise operations with the bases of their codes (03 R88). -/
def elementwise : List ((Die → Blk → Ctx → Instr) × Nat) :=
  [(Instr.add, 0x00), (Instr.sub, 0x04), (Instr.mul, 0x08), (Instr.fma, 0x0C), (Instr.div, 0x10), (Instr.sqrt, 0x14),
    (Instr.min, 0x18), (Instr.max, 0x1C), (Instr.minnum, 0x20), (Instr.maxnum, 0x24), (Instr.cmpeq, 0x28), (Instr.cmplt, 0x2C),
    (Instr.cmple, 0x30), (Instr.exp2, 0x34), (Instr.log2, 0x38), (Instr.tanh, 0x3C), (Instr.sigmoid, 0x40), (Instr.erf, 0x44),
    (Instr.sinpi, 0x48), (Instr.cospi, 0x4C), (Instr.rsqrt, 0x50)]

/-- Every elementwise command is the one elementwise operation at its base. -/
theorem exec_of_mem_elementwise {p : (Die → Blk → Ctx → Instr) × Nat} (hp : p ∈ elementwise) (d : Die) (n : Blk) (c : Ctx)
    (s : State) : exec (p.1 d n c) s = vecEw s d n c p.2 := by
  revert p d n c s
  simp only [elementwise, List.forall_mem_cons]
  exact ⟨exec_add, exec_sub, exec_mul, exec_fma, exec_div, exec_sqrt, exec_min, exec_max, exec_minnum, exec_maxnum, exec_cmpeq,
    exec_cmplt, exec_cmple, exec_exp2, exec_log2, exec_tanh, exec_sigmoid, exec_erf, exec_sinpi, exec_cospi, exec_rsqrt,
    List.forall_mem_nil _⟩

section
variable {d n c w : Nat} {x : CtxX} {s : State}

/-- A legal vec word that is the command's own runs and is issued. -/
theorem vecIssue_legal {mine : Nat → Bool} {run : State → Nat → Got} (hi : issuing s d n c 0x03 = some (x, w))
    (hl : vecLegal (planSlots s d x) w = true) (hm : mine (vOp w) = true) :
    vecIssue s d n c mine run = .next (vecAfter d n c w (run s w)) := by
  simp only [vecIssue, hi, hl, hm, Bool.not_true, Bool.false_eq_true, if_false, if_true]

/-- A legal elementwise word of a base is applied to its words from the first on. -/
theorem vecEw_legal {base : Nat} (hi : issuing s d n c 0x03 = some (x, w)) (hl : vecLegal (planSlots s d x) w = true)
    (hop : vOp w < 0x54) (hbase : vOp w / 4 * 4 = base) :
    vecEw s d n c base = .next (vecAfter d n c w (vecWords d n c w s 0 (vLen w))) :=
  vecIssue_legal hi hl (by simp only [hop, hbase, decide_true, beq_self_eq_true, Bool.and_self])

/-- The elements that an operation on two words gives, with their flags; the addend of a fused operation is not among its operands. -/
def pairResults (w : Nat) (as bs : List Byte) : List FR :=
  let size := (vFmt (vOp w % 4)).bits / 8
  vecWord (vOp w / 4 * 4) (vFmt (vOp w % 4)) (elems size as) (elems size bs) (elems size as)

/-- The write of one result word: its elements, and the exceptions that made them. -/
def putResults (s : State) (d n c w i : Nat) (rs : List FR) : Got :=
  vecPut s d n c (vDst w + i) (rs.flatMap (fun r => leBytes ((vFmt (vOp w % 4)).bits / 8) r.1)) (rs.foldl (fun a r => a ||| r.2) 0) 0

/-- What follows an access that was granted; a refused one ends the operation with what it left. -/
def Got.andThen (g : Got) (f : State → Got) : Got :=
  match g with
  | .ok s _ => f s
  | .stop s => .stop s

@[simp] theorem vecWords_zero {i : Nat} : vecWords d n c w s i 0 = .ok s [] := rfl

/-- One word of an operation on two words of the scratchpad, both granted: its result is written and the next word follows. -/
theorem vecWords_succ_pair {i k : Nat} {as bs : List Byte} {t u : State} (hu : unary (vOp w / 4 * 4) = false)
    (hr : isReg (vAux w) = false) (hf : vOp w / 4 * 4 ≠ 0x0C) (ha : ownRead s d n 1 c (256 * (vSrc w + i)) 256 = .ok t as)
    (hb : ownRead t d n 1 c (256 * (vAux w + i)) 256 = .ok u bs) :
    vecWords d n c w s i (k + 1) =
      (putResults u d n c w i (pairResults w as bs)).andThen (fun v => vecWords d n c w v (i + 1) k) := by
  simp only [vecWords, ha, hu, hr, Bool.false_eq_true, if_false, hb, if_neg hf]
  unfold putResults pairResults
  cases vecPut u d n c (vDst w + i) _ _ 0 <;> rfl

end

/-- Settles O23: every command is the operation at its base, and a one-word operation is its first word. -/
theorem vectorElementwiseComplete : Obligations.VectorElementwiseComplete := by
  refine ⟨?issued, ?oneWord⟩
  case issued =>
    intro mk base d n c x w s hmem hi hl ⟨hop, hbase⟩
    rw [exec_of_mem_elementwise (p := (mk, base)) hmem, vecEw_legal hi hl hop hbase]
  case oneWord =>
    intro d n c w as bs t u s hlen hu hr hf ha hb
    rw [hlen, vecWords_succ_pair (i := 0) hu hr hf ha hb]
    simp only [vecWords_zero, putResults, pairResults, Nat.add_zero]
    cases vecPut u d n c (vDst w) _ _ 0 <;> rfl

end Sys2Proof.Machine
end

section
/-! PROOFS. A Block's fence, test and clearing, and the enable and disable of a context (03 R78, R100, R102, R104, R105). -/

namespace Sys2Proof.Machine

section
variable {d : Die} {n : Blk} {c : Ctx} {s : State}

/-- BLOCK_FENCE through an open window fences the Block with no fault behind it. -/
theorem execBlockFence_open (hw : winOpen s d) : execBlockFence d n s = .next (fenceBlock s d n 0 0) := viaWin_open hw

/-- BLOCK_TEST of a FENCED Block clears the codes and starts the self-test unless one is under way. -/
theorem execBlockTest_fenced (hw : winOpen s d) (hf : blkState s d n = 2) :
    execBlockTest d n s =
      .next (if tget natDef (setRD s (Reg.BLK_CTRL d n) 8 0 0).btest (d * 288 + n) = 0 then
          (setRD s (Reg.BLK_CTRL d n) 8 0 0).withBtest (tset natDef (setRD s (Reg.BLK_CTRL d n) 8 0 0).btest (d * 288 + n) 1)
        else setRD s (Reg.BLK_CTRL d n) 8 0 0) :=
  (viaWin_open hw).trans (if_pos hf)

/-- BLOCK_TEST of a Block that is not FENCED is refused. -/
theorem execBlockTest_notFenced (hw : winOpen s d) (hf : blkState s d n ≠ 2) :
    execBlockTest d n s = .next (setRD s (Reg.BLK_CTRL d n) 8 Rsn.STATE 0x19) :=
  (viaWin_open hw).trans (if_neg hf)

/-- CTX_ENABLE through an open window is the enable check and what it leads to. -/
theorem execCtxEnable_open (hw : winOpen s d) : execCtxEnable d n c s = .next (ctxEnable s d n c) := viaWin_open hw

/-- An enable whose check fails answers its codes. -/
theorem ctxEnable_fail {d n c r t : Nat} (hc : ctxChecks s d n c = some (r, t)) :
    ctxEnable s d n c = setRD s (Reg.BLK_CTX_STATUS d n c) 8 r t := by
  simp only [ctxEnable, hc]

/-- An enable whose check passes makes a LOADED context READY. -/
theorem ctxEnable_pass {d n c : Nat} (hc : ctxChecks s d n c = none)
    (hl : ctxState (setRD (fset s (Reg.BLK_CTX_CTRL d n c) 0 1 1) (Reg.BLK_CTX_STATUS d n c) 8 0 0) d n c = 1) :
    ctxEnable s d n c =
      setCtxState (setRD (fset s (Reg.BLK_CTX_CTRL d n c) 0 1 1) (Reg.BLK_CTX_STATUS d n c) 8 0 0) d n c 2 := by
  simp only [ctxEnable, hc, hl, if_true]

/-- CTX_DISABLE of a context in a run is refused. -/
theorem execCtxDisable_inRun (hw : winOpen s d) (hr : inRun s d n c = true) :
    execCtxDisable d n c s = .next (setRD s (Reg.BLK_CTX_STATUS d n c) 8 Rsn.STATE 0x18) :=
  (viaWin_open hw).trans (if_pos hr)

/-- CTX_DISABLE outside a run makes a READY or HALTED context LOADED. -/
theorem execCtxDisable_idle (hw : winOpen s d) (hr : inRun s d n c = false) :
    execCtxDisable d n c s =
      .next (if ctxState (fset s (Reg.BLK_CTX_CTRL d n c) 0 1 0) d n c = 2 ∨
          ctxState (fset s (Reg.BLK_CTX_CTRL d n c) 0 1 0) d n c = 5 then
        setCtxState (fset s (Reg.BLK_CTX_CTRL d n c) 0 1 0) d n c 1 else fset s (Reg.BLK_CTX_CTRL d n c) 0 1 0) :=
  (viaWin_open hw).trans (if_neg (hr ▸ Bool.false_ne_true))

end

/-- Settles O17: each clause is the case of the command's equation that its hypotheses choose. -/
theorem blockControlComplete : Obligations.BlockControlComplete := by
  refine ⟨?fence, ?test, ?testRefused, ?selftestDone, ?cleared, ?enabled, ?enableFails, ?disableRefused, ?disabled, ?testAgain,
    ?enable⟩
  case fence =>
    intro d n s hw
    rw [exec_blockFence, execBlockFence_open hw]
  case test =>
    intro d n s hw hf hidle
    rw [exec_blockTest, execBlockTest_fenced hw hf, if_pos hidle]
  case testRefused =>
    intro d n s hw hf
    rw [exec_blockTest, execBlockTest_notFenced hw hf]
  case selftestDone =>
    intro d n pass s htest
    rw [exec_blockSelftestDone, execBlockSelftestDone, if_pos htest]
  case cleared =>
    intro d n s hclear
    rw [exec_blockClearDone]
    exact if_pos hclear
  case enabled =>
    intro d n c s hw hc hl
    rw [exec_ctxEnable, execCtxEnable_open hw, ctxEnable_pass hc hl]
  case enableFails =>
    intro d n c r t s hc
    exact ctxEnable_fail hc
  case disableRefused =>
    intro d n c s hw hr
    rw [exec_ctxDisable, execCtxDisable_inRun hw hr]
  case disabled =>
    intro d n c s hw hr hready
    rw [exec_ctxDisable, execCtxDisable_idle hw hr, if_pos (.inl hready)]
  case testAgain =>
    intro d n s hw hf hrunning
    rw [exec_blockTest, execBlockTest_fenced hw hf, if_neg hrunning]
  case enable =>
    intro d n c s hw
    rw [exec_ctxEnable, execCtxEnable_open hw]

end Sys2Proof.Machine
end

section
/-! PROOFS. Accesses to a Block's scratchpad from outside it and by its own masters (03 R91, R95, R96, R99, R103). -/

namespace Sys2Proof.Machine

/-! ### A read corrects and counts single-bit errors, and leaves what it reads -/

/-- No byte of a scratchpad lies in a stack. -/
theorem spadAddr_above_stacks (d n off : Nat) : ¬ (0x100000000000 ≤ spadAddr d n off ∧ spadAddr d n off < 0x118000000000) := by
  unfold spadAddr
  omega

/-- A scratchpad's bytes are poisoned by the marks in them alone. -/
theorem poisonedAt_spad (s : State) (d n off len : Nat) :
    poisonedAt s (spadAddr d n off) len = markedAt s (spadAddr d n off) len := by
  simp only [poisonedAt, spadAddr_above_stacks, decide_false, Bool.false_and, Bool.false_or]

section
variable (s : State) (d n off len : Nat)

/-- The count of corrected errors is one field of a register. -/
theorem countCe_eq : countCe s d n off len = s ∨ ∃ k, countCe s d n off len = fset s (Reg.BLK_STATE d n) 24 8 k := by
  unfold countCe
  dsimp only
  split
  · exact .inl rfl
  · exact .inr ⟨_, rfl⟩

/-- A register write leaves the requests that a home has pending. -/
theorem pendingReqs_fset (a lo w v l : Nat) : pendingReqs (fset s a lo w v) l = pendingReqs s l := by
  unfold pendingReqs
  rw [fset_txns, fset_waitq]

/-- A register write leaves the marks of poison and the requests that cover them. -/
theorem markedAt_fset (r lo w v a m : Nat) : markedAt (fset s r lo w v) a m = markedAt s a m := by
  unfold markedAt
  rw [fset_poison]
  simp only [pendingReqs_fset]

/-- A read's count leaves the marks of poison. -/
theorem markedAt_countCe (a m : Nat) : markedAt (countCe s d n off len) a m = markedAt s a m := by
  obtain h | ⟨k, h⟩ := countCe_eq s d n off len
  · rw [h]
  · rw [h, markedAt_fset]

/-- A read's count leaves the bytes read. -/
theorem spadBytes_countCe : spadBytes (countCe s d n off len) d n off len = spadBytes s d n off len := by
  obtain h | ⟨k, h⟩ := countCe_eq s d n off len
  · rw [h]
  · unfold spadBytes
    rw [h, fset_mem]

end

/-! ### What a write makes of the old bytes and the new, by its kind -/

section
variable (old new : List Byte)

theorem aliasMix_normal : aliasMix 1 old new = new := rfl

theorem aliasMix_set : aliasMix 2 old new = old.zipWith (· ||| ·) new := rfl

theorem aliasMix_clear : aliasMix 3 old new = old.zipWith (fun o x => o &&& ~~~x) new := rfl

end

/-! ### An access from outside the Block -/

section
variable {s : State} {d n off : Nat} {bs : List Byte}

/-- A granted read of clean bytes answers them, its corrected errors counted. -/
theorem outAccess_read {len : Nat} (hb : blockRefusal s d n = none) (ha : accCheck s d n 4 0 0 off len = none)
    (hp : poisonedAt s (spadAddr d n off) len = false) :
    outAccess s d n 0 off len bs = .ok (countCe s d n off len) (spadBytes s d n off len) false := by
  have hclean : poisonedAt (countCe s d n off len) (spadAddr d n off) len = false := by
    rw [poisonedAt_spad, markedAt_countCe, ← poisonedAt_spad, hp]
  simp only [outAccess, hb, ha, hclean, spadBytes_countCe, if_true, Bool.false_eq_true, if_false]

/-- A granted write stores what its kind makes of the old bytes and the new. -/
theorem outAccess_write {k : AccKind} {len : Nat} (hk : k ≠ 0) (hb : blockRefusal s d n = none)
    (ha : accCheck s d n 4 0 k off len = none) :
    outAccess s d n k off len bs =
      .ok (memWriteAt s (spadAddr d n off) (aliasMix k (spadBytes s d n off len) bs)) [] false := by
  simp only [outAccess, hb, ha, if_neg hk]

/-- An access that the EXT regions refuse is recorded. -/
theorem outAccess_denied {k : AccKind} {len r a b : Nat} (hb : blockRefusal s d n = none)
    (ha : accCheck s d n 4 0 k off len = some (r, a, b)) :
    outAccess s d n k off len bs = .bad (recordViol s d n 4 0 k a b) r a := by
  simp only [outAccess, hb, ha]

/-! ### The answers -/

section
variable {m c : Nat} {k : AccKind} {len : Nat} {t : State} {got : List Byte}

/-- An access that the state of the Block refuses is answered with its codes, whoever makes it. -/
theorem spadAccess_refused {r e : Nat} (hb : blockRefusal s d n = some (r, e)) :
    spadAccess s d n m c k off len bs = emit s .errorResponse [r, e] [] := by
  simp only [spadAccess, hb]

/-- A clean access from outside is answered with what it gives. -/
theorem spadAccess_outside (hm : m = 4) (hb : blockRefusal s d n = none) (ho : outAccess s d n k off len bs = .ok t got false) :
    spadAccess s d n m c k off len bs = emit t .response [0, 0] got := by
  simp only [spadAccess, hb, if_pos hm, ho, Bool.false_eq_true, if_false]

/-- A refused access from outside is answered with its codes. -/
theorem spadAccess_outsideDenied {r e : Nat} (hm : m = 4) (hb : blockRefusal s d n = none)
    (ho : outAccess s d n k off len bs = .bad t r e) :
    spadAccess s d n m c k off len bs = emit t .errorResponse [r, e] [] := by
  simp only [spadAccess, hb, if_pos hm, ho]

/-- A read by an own master that its regions grant is answered with the bytes. -/
theorem spadAccess_ownRead (hm : m ≠ 4) (hb : blockRefusal s d n = none) (ho : ownRead s d n m c off len = .ok t got) :
    spadAccess s d n m c 0 off len bs = emit t .response [0, 0] got := by
  simp only [spadAccess, hb, if_neg hm, if_true, ho]

/-- A write by an own master that its regions grant is answered. -/
theorem spadAccess_ownWrite (hm : m ≠ 4) (hk : k ≠ 0) (hb : blockRefusal s d n = none)
    (ho : ownWrite s d n m c k off bs = .ok t got) :
    spadAccess s d n m c k off len bs = emit t .response [0, 0] [] := by
  simp only [spadAccess, hb, if_neg hm, if_neg hk, ho]

/-- A granted write from outside stores what its kind makes of the old bytes and the new. -/
theorem spadAccess_outsideWrite (hm : m = 4) (hk : k ≠ 0) (hb : blockRefusal s d n = none)
    (ha : accCheck s d n 4 0 k off len = none) :
    spadAccess s d n m c k off len bs =
      emit (memWriteAt s (spadAddr d n off) (aliasMix k (spadBytes s d n off len) bs)) .response [0, 0] [] :=
  spadAccess_outside hm hb (outAccess_write hk hb ha)

end
end

/-! ### The commands, for 1 to 256 bytes -/

section
variable {d : Die} {n : Blk} {m : Fin 5} {c : Ctx} {off : BitVec 21} {s : State}

theorem execSpadRead_sized {len : Nat} (hlen : 0 < len ∧ len ≤ 256) :
    execSpadRead d n m c off len s = .next (spadAccess s d n m c 0 off.toNat len []) :=
  if_neg (by omega)

theorem execSpadWrite_sized {data : List Byte} (hlen : 0 < data.length ∧ data.length ≤ 256) :
    execSpadWrite d n m c off data s = .next (spadAccess s d n m c 1 off.toNat data.length data) :=
  if_neg (by omega)

theorem execSpadSetWrite_sized {data : List Byte} (hlen : 0 < data.length ∧ data.length ≤ 256) :
    execSpadSetWrite d n m c off data s = .next (spadAccess s d n m c 2 off.toNat data.length data) :=
  if_neg (by omega)

theorem execSpadClearWrite_sized {data : List Byte} (hlen : 0 < data.length ∧ data.length ≤ 256) :
    execSpadClearWrite d n m c off data s = .next (spadAccess s d n m c 3 off.toNat data.length data) :=
  if_neg (by omega)

end

/-- Settles O18: each clause is the access of its kind, answered as its hypotheses choose. -/
theorem scratchpadAccessComplete : Obligations.ScratchpadAccessComplete := by
  refine ⟨?read, ?write, ?setWrite, ?clearWrite, ?refused, ?ownRead, ?ownWrite, ?denied⟩
  case read =>
    intro d n m c off len s hlen hm hb ha hp
    rw [exec_spadRead, execSpadRead_sized hlen, spadAccess_outside hm hb (outAccess_read hb ha hp)]
  case write =>
    intro d n m c off data s hlen hm hb ha
    rw [exec_spadWrite, execSpadWrite_sized hlen, spadAccess_outsideWrite hm (by decide) hb ha, aliasMix_normal]
  case setWrite =>
    intro d n m c off data s hlen hm hb ha
    rw [exec_spadSetWrite, execSpadSetWrite_sized hlen, spadAccess_outsideWrite hm (by decide) hb ha, aliasMix_set]
  case clearWrite =>
    intro d n m c off data s hlen hm hb ha
    rw [exec_spadClearWrite, execSpadClearWrite_sized hlen, spadAccess_outsideWrite hm (by decide) hb ha, aliasMix_clear]
  case refused =>
    intro d n m c off data r t s hlen hb
    rw [exec_spadWrite, execSpadWrite_sized hlen, spadAccess_refused hb]
  case ownRead =>
    intro d n m c off len bs t s hlen hm hb ho
    rw [exec_spadRead, execSpadRead_sized hlen, spadAccess_ownRead hm hb ho]
  case ownWrite =>
    intro d n m c off data t bs s hlen hm hb ho
    rw [exec_spadWrite, execSpadWrite_sized hlen, spadAccess_ownWrite hm (by decide) hb ho]
  case denied =>
    intro d n m c off len r a b s hlen hm hb ha
    rw [exec_spadRead, execSpadRead_sized hlen, spadAccess_outsideDenied hm hb (outAccess_denied hb ha)]

end Sys2Proof.Machine
end

section
/-! PROOFS. The issuer's own instructions (03 R76, 04 R118). -/

namespace Sys2Proof.Machine

section
variable {d : Die} {n : Blk} {c : Ctx} {x : CtxX} {w : Nat} {s : State}

/-! ### Instructions that always go on -/

theorem execOpnd_issued (hi : issuing s d n c 0x01 = some (x, w)) :
    execOpnd d n c s = .next (setCtxX s d n c
      { x with as := wbits w 0 11, bs := wbits w 11 11, ring := wbits w 22 11, rlen := wbits w 33 11 }.advance) := by
  simp only [execOpnd, hi]

theorem execMason_issued (hi : issuing s d n c 0x02 = some (x, w)) :
    execMason d n c s = .next (setCtxX s d n c
      { x with mason := x.mason ++ [MOp.mk w x.as x.bs x.ring x.rlen false x.nMason], nMason := x.nMason + 1 }.advance) := by
  simp only [execMason, hi]

theorem execSignal_issued (hi : issuing s d n c 0x06 = some (x, w)) :
    execSignal d n c s = .next (setCtxX s d n c (x.count (wbits w 0 4) (wbits w 4 12)).advance) := by
  simp only [execSignal, hi]

theorem execLoop_issued (hi : issuing s d n c 0x07 = some (x, w)) :
    execLoop d n c s = .next (setCtxX s d n c (closeLoops 5
      { x with pc := x.pc + 1, loops := (x.pc + 1, wbits w 16 12, 0, wbits w 0 16) :: x.loops })) := by
  simp only [execLoop, hi]

theorem execCtxEnd_issued (hi : issuing s d n c 0x3F = some (x, w)) :
    execCtxEnd d n c s = .next (setCtxState (setCtxX s d n c { x with ended := true }) d n c 2) := by
  simp only [execCtxEnd, hi]

/-- The operation that HOD issues: a lintel's takes the next generation, held while the release count does not allow it (05 R137-R138). -/
def issuedHod (p : Plan) (x : CtxX) (w : Nat) : HodOp :=
  let i := wbits w 0 12
  let lin := (p.hod i).lintel
  let g := if lin then tget natDef x.gens i + 1 else 0
  HodOp.mk x.nHod (iCtr w) i g (lin && decide (p.depth + tget natDef x.rel i < g)) false false

/-- HOD queues its transfer, and a lintel's generation is then the descriptor's last. -/
theorem execHod_issued {p : Plan} (hi : issuing s d n c 0x04 = some (x, w)) (hp : planOf s d x.plan = some p) :
    execHod d n c s = .next (setCtxX s d n c
      { x with
        hods := x.hods ++ [issuedHod p x w]
        nHod := x.nHod + 1
        gens := if (p.hod (wbits w 0 12)).lintel then tset natDef x.gens (wbits w 0 12) (issuedHod p x w).gen
          else x.gens }.advance) := by
  simp only [execHod, hi, hp]
  rfl

/-! ### Waits -/

/-- WAITG goes on when its target is met and waits otherwise. -/
theorem execWaitg_issued (hi : issuing s d n c 0x05 = some (x, w)) :
    execWaitg d n c s =
      if waitMet x w then .next (setCtxX s d n c x.advance)
      else .next (enterWait s d n c (waitCause s d x (wbits w 0 4))) := by
  simp only [execWaitg, hi]

/-- FENCEW goes on when every operation is done and waits otherwise. -/
theorem execFencew_issued (hi : issuing s d n c 0x08 = some (x, w)) :
    execFencew d n c s =
      if allDone x then .next (setCtxX s d n c x.advance)
      else .next (enterWait s d n c (if x.hods.isEmpty then none else some 2)) := by
  simp only [execFencew, hi]

/-- A WAITING context whose cause is satisfied resumes, unless the Ledger holds it: it waits for ENERGY, or its Course is stalled. -/
theorem execCtxWake_satisfied (hst : ctxState s d n c = 4) (henergy : fget s (Reg.BLK_CTX_STATUS d n c) 24 4 ≠ 4)
    (hcourse : courseStalled s d (n / 18) = false) (hpc : (ctxX s d n c).prog[(ctxX s d n c).pc]? = some w)
    (hmet : iOp w = 5 ∧ waitMet (ctxX s d n c) w = true ∨ iOp w = 8 ∧ allDone (ctxX s d n c) = true) :
    execCtxWake d n c s = .next (setCtxState s d n c 3) := by
  simp only [execCtxWake, hst, henergy, hcourse, hpc, ne_eq, not_true, Bool.false_eq_true, or_self, if_false, if_pos hmet]

end

/-- Settles O20: each clause is the case of the instruction's equation that its hypotheses choose. -/
theorem issuerComplete : Obligations.IssuerComplete := by
  refine ⟨?opnd, ?mason, ?signal, ?loop, ?ctxEnd, ?waitMet, ?waiting, ?fencePassed, ?fenced, ?hod, ?wake⟩
  case opnd =>
    intro d n c x w s hi
    rw [exec_opnd, execOpnd_issued hi]
  case mason =>
    intro d n c x w s hi
    rw [exec_mason, execMason_issued hi]
  case signal =>
    intro d n c x w s hi
    rw [exec_signal, execSignal_issued hi]
  case loop =>
    intro d n c x w s hi
    rw [exec_loop, execLoop_issued hi]
  case ctxEnd =>
    intro d n c x w s hi
    rw [exec_ctxEnd, execCtxEnd_issued hi]
  case waitMet =>
    intro d n c x w s hi hmet
    rw [exec_waitg, execWaitg_issued hi, if_pos hmet]
  case waiting =>
    intro d n c x w s hi hmet
    rw [exec_waitg, execWaitg_issued hi, hmet, if_neg Bool.false_ne_true]
  case fencePassed =>
    intro d n c x w s hi hdone
    rw [exec_fencew, execFencew_issued hi, if_pos hdone]
  case fenced =>
    intro d n c x w s hi hdone
    rw [exec_fencew, execFencew_issued hi, hdone, if_neg Bool.false_ne_true]
  case hod =>
    intro d n c x w p s hi hp
    rw [exec_hod, execHod_issued hi hp]
    rfl
  case wake =>
    intro d n c w s hst henergy hcourse hpc hop hmet
    rw [exec_ctxWake, execCtxWake_satisfied hst henergy hcourse hpc (.inl ⟨hop, hmet⟩)]

end Sys2Proof.Machine
end

section
/-! PROOFS. Mason operations and the numerics sampler (03 R80, R82, R83, 08 R220, R222, R225). -/

namespace Sys2Proof.Machine

section
variable {d : Die} {n : Blk} {c : Ctx} {o : MOp} {os : List MOp} {s : State}

/-! ### The start of an operation -/

/-- The operations of a context with one started. -/
def CtxX.startOp (x : CtxX) (o : MOp) : CtxX :=
  { x with mason := x.mason.map (fun q => if q.ord = o.ord then { q with started := true } else q) }

/-- The sampler's part in the start of an operation of a context that was `x`: one selected by the plan's draw is taken while the unit is
IDLE and counted as skipped otherwise (08 R220). -/
def offerSample (t : State) (d n c : Nat) (x : CtxX) (o : MOp) : State :=
  match planOf t d x.plan with
  | some p =>
    if (eligible t d o && selected t d x p.runNo o) = true then
      if fget t (Reg.PLB_STATUS d) 0 2 = 0 then
        wrapAdd (fset (fset (t.withPlumb (tset plumbDef t.plumb d (some ⟨n, c, x.plan, x.lb, p.runNo, o.ord, [], []⟩)))
          (Reg.PLB_STATUS d) 0 2 1) (Reg.PLB_STATUS d) 16 16 x.plan) (Reg.PLB_SAMPLED d) 0 32 1
      else wrapAdd t (Reg.PLB_SKIPPED d) 0 32 1
    else t
  | none => t

/-- The first waiting operation starts while fewer than two are in the array, and is offered to the sampler. -/
theorem execMasonStart_waiting (hr : inRun s d n c = true) (hroom : ((ctxX s d n c).mason.filter (·.started)).length < 2)
    (ho : (ctxX s d n c).mason.find? (fun o => !o.started) = some o) :
    execMasonStart d n c s = .next (offerSample (setCtxX s d n c ((ctxX s d n c).startOp o)) d n c (ctxX s d n c) o) := by
  have hgo : ¬ ((!inRun s d n c) = true ∨ 2 ≤ ((ctxX s d n c).mason.filter (·.started)).length) :=
    not_or.mpr ⟨by simp only [hr, Bool.not_true, Bool.false_eq_true, not_false_eq_true], not_le.mpr hroom⟩
  unfold CtxX.startOp
  simp only [execMasonStart, if_neg hgo, ho]
  generalize setCtxX s d n c _ = t
  unfold offerSample
  cases planOf t d (ctxX s d n c).plan with
  | none => rfl
  | some p => simp only [apply_ite Host.Outcome.next]

/-! ### The end of an operation -/

/-- The front operation, started and checked, leaves with its tile stored, its exceptions signalled and its counter raised. -/
theorem execMasonDone_passed (hfront : (ctxX s d n c).mason = o :: os) (ho : o.started = true) (hr : inRun s d n c = true)
    (hc : masonCheck s d n c o = (none, none)) :
    let t := masonTile s d n c o
    let bs := t.1.flatMap (fun r => leBytes (if (mfld o.word).ks = 1 then 8 else 4) r.1)
    let u := memWriteAt s (spadAddr d n (256 * (mfld o.word).tile)) bs
    let g := captureEnd (signal u d n c (t.1.foldl (fun f r => f ||| r.2) 0) 0) d n c o (t.1.map (·.1)) t.2.1
    execMasonDone d n c s = .next (setCtxX g d n c ({ ctxX s d n c with mason := os }.done (iCtr o.word))) := by
  simp only [execMasonDone, hfront, ho, hr, hc, Bool.not_true, Bool.or_self, Bool.false_eq_true, if_false]

/-- One whose words the regions refuse halts the context with the first refusal. -/
theorem execMasonDone_denied {r : AccKind × Nat × Nat × Nat} {w : Option Nat} (hfront : (ctxX s d n c).mason = o :: os)
    (ho : o.started = true) (hr : inRun s d n c = true) (hc : masonCheck s d n c o = (some r, w)) :
    execMasonDone d n c s = .next (denyOwn s d n 0 c r.1 r.2) := by
  simp only [execMasonDone, hfront, ho, hr, hc, Bool.not_true, Bool.or_self, Bool.false_eq_true, if_false]

/-- One that meets a double-bit error halts the context at it. -/
theorem execMasonDone_poisoned {w : Nat} (hfront : (ctxX s d n c).mason = o :: os) (ho : o.started = true)
    (hr : inRun s d n c = true) (hc : masonCheck s d n c o = (none, some w)) :
    execMasonDone d n c s = .next (eccHalt s d n c w) := by
  simp only [execMasonDone, hfront, ho, hr, hc, Bool.not_true, Bool.or_self, Bool.false_eq_true, if_false]

/-! ### The sampler's enable and disable -/

/-- PLB_CTRL after a write of its fields with ENABLE 1, before the check. -/
abbrev plbWritten (s : State) (d : Nat) (v : W32) : State := rwlIn s (Reg.PLB_CTRL d) 0xFFE v

/-- An enable whose check passes zeroes the entry of every resident handle. -/
theorem execPlbEnable_pass {v : W32} (hw : winOpen s d) (hc : plbChecks (plbWritten s d v) d = none) :
    let t := finishEnable (plbWritten s d v) (Reg.PLB_CTRL d) 16 none
    execPlbEnable d v s = .next ((t.plans.filter (fun p => p.die == d.val)).foldl (fun s p => numFresh s d p.handle) t) := by
  unfold execPlbEnable
  rw [viaWin_open hw]
  simp only [hc, if_true]

/-- An enable whose check fails answers its codes. -/
theorem execPlbEnable_fail {v : W32} {r e : Nat} (hw : winOpen s d) (hc : plbChecks (plbWritten s d v) d = some (r, e)) :
    execPlbEnable d v s = .next (finishEnable (plbWritten s d v) (Reg.PLB_CTRL d) 16 (some (r, e))) := by
  unfold execPlbEnable
  rw [viaWin_open hw]
  simp only [hc, reduceCtorEq, if_false]

/-- A disable discards the sample in hand. -/
theorem execPlbDisable_open (hw : winOpen s d) :
    execPlbDisable d s = .next (dropSample (setRD (fset s (Reg.PLB_CTRL d) 0 1 0) (Reg.PLB_CTRL d) 16 0 0) d) := viaWin_open hw

end

/-- Settles O22: each clause is the case of the command's equation that its hypotheses choose. -/
theorem masonAndPlumbComplete : Obligations.MasonAndPlumbComplete := by
  refine ⟨?start, ?done, ?compare, ?enabled, ?disabled, ?denied, ?poisoned, ?enableFails⟩
  case start =>
    intro d n c o s hr hroom ho
    exact execMasonStart_waiting hr hroom ho
  case done =>
    intro d n c o os s hfront ho hr hc
    exact execMasonDone_passed hfront ho hr hc
  case compare =>
    intro d x s hx hst
    rw [exec_plumbCompareDone, execPlumbCompareDone, hx]
    simp only [hst, ne_eq, not_true, if_false, Bool.and_eq_true, decide_eq_true_eq]
  case enabled =>
    intro d v s hw hc
    exact execPlbEnable_pass hw hc
  case disabled =>
    intro d s hw
    rw [exec_plbDisable, execPlbDisable_open hw]
  case denied =>
    intro d n c o os r w s hfront ho hr hc
    rw [exec_masonDone, execMasonDone_denied hfront ho hr hc]
  case poisoned =>
    intro d n c o os w s hfront ho hr hc
    rw [exec_masonDone, execMasonDone_poisoned hfront ho hr hc]
  case enableFails =>
    intro d v r e s hw hc
    rw [exec_plbEnable, execPlbEnable_fail hw hc]

end Sys2Proof.Machine
end

section
/-! PROOFS. Hod transfers and the lintel protocol (04 R120, R121, 05 R137-R140). -/

namespace Sys2Proof.Machine

/-! ### Transfers -/

/-- The `i`-th transfer of a context is actually complete; it leaves where its planned completion has passed too (04 R121). -/
def hodActual (s : State) (d n c i : Nat) : State := hodFinish (setHod s d n c i (fun o => { o with actual := true })) d n c i

/-- What the rows of the `i`-th transfer lead to: its actual completion, or its context as the row that failed leaves it. -/
def afterRows (d n c i : Nat) : Row → State
  | .ok t _ => hodActual t d n c i
  | .stop t => t
  | .bad t r => halt t d n c r.1 r.2

section
variable {d : Die} {n : Blk} {c : Ctx} {i : Nat} {s : State}

/-- TRANSFER_PLANNED_DONE in a run notes the planned completion. -/
theorem execTransferPlannedDone_inRun (hr : inRun s d n c = true) :
    execTransferPlannedDone d n c i s = .next (hodFinish (setHod s d n c i (fun o => { o with planned := true })) d n c i) := if_pos hr

/-- A transfer whose source is at hand moves its rows. -/
theorem hodDone_rows {o : HodOp} {p : Plan} (hr : inRun s d n c = true)
    (ho : (ctxX s d n c).hods.find? (fun o => o.id == i && !o.held && !o.actual) = some o)
    (hp : planOf s d (ctxX s d n c).plan = some p) (hl : (p.hod o.desc).lintel = false)
    (hhere : opKind (p.hod o.desc).src ≠ 0 → ∀ it, runItem s d (ctxX s d n c).plan = some it → ∀ k < (p.hod o.desc).rows,
      extAway s d it.extents (slotAddr it (opSlot (p.hod o.desc).src) + opOff (p.hod o.desc).src + k * (p.hod o.desc).sstr)
        (p.hod o.desc).rowBytes = false) :
    hodDone s d n c i = afterRows d n c i
      (moveRows s d n c (runItem s d (ctxX s d n c).plan) (p.hod o.desc) (destBlocks p (p.hod o.desc)) 0 (p.hod o.desc).rows) := by
  simp only [hodDone, hr, ho, hp, hl, Bool.not_true, Bool.false_eq_true, if_false]
  rw [if_neg]
  · rfl
  · rw [Bool.and_eq_true, decide_eq_true_eq]
    rintro ⟨hk, haway⟩
    cases hit : runItem s d (ctxX s d n c).plan with
    | none => simp only [hit, Bool.false_eq_true] at haway
    | some it =>
      simp only [hit, List.any_eq_true, List.mem_range] at haway
      obtain ⟨k, hlt, hk'⟩ := haway
      exact Bool.false_ne_true ((hhere hk it hit k hlt).symm.trans hk')

/-- A lintel transfer is actually complete once its generation stands in the tag of each of its rows. -/
theorem hodDone_lintel {o : HodOp} {p : Plan} (hr : inRun s d n c = true)
    (ho : (ctxX s d n c).hods.find? (fun o => o.id == i && !o.held && !o.actual) = some o)
    (hp : planOf s d (ctxX s d n c).plan = some p) (hl : (p.hod o.desc).lintel = true) :
    hodDone s d n c i = if lintelIn s p o then hodActual s d n c i else s := by
  simp only [hodDone, hr, ho, hp, hl, Bool.not_true, Bool.false_eq_true, if_false, if_true, hodActual]

/-! ### The producer's release count -/

/-- LINTEL_RELEASE_ARRIVE raises the count seen, up to what the consumer has released. -/
theorem execLintelReleaseArrive_inRun {count : BitVec 20} {p : Plan} (hp : planOf s d (ctxX s d n c).plan = some p)
    (hr : inRun s d n c = true) :
    execLintelReleaseArrive d n c i count s = .next (setCtxX s d n c { ctxX s d n c with
      rel := tset natDef (ctxX s d n c).rel i (max (tget natDef (ctxX s d n c).rel i) (min count.toNat (released s p i))) }) := by
  simp only [execLintelReleaseArrive, hp, hr, if_true]

/-- LINTEL_ISSUE_START lets go the held issues whose generation the count admits. -/
theorem execLintelIssueStart_inRun {p : Plan} (hp : planOf s d (ctxX s d n c).plan = some p) (hr : inRun s d n c = true) :
    execLintelIssueStart d n c i s = .next (setCtxX s d n c { ctxX s d n c with
      hods := (ctxX s d n c).hods.map (fun o =>
        if (o.desc == i && o.held && decide (o.gen ≤ p.depth + tget natDef (ctxX s d n c).rel i)) = true then { o with held := false }
        else o) }) := by
  simp only [execLintelIssueStart, hp, hr, if_true]

end

/-! ### Rows that arrive -/

/-- A lintel tag awaits generation `g`: it holds the one `depth` before it, or 0 for the first ones (05 R139). -/
abbrev tagAwaits (s : State) (p : Plan) (d n i g : Nat) : Prop :=
  (g ≤ p.depth ∧ fget s (Reg.BLK_LINTEL_TAG d n i) 0 20 = 0) ∨
    (p.depth < g ∧ fget s (Reg.BLK_LINTEL_TAG d n i) 0 20 = g - p.depth)

/-- Where a row of a lintel goes in its consumer's scratchpad. -/
abbrev HodDesc.lintelDst (h : HodDesc) (slot row : Nat) : Nat := opOff h.dst + (slot * h.rows + row) * h.dstr

/-- The context of a lintel's producer. -/
abbrev Plan.producer (p : Plan) (h : HodDesc) : Nat × Nat := p.phys (p.run h.run).src.2

/-- The source of a lintel's row is at hand: in the producer's scratchpad, or in memory of no absent Keystone. -/
abbrev rowHere (s : State) (d : Nat) (p : Plan) (h : HodDesc) (row : Nat) : Prop :=
  opKind h.src = 0 ∨ ∃ it, runItem s d p.handle = some it ∧
    extAway s d it.extents (slotAddr it (opSlot h.src) + opOff h.src + row * h.sstr) h.rowBytes = false

/-- A row as its producer read it, stored for generation `g` with its tag and counter following; one that cannot be read stops the
producer `b` (05 R139). -/
def storeRow (d n c i g : Nat) (h : HodDesc) (dst : Nat) (b : Nat × Nat) : Row → State
  | .ok t bs =>
    let v := fset (fset (memWriteAt t (spadAddr d n dst) bs) (Reg.BLK_LINTEL_TAG d n i) 0 20 g) (Reg.BLK_LINTEL_TAG d n i) 20 4 h.sigCtr
    setCtxX v d n c ((ctxX v d n c).count h.sigCtr 1)
  | .stop t => t
  | .bad t r => halt t d b.1 b.2 r.1 r.2

section
variable {d : Die} {n : Blk} {i : Fin 64} {g : BitVec 20} {c desc slot row : Nat} {p : Plan} {s : State}

/-- A row of another generation than the awaited one is OVERRUN 0x53. -/
theorem execLintelRowArrive_overrun (ht : tagCtx s d n i = some (c, p, desc, slot, row)) (hg : ¬ tagAwaits s p d n i g.toNat) :
    execLintelRowArrive d n i g s = .next (raise (halt s d n c Rsn.OVERRUN 0x53)
      ⟨d, Rsn.OVERRUN, 0x53, 1, 0, d + 8 * n, blockData s d n c ((p.hod desc).lintelDst slot row / 256), .block d n⟩ false) := by
  simp only [execLintelRowArrive, ht]
  exact if_neg hg

/-- A row that its producer has not sent moves nothing. -/
theorem execLintelRowArrive_unsent (ht : tagCtx s d n i = some (c, p, desc, slot, row)) (hg : tagAwaits s p d n i g.toNat)
    (hsent : rowSent s p desc g.toNat slot row = false) : execLintelRowArrive d n i g s = .next s := by
  simp only [execLintelRowArrive, ht, if_pos hg, hsent, Bool.not_false, Bool.true_or, if_true]

/-- A source at hand is not away. -/
theorem not_rowAway {h : HodDesc} (hhere : rowHere s d p h row) :
    (decide (opKind h.src ≠ 0) && (runItem s d p.handle).any (fun it =>
      extAway s d it.extents (slotAddr it (opSlot h.src) + opOff h.src + row * h.sstr) h.rowBytes)) = false := by
  obtain hspad | ⟨it, hit, haway⟩ := hhere
  · simp only [hspad, ne_eq, not_true, decide_false, Bool.false_and]
  · simp only [hit, Option.any_some, haway, Bool.and_false]

/-- A sent row that the regions refuse is recorded and halts its producer. -/
theorem execLintelRowArrive_denied {r : Nat × Nat × Nat} (ht : tagCtx s d n i = some (c, p, desc, slot, row))
    (hg : tagAwaits s p d n i g.toNat) (hsent : rowSent s p desc g.toNat slot row = true) (hhere : rowHere s d p (p.hod desc) row)
    (ha : accCheck s d n 4 0 1 ((p.hod desc).lintelDst slot row) (p.hod desc).rowBytes = some r) :
    execLintelRowArrive d n i g s = .next (halt (recordViol s d n 4 0 1 r.2.1 r.2.2) d (p.producer (p.hod desc)).1
      (p.producer (p.hod desc)).2 r.1 r.2.1) := by
  simp only [execLintelRowArrive, ht, if_pos hg, hsent, not_rowAway hhere, ha, Bool.not_true, Bool.or_self, Bool.false_eq_true, if_false]

/-- A sent row that the regions grant is read and stored. -/
theorem execLintelRowArrive_granted (ht : tagCtx s d n i = some (c, p, desc, slot, row)) (hg : tagAwaits s p d n i g.toNat)
    (hsent : rowSent s p desc g.toNat slot row = true) (hhere : rowHere s d p (p.hod desc) row)
    (ha : accCheck s d n 4 0 1 ((p.hod desc).lintelDst slot row) (p.hod desc).rowBytes = none) :
    execLintelRowArrive d n i g s = .next (storeRow d n c i g.toNat (p.hod desc) ((p.hod desc).lintelDst slot row)
      (p.producer (p.hod desc)) (rowRead s d (p.producer (p.hod desc)).1 (p.producer (p.hod desc)).2 (runItem s d p.handle)
        (p.hod desc).src (row * (p.hod desc).sstr) (p.hod desc).rowBytes)) := by
  simp only [execLintelRowArrive, ht, if_pos hg, hsent, not_rowAway hhere, ha, Bool.not_true, Bool.or_self, Bool.false_eq_true, if_false]
  cases rowRead s d (p.producer (p.hod desc)).1 (p.producer (p.hod desc)).2 (runItem s d p.handle) (p.hod desc).src
    (row * (p.hod desc).sstr) (p.hod desc).rowBytes <;> rfl

end

/-- Settles O21: each clause is the case of the command's equation that its hypotheses choose. -/
theorem transfersComplete : Obligations.TransfersComplete := by
  refine ⟨?planned, ?moved, ?released, ?started, ?overrun, ?stored, ?lintel, ?denied, ?unsent⟩
  case planned =>
    intro d n c i s hr
    rw [exec_transferPlannedDone, execTransferPlannedDone_inRun hr]
  case moved =>
    intro d n c i o p s hr ho hp hl hhere
    rw [exec_hodDone, execHodDone, hodDone_rows hr ho hp hl hhere]
    rfl
  case released =>
    intro d n c i count p s hp hr
    rw [exec_lintelReleaseArrive, execLintelReleaseArrive_inRun hp hr]
  case started =>
    intro d n c i p s hp hr
    exact execLintelIssueStart_inRun hp hr
  case overrun =>
    intro d n i g c desc slot row p s ht hg
    exact execLintelRowArrive_overrun ht hg
  case stored =>
    intro d n i g c desc slot row p s ht hg hsent hhere ha
    rw [exec_lintelRowArrive, execLintelRowArrive_granted ht hg hsent hhere ha]
    rfl
  case lintel =>
    intro d n c i o p s hr ho hp hl
    rw [exec_hodDone, execHodDone, hodDone_lintel hr ho hp hl]
    rfl
  case denied =>
    intro d n i g c desc slot row p r s ht hg hsent hspad ha
    exact execLintelRowArrive_denied ht hg hsent (.inl hspad) ha
  case unsent =>
    intro d n i g c desc slot row p s ht hg hsent
    rw [exec_lintelRowArrive, execLintelRowArrive_unsent ht hg hsent]

end Sys2Proof.Machine
end

section
/-! PROOFS. The start and the completion of accepted items (04 R125, R127, 09 R241, R247, R249). -/

namespace Sys2Proof.Machine

/-! ### An item put back leaves registers, contexts and the ledger -/

section
variable (s : State) (it : Item) (d n c : Nat)

@[simp] theorem inRun_putItem : inRun (putItem s it) d n c = inRun s d n c := rfl

@[simp] theorem ctxState_putItem : ctxState (putItem s it) d n c = ctxState s d n c := rfl

@[simp] theorem courseStalled_putItem : courseStalled (putItem s it) d c = courseStalled s d c := rfl

end

/-! ### Begin and end -/

section
variable {s : State} {it : Item}

/-- An UNLOAD, ABORT, FENCE, GROUP_CLOSE, BED, UNBED or ADOPT is marked as started and does nothing more when it begins. -/
theorem itemStart_plain (h : it.opcode = 4 ∨ it.opcode = 5 ∨ it.opcode = 8 ∨ it.opcode = 0x2E ∨ it.opcode = 0x31 ∨ it.opcode = 0x32 ∨
    it.opcode = 0x34) : itemStart s it = putItem s { it with started := true } := by
  have hfoot : onFooting it = false := by
    simp only [onFooting, Bool.or_eq_false_iff, beq_eq_false_iff_ne]
    omega
  unfold itemStart
  rw [hfoot, if_neg (by omega), if_neg (by simp only [Bool.false_eq_true, or_false]; omega), if_neg (by omega), if_neg (by omega),
    if_neg (by omega), if_neg (by omega), if_neg (by omega), if_neg (by omega)]

/-- A FENCE ends once nothing accepted before it remains. -/
theorem itemComplete_fence (ho : it.opcode = 8) (hmet : fenceMet s it = true) : itemComplete s it = endItem s it 0 0 := by
  simp only [itemComplete, ho, hmet, if_true]

/-- An UNLOAD removes its plan and ends. -/
theorem itemComplete_unload (ho : it.opcode = 4) : itemComplete s it = endItem (unloadPlan s it.die it.obj) it 0 0 := by
  simp only [itemComplete, ho, unloadDone]

/-- A MOVE that reads no memory of an absent Keystone copies its rows and ends. -/
theorem itemComplete_move (ho : it.opcode = 1) (hw : itemWaits s it = false) : itemComplete s it = moveDone drainRegs s it := by
  simp only [itemComplete, ho, hw, Bool.false_eq_true, if_false]

end

/-! ### The commands -/

section
variable {d : Die} {r : Ring} {seq : W32} {it : Item} {s : State}

/-- ITEM_START of an item whose start has come, on a die in service and off a stalled stack, begins it. -/
theorem execItemStart_due (hf : findItem s d r seq.toNat = some it) (hdue : it.started = false ∧ it.start ≤ ctl s d)
    (hin : outOf s d = false) (hfree : startStalled s it = false) : execItemStart d r seq s = .next (itemStart s it) := by
  simp only [execItemStart, hf, hdue.1, hin, hfree, decide_eq_false (not_lt.mpr hdue.2), Bool.or_self, Bool.false_eq_true, if_false]

/-- ITEM_COMPLETE of a started item on a die in service completes it. -/
theorem execItemComplete_started (hf : findItem s d r seq.toNat = some it) (hs : it.started = true) (hin : outOf s d = false) :
    execItemComplete d r seq s = .next (itemComplete s it) := by
  simp only [execItemComplete, hf, hs, hin, Bool.not_true, Bool.or_self, Bool.false_eq_true, if_false]

/-- LOAD_DIGEST_DONE of the die's oldest load, started and reading no memory of an absent Keystone, takes its checks. -/
theorem execLoadDigestDone_oldest (hf : findItem s d r seq.toNat = some it) (hload : it.opcode = 3 ∧ it.started = true)
    (hw : itemWaits s it = false)
    (hfirst : (s.items.find? (fun i => i.die == d.val && i.opcode == 3)).map (fun i => (i.ring, i.seq)) = some (r.val, seq.toNat)) :
    execLoadDigestDone d r seq s = .next (loadEnd s it) := by
  simp only [execLoadDigestDone, hf, hload.1, hload.2, hw, hfirst, ne_eq, not_true, Bool.not_true, Bool.false_eq_true, or_self, if_false]

/-- The Blocks of a placed plan are quiet: no context of them is in a run, the plan's own are READY, and no Course is stalled (04 R127). -/
def Plan.quiet (q : Plan) (s : State) (d : Nat) : Prop :=
  ∀ b ∈ q.place, (∀ c < 4, inRun s d b.1 c = false) ∧ ctxState s d b.1 b.2 = 2 ∧ courseStalled s d (b.1 / 18) = false

/-- RUN_START evaluates quietness as a test over the placement. -/
theorem Plan.quiet_iff (q : Plan) (s : State) (d : Nat) :
    q.quiet s d ↔ q.place.all (fun b => (List.range 4).all (fun c => !inRun s d b.1 c) && ctxState s d b.1 b.2 == 2 &&
      !courseStalled s d (b.1 / 18)) = true := by
  simp only [Plan.quiet, List.all_eq_true, List.mem_range, Bool.and_eq_true, Bool.not_eq_true', beq_iff_eq, and_assoc]

/-- What a RUN's start leaves in a state `u` with its plan placed as `q`: its contexts in a run, its run counted, and itself started. -/
def startRun (u : State) (q : Plan) (d : Nat) (j : Item) : State :=
  putItem (putPlan (q.place.foldl (fun s b => startCtx s d b.1 b.2) (putItem u j)) { q with runNo := q.runNo + 1 })
    { j with started := true }

/-- RUN_START of a run whose start has come, and whose plan is placed on quiet Blocks, starts its contexts. -/
theorem execRunStart_quiet {p q : Plan} {u : State} (hf : findItem s d r seq.toNat = some it)
    (hrun : it.opcode = 2 ∧ it.started = false ∧ it.start ≤ ctl s d) (hp : planOf s d it.obj = some p)
    (hplace : replacePlan s p (runFree (s.withItems (s.items.filter (fun i => ¬ (i.die = it.die ∧ i.ring = it.ring ∧ i.seq = it.seq)))) d
      it.start (ceilDiv p.cycles 2)) = some (u, q))
    (hquiet : q.quiet u d) :
    execRunStart d r seq s = .next (startRun u q d (rebook it d (p.place.map (·.1)) (q.place.map (·.1)))) := by
  obtain ⟨hop, hwaiting, hdue⟩ := hrun
  have hgo : ¬ (it.opcode ≠ 2 ∨ it.started = true ∨ ctl s d < it.start) := by
    simp only [hop, hwaiting, not_lt.mpr hdue, ne_eq, not_true, Bool.false_eq_true, or_self, not_false_eq_true]
  simp only [execRunStart, hf, if_neg hgo, hp, hplace, inRun_putItem, ctxState_putItem, courseStalled_putItem, (q.quiet_iff u d).mp hquiet,
    Bool.not_true, Bool.false_eq_true, if_false, startRun]

/-- RUN_END of a run whose contexts have all executed end ends it. -/
theorem execRunEnd_ended {p : Plan} (hf : findItem s d r seq.toNat = some it) (hp : planOf s d it.obj = some p)
    (hrun : it.opcode = 2 ∧ it.started = true)
    (hend : p.place.all (fun b => (ctxX s d b.1 b.2).ended && !inRun s d b.1 b.2) = true) :
    execRunEnd d r seq s = .next (endItem s it 0 0) := by
  simp only [execRunEnd, hf, hp]
  exact if_pos ⟨hrun.1, hrun.2, hend⟩

end

/-- Settles O34: each clause is the case of the command's equation that its hypotheses choose. -/
theorem itemsBeginAndEnd : Obligations.ItemsBeginAndEnd := by
  refine ⟨?start, ?begin, ?complete, ?fence, ?unload, ?move, ?load, ?runStart, ?runEnd⟩
  case start =>
    intro d r seq it s hf hdue hin hfree
    rw [exec_itemStart, execItemStart_due hf hdue hin hfree]
  case begin =>
    intro it s ho
    exact itemStart_plain ho
  case complete =>
    intro d r seq it s hf hs hin
    rw [exec_itemComplete, execItemComplete_started hf hs hin]
  case fence =>
    intro it s ho hmet
    exact itemComplete_fence ho hmet
  case unload =>
    intro it s ho
    exact itemComplete_unload ho
  case move =>
    intro it s ho hw
    exact itemComplete_move ho hw
  case load =>
    intro d r seq it s hf hload hw hfirst
    rw [exec_loadDigestDone, execLoadDigestDone_oldest hf hload hw hfirst]
  case runStart =>
    intro d r seq it p q u s hf hrun hp hplace hquiet
    exact execRunStart_quiet hf hrun hp hplace hquiet
  case runEnd =>
    intro d r seq it p s hf hp hrun hend
    rw [exec_runEnd, execRunEnd_ended hf hp hrun hend]

end Sys2Proof.Machine
end

section
/-! PROOFS. The populated sizes of the stacks and the striped view over them (06 R155, R157; 10 R251). -/

namespace Sys2Proof.Machine

/-- A field of `n` bits holds less than `2 ^ n`. -/
theorem fget_lt (s : State) (a lo n : Nat) : fget s a lo n < 2 ^ n := BitVec.isLt _

/-! ### Populated sizes -/

/-- R155 in units of a local index across the 64 pseudo-channels: 16 KiB for each of (1,152 - 18k) * 4,096 indexes. -/
theorem stackSize_eq (s : State) (h : Nat) :
    stackSize s h = localCount (fget s (Reg.FTG_HBM_STATUS (8 + h)) 0 2) * 16384 := by
  have hk := fget_lt s (Reg.FTG_HBM_STATUS (8 + h)) 0 2
  unfold stackSize localCount
  omega

/-- No stack holds more than 72 GiB. -/
theorem stackSize_le (s : State) (h : Nat) : stackSize s h ≤ 77309411328 := Nat.sub_le _ _

/-- The least of a list and a start value is the start value or an element, and no element is below it. -/
theorem foldl_min_isLeast (l : List Nat) (a : Nat) :
    (l.foldl min a = a ∨ l.foldl min a ∈ l) ∧ l.foldl min a ≤ a ∧ ∀ x ∈ l, l.foldl min a ≤ x := by
  induction l generalizing a with
  | nil => simp
  | cons y ys ih =>
    obtain ⟨hmem, hle, hall⟩ := ih (min a y)
    rw [List.foldl_cons]
    grind

/-- S_min is at most every stack's size. -/
theorem stackMin_le (s : State) {h : Nat} (hh : h < 12) : stackMin s ≤ stackSize s h :=
  (foldl_min_isLeast _ _).2.2 _ (List.mem_map_of_mem (List.mem_range.mpr hh))

/-- S_min is the size of one of the stacks: 72 GiB, where the comparison starts, is no less than any of them. -/
theorem stackMin_attained (s : State) : ∃ h < 12, stackMin s = stackSize s h := by
  obtain hstart | hmem := (foldl_min_isLeast ((List.range 12).map (stackSize s)) 77309411328).1
  · exact ⟨0, by decide, le_antisymm (stackMin_le s (by decide)) ((stackSize_le s 0).trans_eq hstart.symm)⟩
  · obtain ⟨h, hh, he⟩ := List.mem_map.mp hmem
    exact ⟨h, List.mem_range.mp hh, he.symm⟩

/-- S_min is a whole number of pages, and the striped view ends inside its row of the map. -/
theorem stackMin_pages (s : State) : stackMin s % 4096 = 0 ∧ 12 * stackMin s ≤ 0xD800000000 := by
  obtain ⟨h, -, he⟩ := stackMin_attained s
  have hle := stackSize_le s h
  have hsize := stackSize_eq s h
  omega

/-! ### The rows of the map that hold HBM -/

/-- A per-stack window holds its stack's bytes in order. -/
theorem place_window (s : State) {h x : Nat} (hh : h < 12) (hx : x < 0x2000000000) :
    place s (0x100000000000 + h * 0x2000000000 + x) = .hbm h x := by
  have hoff : 0x100000000000 + h * 0x2000000000 + x - 0x100000000000 = x + 0x2000000000 * h := by omega
  unfold place
  rw [if_neg (by omega), if_pos (by omega), hoff, Nat.add_mul_div_left _ _ (by decide), Nat.div_eq_of_lt hx, Nat.zero_add,
    Nat.add_mul_mod_self_left, Nat.mod_eq_of_lt hx]

/-- In the row of the striped view, a byte within its span is one of the stack its page falls to, and one past it is none. -/
theorem place_striped (s : State) {o : Nat} (ho : o < 0xD800000000) :
    place s (0x1C0000000000 + o) =
      if o < 12 * stackMin s then .hbm (o / 4096 % 12) (o / 4096 / 12 * 4096 + o % 4096) else .beyond := by
  unfold place
  rw [if_neg (by omega), if_neg (by omega), if_pos (by omega)]
  simp only [Nat.add_sub_cancel_left]

/-- Page `t` of the view is page `t / 12` of stack `t % 12`: the offsets below S_min of every stack are reached. -/
theorem place_striped_onto (s : State) {h x : Nat} (hh : h < 12) (hx : x < stackMin s) :
    ∃ o < 12 * stackMin s, place s (0x1C0000000000 + o) = .hbm h x := by
  obtain ⟨hpages, hrow⟩ := stackMin_pages s
  obtain ⟨o, ho⟩ : ∃ o, o = (x / 4096 * 12 + h) * 4096 + x % 4096 := ⟨_, rfl⟩
  have hin : o < 12 * stackMin s := by omega
  have hstack : o / 4096 % 12 = h := by omega
  have hoff : o / 4096 / 12 * 4096 + o % 4096 = x := by omega
  refine ⟨o, hin, ?_⟩
  rw [place_striped s (hin.trans_le hrow), if_pos hin, hstack, hoff]

/-- What refuses an access that begins in the row of the striped view: CFG_RANGE 0x60, when it begins or runs past the span. -/
theorem physCheck_striped (s : State) (priv : Bool) {o n : Nat} (ho : o < 0xD800000000) (hn : 0 < n) :
    physCheck s priv (0x1C0000000000 + o) n = if o + n ≤ 12 * stackMin s then none else some (Rsn.CFG_RANGE, 0x60) := by
  have hplace := place_striped s ho
  unfold physCheck
  by_cases hin : o < 12 * stackMin s
  · rw [hplace, if_pos hin]
    dsimp only
    rw [if_neg (by omega), Nat.add_sub_cancel_left]
  · rw [hplace, if_neg hin]
    exact (if_neg (by omega)).symm

/-- Settles O55: the rows of the map and the physical check, with S_min attained and a whole number of pages. -/
theorem stripedView : Obligations.StripedView := by
  refine ⟨?least, ?byte, ?admitted, ?refused, ?onto, ?window, ?worked⟩
  case least => exact fun s => ⟨fun h hh => stackMin_le s hh, stackMin_attained s⟩
  case byte =>
    intro s o ho
    obtain ⟨hpages, hrow⟩ := stackMin_pages s
    rw [Nat.shiftRight_eq_div_pow, Nat.and_two_pow_sub_one_eq_mod o 12]
    exact ⟨(place_striped s (by omega)).trans (if_pos ho), by omega⟩
  case admitted =>
    intro s priv o n hn hin
    obtain ⟨-, hrow⟩ := stackMin_pages s
    rw [physCheck_striped s priv (by omega) hn, if_pos hin]
  case refused =>
    intro s priv o n ho hn hout
    rw [physCheck_striped s priv ho hn, if_neg (not_le.mpr hout)]
  case onto => exact fun s h x hh hx => place_striped_onto s hh hx
  case window => exact fun s h x hh hx => place_window s hh hx
  case worked =>
    intro s hk
    obtain ⟨h, hh, he⟩ := stackMin_attained s
    rw [he, stackSize_eq, hk h hh]
    decide

end Sys2Proof.Machine
end

section
/-! PROOFS. Granules and pseudo-channels (06 R156), and where the relocation of R163 puts the indexes of a retired pseudo-channel. -/

namespace Sys2Proof.Machine

/-! ### The swizzle -/

/-- What the 64 granules of a local index have in common: the number their place among the 64 is xored with. -/
def pcMask (L : Nat) : Nat := (L ^^^ (L / 64)) % 64

/-- The granule with place `a` among the 64 of local index `L` lies in pseudo-channel `a ^ pcMask L`. -/
theorem granulePc_at (L : Nat) {a : Nat} (ha : a < 64) : granulePc (64 * L + a) = (a ^^^ pcMask L, L) := by
  have hrow : (64 * L + a) / 64 = L := by omega
  have hpage : (64 * L + a) / 4096 = L / 64 := by omega
  have hplace : (64 * L + a) % 2 ^ 6 = a := by omega
  have hlt : a ^^^ pcMask L < 2 ^ 6 := Nat.xor_lt_two_pow ha (Nat.mod_lt _ (by decide))
  have hmask : pcMask L % 2 ^ 6 = (L ^^^ (L / 64)) % 2 ^ 6 := Nat.mod_mod _ _
  rw [granulePc, hrow, hpage, Nat.xor_assoc, Prod.mk.injEq]
  refine ⟨?_, rfl⟩
  calc (64 * L + a ^^^ (L ^^^ L / 64)) % 2 ^ 6
      = (64 * L + a) % 2 ^ 6 ^^^ (L ^^^ L / 64) % 2 ^ 6 := Nat.xor_mod_two_pow
    _ = a % 2 ^ 6 ^^^ pcMask L % 2 ^ 6 := by rw [hplace, hmask, Nat.mod_eq_of_lt (show a < 2 ^ 6 from ha)]
    _ = (a ^^^ pcMask L) % 2 ^ 6 := Nat.xor_mod_two_pow.symm
    _ = a ^^^ pcMask L := Nat.mod_eq_of_lt hlt

/-- Every pseudo-channel has a granule of every local index: its number xored with the same mask is the place. -/
theorem granulePc_onto (L : Nat) {pc : Nat} (hpc : pc < 64) : ∃ a < 64, granulePc (64 * L + a) = (pc, L) := by
  have ha : pc ^^^ pcMask L < 64 := Nat.xor_lt_two_pow (n := 6) hpc (Nat.mod_lt _ (by decide))
  refine ⟨_, ha, ?_⟩
  rw [granulePc_at L ha, Nat.xor_assoc, Nat.xor_self, Nat.xor_zero]

/-! ### Populated local indexes -/

/-- The last local index below the reserve. -/
theorem localCount_sub_one (k : Nat) : (1152 - 18 * k) * 1048576 / 256 - 1 = localCount k - 1 := by
  unfold localCount
  omega

/-- A byte is populated when the local index of its granule is below the reserve. -/
theorem lt_stackSize_iff (s : State) (h o : Nat) :
    o < stackSize s h ↔ (granulePc (o >>> 8)).2 < localCount (fget s (Reg.FTG_HBM_STATUS (8 + h)) 0 2) := by
  rw [stackSize_eq, granulePc, Nat.shiftRight_eq_div_pow]
  omega

/-- The reserve is a part of the pseudo-channel: some local indexes are below it. -/
theorem localCount_pos (s : State) (h : Nat) : 0 < localCount (fget s (Reg.FTG_HBM_STATUS (8 + h)) 0 2) := by
  have hk := fget_lt s (Reg.FTG_HBM_STATUS (8 + h)) 0 2
  unfold localCount
  omega

/-! ### The first retirement -/

/-- The survivors of the first retirement are the other 63 pseudo-channels. -/
theorem survivors_first {r : Nat} (hr : r < 64) :
    (survivors [r] 0).length = 63 ∧ ∀ p ∈ survivors [r] 0, p ≠ r ∧ p < 64 := by
  have herase : survivors [r] 0 = (List.range 64).erase r := by
    rw [List.Nodup.erase_eq_filter List.nodup_range, survivors]
    congr 1
    funext p
    simp only [List.take_succ_cons, List.take_zero, List.contains_cons, List.contains_nil, Bool.or_false, bne]
  rw [herase, List.length_erase_of_mem (List.mem_range.mpr hr), List.length_range]
  refine ⟨rfl, fun p hp => ?_⟩
  rwa [List.Nodup.mem_erase_iff List.nodup_range, List.mem_range] at hp

/-- The indexes of the first retired pseudo-channel go round its survivors, one reserve row after another. -/
theorem physIndex_first (k r l : Nat) :
    physIndex k [r] r l = ((survivors [r] 0).getD (l % (survivors [r] 0).length) 0, localCount k + l / (survivors [r] 0).length) := by
  simp only [physIndex, if_pos]

/-- Settles O56: the swizzle is a xor with a mask of the local index, and the 63 survivors' reserve rows hold what one pseudo-channel held. -/
theorem pseudoChannels : Obligations.PseudoChannels := by
  refine ⟨?swizzle, ?different, ?every, ?below, ?populated, ?moved⟩
  case swizzle =>
    intro g
    rw [Nat.shiftRight_eq_div_pow, Nat.shiftRight_eq_div_pow, Nat.and_two_pow_sub_one_eq_mod _ 6]
    rfl
  case different =>
    intro L a b ha hb h
    rw [granulePc_at L ha, granulePc_at L hb, Prod.mk.injEq] at h
    exact Nat.xor_left_injective h.1
  case every => exact fun L pc hpc => granulePc_onto L hpc
  case below =>
    intro s h o ho
    rw [localCount_sub_one]
    exact Nat.le_sub_one_of_lt ((lt_stackSize_iff s h o).mp ho)
  case populated =>
    intro s h pc L hpc hL
    rw [localCount_sub_one] at hL
    obtain ⟨a, ha, hg⟩ := granulePc_onto L hpc
    have hgranule : ((64 * L + a) * 256) >>> 8 = 64 * L + a := by
      rw [Nat.shiftRight_eq_div_pow]
      omega
    refine ⟨(64 * L + a) * 256, (lt_stackSize_iff s h _).mpr ?_, by rw [hgranule, hg]⟩
    rw [hgranule, hg]
    exact Nat.lt_of_le_sub_one (localCount_pos s h) hL
  case moved =>
    intro k r l hk1 hk2 hr hl
    obtain ⟨hlen, hother⟩ := survivors_first hr
    have hturn : l % 63 < (survivors [r] 0).length := hlen.symm ▸ Nat.mod_lt l (by decide : 0 < 63)
    rw [physIndex_first, hlen, List.getD_eq_getElem _ _ hturn]
    obtain ⟨hne, hlt⟩ := hother _ (List.getElem_mem hturn)
    refine ⟨hne, hlt, Nat.le_add_right _ _, ?_⟩
    dsimp only [localCount]
    omega

end Sys2Proof.Machine
end

section
/-! PROOFS. Reads after writes of memory (06 R159), and the coherent ones where every line's newest data is in memory (11 R280, R284). -/

namespace Sys2Proof.Machine

/-! ### Bytes of a memory -/

/-- A byte outside what is written reads as before. -/
theorem rdByte_wrBytes_outside (m : List Host.Cell) {a x : Nat} (bs : List Byte) (hx : x < a ∨ a + bs.length ≤ x) :
    rdByte (wrBytes m a bs) x = rdByte m x := by
  induction bs generalizing m a with
  | nil => rfl
  | cons b bs ih =>
    rw [List.length_cons] at hx
    rw [wrBytes, ih _ (by omega)]
    exact tget_tset_ne _ _ _ (by omega)

/-- A byte written reads as written. -/
theorem rdByte_wrBytes_inside (m : List Host.Cell) (a : Nat) (bs : List Byte) {i : Nat} (hi : i < bs.length) :
    rdByte (wrBytes m a bs) (a + i) = bs.getD i 0 := by
  induction bs generalizing m a i with
  | nil => exact absurd hi (Nat.not_lt_zero i)
  | cons b bs ih =>
    cases i with
    | zero =>
      rw [wrBytes, rdByte_wrBytes_outside _ _ (.inl (by omega))]
      exact tget_tset_same _ _ _ _
    | succ i =>
      rw [wrBytes, show a + (i + 1) = a + 1 + i by omega, ih _ _ (Nat.lt_of_succ_lt_succ hi), List.getD_cons_succ]

/-- A mark outside the units written whole stays. -/
theorem mem_clearPoison {p : List Nat} {u a len : Nat} (hu : u ∈ p)
    (hpart : u < a ∨ a + len < u + (if 0xE00000000000 ≤ u then 8 else 32)) : u ∈ clearPoison p a len := by
  refine List.mem_filter.mpr ⟨hu, ?_⟩
  simp only [decide_eq_true_eq, not_and_or, not_le]
  exact hpart

/-! ### Nothing in flight -/

/-- No agent holds a line, no data is on its way and no request is under way or waits: the newest data of every line is in memory. -/
structure State.AllInMemory (s : State) : Prop where
  copies : s.copies = []
  txns : s.txns = []
  wbs : s.wbs = []
  resps : s.resps = []
  waitq : s.waitq = []

/-- A coherent read then reads memory. -/
theorem State.AllInMemory.cohByte_eq {s : State} (hs : s.AllInMemory) (x : Nat) : cohByte s x = rdByte s.mem x := by
  obtain ⟨hcopies, htxns, hwbs, hresps, hwaitq⟩ := hs
  simp only [cohByte, pendingReqs, dirtyData, hcopies, htxns, hwbs, hresps, hwaitq, List.filter_nil, List.filterMap_nil,
    List.append_nil, List.isEmpty_nil, if_true, List.find?_nil, Option.map_none, Option.bind_none, Option.orElse_eq_orElse,
    Option.orElse_eq_or, Option.or_none]

/-- Updating DIR_USE changes registers alone. -/
theorem dirUses_withRegs (s : State) (es : List DirEnt) (v : Tab W32) : (dirUses s es).withRegs v = s.withRegs v := by
  unfold dirUses
  exact foldl_keeps (fun t : State => t.withRegs v) fun _ _ => rfl

/-- A recall with nothing in flight finds at most directory entries: beside these and the registers that count them the state is as before. -/
theorem State.AllInMemory.dropLines_frame {s : State} (hs : s.AllInMemory) (l n : Nat) :
    ((dropLines s l n).withRegs []).withDir [] = (s.withRegs []).withDir [] := by
  obtain ⟨hcopies, htxns, hwbs, hresps, hwaitq⟩ := hs
  unfold dropLines
  extract_lets
  split
  · rfl
  · rw [dirUses_withRegs]
    cases s
    cases hcopies; cases htxns; cases hwbs; cases hresps; cases hwaitq
    rfl

/-- With no directory entry a recall with nothing in flight changes nothing. -/
theorem State.AllInMemory.dropLines_eq_self {s : State} (hs : s.AllInMemory) (hdir : s.dir = []) (l n : Nat) :
    dropLines s l n = s := by
  simp only [dropLines, hs.copies, hs.txns, hs.wbs, hs.resps, hs.waitq, hdir, List.any_nil, Bool.or_false, Bool.not_false,
    if_true]

/-- A non-caching agent's write then is a write of memory that clears the marks of the units it covers; nothing is in flight after it, and the
items and the queue stay. -/
theorem State.AllInMemory.memWriteAt_frame {s : State} (hs : s.AllInMemory) (a : Nat) (bs : List Byte) :
    let t := memWriteAt s a bs
    t.AllInMemory ∧ t.mem = wrBytes s.mem a bs ∧ t.poison = clearPoison s.poison a bs.length ∧ t.items = s.items ∧
      t.pending = s.pending := by
  have hdrop := hs.dropLines_frame (a / 128) ((a % 128 + bs.length - 1) / 128)
  have hflight : (memWriteAt s a bs).AllInMemory :=
    ⟨(congrArg State.copies hdrop).trans hs.copies, (congrArg State.txns hdrop).trans hs.txns,
      (congrArg State.wbs hdrop).trans hs.wbs, (congrArg State.resps hdrop).trans hs.resps,
      (congrArg State.waitq hdrop).trans hs.waitq⟩
  exact ⟨hflight, (congrArg (fun t => wrBytes (State.mem t) a bs) hdrop :),
    (congrArg (fun t => clearPoison (State.poison t) a bs.length) hdrop :), (congrArg State.items hdrop :),
    (congrArg State.pending hdrop :)⟩

/-- With no directory entry it changes no register either. -/
theorem State.AllInMemory.memWriteAt_regs {s : State} (hs : s.AllInMemory) (hdir : s.dir = []) (a : Nat) (bs : List Byte) :
    (memWriteAt s a bs).regs = s.regs :=
  (congrArg State.regs (hs.dropLines_eq_self hdir (a / 128) ((a % 128 + bs.length - 1) / 128)) :)

/-- Settles O57: a write is a write of memory, one byte after another, and with nothing in flight a coherent read is a read of memory. -/
theorem memoryReadAfterWrite : Obligations.MemoryReadAfterWrite := by
  refine ⟨fun m a i bs hi => rdByte_wrBytes_inside m a bs hi, fun m a x bs hx => rdByte_wrBytes_outside m bs hx,
    fun m a bs hm => twf_wrBytes hm, ?coherent⟩
  case coherent =>
    intro s a bs hcopies htxns hwbs hresps hwaitq
    have hs : s.AllInMemory := ⟨hcopies, htxns, hwbs, hresps, hwaitq⟩
    obtain ⟨ht, hmem, hpoison, hitems, hpending⟩ := hs.memWriteAt_frame a bs
    refine ⟨fun i hi => ?_, fun x hx => ?_, fun u hu hpart => ?_, fun hdir => hs.memWriteAt_regs hdir a bs, hitems, hpending⟩
    · rw [ht.cohByte_eq, hmem, rdByte_wrBytes_inside _ _ _ hi]
    · rw [ht.cohByte_eq, hs.cohByte_eq, hmem, rdByte_wrBytes_outside _ _ hx]
    · rw [hpoison]
      exact mem_clearPoison hu hpart

end Sys2Proof.Machine
end

section
/-! PROOFS. The commands of row repair and of the retirement of pseudo-channels (06 R160-R166). -/

namespace Sys2Proof.Machine

section
variable {h : Stack} {pc bank : Fin 64} {row : Nat} {s : State}

/-! ### Row repair -/

/-- The row may be repaired now: the Footing works, its stack repairs no other, the row is due, and no repair of the stack started in the last
64 periods. -/
def RepairMayStart (s : State) (h : Stack) (row : Nat × Nat × Nat) : Prop :=
  footingUp s h = true ∧ (stackX s h).cur = none ∧ (stackX s h).due.contains row = true ∧
    (stackX s h).last.all (fun p => decide (p + 64 ≤ period s (h / 3))) = true

/-- A row that may be repaired leaves the due ones: it is under repair where its bank has a repair left, else its pseudo-channel retires. -/
theorem execRowRepairStart_due (hd : RepairMayStart s h (pc.val, bank.val, row)) :
    execRowRepairStart h pc bank row s =
      let x := stackX s h
      let i := pc.val * 64 + bank.val
      let rest := x.due.filter (· ≠ (pc.val, bank.val, row))
      if 4 ≤ tget natDef x.used i then .next (autoRetire (setStackX s h { x with due := rest }) h pc)
      else .next (ftgStatus (setStackX s h { x with
        due := rest, cur := some (pc.val, bank.val, row), used := tset natDef x.used i (tget natDef x.used i + 1),
        last := some (period s (h / 3)) }) h) := by
  obtain ⟨hup, hcur, hdue, hopen⟩ := hd
  simp only [execRowRepairStart, hup, hcur, hdue, hopen, Option.isSome_none, Bool.not_true, Bool.or_self, Bool.false_eq_true,
    if_false]

/-- The repair under way ends: its row is seen no more, and DONE 0x6D is recorded at L0. -/
theorem execRowRepairDone_current {k : Nat × Nat × Nat} (hcur : (stackX s h).cur = some k) :
    execRowRepairDone h s =
      let x := stackX s h
      let t := setStackX s h { x with cur := none, seen := x.seen.filter (fun c => (c.1, c.2.1, c.2.2.1) != k) }
      let t := ftgStatus (newCells t h (· == k)) h
      .next (raise t ⟨h / 3, Rsn.DONE, 0x6D, 0, 3, h, stackData 0 k, .footing h⟩ false) := by
  simp only [execRowRepairDone, hcur]

/-! ### Requests -/

/-- A request refused: the reason in LAST_REASON, both codes sent. -/
def retireRefused (s : State) (h : Stack) (reason detail : Nat) : State :=
  emit (fset s (Reg.FTG_RETIRE_CTRL (8 + h)) 16 8 reason) .refusal [reason, detail] []

/-- While BUSY a request is refused with no side effect. -/
theorem execRetireRequest_busy (hw : winOpen s (8 + h)) (hb : bit s (Reg.FTG_RETIRE_CTRL (8 + h)) 31 = true) :
    execRetireRequest h pc s = .next (emit s .refusal [Rsn.STATE, 0x68] []) := by
  unfold execRetireRequest
  rw [viaWin_open hw]
  exact if_pos hb

/-- While not BUSY a request names its pseudo-channel in the register: it must be ACTIVE, the stack not FAULTED, and a reserve free unless
its retirement waits already. -/
theorem execRetireRequest_notBusy (hw : winOpen s (8 + h)) (hb : bit s (Reg.FTG_RETIRE_CTRL (8 + h)) 31 = false) :
    execRetireRequest h pc s =
      let t := fset s (Reg.FTG_RETIRE_CTRL (8 + h)) 0 6 pc
      let x := stackX t h
      if pcState t h pc ≠ 0 then .next (retireRefused t h Rsn.STATE 0x68)
      else if stackFaulted t h then .next (retireRefused t h Rsn.STATE 0x7C)
      else if retiringPc t h pc then
        .next (fset (setStackX t h { x with queue := x.queue.map (fun r => if r.pc = pc.val then { r with reg := true } else r) })
          (Reg.FTG_RETIRE_CTRL (8 + h)) 31 1 1)
      else if reserveFree t h then
        .next (fset (retireAsk t h ⟨pc, false, true, false, []⟩) (Reg.FTG_RETIRE_CTRL (8 + h)) 31 1 1)
      else .next (retireRefused t h Rsn.NOT_SCHEDULABLE 0x62) := by
  unfold execRetireRequest
  rw [viaWin_open hw]
  exact if_neg (Bool.eq_false_iff.mp hb)

/-! ### The copy -/

section
variable {r : Retire}

/-- The copy of the retirement in progress starts when it is forced, or when nothing that began before it is left. -/
theorem execRetireCopyStart_ready (hr : (stackX s h).ret = some r) (hup : footingUp s h = true) (hin : outOf s (h / 3) = false)
    (hready : r.forced = true ∨ r.before.all (fun k => (findItem s k.1 k.2.1 k.2.2).isNone) = true) :
    execRetireCopyStart h s =
      let f := takeFree s
      .next (ftgStatus (fset (setStackX f.2 h { stackX s h with ret := some { r with copying := true } })
        (Reg.FTG_RETIRE_PROGRESS (8 + h)) 0 23 (f.1 % (copyCount s h r.pc + 1))) h) := by
  simp only [execRetireCopyStart, hr, hup, hin, (Bool.or_eq_true _ _).mpr hready, Bool.not_false, Bool.and_self, if_true]

/-- The end of a copy: the pseudo-channel is RETIRED, a request through the register is BUSY no more, and DONE 0x6E is recorded when the
retirement was planned. -/
def retireEnded (s : State) (h : Stack) (r : Retire) : State :=
  let t := fset s (Reg.FTG_RETIRE_PROGRESS (8 + h)) 0 23 (copyCount s h r.pc)
  let t := ftgStatus (retirePc (newCells t h (fun w => w.1 == r.pc)) h r.pc) h
  let t := if r.reg then fset (fset t (Reg.FTG_RETIRE_CTRL (8 + h)) 16 8 0) (Reg.FTG_RETIRE_CTRL (8 + h)) 31 1 0 else t
  if r.forced then t else raise t ⟨h / 3, Rsn.DONE, 0x6E, 0, 3, h, stackData 0 (r.pc, 0, 0), .footing h⟩ false

/-- The retirement queued first begins. -/
def retireNext (s : State) (h : Stack) : State :=
  match (stackX s h).queue with
  | q :: qs => retireBegin (setStackX s h { stackX s h with queue := qs }) h q
  | [] => s

/-- A copy in progress ends, and the retirement queued next begins. -/
theorem execRetireDone_copied (hr : (stackX s h).ret = some r) (hcopying : r.copying = true) (hin : outOf s (h / 3) = false)
    (hup : footingUp s h = true) : execRetireDone h s = .next (retireNext (retireEnded s h r) h) := by
  have hnext : ∀ t : State, (match (stackX t h).queue with
      | q :: qs => .next (retireBegin (setStackX t h { stackX t h with queue := qs }) h q)
      | [] => .next t : Out) = .next (retireNext t h) := by
    intro t
    unfold retireNext
    cases (stackX t h).queue <;> rfl
  simp only [execRetireDone, hr, hcopying, hin, hup, Bool.not_true, Bool.or_self, Bool.false_eq_true, if_false]
  exact hnext (retireEnded s h r)

end

/-- A lane fault on an ON Footing forces the retirement. -/
theorem execHbmLaneFault_on (hon : isOn s (dFooting h) = true) :
    execHbmLaneFault h pc s = .next (forceRetire s h 0 (pc, 0, 0)) := if_pos hon

end

/-- Settles O15: each clause is the case of the command's equation that its hypotheses choose. -/
theorem repairAndRetirementComplete : Obligations.RepairAndRetirementComplete := by
  refine ⟨?repair, ?repaired, ?busy, ?asked, ?copyStart, ?copyDone, ?laneFault, ?notActive, ?faulted, ?noReserve, ?noRepair⟩
  case repair =>
    intro h pc bank row s hup hcur hdue hopen hleft
    rw [exec_rowRepairStart, execRowRepairStart_due ⟨hup, hcur, hdue, hopen⟩]
    exact if_neg hleft
  case repaired =>
    intro h k s hcur
    exact execRowRepairDone_current hcur
  case busy =>
    intro h pc s hw hb
    exact execRetireRequest_busy hw hb
  case asked =>
    intro h pc s hw hb hactive hfault hnew hfree
    rw [exec_retireRequest, execRetireRequest_notBusy hw hb]
    simp only [hactive, hfault, hnew, hfree, ne_eq, not_true, Bool.false_eq_true, if_false, if_true]
  case copyStart =>
    intro h r s hr hup hin hready
    exact execRetireCopyStart_ready hr hup hin hready
  case copyDone =>
    intro h r s hr hcopying hin hup
    exact execRetireDone_copied hr hcopying hin hup
  case laneFault =>
    intro h pc s hon
    exact execHbmLaneFault_on hon
  case notActive =>
    intro h pc s hw hb hstate
    rw [exec_retireRequest, execRetireRequest_notBusy hw hb]
    exact if_pos hstate
  case faulted =>
    intro h pc s hw hb hactive hfault
    rw [exec_retireRequest, execRetireRequest_notBusy hw hb]
    simp only [hactive, hfault, ne_eq, not_true, if_false, if_true]
    rfl
  case noReserve =>
    intro h pc s hw hb hactive hfault hnew hfull
    rw [exec_retireRequest, execRetireRequest_notBusy hw hb]
    simp only [hactive, hfault, hnew, hfull, ne_eq, not_true, Bool.false_eq_true, if_false]
    rfl
  case noRepair =>
    intro h pc bank row s hup hcur hdue hopen hused
    rw [exec_rowRepairStart, execRowRepairStart_due ⟨hup, hcur, hdue, hopen⟩]
    exact if_pos hused

end Sys2Proof.Machine
end

section
/-! PROOFS. The service of a DDR5 socket (06 R170-R173). -/

namespace Sys2Proof.Machine

section
variable {n : Socket} {s : State}

/-! ### The three actions -/

section
variable {f : Nat → Option State}

/-- While BUSY a write of ACTION has no effect. -/
theorem sktAction_busy (hw : winOpen s (4 + n / 3)) (hb : bit s (sktCtrl n) 31 = true) :
    sktAction s n f = .next (emit s .refusal [Rsn.STATE, 0x64] []) := by
  unfold sktAction
  rw [viaWin_open hw]
  exact if_pos hb

/-- While not BUSY a write of ACTION does what the socket's state allows, and shows STATE 0x64 where it allows nothing. -/
theorem sktAction_notBusy (hw : winOpen s (4 + n / 3)) (hb : bit s (sktCtrl n) 31 = false) :
    sktAction s n f = .next ((f (sktState s n)).getD (setRD s (sktCtrl n) 8 Rsn.STATE 0x64)) := by
  unfold sktAction
  rw [viaWin_open hw, hb, if_neg Bool.false_ne_true]
  cases f (sktState s n) <;> rfl

end

/-- Evacuating a socket needs it ONLINE and every other ONLINE or EMPTY. -/
theorem execSktEvacuate_notBusy (hw : winOpen s (4 + n / 3)) (hb : bit s (sktCtrl n) 31 = false) :
    execSktEvacuate n s = .next (
      if sktState s n = 1 ∧ (List.range 6).all (fun m => m == n.val || decide (sktState s m ≤ 1)) = true then
        setRD (setSkt s n 2 false) (sktCtrl n) 8 0 0
      else setRD s (sktCtrl n) 8 Rsn.STATE 0x64) := by
  rw [execSktEvacuate, sktAction_notBusy hw hb]
  simp only [apply_ite (Option.getD · (setRD s (sktCtrl n) 8 Rsn.STATE 0x64)), Option.getD_some, Option.getD_none]

/-- Taking a socket OFFLINE needs it EVACUATING, and idle under R171. -/
theorem execSktOffline_notBusy (hw : winOpen s (4 + n / 3)) (hb : bit s (sktCtrl n) 31 = false) :
    execSktOffline n s = .next (
      if sktState s n ≠ 2 then setRD s (sktCtrl n) 8 Rsn.STATE 0x64
      else if sktIdle s n then fset (setRD s (sktCtrl n) 8 0 0) (sktCtrl n) 31 1 1
      else setRD s (sktCtrl n) 8 Rsn.STATE 0x63) := by
  rw [execSktOffline, sktAction_notBusy hw hb]
  simp only [apply_ite (Option.getD · (setRD s (sktCtrl n) 8 Rsn.STATE 0x64)), Option.getD_some, Option.getD_none]

/-- Taking a socket ONLINE ends an evacuation at once, and trains an OFFLINE or FAILED one. -/
theorem execSktOnline_notBusy (hw : winOpen s (4 + n / 3)) (hb : bit s (sktCtrl n) 31 = false) :
    execSktOnline n s = .next (
      if sktState s n = 2 then setRD (setSkt s n 1 false) (sktCtrl n) 8 0 0
      else if sktState s n = 3 ∨ sktState s n = 6 then fset (setRD (setSkt s n 4 false) (sktCtrl n) 8 0 0) (sktCtrl n) 31 1 1
      else setRD s (sktCtrl n) 8 Rsn.STATE 0x64) := by
  rw [execSktOnline, sktAction_notBusy hw hb]
  simp only [apply_ite (Option.getD · (setRD s (sktCtrl n) 8 Rsn.STATE 0x64)), Option.getD_some, Option.getD_none]

/-! ### What ends an action -/

/-- The channels of a socket going OFFLINE have stopped: it is OFFLINE and SAFE. -/
theorem execSktStopDone_stopping (hb : bit s (sktCtrl n) 31 = true) (hv : sktState s n = 2) :
    execSktStopDone n s = .next (fset (setSkt s n 3 true) (sktCtrl n) 31 1 0) := by
  rw [execSktStopDone, hb, hv]
  exact if_pos rfl

/-- A training that succeeds shows the module's capacity: the socket is CLEARING where it is the one of boot, else OFFLINE again. -/
theorem execSktTrainDone_trained {cap : BitVec 10} (hb : bit s (sktCtrl n) 31 = true) (hv : sktState s n = 4) :
    execSktTrainDone n true cap s =
      let t := fset s (Reg.GLB_SKT_STATUS (4 + n / 3) (n % 3)) 4 10 cap.toNat
      .next (if cammCap cap.toNat = true ∧ bootCap s = cap.toNat then setSkt t n 5 false
        else fset (setRD (setSkt t n 3 true) (sktCtrl n) 8 Rsn.CFG_CONFLICT 0x65) (sktCtrl n) 31 1 0) := by
  rw [execSktTrainDone]
  dsimp only
  rw [hb, hv, if_neg (by decide), if_neg (by decide)]
  by_cases hcap : cammCap cap.toNat = true ∧ bootCap s = cap.toNat
  · rw [if_pos hcap, if_neg (by simp [hcap])]
  · rw [if_neg hcap, if_pos (by simpa [-not_and, not_and_or] using hcap)]

/-- A training or a clearing that fails leaves the socket FAILED, with LINK_FAIL 0x6B raised at L2. -/
theorem execSktTrainDone_failed {cap : BitVec 10} (hb : bit s (sktCtrl n) 31 = true) (hv : sktState s n = 4 ∨ sktState s n = 5) :
    execSktTrainDone n false cap s =
      .next (raise (fset (setRD (setSkt s n 6 true) (sktCtrl n) 8 Rsn.LINK_FAIL 0x6B) (sktCtrl n) 31 1 0)
        ⟨4 + n / 3, Rsn.LINK_FAIL, 0x6B, 2, 4, n, [], .socket n⟩ false) := by
  rw [execSktTrainDone]
  dsimp only
  obtain h4 | h5 := hv
  · rw [hb, h4]
    rfl
  · rw [hb, h5]
    rfl

/-- The clearing of a module ends: its bytes and its poison marks are gone, and the socket is ONLINE. -/
theorem execSktClearDone_clearing (hv : sktState s n = 5) :
    execSktClearDone n s =
      let other : Nat → Bool := fun a => decide (0x030000000000 ≤ a) || socketOf s a != n.val
      let t := (s.withMem (s.mem.filter (fun c => other c.1))).withPoison (s.poison.filter other)
      .next (fset (setRD (setSkt t n 1 false) (sktCtrl n) 8 0 0) (sktCtrl n) 31 1 0) :=
  if_neg (not_not.mpr hv)

end

/-- Settles O16: each clause is the case of the command's equation that its hypotheses choose. -/
theorem socketServiceComplete : Obligations.SocketServiceComplete := by
  refine ⟨?evacuateBusy, ?evacuate, ?offline, ?back, ?train, ?stopped, ?trained, ?failed, ?cleared, ?offlineRefused, ?onlineRefused,
    ?evacuateRefused, ?busy⟩
  case evacuateBusy =>
    intro n s hw hb
    rw [exec_sktEvacuate, execSktEvacuate, sktAction_busy hw hb]
  case evacuate =>
    intro n s hw hb hon halone
    rw [exec_sktEvacuate, execSktEvacuate_notBusy hw hb, if_pos ⟨hon, halone⟩]
  case offline =>
    intro n s hw hb hv
    rw [exec_sktOffline, execSktOffline_notBusy hw hb, if_neg (not_not.mpr hv)]
  case back =>
    intro n s hw hb hv
    rw [exec_sktOnline, execSktOnline_notBusy hw hb, if_pos hv]
  case train =>
    intro n s hw hb hv
    rw [exec_sktOnline, execSktOnline_notBusy hw hb, if_neg (by omega), if_pos hv]
  case stopped =>
    intro n s hb hv
    exact execSktStopDone_stopping hb hv
  case trained =>
    intro n cap s hb hv
    exact execSktTrainDone_trained hb hv
  case failed =>
    intro n cap s hb hv
    exact execSktTrainDone_failed hb hv
  case cleared =>
    intro n s hv
    exact execSktClearDone_clearing hv
  case offlineRefused =>
    intro n s hw hb hv
    rw [exec_sktOffline, execSktOffline_notBusy hw hb, if_pos hv]
  case onlineRefused =>
    intro n s hw hb ⟨hevacuating, hoffline, hfailed⟩
    rw [exec_sktOnline, execSktOnline_notBusy hw hb, if_neg hevacuating, if_neg (not_or.mpr ⟨hoffline, hfailed⟩)]
  case evacuateRefused =>
    intro n s hw hb hm
    rw [exec_sktEvacuate, execSktEvacuate_notBusy hw hb, if_neg hm]
  case busy =>
    intro n s hw hb
    rw [exec_sktOffline, execSktOffline, exec_sktOnline, execSktOnline, sktAction_busy hw hb, sktAction_busy hw hb]
    exact ⟨rfl, rfl⟩

end Sys2Proof.Machine
end

section
/-! PROOFS. The admission of the Footing commands (07 R176, R177, R179, 09 R234, R239). -/

namespace Sys2Proof.Machine

/-! ### The front entry of a ring -/

section
variable {s t : State} {d r : Nat} {desc : List Byte} {mine : State → List Byte → Bool} {ask : State → List Byte → Asked}

/-- A command that a ring's front entry names settles the verdict of the entry's checks. -/
theorem letIn_mine (hf : frontEntry s d r = .inr (t, desc)) (hm : mine t desc = true) :
    letIn s d r mine ask = .next (settle t d r desc (verdict t d r [] (ask t desc))) := by
  simp only [letIn, hf, hm, if_true]

/-- A Footing command whose operation the parameter block of the front FOOTING entry names settles the verdict of its checks. -/
theorem ftgAdmit_mine {op : Nat} (hf : frontEntry s d r = .inr (t, desc)) (hm : ftgMine d r op t desc = true) :
    ftgAdmit s d r op = .next (settle t d r desc (verdict t d r [] (ftgAsk t d r desc))) :=
  letIn_mine hf hm

end

/-- Settles O29: every Footing command is the admission of its operation. -/
theorem footingCommandsAdmitted : Obligations.FootingCommandsAdmitted := by
  refine ⟨?updateMomentum, ?updateAdaptive, ?updateSigned, ?reduce, ?compressTopk, ?topkMerge, ?compressSign, ?hash, ?scrub, ?zero⟩
  case updateMomentum =>
    intro d r t desc s hf hm
    rw [exec_updateMomentum, execUpdateMomentum, ftgAdmit_mine hf hm]
  case updateAdaptive =>
    intro d r t desc s hf hm
    rw [exec_updateAdaptive, execUpdateAdaptive, ftgAdmit_mine hf hm]
  case updateSigned =>
    intro d r t desc s hf hm
    rw [exec_updateSigned, execUpdateSigned, ftgAdmit_mine hf hm]
  case reduce =>
    intro d r t desc s hf hm
    rw [exec_reduce, execReduce, ftgAdmit_mine hf hm]
  case compressTopk =>
    intro d r t desc s hf hm
    rw [exec_compressTopk, execCompressTopk, ftgAdmit_mine hf hm]
  case topkMerge =>
    intro d r t desc s hf hm
    rw [exec_topkMerge, execTopkMerge, ftgAdmit_mine hf hm]
  case compressSign =>
    intro d r t desc s hf hm
    rw [exec_compressSign, execCompressSign, ftgAdmit_mine hf hm]
  case hash =>
    intro d r t desc s hf hm
    rw [exec_hash, execHash, ftgAdmit_mine hf hm]
  case scrub =>
    intro d r t desc s hf hm
    rw [exec_scrub, execScrub, ftgAdmit_mine hf hm]
  case zero =>
    intro d r t desc s hf hm
    rw [exec_zero, execZero, ftgAdmit_mine hf hm]

end Sys2Proof.Machine
end

section
/-! PROOFS. The enables, commands and patrol of the Footings (07 R180, R181, R183, R205, R206). -/

namespace Sys2Proof.Machine

section
variable {h : Stack} {s : State}

/-! ### Enable and disable -/

/-- An ENABLE needs the Footing's domain ON and its stack not FAULTED. -/
theorem execFtgEnable_open (hw : winOpen s (8 + h)) :
    execFtgEnable h s = .next (finishEnable s (Reg.FTG_CTRL (8 + h)) 8
      (firstFail [(isOn s (dFooting h), Rsn.STATE, 0x76), (!stackFaulted s h, Rsn.STATE, 0x7C)])) := viaWin_open hw

/-- A disable clears ENABLE with no command queued or running, and is refused otherwise. -/
theorem execFtgDisable_open (hw : winOpen s (8 + h)) :
    execFtgDisable h s = .next (if stackItems s h = [] then setRD (fset s (Reg.FTG_CTRL (8 + h)) 0 1 0) (Reg.FTG_CTRL (8 + h)) 8 0 0
      else setRD s (Reg.FTG_CTRL (8 + h)) 8 Rsn.STATE 0x7D) := by
  rw [execFtgDisable, viaWin_open hw]
  simp only [List.isEmpty_iff]

/-! ### Commands of an engine -/

section
variable {e : Fin 5} {it : Item}

/-- The oldest command of an engine, its start come on a Footing that works, begins unless it waits for an earlier one; the status follows. -/
theorem execFtgCommandStart_due {its : List Item} (he : engineItems s h e = it :: its)
    (hdue : it.started = false ∧ it.start ≤ ctl s (h / 3))
    (hfree : enginesUp s h = true ∧ outOf s (h / 3) = false ∧ bayStalled s h = false) :
    execFtgCommandStart h e s = .next (ftgStatus (if cmdWaits s h it then s else putItem s { it with started := true }) h) := by
  obtain ⟨hwaiting, hcome⟩ := hdue
  obtain ⟨hup, hin, hbay⟩ := hfree
  simp only [execFtgCommandStart, he, hwaiting, decide_eq_false (not_lt.mpr hcome), hup, hin, hbay, Bool.not_true, Bool.or_self,
    Bool.false_eq_true, if_false]
  cases cmdWaits s h it <;> rfl

/-- The end of a started command: it runs to its end, and a VERIFY then compares its digest (07 R180, 17 R425). -/
def cmdEnd (s : State) (h : Nat) (it : Item) (ecc : List (Nat × Bool)) : State × Item × (Nat × Nat) :=
  let q := cmdFinish s h it ecc
  if it.opcode = 0x33 then verifyEnd q.1 h q.2.1 q.2.2 else q

/-- The started command of an engine ends with its codes, on a die in service with the Footing working. -/
theorem execFtgCommandDone_started {ecc : List (Nat × Bool)} (he : (engineItems s h e).find? (·.started) = some it)
    (hup : outOf s (h / 3) = false ∧ footingUp s h = true) :
    execFtgCommandDone h e ecc s =
      let r := cmdEnd s h it ecc
      .next (endItem (putItem r.1 r.2.1) { r.2.1 with phase := 1 } r.2.2.1 r.2.2.2) := by
  simp only [execFtgCommandDone, he, hup, Bool.not_true, Bool.or_self, Bool.false_eq_true, if_false, cmdEnd]

end

/-! ### Patrol -/

/-- Address of the granule the patrol of a stack reads next. -/
def patrolAddr (s : State) (h : Nat) : Nat := hbmAddr h (256 * fget s (Reg.FTG_PATROL_POS (8 + h)) 0 29)

/-- A started command of the stack touches that granule (07 R205). -/
def patrolHeld (s : State) (h : Nat) : Bool :=
  ((stackItems s h).filter (·.started)).any (fun i => piecesMeet (cmdPieces i false ++ cmdPieces i true) [(patrolAddr s h, 256)])

/-- The patrol's position moves to the next granule, and from the last one to the first. -/
def patrolMove (s : State) (h : Nat) : State :=
  let g := fget s (Reg.FTG_PATROL_POS (8 + h)) 0 29
  fset s (Reg.FTG_PATROL_POS (8 + h)) 0 29 (if 256 * (g + 1) < stackSize s h then g + 1 else 0)

/-- A tick of an enabled patrol on a Footing that works reads the next granule and moves on, unless a started command holds it. -/
theorem execPatrolScrubTick_enabled {ecc : Fin 17} (hp : bit s (Reg.FTG_CTRL (8 + h)) 1 = true)
    (hup : enginesUp s h = true ∧ outOf s (h / 3) = false) :
    execPatrolScrubTick h ecc s = if patrolHeld s h then .next s
      else .next (rewritten (lineError (readErrors (patrolMove s h) (patrolAddr s h) 256) (patrolAddr s h) 8 ecc) (patrolAddr s h) 256) := by
  obtain ⟨hup, hin⟩ := hup
  simp only [execPatrolScrubTick, hp, hup, hin, Bool.not_true, Bool.or_self, Bool.false_eq_true, if_false]
  rfl

end

/-- Settles O36: each clause is the case of the command's equation that its hypotheses choose. -/
theorem footingsComplete : Obligations.FootingsComplete := by
  refine ⟨?enable, ?disable, ?disableRefused, ?start, ?done, ?patrol, ?startWaits, ?patrolWaits⟩
  case enable =>
    intro h s hw
    rw [exec_ftgEnable, execFtgEnable_open hw]
  case disable =>
    intro h s hw hi
    rw [exec_ftgDisable, execFtgDisable_open hw, if_pos hi]
  case disableRefused =>
    intro h s hw hi
    rw [exec_ftgDisable, execFtgDisable_open hw, if_neg hi]
  case start =>
    intro h e it its s he hdue hfree hgo
    rw [exec_ftgCommandStart, execFtgCommandStart_due he hdue hfree, hgo, if_neg Bool.false_ne_true]
  case done =>
    intro h e ecc it s he hup
    exact execFtgCommandDone_started he hup
  case patrol =>
    intro h ecc s hp hup hfree
    exact (execPatrolScrubTick_enabled hp hup).trans (if_neg (Bool.eq_false_iff.mp hfree))
  case startWaits =>
    intro h e it its s he hdue hfree hwait
    rw [exec_ftgCommandStart, execFtgCommandStart_due he hdue hfree, if_pos hwait]
  case patrolWaits =>
    intro h ecc s hp hup hheld
    exact (execPatrolScrubTick_enabled hp hup).trans (if_pos hheld)

end Sys2Proof.Machine
end

section
/-! PROOFS. The admission of the plain items (09 R234, R235, R239, R244). -/

namespace Sys2Proof.Machine

section
variable {s t : State} {d r op : Nat} {desc : List Byte} {ask : State → List Byte → Asked}

/-- A command of one opcode settles the verdict of a front entry of that opcode. -/
theorem letIn_opcode (hf : frontEntry s d r = .inr (t, desc)) (ho : dOp desc = op) :
    letIn s d r (fun _ desc => dOp desc == op) ask = .next (settle t d r desc (verdict t d r [] (ask t desc))) :=
  letIn_mine hf (beq_iff_eq.mpr ho)

/-- POWER is the command of its ACTION: off where ACTION is 2 (09 R234). -/
theorem execPowerOff_front {d : Die} {r : Ring} (hf : frontEntry s d r = .inr (t, desc)) (ho : dOp desc = 7) (ha : dfld desc 0x11 1 = 2) :
    execPowerOff d r s = .next (settle t d r desc (verdict t d r [] (powerAsk t d r desc))) :=
  letIn_mine hf (by simp only [ho, ha, beq_self_eq_true, Bool.and_self])

/-- POWER is the command of its ACTION: on where ACTION is not 2 (09 R234). -/
theorem execPowerOn_front {d : Die} {r : Ring} (hf : frontEntry s d r = .inr (t, desc)) (ho : dOp desc = 7) (ha : dfld desc 0x11 1 ≠ 2) :
    execPowerOn d r s = .next (settle t d r desc (verdict t d r [] (powerAsk t d r desc))) :=
  letIn_mine hf (by simp only [ho, bne_iff_ne.mpr ha, beq_self_eq_true, Bool.and_self])

end

/-- Settles O28: every command is the admission of its opcode, and POWER of its opcode and ACTION. -/
theorem plainItemsAdmitted : Obligations.PlainItemsAdmitted := by
  refine ⟨?move, ?run, ?load, ?unload, ?abort, ?powerOn, ?powerOff, ?fence⟩
  case move =>
    intro d r t desc s hf ho
    rw [exec_move, execMove, letIn_opcode hf ho]
  case run =>
    intro d r t desc s hf ho
    rw [exec_run, execRun, letIn_opcode hf ho]
  case load =>
    intro d r t desc s hf ho
    rw [exec_load, execLoad, letIn_opcode hf ho]
  case unload =>
    intro d r t desc s hf ho
    rw [exec_unload, execUnload, letIn_opcode hf ho]
  case abort =>
    intro d r t desc s hf ho
    rw [exec_abort, execAbort, letIn_opcode hf ho]
  case powerOn =>
    intro d r t desc s hf ⟨ho, ha⟩
    rw [exec_powerOn, execPowerOn_front hf ho ha]
  case powerOff =>
    intro d r t desc s hf ⟨ho, ha⟩
    rw [exec_powerOff, execPowerOff_front hf ho ha]
  case fence =>
    intro d r t desc s hf ho
    rw [exec_fence, execFence, letIn_opcode hf ho]

end Sys2Proof.Machine
end

section
/-! PROOFS. What a record of admission leaves of the items, and the item that the calendar accepts (09 R236-R241). -/

namespace Sys2Proof.Machine

/-! ### Records leave the items as they are -/

section
variable (s : State)

/-! The laws of Laws/State on registers, messages and free values hold by rfl, and simp would leave it to the kernel to see that, through the
table of registers; these are equations to rewrite with. -/

theorem items_fset (a lo n v : Nat) : (fset s a lo n v).items = s.items := by rw [fset_items]
theorem items_emit (k : MK) (args : List Nat) (data : List Byte) : (emit s k args data).items = s.items := by rw [emit_items]
theorem items_takeFree : (takeFree s).2.items = s.items := by rw [takeFree_snd_items]

@[simp] theorem dirUse_items (h : Nat) : (dirUse s h).items = s.items := by simp only [dirUse, items_fset]

@[simp] theorem dirUses_items (es : List DirEnt) : (dirUses s es).items = s.items := by
  unfold dirUses
  exact foldl_keeps State.items fun t h => dirUse_items t h

@[simp] theorem performReq_items (r : Req) : (performReq s r).1.items = s.items := by
  simp only [performReq, apply_ite Prod.fst, apply_ite State.items, State.withFlips_items, State.withPoison_items, State.withMem_items,
    ite_self]

@[simp] theorem performPending_items (hit : Nat → Bool) : (performPending s hit).items = s.items := by
  simp only [performPending, State.withTxns_items, State.withWaitq_items]
  refine (foldl_keeps (fun y : State × List Req => y.1.items) fun y r => ?_).trans
    (foldl_keeps (fun x : State × List Txn => x.1.items) fun x t => ?_)
  · split
    · exact performReq_items _ _
    · rfl
  · split
    · split
      · exact performReq_items _ _
      · rfl
    · rfl

@[simp] theorem dropLines_items (l n : Nat) : (dropLines s l n).items = s.items := by
  simp only [dropLines, apply_ite State.items, dirUses_items, performPending_items, State.withTxns_items, State.withResps_items,
    State.withWbs_items, State.withDir_items, State.withCopies_items, State.withMem_items, ite_self]

@[simp] theorem memWriteAt_items (a : Nat) (bs : List Byte) : (memWriteAt s a bs).items = s.items := by
  simp only [memWriteAt, State.withFlips_items, State.withPoison_items, State.withMem_items, dropLines_items]

@[simp] theorem memWriteF_items (f : Nat) (s : State) (a : Nat) (bs : List Byte) : (memWriteF s a bs f).items = s.items := by
  induction f generalizing s a bs with
  | zero => rfl
  | succ f ih => simp only [memWriteF, apply_ite State.items, ih, memWriteAt_items, ite_self]

@[simp] theorem memWrite_items (a : Nat) (bs : List Byte) : (memWrite s a bs).items = s.items := by
  simp only [memWrite, memWriteF_items]

@[simp] theorem sendMsi_items (addr data : Nat) : (sendMsi s addr data).items = s.items := by
  unfold sendMsi
  split
  · simp only [apply_ite State.items, holdAdd, items_fset, items_emit, ite_self]
  · exact items_emit _ _ _ _

@[simp] theorem lookup_items (u bay asid va : Nat) : (lookup s u bay asid va).2.items = s.items := by
  unfold lookup
  cases cacheHit (xunit s u) bay asid va with
  | some e => rfl
  | none =>
    cases walk s u asid va with
    | ok e => simp only [setXunit, State.withXlt_items]
    | missing l => rfl
    | bad r d pa => rfl

@[simp] theorem touchSkt_items (a : Nat) : (touchSkt s a).items = s.items := by
  simp only [touchSkt, apply_ite State.items, State.withSktLast_items, ite_self]

@[simp] theorem holdState_items (d : Nat) : (holdState s d).items = s.items := by
  simp only [holdState, apply_ite State.items, items_fset, ite_self]

@[simp] theorem ringNotify_items (d r kind : Nat) (want : Bool) : (ringNotify s d r kind want).items = s.items := by
  simp only [ringNotify, apply_ite State.items, sendMsi_items, ite_self]

@[simp] theorem putCrec_items (d r tag seq kind scope reason detail flags time aux : Nat) (want : Bool) :
    (putCrec s d r tag seq kind scope reason detail flags time aux want).items = s.items := by
  simp only [putCrec, ringNotify_items, items_emit, items_fset]
  split
  · simp only [apply_ite State.items, holdState_items, items_fset, memWrite_items, touchSkt_items, lookup_items, ite_self]
  · exact lookup_items _ _ _ _ _

@[simp] theorem ftgStatus_items (h : Nat) : (ftgStatus s h).items = s.items := by
  unfold ftgStatus
  exact (foldl_keeps State.items fun t e => by
    simp only [apply_ite State.items, items_fset, items_takeFree, ite_self]).trans (items_fset _ _ _ _ _)

@[simp] theorem ckpCount_items (d : Nat) : (ckpCount s d).items = s.items := by rw [ckpCount, items_fset]

@[simp] theorem extReg_items (d : Nat) : (extReg s d).items = s.items := by rw [extReg, items_fset]

@[simp] theorem consume_items (d r : Nat) : (consume s d r).items = s.items := by
  rw [consume, State.withServed_items, wr_items, fset_items, setRingX, State.withRingx_items]

end

/-! ### The calendar's answer -/

section
variable {s : State} {d r start : Nat} {desc : List Byte} {w : Want} {f : Item → Item} {ext : List Extent} {sh : Shape}

/-- A want whose search finds a start, on a die and a completion ring with room, becomes the last item: of that start, and of the bound that
the shape's duration and allowance give. -/
theorem decideItem_accepts
    (hs : searchF s d w (itemLimit s d desc ((ringX s d r).obs.headD 0)).1 (itemLimit s d desc ((ringX s d r).obs.headD 0)).2 none
      (max (ctl s d) w.after) true 256 = .inl (start, sh))
    (hroom : cqRoom s d r = true) (hfew : (s.items.filter (fun i => i.die == d)).length < 131072) :
    ∃ it : Item, (decideItem s d r desc w f ext).1.items = s.items ++ [f it] ∧ it.die = d ∧ it.ring = r ∧
      it.seq = (rd s (Reg.RING_SEQ d r)).toNat ∧ it.desc = desc ∧ it.extents = ext ∧ it.start = start ∧
      it.bound = start + sh.dur + sh.allow ∧ it.started = false := by
  unfold decideItem
  simp only [hs, hroom, decide_eq_false (not_le.mpr hfew), Bool.not_true, Bool.or_self, Bool.false_eq_true, if_false, extReg_items,
    items_fset, consume_items, putCrec_items, apply_ite State.items, ckpCount_items, ftgStatus_items, State.withItems_items, ite_self]
  exact ⟨_, rfl, rfl, rfl, rfl, rfl, rfl, rfl, rfl, rfl⟩

end

end Sys2Proof.Machine
end

section
/-! PROOFS. The admission of the network and collective items (09 R234, R239, 13 R333, R334, 14 R346). -/

namespace Sys2Proof.Machine

/-! ### FLOW_SET -/

section
variable {s t : State} {d : Die} {r : Ring} {desc : List Byte}

/-- A check that does not hold refuses, with its own codes or those of an earlier one. -/
theorem firstFail_refuses {l : List (Bool × Nat × Nat)} (h : ∃ c ∈ l, c.1 = false) : ∃ a b, firstFail l = some (a, b) := by
  induction l with
  | nil => simp at h
  | cons c l ih =>
    obtain ⟨ok, a, b⟩ := c
    cases ok with
    | false => exact ⟨a, b, rfl⟩
    | true => exact ih (by simpa using h)

/-- An ACTION other than 1 to 3 refuses a FLOW_SET. -/
theorem flowSetAsk_badAction {d r : Nat} (ha : dfld desc 0x14 1 = 0 ∨ 4 ≤ dfld desc 0x14 1) : ∃ a b, flowSetAsk s d r desc = .refuse a b := by
  have hrange : decide (1 ≤ dfld desc 0x14 1 ∧ dfld desc 0x14 1 ≤ 3) = false := decide_eq_false (by omega)
  obtain ⟨a, b, hc⟩ : ∃ a b, descChecks s d r desc [(0x10, 4), (0x14, 1), (0x18, 8)] true
      (decide (1 ≤ dfld desc 0x14 1 ∧ dfld desc 0x14 1 ≤ 3)) true true = some (a, b) :=
    firstFail_refuses (by simp [hrange])
  refine ⟨a, b, ?_⟩
  simp only [flowSetAsk, hc]

/-- FLOW_SET is the command of its ACTION: OPEN of any but 2 and 3. -/
theorem execFlowSetOpen_front (hf : frontEntry s d r = .inr (t, desc)) (ho : dOp desc = 0x27)
    (ha : dfld desc 0x14 1 ≠ 2 ∧ dfld desc 0x14 1 ≠ 3) :
    execFlowSetOpen d r s = .next (settle t d r desc (verdict t d r [] (flowSetAsk t d r desc))) :=
  letIn_mine hf (by simp only [ho, bne_iff_ne.mpr ha.1, bne_iff_ne.mpr ha.2, beq_self_eq_true, Bool.and_self])

/-- FLOW_SET is the command of its ACTION: RESET of 2. -/
theorem execFlowSetReset_front (hf : frontEntry s d r = .inr (t, desc)) (ho : dOp desc = 0x27) (ha : dfld desc 0x14 1 = 2) :
    execFlowSetReset d r s = .next (settle t d r desc (verdict t d r [] (flowSetAsk t d r desc))) :=
  letIn_mine hf (by simp only [ho, ha, beq_self_eq_true, Bool.and_self])

/-- FLOW_SET is the command of its ACTION: CLOSE of 3. -/
theorem execFlowSetClose_front (hf : frontEntry s d r = .inr (t, desc)) (ho : dOp desc = 0x27) (ha : dfld desc 0x14 1 = 3) :
    execFlowSetClose d r s = .next (settle t d r desc (verdict t d r [] (flowSetAsk t d r desc))) :=
  letIn_mine hf (by simp only [ho, ha, beq_self_eq_true, Bool.and_self])

end

/-- Settles O30: every command is the admission of its opcode, and FLOW_SET of its opcode and ACTION; each verdict is a branch of settle, and
an accepted item stands in the list it is appended to. -/
theorem networkItemsAdmitted : Obligations.NetworkItemsAdmitted := by
  refine ⟨?netWrite, ?netRead, ?netSend, ?netRecv, ?netReg, ?netDereg, ?rawTx, ?nvme, ?chainSum, ?chainTopk,
    ?chainSign, ?permute, ?groupSet, ?groupClose, ?flowSetOpen, ?flowSetReset, ?flowSetClose, ?refused, ?waits,
    ?parked, ?searched, ?accepted, ?badAction⟩
  case netWrite =>
    intro d r t desc s hf ho
    rw [exec_netWrite, execNetWrite, letIn_opcode hf ho]
  case netRead =>
    intro d r t desc s hf ho
    rw [exec_netRead, execNetRead, letIn_opcode hf ho]
  case netSend =>
    intro d r t desc s hf ho
    rw [exec_netSend, execNetSend, letIn_opcode hf ho]
  case netRecv =>
    intro d r t desc s hf ho
    rw [exec_netRecv, execNetRecv, letIn_opcode hf ho]
  case netReg =>
    intro d r t desc s hf ho
    rw [exec_netReg, execNetReg, letIn_opcode hf ho]
  case netDereg =>
    intro d r t desc s hf ho
    rw [exec_netDereg, execNetDereg, letIn_opcode hf ho]
  case rawTx =>
    intro d r t desc s hf ho
    rw [exec_rawTx, execRawTx, letIn_opcode hf ho]
  case nvme =>
    intro d r t desc s hf ho
    rw [exec_nvme, execNvme, letIn_opcode hf ho]
  case chainSum =>
    intro d r t desc s hf ho
    rw [exec_chainSum, execChainSum, letIn_opcode hf ho]
  case chainTopk =>
    intro d r t desc s hf ho
    rw [exec_chainTopk, execChainTopk, letIn_opcode hf ho]
  case chainSign =>
    intro d r t desc s hf ho
    rw [exec_chainSign, execChainSign, letIn_opcode hf ho]
  case permute =>
    intro d r t desc s hf ho
    rw [exec_permute, execPermute, letIn_opcode hf ho]
  case groupSet =>
    intro d r t desc s hf ho
    rw [exec_groupSet, execGroupSet, letIn_opcode hf ho]
  case groupClose =>
    intro d r t desc s hf ho
    rw [exec_groupClose, execGroupClose, letIn_opcode hf ho]
  case flowSetOpen =>
    intro d r t desc s hf ⟨ho, ha⟩
    rw [exec_flowSetOpen, execFlowSetOpen_front hf ho ha]
  case flowSetReset =>
    intro d r t desc s hf ⟨ho, ha⟩
    rw [exec_flowSetReset, execFlowSetReset_front hf ho ha]
  case flowSetClose =>
    intro d r t desc s hf ⟨ho, ha⟩
    rw [exec_flowSetClose, execFlowSetClose_front hf ho ha]
  case refused =>
    intro d r a b desc w t
    rfl
  case waits =>
    intro d r desc t
    rfl
  case parked =>
    intro d r desc miss t
    rfl
  case searched =>
    intro d r desc w f ext t
    rfl
  case accepted =>
    intro d r desc w f ext start sh t hs hroom hfew
    obtain ⟨it, hitems, hdie, hring, -, hdesc, hext, hstart, hbound, hstarted⟩ := decideItem_accepts (f := f) (ext := ext) hs hroom hfew
    exact ⟨it, hdie, hring, hdesc, hext, hstart, hbound, hstarted, hitems ▸ List.mem_append_right _ (List.mem_singleton_self _)⟩
  case badAction =>
    intro d r t desc s hf ho ha
    obtain ⟨a, b, hask⟩ := flowSetAsk_badAction (s := t) (d := d) (r := r) ha
    refine ⟨a, b, hask, ?_⟩
    rw [exec_flowSetOpen, execFlowSetOpen_front hf ho (by omega), hask, verdict]

end Sys2Proof.Machine
end

section
/-! PROOFS. Doorbells, the ring enable and disable, and fault batches (09 R230, R232, 10 R266, R268). -/

namespace Sys2Proof.Machine

section
variable {s : State} {d : Die} {r : Ring}

/-! ### Doorbells -/

/-- Entries that a tail leaves in the submission ring, modulo twice its size. -/
def tailEntries (s : State) (d r tail : Nat) : Nat :=
  (tail % (2 * sqEntries s d r) + 2 * sqEntries s d r - fget s (Reg.RING_SQ_HEAD d r) 0 17 % (2 * sqEntries s d r)) % (2 * sqEntries s d r)

/-- A tail that leaves more entries than the ring holds is ignored, with BAD_DESC 0xA5 and a record. -/
theorem doorbell_ignored {d r tail : Nat} (h : sqEntries s d r < tailEntries s d r tail) :
    doorbell s d r tail =
      let u := ringCodes s d r Rsn.BAD_DESC 0xA5
      note u d Rsn.BAD_DESC 0xA5 7 (ringSrc d r) (ringData (rd u (Reg.RING_SEQ d r)).toNat 0 0) := if_pos h

/-- Any other tail is stored: the first entries keep their observation times, and entries covered for the first time take the present. -/
theorem doorbell_taken {d r tail : Nat} (h : tailEntries s d r tail ≤ sqEntries s d r) :
    doorbell s d r tail =
      let u := fset s (Reg.RING_SQ_TAIL d r) 0 17 (tail % (2 * sqEntries s d r))
      let k := tailEntries s d r tail
      setRingX u d r { ringX s d r with obs := (ringX s d r).obs.take k ++ List.replicate (k - (ringX s d r).obs.length) (ctl u d) } :=
  if_neg (not_lt.mpr h)

theorem execRingDoorbell_open {tail : BitVec 17} (hw : winOpen s d) :
    execRingDoorbell d r tail s = .next (doorbell s d r tail.toNat) := viaWin_open hw

/-! ### Enable and disable -/

/-- A ring whose checks pass is enabled: ACTIVE where it was DISABLED, and without codes. -/
theorem execRingEnable_passed {v : W32} (hw : winOpen s d) (hc : ringChecks (rwlIn s (Reg.RING_CFG d r) 0xFFFFFFFE v) d r = none) :
    execRingEnable d r v s =
      let u := fset (rwlIn s (Reg.RING_CFG d r) 0xFFFFFFFE v) (Reg.RING_CFG d r) 0 1 1
      .next (ringCodes (if ringState u d r = 0 then fset u (Reg.RING_STATUS d r) 0 2 1 else u) d r 0 0) := by
  rw [execRingEnable, viaWin_open hw]
  simp only [hc]

/-- A ring with a check that fails shows its codes. -/
theorem execRingEnable_failed {v : W32} {a b : Nat} (hw : winOpen s d)
    (hc : ringChecks (rwlIn s (Reg.RING_CFG d r) 0xFFFFFFFE v) d r = some (a, b)) :
    execRingEnable d r v s = .next (ringCodes (rwlIn s (Reg.RING_CFG d r) 0xFFFFFFFE v) d r a b) := by
  rw [execRingEnable, viaWin_open hw]
  simp only [hc]

/-- A disable is refused while items are outstanding; else it clears ENABLE and what the front entry waits for. -/
theorem execRingDisable_open (hw : winOpen s d) :
    execRingDisable d r s =
      if fget s (Reg.RING_OUTSTANDING d r) 0 17 ≠ 0 then .next (ringCodes s d r Rsn.STATE 0x95)
      else
        let u := fset (fset s (Reg.RING_CFG d r) 0 1 0) (Reg.RING_STATUS d r) 0 2 0
        .next (parkedReg (setRingX u d r { ringX u d r with parked := false, waits := false, desc := none, denied := false }) d) :=
  viaWin_open hw

/-! ### Fault batches -/

/-- A resume with no closed batch is refused. -/
theorem execFbResume_none {v : W32} (hw : winOpen s d) (hb : (xunit s d).closed = []) :
    execFbResume d v s = .next (emit s .refusal [Rsn.STATE, 0xB7] []) := by
  rw [execFbResume, viaWin_open hw]
  simp only [hb]

section
variable {v : W32} {n : Nat} {recs : List PFRec} {rest : List (Nat × List PFRec)}

/-- A resume that names another batch than the oldest is refused. -/
theorem execFbResume_other (hw : winOpen s d) (hb : (xunit s d).closed = (n, recs) :: rest) (hn : v.toNat ≠ n) :
    execFbResume d v s = .next (emit s .refusal [Rsn.STATE, 0xB7] []) := by
  rw [execFbResume, viaWin_open hw]
  simp only [hb, if_pos hn]

/-- Ring, SEQ and DENY of the answer that a record of batch `n` reads from its slot: any RESPONSE but 0 is DENY (log entry 77). -/
def batchAnswers (s : State) (d n : Nat) (recs : List PFRec) : List (Nat × Nat × Bool) :=
  recs.zipIdx.map (fun p => (p.1.ring, p.1.seq, memNat s (fbRec s d (n % fbSlots s d) + 32 * p.2 + 0x12) 1 != 0))

/-- A ring whose parked entry some answers name takes them. -/
def answerRing (resp : List (Nat × Nat × Bool)) (d : Nat) (s : State) (r : Nat) : State :=
  if resp.any (fun p => p.1 == r && p.2.1 == (rd s (Reg.RING_SEQ d r)).toNat) = true then
    answered s d r (resp.any (fun p => p.1 == r && p.2.1 == (rd s (Reg.RING_SEQ d r)).toNat && p.2.2))
  else s

/-- A resume of the oldest batch frees its slot, and the rings of its records take their answers in turn. -/
theorem execFbResume_oldest (hw : winOpen s d) (hb : (xunit s d).closed = (v.toNat, recs) :: rest) :
    execFbResume d v s =
      let u := fbOldest (setXunit s d { xunit s d with closed := rest }) d
      let t := (recs.map (·.ring)).eraseDups.foldl (answerRing (batchAnswers s d v.toNat recs) d) u
      .next (parkedReg (unparkLoose t d) d) := by
  rw [execFbResume, viaWin_open hw]
  simp only [hb, if_neg (not_not.mpr (rfl : v.toNat = v.toNat))]
  rfl

end

end

/-- Settles O32: each clause is the case of the command's equation that its hypotheses choose. -/
theorem ringsComplete : Obligations.RingsComplete := by
  refine ⟨?taken, ?enabled, ?notEnabled, ?disabled, ?notDisabled, ?idle, ?resumed, ?otherBatch, ?ignored, ?noBatch, ?noRecord⟩
  case taken =>
    intro d r tail k s hw hk hle
    subst hk
    rw [exec_ringDoorbell, execRingDoorbell_open hw, doorbell_taken hle]
    rfl
  case enabled =>
    intro d r v s hw hc hst
    rw [exec_ringEnable, execRingEnable_passed hw hc]
    simp only [hst, if_true]
  case notEnabled =>
    intro d r v a b s hw hc
    rw [exec_ringEnable, execRingEnable_failed hw hc, ringCodes]
  case disabled =>
    intro d r s hw ho
    rw [exec_ringDisable, execRingDisable_open hw, if_neg (not_not.mpr ho)]
  case notDisabled =>
    intro d r s hw ho
    rw [exec_ringDisable, execRingDisable_open hw, if_pos ho]
  case idle =>
    intro d s hb
    rw [exec_fbBatchIdleClose, execFbBatchIdleClose, hb, if_neg Bool.false_ne_true]
  case resumed =>
    intro d v recs rest s hw hb
    exact execFbResume_oldest hw hb
  case otherBatch =>
    intro d v n recs rest s hw hb hn
    rw [exec_fbResume, execFbResume_other hw hb hn]
  case ignored =>
    intro d r tail s hw hlt
    rw [exec_ringDoorbell, execRingDoorbell_open hw, doorbell_ignored hlt]
  case noBatch =>
    intro d v s hw hb
    rw [exec_fbResume, execFbResume_none hw hb]
  case noRecord =>
    intro d s hb
    rw [exec_fbBatchIdleClose, execFbBatchIdleClose, hb, if_pos rfl]

end Sys2Proof.Machine
end

section
/-! PROOFS. Invalidations and the enables of the translation units (10 R269, R273). -/

namespace Sys2Proof.Machine

section
variable {u : Unit6} {s : State}

/-! ### Posts -/

section
variable {u kind asid : Nat}

/-- The invalidation that a post makes of the XLT_INV registers: the next number, and the items and registered regions that hold an
overlapping translation. -/
def postedInv (s : State) (u kind asid : Nat) : Inv :=
  let va := fget s (Reg.XLT_INV_VA_LO u) 12 20 * 4096 + fget s (Reg.XLT_INV_VA_HI u) 0 25 * 0x100000000
  let i : Inv := ⟨((rd s (Reg.XLT_INV_SEQ u)).toNat + 1) % 2 ^ 32, kind, asid, va, (rd s (Reg.XLT_INV_PAGES u)).toNat, [], []⟩
  { i with
    items := (s.items.filter (fun it => it.die == u && it.extents.any (fun e => invHits i it.asid e.va e.len))).map
      (fun it => (it.die, it.ring, it.seq))
    regions := (s.netRegs.filter (fun g => g.die == u && g.extents.any (fun e => invHits i g.asid e.va e.len))).map
      (fun g => (g.die, g.key)) }

/-- A post on a full queue is refused. -/
theorem postInv_full (h : 16 ≤ (xunit s u).inv.length) : postInv s u kind asid = emit s .refusal [Rsn.STATE, 0xB6] [] := if_pos h

/-- Any other post joins the queue under the next number, and the cache entries it covers leave. -/
theorem postInv_queued (h : (xunit s u).inv.length < 16) :
    postInv s u kind asid =
      let x := xunit s u
      let i := postedInv s u kind asid
      let t := wr s (Reg.XLT_INV_SEQ u) (BitVec.ofNat 32 ((rd s (Reg.XLT_INV_SEQ u)).toNat + 1))
      queuedReg (setXunit t u { x with cache := x.cache.filter (fun e => !invHits i e.asid e.va e.size), inv := x.inv ++ [i] }) u :=
  if_neg (not_le.mpr h)

end

theorem execInvRange_open {asid : BitVec 16} (hw : winOpen s u) : execInvRange u asid s = .next (postInv s u 1 asid.toNat) :=
  viaWin_open hw

theorem execInvAsid_open {asid : BitVec 16} (hw : winOpen s u) : execInvAsid u asid s = .next (postInv s u 2 asid.toNat) :=
  viaWin_open hw

theorem execInvAll_open (hw : winOpen s u) : execInvAll u s = .next (postInv s u 3 0) := viaWin_open hw

/-! ### Acknowledgement -/

/-- The oldest invalidation is acknowledged once nothing it noted is left. -/
theorem execInvAck_notHeld {i : Inv} {rest : List Inv} (hi : (xunit s u).inv = i :: rest) (hh : invHeld s i = false) :
    execInvAck u s =
      .next (queuedReg (wr (setXunit s u { xunit s u with inv := rest }) (Reg.XLT_INV_DONE u) (BitVec.ofNat 32 i.seq)) u) := by
  simp only [execInvAck, hi, hh, Bool.false_eq_true, if_false]

/-! ### Enable and disable -/

/-- An enable shows what the checks say of the registers as written; only an Ashlar unit has fields to write beside ENABLE. -/
theorem execXltEnable_open {v : W32} (hw : winOpen s u) :
    execXltEnable u v s =
      let t := if u.val < 4 then rwlIn s (Reg.XLT_CTRL u) 0x1E v else s
      .next (finishEnable t (Reg.XLT_CTRL u) 16 (xltChecks t u)) := viaWin_open hw

/-- Something that translates through the unit is enabled: a ring of an Ashlar die, the root port of a Keystone. -/
def xltUsed (s : State) (u : Nat) : Bool := if u < 4 then !(enabledRings s u).isEmpty else rootPortOn s (u - 4)

theorem xltUsed_eq_false {u : Nat} : xltUsed s u = false ↔ if u < 4 then enabledRings s u = [] else rootPortOn s (u - 4) = false := by
  unfold xltUsed
  split
  · rw [Bool.not_eq_false', List.isEmpty_iff]
  · rfl

/-- A disable is refused while something translates through the unit; else it clears ENABLE. -/
theorem execXltDisable_open (hw : winOpen s u) :
    execXltDisable u s = .next (if xltUsed s u then setRD s (Reg.XLT_CTRL u) 16 Rsn.STATE 0xBC
      else setRD (fset s (Reg.XLT_CTRL u) 0 1 0) (Reg.XLT_CTRL u) 16 0 0) := viaWin_open hw

end

/-- Settles O33: through an open window each command has one effect, and the queue's room, its oldest invalidation and what the unit serves
choose the clause. -/
theorem translationUnitsComplete : Obligations.TranslationUnitsComplete := by
  refine ⟨?range, ?space, ?everything, ?acknowledged, ?enabled, ?disabled, ?full, ?notDisabled⟩
  case range =>
    intro u asid s hw hroom
    rw [exec_invRange, execInvRange_open hw, postInv_queued hroom]
    rfl
  case space =>
    intro u asid s hw hroom
    rw [exec_invAsid, execInvAsid_open hw, postInv_queued hroom]
    rfl
  case everything =>
    intro u s hw hroom
    rw [exec_invAll, execInvAll_open hw, postInv_queued hroom]
    rfl
  case acknowledged =>
    intro u i rest s hi hh
    rw [exec_invAck, execInvAck_notHeld hi hh]
  case enabled =>
    intro u v s hw
    exact execXltEnable_open hw
  case disabled =>
    intro u s hw hidle
    rw [exec_xltDisable, execXltDisable_open hw, xltUsed_eq_false.mpr hidle, if_neg Bool.false_ne_true]
  case full =>
    intro u asid s hw hfull
    rw [exec_invRange, exec_invAsid, exec_invAll, execInvRange_open hw, execInvAsid_open hw, execInvAll_open hw, postInv_full hfull,
      postInv_full hfull, postInv_full hfull]
    exact ⟨rfl, rfl, rfl⟩
  case notDisabled =>
    intro u s hw hused
    have hused : xltUsed s u = true := Bool.eq_true_of_not_eq_false (mt xltUsed_eq_false.mp hused)
    rw [exec_xltDisable, execXltDisable_open hw, if_pos hused]

end Sys2Proof.Machine
end

section
/-! PROOFS. Upstream requests over PCIe (10 R254, R264, 11 R287, R288). -/

namespace Sys2Proof.Machine

section
variable {s : State} {k : Key} {pasid : Option (BitVec 20)} {va : BitVec 64} {kind : Fin 13} {len : Nat} {data : List Byte}

/-! ### The request -/

/-- A root port that takes requests: its Keystone in service, the I/O domain ON and PERST released. -/
def PcieUp (s : State) (k : Nat) : Prop := outOf s (4 + k) = false ∧ isOn s (dKio k) = true ∧ s.modx.perst.getD k false = false

/-- A request whose form the root port serves: a read, a posted write, or an aligned FetchAdd, Swap or CAS of 4 or 8 bytes (15 R365). -/
def PcieFormed (kind : Fin 13) (va : BitVec 64) (len : Nat) (data : List Byte) : Prop :=
  kind.val = 0 ∧ 1 ≤ len ∧ len ≤ 4096 ∨ kind.val = 1 ∧ 1 ≤ data.length ∧ data.length ≤ 512 ∨
    (kind.val = 2 ∨ kind.val = 7 ∨ kind.val = 8) ∧ (len = 4 ∨ len = 8) ∧ va.toNat % len = 0

/-- The address space of a request (10 R264): its PASID, or that of XLT_PCIE_ASID. -/
def pcieAsid (s : State) (k : Nat) (pasid : Option (BitVec 20)) : Nat :=
  match pasid with
  | some p => p.toNat
  | none => fget s (Reg.XLT_PCIE_ASID (4 + k)) 0 16

/-- Bytes that a request names. -/
def pcieLen (kind len : Nat) (data : List Byte) : Nat := if kind = 1 then data.length else len

/-- Rights that a request needs (10 R260). -/
def pcieNeed (kind : Nat) : Nat := if kind = 0 then 1 else if kind = 1 then 3 else 7

/-- A physical address lies in a control window. -/
def inCtrl (s : State) (pa : Nat) : Bool :=
  match place s pa with
  | .ctrl _ _ => true
  | _ => false

theorem inCtrl_eq_false {pa : Nat} (h : ∀ a b, place s pa ≠ .ctrl a b) : inCtrl s pa = false := by
  unfold inCtrl
  split
  next a b hp => exact absurd hp (h a b)
  next => rfl

/-- A read or a posted write of translated pages. -/
def pcieAccess (s : State) (k kind va asid : Nat) (ps : List (Nat × Nat)) (data : List Byte) : Out :=
  if ps.any (fun p => inCtrl s p.1) then .next (pcieFail s k kind va asid Rsn.RIGHTS 0xB3)
  else match ps.findSome? (fun p => homeGone s p.1) with
    | some (a, b) => .next (pcieFail s k kind va asid a b ((ps.headD (0, 0)).1))
    | none =>
      if kind = 1 then .next (pcieWrite s ps data)
      else match pcieRead s ps [] false with
        | .bad s a b => .next (pcieFail s k kind va asid a b)
        | .ok s bs po =>
          let s := s.withRahead (tset raheadDef s.rahead (8 + k) [])
          .next (if po then pcieDone s k 2 [] else pcieDone s k 0 bs)

/-- What becomes of a request of `n` bytes once its address is translated. -/
def pcieServe (t : Xlated) (k kind va asid n : Nat) (data : List Byte) : Out :=
  if !bit t.s (Reg.XLT_CTRL (4 + k)) 0 then .next (pcieFail t.s k kind va asid Rsn.RIGHTS 0xB9)
  else match t.bad with
    | some (a, b) => .next (pcieFail t.s k kind va asid a b t.met.1)
    | none =>
      if t.miss ≠ [] then .next (pcieFail t.s k kind va asid Rsn.RIGHTS 0xB9)
      else if 2 ≤ kind then .next (pcieAtom t.s k va asid (kind - 2) n (((extPages t.ext).headD (0, 0)).1) data)
      else pcieAccess t.s k kind va asid (extPages t.ext) data

section
variable (hup : PcieUp s k)
include hup

/-- An ATS or page request is not served (10 R264). -/
theorem execPcieRequest_ats (hk : kind.val = 12) : execPcieRequest k pasid va kind len data s = .next (pcieDone s k 1 []) := by
  obtain ⟨hin, hon, hrst⟩ := hup
  simp only [execPcieRequest, hin, hon, hrst, hk, Bool.not_true, Bool.or_self, Bool.false_eq_true, if_false, if_true]

/-- A FetchAdd, Swap or CAS of another size or alignment fails before its address space is looked at. -/
theorem execPcieRequest_misaligned (hk : kind.val = 2 ∨ kind.val = 7 ∨ kind.val = 8) (hl : len ≠ 4 ∧ len ≠ 8 ∨ va.toNat % len ≠ 0) :
    execPcieRequest k pasid va kind len data s = .next (pcieFail s k kind va.toNat (pcieAsid s k pasid) Rsn.BAD_DESC 0xC1) := by
  obtain ⟨hin, hon, hrst⟩ := hup
  simp only [execPcieRequest, hin, hon, hrst, Bool.not_true, Bool.or_self, Bool.false_eq_true, if_false]
  rw [if_neg (by omega), if_neg (by omega), if_neg (by omega), if_pos ⟨by omega, hl⟩]
  rfl

/-- A request in form with an address space is served under its translation; without one it fails (10 R254). -/
theorem execPcieRequest_formed (hf : PcieFormed kind va len data) :
    execPcieRequest k pasid va kind len data s =
      let asid := pcieAsid s k pasid
      if 0xFFFF < asid ∨ asid = 0 then .next (pcieFail s k kind va.toNat asid Rsn.RIGHTS 0xB9)
      else
        let n := pcieLen kind len data
        pcieServe (xlatAll s (4 + k) 3 asid true [(va.toNat, n, pcieNeed kind)]) k kind va.toNat asid n data := by
  obtain ⟨hin, hon, hrst⟩ := hup
  unfold PcieFormed at hf
  simp only [execPcieRequest, hin, hon, hrst, Bool.not_true, Bool.or_self, Bool.false_eq_true, if_false]
  rw [if_neg (by omega), if_neg (by omega), if_neg (by omega), if_neg (by omega)]
  rfl

/-- Under an address space, a request in form is served as its translation says. -/
theorem execPcieRequest_translated {asid : Nat} (hf : PcieFormed kind va len data)
    (ha : asid = pcieAsid s k pasid ∧ 1 ≤ asid ∧ asid ≤ 0xFFFF) :
    execPcieRequest k pasid va kind len data s =
      let n := pcieLen kind len data
      pcieServe (xlatAll s (4 + k) 3 asid true [(va.toNat, n, pcieNeed kind)]) k kind va.toNat asid n data := by
  obtain ⟨rfl, hlow, hhigh⟩ := ha
  exact (execPcieRequest_formed hup hf).trans (if_neg (by omega))

end

/-! ### The translated request -/

section
variable {t : Xlated} {k kind va asid n : Nat}

/-- A refused translation fails with its codes and the physical address of the entry that met it. -/
theorem pcieServe_bad {a b : Nat} (hen : bit t.s (Reg.XLT_CTRL (4 + k)) 0 = true) (hb : t.bad = some (a, b)) :
    pcieServe t k kind va asid n data = .next (pcieFail t.s k kind va asid a b t.met.1) := by
  simp only [pcieServe, hen, hb, Bool.not_true, Bool.false_eq_true, if_false]

/-- With every page translated an AtomicOp is performed, and another request accesses its pages. -/
theorem pcieServe_translated (hen : bit t.s (Reg.XLT_CTRL (4 + k)) 0 = true) (ht : t.bad = none ∧ t.miss = []) :
    pcieServe t k kind va asid n data =
      if 2 ≤ kind then .next (pcieAtom t.s k va asid (kind - 2) n (((extPages t.ext).headD (0, 0)).1) data)
      else pcieAccess t.s k kind va asid (extPages t.ext) data := by
  obtain ⟨hbad, hmiss⟩ := ht
  simp only [pcieServe, hen, hbad, hmiss, Bool.not_true, Bool.false_eq_true, ne_eq, not_true, if_false]

/-- Pages outside the control windows, at homes that serve. -/
def PagesPresent (s : State) (ps : List (Nat × Nat)) : Prop := ∀ p ∈ ps, (∀ a b, place s p.1 ≠ .ctrl a b) ∧ homeGone s p.1 = none

section
variable {ps : List (Nat × Nat)} (hps : PagesPresent s ps)
include hps

/-- Neither check of `pcieAccess` refuses them. -/
theorem pagesPresent_unrefused : ps.any (fun p => inCtrl s p.1) = false ∧ ps.findSome? (fun p => homeGone s p.1) = none := by
  constructor
  · exact List.any_eq_false.mpr fun p hp => ne_true_of_eq_false (inCtrl_eq_false (hps p hp).1)
  · exact List.findSome?_eq_none_iff.mpr fun p hp => (hps p hp).2

theorem pcieAccess_write : pcieAccess s k 1 va asid ps data = .next (pcieWrite s ps data) := by
  obtain ⟨hctrl, hhome⟩ := pagesPresent_unrefused hps
  simp only [pcieAccess, hctrl, hhome, Bool.false_eq_true, if_false, if_true]

/-- A read empties the read-ahead buffer, and completes with its bytes or, where some are poisoned, with Completer Abort. -/
theorem pcieAccess_read {u : State} {bs : List Byte} {po : Bool} (hr : pcieRead s ps [] false = .ok u bs po) :
    pcieAccess s k 0 va asid ps data =
      let v := u.withRahead (tset raheadDef u.rahead (8 + k) [])
      .next (if po then pcieDone v k 2 [] else pcieDone v k 0 bs) := by
  obtain ⟨hctrl, hhome⟩ := pagesPresent_unrefused hps
  simp only [pcieAccess, hctrl, hhome, hr, Nat.zero_ne_one, Bool.false_eq_true, if_false]

end

end

/-! ### Reads, writes and AtomicOps whose pages translate -/

section
variable {asid : Nat} {t : Xlated} (hup : PcieUp s k) (ha : asid = pcieAsid s k pasid ∧ 1 ≤ asid ∧ asid ≤ 0xFFFF)
  (hen : bit t.s (Reg.XLT_CTRL (4 + k)) 0 = true)
include hup ha hen

theorem execPcieRequest_read {u : State} {bs : List Byte} {po : Bool} (hl : 1 ≤ len ∧ len ≤ 4096)
    (hx : xlatAll s (4 + k) 3 asid true [(va.toNat, len, 1)] = t) (ht : t.bad = none ∧ t.miss = [])
    (hps : PagesPresent t.s (extPages t.ext)) (hr : pcieRead t.s (extPages t.ext) [] false = .ok u bs po) :
    execPcieRequest k pasid va 0 len data s =
      let v := u.withRahead (tset raheadDef u.rahead (8 + k) [])
      .next (if po then pcieDone v k 2 [] else pcieDone v k 0 bs) := by
  subst hx
  rw [execPcieRequest_translated hup (.inl ⟨rfl, hl⟩) ha]
  exact (pcieServe_translated hen ht).trans (pcieAccess_read hps hr)

theorem execPcieRequest_readBad {a b : Nat} (hl : 1 ≤ len ∧ len ≤ 4096)
    (hx : xlatAll s (4 + k) 3 asid true [(va.toNat, len, 1)] = t) (hb : t.bad = some (a, b)) :
    execPcieRequest k pasid va 0 len data s = .next (pcieFail t.s k 0 va.toNat asid a b t.met.1) := by
  subst hx
  rw [execPcieRequest_translated hup (.inl ⟨rfl, hl⟩) ha]
  exact pcieServe_bad hen hb

theorem execPcieRequest_write (hl : 1 ≤ data.length ∧ data.length ≤ 512)
    (hx : xlatAll s (4 + k) 3 asid true [(va.toNat, data.length, 3)] = t) (ht : t.bad = none ∧ t.miss = [])
    (hps : PagesPresent t.s (extPages t.ext)) :
    execPcieRequest k pasid va 1 len data s = .next (pcieWrite t.s (extPages t.ext) data) := by
  subst hx
  rw [execPcieRequest_translated hup (.inr (.inl ⟨rfl, hl⟩)) ha]
  exact (pcieServe_translated hen ht).trans (pcieAccess_write hps)

theorem execPcieRequest_atomic (hk : kind.val = 2 ∨ kind.val = 7 ∨ kind.val = 8) (hl : (len = 4 ∨ len = 8) ∧ va.toNat % len = 0)
    (hx : xlatAll s (4 + k) 3 asid true [(va.toNat, len, 7)] = t) (ht : t.bad = none ∧ t.miss = []) :
    execPcieRequest k pasid va kind len data s =
      .next (pcieAtom t.s k va.toNat asid (kind.val - 2) len ((extPages t.ext).headD (0, 0)).1 data) := by
  subst hx
  have hlen : pcieLen kind len data = len := if_neg (by omega)
  have hneed : pcieNeed kind = 7 := (if_neg (by omega)).trans (if_neg (by omega))
  rw [execPcieRequest_translated hup (.inr (.inr ⟨hk, hl⟩)) ha, hlen, hneed]
  exact (pcieServe_translated hen ht).trans (if_pos (by omega))

end

end

/-- Settles O35: the form of a request, its address space, its translation and the places of its pages choose the clause. -/
theorem pcieRequestsComplete : Obligations.PcieRequestsComplete := by
  refine ⟨?ats, ?readBytes, ?written, ?readPoison, ?atomic, ?misaligned, ?badSpace, ?readBad⟩
  case ats =>
    intro k pasid va kind len data s hup hk
    exact execPcieRequest_ats hup hk
  case readBytes =>
    intro k pasid va len asid data bs t u s hup ha hl hen hx ht hps hr
    exact execPcieRequest_read hup ha hen hl hx ht hps hr
  case written =>
    intro k pasid va len asid data t s hup ha hl hen hx ht hps
    exact execPcieRequest_write hup ha hen hl hx ht hps
  case readPoison =>
    intro k pasid va len asid data bs t u s hup ha hl hen hx ht hps hr
    exact execPcieRequest_read hup ha hen hl hx ht hps hr
  case atomic =>
    intro k pasid va kind len asid data t s hup ha hk hl hen hx ht
    exact execPcieRequest_atomic hup ha hen hk hl hx ht
  case misaligned =>
    intro k pasid va kind len asid data s hup ha hk hl
    subst ha
    exact execPcieRequest_misaligned hup hk hl
  case badSpace =>
    intro k pasid va kind len asid data s hup ha hnone hl
    subst ha
    exact (execPcieRequest_formed hup (hl.imp_right .inl)).trans (if_pos hnone.symm)
  case readBad =>
    intro k pasid va len asid a b data t s hup ha hl hen hx hb
    exact execPcieRequest_readBad hup ha hen hl hx hb

end Sys2Proof.Machine
end

section
/-! PROOFS. Requests at the homes (11 R276-R278, R280, R284-R286). -/

namespace Sys2Proof.Machine

/-! ### What the arrival of a message leaves -/

section
variable {s : State} {code line a h : Nat} {data : List Byte}

@[simp] theorem toHome_txns : (toHome s code line a h data).txns = s.txns := by
  simp only [toHome, cohMsg, apply_ite State.txns, emit_txns, ite_self]

@[simp] theorem toHome_waitq : (toHome s code line a h data).waitq = s.waitq := by
  simp only [toHome, cohMsg, apply_ite State.waitq, emit_waitq, ite_self]

@[simp] theorem toHome_answers : (toHome s code line a h data).answers = s.answers := by
  simp only [toHome, cohMsg, apply_ite State.answers, emit_answers, ite_self]

@[simp] theorem touchSkt_txns : (touchSkt s a).txns = s.txns := by
  simp only [touchSkt, apply_ite State.txns, State.withSktLast, ite_self]

@[simp] theorem touchSkt_waitq : (touchSkt s a).waitq = s.waitq := by
  simp only [touchSkt, apply_ite State.waitq, State.withSktLast, ite_self]

@[simp] theorem touchSkt_answers : (touchSkt s a).answers = s.answers := by
  simp only [touchSkt, apply_ite State.answers, State.withSktLast, ite_self]

end

/-! ### Arrival and beginning -/

section
variable {s : State} {r : Req}

/-- A living requester's request for a line of an active home with nothing answered, waiting or BUSY begins. -/
theorem atHome_idle (hline : lineHome s r.line = r.home ∧ homed s r.line = true ∧ rangeCode s r.home r.line = none)
    (hup : homeAbsent s r.home = false ∧ isDead s r.home r.a = false) (hidle : s.answers = [] ∧ s.waitq = [] ∧ s.txns = []) :
    atHome s r = startReq (toHome (touchSkt s (r.line * 128)) 16 r.line r.a r.home []) r := by
  obtain ⟨hhome, hhomed, hrange⟩ := hline
  obtain ⟨hactive, halive⟩ := hup
  obtain ⟨hanswers, hwaitq, htxns⟩ := hidle
  simp [atHome, lineBusy, hrange, hhome, hhomed, hactive, halive, hanswers, hwaitq, htxns]

/-- A request that caches its line and finds it UNCACHED takes a new directory entry (11 R278); its set has one free. -/
def DirRoom (s : State) (r : Req) : Prop :=
  (r.kind ≤ 2 ∨ r.kind = 8) ∧ dirOf s r.line = none → (dirSetOf s r.home r.line).length < dirWays

/-- A request with an entry for its line reads it, unless it overwrites the whole line, and then ends or sends its probes. -/
theorem startReq_room (hd : r.done = none) (hroom : DirRoom s r) :
    startReq s r =
      let t := if r.kind = 5 then s else readLine s r
      let p := snoopsOf t r
      if p.2.isEmpty then finishReq t r none false none else sendProbes t ⟨r.home, r.line, some r, p.1, p.2, none, false, none⟩ := by
  have hfull : ¬ (((r.kind ≤ 2 ∨ r.kind = 8) ∧ dirOf s r.line = none) ∧ dirWays ≤ (dirSetOf s r.home r.line).length) :=
    fun h => absurd h.2 (Nat.not_le_of_lt (hroom h.1))
  unfold startReq
  rw [if_neg (by simp [hd]), if_neg (by simpa using hfull)]

/-- A line wholly overwritten is not cached, and needs no entry. -/
theorem dirRoom_of_kind_five (hk : r.kind = 5) : DirRoom s r := fun h => absurd h.1 (by omega)

end

/-- Settles O37: a requester of the right kind is at its home, an idle home begins the request, and its snoops say how it goes on. -/
theorem requestsAtHomesComplete : Obligations.RequestsAtHomesComplete := by
  refine ⟨?fetchShared, ?fetchOwned, ?ownHeld, ?fetchCopy, ?fetchClean, ?putLine, ?putBytes, ?atomHome, ?begins, ?finished, ?probes,
    ?overwrites, ?owner⟩
  case fetchShared =>
    intro home line a tn ecc s ha ho
    exact congrArg Host.Outcome.next (if_pos (by simp [ha, ho]))
  case fetchOwned =>
    intro home line a tn ecc s ha ho
    exact congrArg Host.Outcome.next (if_pos (by simp [ha, ho]))
  case ownHeld =>
    intro home line a tn ecc s ha ho
    exact congrArg Host.Outcome.next (if_pos (by simp [ha, ho]))
  case fetchCopy =>
    intro home line a tn ecc s ha
    exact congrArg Host.Outcome.next (if_pos ha)
  case fetchClean =>
    intro home line a tn ecc s ha hreach
    exact congrArg Host.Outcome.next (if_pos (by simp [ha, hreach]))
  case putLine =>
    intro home line a tn data s ha hlen
    exact (if_neg (not_not_intro hlen)).trans (congrArg Host.Outcome.next (if_pos ha))
  case putBytes =>
    intro home line a tn en data ecc s ha hlen
    exact (if_neg (not_not_intro hlen)).trans (congrArg Host.Outcome.next (if_pos ha))
  case atomHome =>
    intro home addr a tn op size v w ecc s hok ha hreach
    exact congrArg Host.Outcome.next (if_pos (by simp [hok, ha, hreach]))
  case begins =>
    intro s r hline hup hidle
    exact atHome_idle hline hup hidle
  case finished =>
    intro s r ⟨hk, hd⟩ hroom hnobody
    simp only [startReq_room hd hroom, if_neg hk, hnobody, List.isEmpty_nil, if_true]
  case probes =>
    intro s r code as ⟨hk, hd⟩ hroom hsnoops hsome
    simp only [startReq_room hd hroom, if_neg hk, hsnoops, List.isEmpty_iff, if_neg hsome]
  case overwrites =>
    intro s r ⟨hk, hd⟩
    simp only [startReq_room hd (dirRoom_of_kind_five hk), if_pos hk]
  case owner =>
    intro home line a tn ecc s ho
    simp [exec_fetchShared, exec_fetchOwned, exec_ownHeld, execFetchShared, execFetchOwned, execOwnHeld, ho]

end Sys2Proof.Machine
end

section
/-! PROOFS. The cores' atomics and their mode (11 R287-R289, R297). -/

namespace Sys2Proof.Machine

/-! ### The commands -/

/-- The commands of the atomics with one operand, and their operations (11 R287). -/
def plainAtomics : List ((Fin 40 → Nat → Fin 2 → W64 → Instr) × Nat) :=
  [(Instr.atomAdd, 0), (Instr.atomSmin, 1), (Instr.atomSmax, 2), (Instr.atomUmin, 3), (Instr.atomUmax, 4), (Instr.atomSwap, 5),
    (Instr.atomAnd, 7), (Instr.atomOr, 8), (Instr.atomXor, 9)]

/-- Every atomic with one operand is issued with its operation. -/
theorem exec_of_mem_plainAtomics {p : (Fin 40 → Nat → Fin 2 → W64 → Instr) × Nat} (hp : p ∈ plainAtomics) (a : Fin 40) (addr : Nat)
    (size : Fin 2) (v : W64) (s : State) : exec (p.1 a addr size v) s = .next (atomIssue s a addr size p.2 v.toNat 0) := by
  revert p a addr size v s
  simp only [plainAtomics, List.forall_mem_cons]
  exact ⟨exec_atomAdd, exec_atomSmin, exec_atomSmax, exec_atomUmin, exec_atomUmax, exec_atomSwap, exec_atomAnd, exec_atomOr,
    exec_atomXor, List.forall_mem_nil _⟩

/-! ### Near or far -/

/-- Where an atomic is performed (11 R288, R289): at the home in mode 1, and in mode 0 as the predictor says. -/
def goesNear (s : State) (a pa : Nat) : Prop :=
  fget s (Reg.COH_ATOM_CTRL (agentUnit a)) 0 2 = 1 ∨
    fget s (Reg.COH_ATOM_CTRL (agentUnit a)) 0 2 = 0 ∧ 2 ≤ tget predDef s.pred (predKey a pa)

section
variable {s : State} {a addr size op v w : Nat}

/-- An agent without cores issues no atomic. -/
theorem atomIssue_coreless (ha : 28 ≤ a) : atomIssue s a addr size op v w = s := if_pos ha

section
variable (ha : a < 28)
include ha

theorem atomIssue_badTarget (hbad : atomOk s addr size = false) : atomIssue s a addr size op v w = emit s .accessFault [0] [] :=
  (if_neg (Nat.not_le_of_lt ha)).trans (if_pos (by simp [hbad]))

variable (hok : atomOk s addr size = true)
include hok

theorem atomIssue_near (hn : goesNear s a (home s addr)) :
    atomIssue s a addr size op v w = atHome s (atomReq s (lineHome s (home s addr / 128)) a addr 4096 7 op size v w 0) := by
  unfold atomIssue
  rw [if_neg (Nat.not_le_of_lt ha), if_neg (by simp [hok])]
  refine if_pos ?_
  rcases hn with hmode | ⟨hmode, hpred⟩
  · simp [hmode]
  · simp [hmode, hpred]

/-- A far atomic on a line held in E or M is performed there; on another the line is asked for first. -/
theorem atomIssue_far (hf : ¬ goesNear s a (home s addr)) :
    atomIssue s a addr size op v w =
      let r := atomReq s (lineHome s (home s addr / 128)) a addr 4096 8 op size v w 0
      match copyOf s a (home s addr / 128) with
      | some c => if 2 ≤ c.st then predMove (atomFar s r c.data) a (home s addr) false true else atHome s r
      | none => atHome s r := by
  unfold goesNear at hf
  unfold atomIssue
  rw [if_neg (Nat.not_le_of_lt ha), if_neg (by simp [hok])]
  refine if_neg ?_
  split
  next hmode => simpa [hmode] using hf
  next hmode => simpa [hmode] using hf

end

end

/-- Settles O38: each command issues its operation, and the mode, the predictor and the copy held say where it is performed. -/
theorem atomicsComplete : Obligations.AtomicsComplete := by
  refine ⟨?plain, ?cas, ?badTarget, ?nearMode, ?farHeld, ?values, ?mode, ?modeRefused, ?predictedNear, ?farAsks, ?inCache, ?coreless⟩
  case plain =>
    intro mk op a addr size v s hmem
    exact exec_of_mem_plainAtomics (p := (mk, op)) hmem a addr size v s
  case cas =>
    intro a addr size cmp v s
    rw [exec_atomCas, execAtomCas]
  case badTarget =>
    intro s a addr size op v w ha hbad
    exact atomIssue_badTarget ha hbad
  case nearMode =>
    intro s a addr size op v w ha hok hmode
    exact atomIssue_near ha hok (.inl hmode)
  case farHeld =>
    intro s a addr size op v w c ha hok hmode hc hst
    rw [atomIssue_far ha hok (by simp [goesNear, hmode])]
    simp only [hc, if_pos hst]
  case values =>
    intro old v ⟨_, hv⟩
    have hv : v % 256 ^ 4 = v := Nat.mod_eq_of_lt hv
    simp only [atomNew, hv]
    refine ⟨rfl, rfl, rfl, rfl, rfl, rfl, rfl, fun w hw => ?_⟩
    change (if old = v then w % 256 ^ 4 else old) = _
    rw [show w % 256 ^ 4 = w from Nat.mod_eq_of_lt hw]
  case mode =>
    intro u v s hw hv
    rw [exec_atomModeWrite, execAtomModeWrite, viaWin_open hw]
    exact if_neg hv
  case modeRefused =>
    intro u v s hw hv
    rw [exec_atomModeWrite, execAtomModeWrite, viaWin_open hw]
    exact if_pos hv
  case predictedNear =>
    intro s a addr size op v w ha hok hmode hpred
    exact atomIssue_near ha hok (.inr ⟨hmode, hpred⟩)
  case farAsks =>
    intro s a addr size op v w ha hok hfar hheld
    rw [atomIssue_far ha hok (by unfold goesNear; omega)]
    split
    next c hc => exact if_neg (Nat.not_le_of_lt (hheld c hc))
    next => rfl
  case inCache =>
    intro s r d hclean
    exact if_neg (ne_true_of_eq_false hclean)
  case coreless =>
    intro mk a addr size v s ha hmem
    obtain ⟨p, hp, rfl⟩ := List.mem_map.mp (show mk ∈ plainAtomics.map Prod.fst from hmem)
    rw [exec_of_mem_plainAtomics hp, atomIssue_coreless ha]

end Sys2Proof.Machine
end

section
/-! PROOFS. Snoops, responses, write-backs and the queues of the homes (11 R280, R281, R284, R292, R296). -/

namespace Sys2Proof.Machine

/-- The probes with their codes and the state each leaves a copy in (11 R284). -/
def probeCommands : List ((Fin 40 → Nat → Fin 64 → Instr) × Nat × Nat) :=
  [(Instr.probeShare, 0, 1), (Instr.probeYield, 1, 0), (Instr.probeDrop, 2, 0), (Instr.probeCopy, 3, 3), (Instr.probeFlush, 4, 2)]

/-- Every probe is the one answer to a snoop with its code and the state it leaves. -/
theorem exec_of_mem_probeCommands {p : (Fin 40 → Nat → Fin 64 → Instr) × Nat × Nat} (hp : p ∈ probeCommands) (a : Fin 40)
    (line : Nat) (q : Fin 64) (s : State) : exec (p.1 a line q) s = .next (snoopAnswer s a line p.2.1 p.2.2) := by
  revert p a line q s
  simp only [probeCommands, List.forall_mem_cons]
  exact ⟨exec_probeShare, exec_probeYield, exec_probeDrop, exec_probeCopy, exec_probeFlush, List.forall_mem_nil _⟩

/-! ### Answers -/

section
variable {s : State} {a line code keep : Nat}

/-- What an agent answers from a copy: the data of a modified line and that of a clean owned one, but for one that is dropped. -/
def snoopReply (c : Copy) (a l code : Nat) : Copy :=
  if c.st = 3 ∧ code ≠ 2 then ⟨a, l, 3, c.data⟩ else if c.st = 2 ∧ code ≠ 2 then ⟨a, l, 1, c.data⟩ else ⟨a, l, 2, []⟩

/-- A copy left in a state, 0 for none. -/
def keepCopy (s : State) (a l : Nat) (c : Copy) (k : Nat) : State := if k = 0 then dropCopy s a l else putCopy s { c with st := k }

/-- The homes of lines do not depend on who holds copies. -/
theorem lineHome_keepCopy (s : State) (a l : Nat) (c : Copy) (k m : Nat) : lineHome (keepCopy s a l c k) m = lineHome s m := by
  unfold keepCopy
  split <;> rfl

theorem snoopAnswer_unsnooped (hn : snooped s a (canonLine s line) code = false) : snoopAnswer s a line code keep = s :=
  if_pos (by simp [hn])

section
variable (hn : snooped s a (canonLine s line) code = true)
include hn

theorem snoopAnswer_none (hc : copyOf s a (canonLine s line) = none) :
    snoopAnswer s a line code keep =
      toHome (s.withResps (s.resps ++ [⟨a, canonLine s line, 0, []⟩])) 17 (canonLine s line) a (lineHome s (canonLine s line)) [] := by
  simp only [snoopAnswer, hn, hc, Bool.not_true, Bool.false_eq_true, if_false]

theorem snoopAnswer_held {c : Copy} (hc : copyOf s a (canonLine s line) = some c) :
    snoopAnswer s a line code keep =
      let r := snoopReply c a (canonLine s line) code
      let u := keepCopy s a (canonLine s line) c (if code = 3 then c.st else min c.st keep)
      toHome (u.withResps (u.resps ++ [r])) (if r.data.isEmpty then 17 else 18) (canonLine s line) a (lineHome s (canonLine s line))
        r.data := by
  simp only [← lineHome_keepCopy s a (canonLine s line) c (if code = 3 then c.st else min c.st keep) (canonLine s line)]
  simp only [snoopAnswer, hn, hc, Bool.not_true, Bool.false_eq_true, if_false]
  rfl

end

end

/-! ### Responses -/

/-- A response that its home awaits, the oldest of its class, is taken into its transaction. -/
theorem execSnoopResponse_taken {home : Fin 18} {line : Nat} {a : Fin 40} {t : Txn} {c : Copy} {s : State}
    (ht : s.txns.find? (fun t => t.home == home.val && t.line == canonLine s line && t.wait.contains a.val) = some t)
    (hc : (respsOf s home a).find? (fun c => c.line == canonLine s line) = some c)
    (hfirst : (respsOf s home a).find? (fun x => x.data.isEmpty == c.data.isEmpty) = some c) :
    execSnoopResponse home line a s =
      .next (putTxn (s.withResps (s.resps.filter (fun x => ¬ (x.agent = a.val ∧ x.line = canonLine s line)))) (takeResp t c)) := by
  simp only [execSnoopResponse, ht, hc, hfirst, ne_eq, not_true, if_false]

/-! ### Write-backs -/

/-! A copy gone and a message sent leave the directory, the homes and the dead agents as they were. -/

section
variable {s : State} {code line a h : Nat} {data : List Byte}

@[simp] theorem dirOf_toHome (l : Nat) : dirOf (toHome s code line a h data) l = dirOf s l := by
  unfold toHome
  split <;> rfl

@[simp] theorem homeAbsent_toHome (k : Nat) : homeAbsent (toHome s code line a h data) k = homeAbsent s k := by
  unfold toHome
  split <;> rfl

@[simp] theorem isDead_toHome (k b : Nat) : isDead (toHome s code line a h data) k b = isDead s k b := by
  unfold toHome
  split <;> rfl

@[simp] theorem dropCopy_txns (l : Nat) : (dropCopy s a l).txns = s.txns := rfl
@[simp] theorem dirOf_dropCopy (l m : Nat) : dirOf (dropCopy s a l) m = dirOf s m := rfl
@[simp] theorem homeAbsent_dropCopy (l k : Nat) : homeAbsent (dropCopy s a l) k = homeAbsent s k := rfl
@[simp] theorem isDead_dropCopy (l k b : Nat) : isDead (dropCopy s a l) k b = isDead s k b := rfl
@[simp] theorem dirOf_lineBack (l m : Nat) : dirOf (lineBack s l data) m = dirOf s m := rfl

end

/-- What a home makes of a write-back that reaches it: an absent one drops it as an orphan, one that holds the agent dead ignores it; else
it crosses a snoop of the agent as that snoop's data, or is stored and frees the line where the agent owned it. -/
def takeWriteBack (s : State) (home a l : Nat) (d : List Byte) : Out :=
  if homeAbsent s home then .next (orphanDrop s a l)
  else if isDead s home a then .next s
  else match s.txns.find? (fun t => t.line == l && t.wait.contains a) with
    | some t => .next (putTxn s { t with dat := some d, took := t.took || !t.req.any (fun r => r.a == a) })
    | none =>
      let s := lineBack s l d
      .next (match dirOf s l with | some e => if e.excl = a + 1 then dropDir s home l else s | none => s)

section
variable {s : State} {home a l : Nat} {d : List Byte}

theorem takeWriteBack_absent (habsent : homeAbsent s home = true) : takeWriteBack s home a l d = .next (orphanDrop s a l) :=
  if_pos habsent

section
variable (hup : homeAbsent s home = false ∧ isDead s home a = false)
include hup

theorem takeWriteBack_crosses {t : Txn} (ht : s.txns.find? (fun t => t.line == l && t.wait.contains a) = some t) :
    takeWriteBack s home a l d = .next (putTxn s { t with dat := some d, took := t.took || !t.req.any (fun r => r.a == a) }) := by
  obtain ⟨hactive, halive⟩ := hup
  simp only [takeWriteBack, hactive, halive, ht, Bool.false_eq_true, if_false]

theorem takeWriteBack_owner {e : DirEnt} (ht : s.txns = []) (he : dirOf s l = some e) (howner : e.excl = a + 1) :
    takeWriteBack s home a l d = .next (dropDir (lineBack s l d) home l) := by
  obtain ⟨hactive, halive⟩ := hup
  simp only [takeWriteBack, hactive, halive, ht, List.find?_nil, dirOf_lineBack, he, if_pos howner, Bool.false_eq_true, if_false]

end

end

/-- A modified copy of an agent with no earlier data under way to its home leaves it, and the home takes what it is sent. -/
theorem execWriteBack_sent {s : State} {home : Fin 18} {line : Nat} {a : Fin 40} {c : Copy}
    (hh : lineHome s (canonLine s line) = home.val) (hc : copyOf s a (canonLine s line) = some c)
    (hm : c.st = 3 ∧ (respsOf s home a).any (fun c => !c.data.isEmpty) = false) :
    execWriteBack home line a s =
      takeWriteBack (toHome (dropCopy s a (canonLine s line)) 19 (canonLine s line) a home c.data) home a (canonLine s line) c.data := by
  obtain ⟨hst, hresps⟩ := hm
  simp only [execWriteBack, hh, hc, hst, hresps, ne_eq, not_true, Bool.false_eq_true, or_self, if_false]
  rfl

/-- Settles O39: the copy decides an answer, the home and its transaction a response and a write-back, and the line a waiting request. -/
theorem snoopsComplete : Obligations.SnoopsComplete := by
  refine ⟨?probe, ?modified, ?response, ?ownerWritesBack, ?waiting, ?noCopy, ?held, ?unsnooped, ?crosses, ?orphan⟩
  case probe =>
    intro mk code keep a line q s hmem
    exact exec_of_mem_probeCommands (p := (mk, code, keep)) hmem a line q s
  case modified =>
    intro s a line code keep c hn hc ⟨hst, hdrop, hcopy⟩ hkeep
    rw [snoopAnswer_held hn hc, if_neg hcopy, hst, Nat.min_eq_right (by omega)]
    simp only [keepCopy, snoopReply, hst, hdrop, ne_eq, not_false_eq_true, and_self, if_true, if_neg (Nat.ne_of_gt hkeep.1)]
  case response =>
    intro home line a t c s ht ⟨hc, hfirst⟩
    rw [exec_snoopResponse, execSnoopResponse_taken ht hc hfirst, takeResp]
  case ownerWritesBack =>
    intro home line a c e s hh hc hst hup ⟨htxns, hresps⟩ he howner
    rw [exec_writeBack, execWriteBack_sent hh hc ⟨hst, by simp [respsOf, hresps]⟩,
      takeWriteBack_owner (by simpa using hup) (by simpa using htxns) (by simpa using he) howner]
  case waiting =>
    intro home line r s hfree hr
    simp only [exec_homeQueueServe, execHomeQueueServe, hfree, hr, Bool.false_eq_true, if_false]
  case noCopy =>
    intro s a line code keep hn hc
    exact snoopAnswer_none hn hc
  case held =>
    intro s a line code keep c hn hc
    exact snoopAnswer_held hn hc
  case unsnooped =>
    intro s a line code keep hn
    exact snoopAnswer_unsnooped hn
  case crosses =>
    intro home line a c t s hh hc hm hup ht
    rw [exec_writeBack, execWriteBack_sent hh hc hm, takeWriteBack_crosses (by simpa using hup) (by simpa using ht)]
  case orphan =>
    intro home line a c s hh hc hm habsent
    rw [exec_writeBack, execWriteBack_sent hh hc hm, takeWriteBack_absent (by simpa using habsent)]

end Sys2Proof.Machine
end

section
/-! PROOFS. The Bond joints: enables, training, the width exchange and the timers of an end (12 R304-R308, R314, R315, R320). -/

namespace Sys2Proof.Machine

section
variable {u : Unit6} {j : Joint} {s : State}

/-! ### Enable, disable and retrain -/

/-- A joint write acts on a joint that the window holds. -/
theorem jointWrite_present {f : State → Out} (hw : winOpen s u) (hj : noJoint u j = false) :
    viaWin s u (fun s => if noJoint u j then .next s else f s) = f s := by
  rw [viaWin_open hw, hj, if_neg Bool.false_ne_true]

/-- A joint write to the fourth joint, which a Keystone lacks, changes nothing. -/
theorem jointWrite_lacking {f : State → Out} (hw : winOpen s u) (hj : noJoint u j = true) :
    viaWin s u (fun s => if noJoint u j then .next s else f s) = .next s := by
  rw [viaWin_open hw, if_pos hj]

/-- An end that is not connected is refused first, then one whose domain is not ON; another is enabled, and from OFF it goes to DETECT. -/
theorem execBndEnable_open (hw : winOpen s u) (hj : noJoint u j = false) :
    execBndEnable u j s =
      let t := bndLast (fset s (Reg.BND_CTRL u j) 0 1 1) u j 0 0
      .next (if connected j = false then bndLast s u j Rsn.CFG_RANGE 0xD9
        else if isOn s (jointDom u j) = false then bndLast s u j Rsn.STATE 0xD8
        else if bndState t u j = 0 then setBnd t u j 1 else t) := by
  rw [execBndEnable, jointWrite_present hw hj]
  cases hc : connected j
  case false => simp only [firstFail, Bool.false_eq_true, if_false, if_true]
  case true =>
    cases hon : isOn s (jointDom u j) <;> simp only [firstFail, Bool.false_eq_true, Bool.true_eq_false, if_false, if_true]

/-- A disable is refused while items reserve the joint; else the end is OFF and its session is over. -/
theorem execBndDisable_open (hw : winOpen s u) (hj : noJoint u j = false) :
    execBndDisable u j s =
      if jointHeld s u j then .next (bndLast s u j Rsn.STATE 0xDA)
      else .next (bndLast (endSession (setBnd (fset s (Reg.BND_CTRL u j) 0 1 0) u j 0) u j) u j 0 0) :=
  jointWrite_present hw hj

/-- A retrain is refused while items reserve the joint, and then of an end that is not ACTIVE. -/
theorem execBndRetrain_open (hw : winOpen s u) (hj : noJoint u j = false) :
    execBndRetrain u j s =
      if jointHeld s u j then .next (bndLast s u j Rsn.STATE 0xDA)
      else if bndState s u j ≠ 4 then .next (bndLast s u j Rsn.STATE 0xD8)
      else .next (bndLast (retrain s u j 0) u j 0 0) :=
  jointWrite_present hw hj

/-! ### Training -/

/-- At a connected end whose domain is ON, TS0 starts a fresh session from DETECT or ABSENT and a retrain from ACTIVE. -/
theorem execTs0Lock_on (hc : connected j = true) (hon : isOn s (jointDom u j) = true) :
    execTs0Lock u j s =
      let t := endSession (setBnd s u j 2) u j
      if bndState s u j = 1 ∨ bndState s u j = 6 then .next (setBondX t u j { bondX t u j with pLast := ts0 t u j })
      else if bndState s u j = 4 then .next (retrain s u j 0)
      else .next s := by
  simp only [execTs0Lock, hc, hon, Bool.not_true, Bool.or_self, Bool.false_eq_true, if_false]

/-- A group count has no width of 12 R301 exactly when it is below 8. -/
theorem widthOf_eq_zero {n : Nat} : widthOf n = 0 ↔ n < 8 := by
  unfold widthOf
  grind

theorem goodList_zero : goodList 0 = [] := by decide

/-- A lane test without inverted lanes, in LANE_TEST or in TICKET: fewer than 8 good groups take the end to DOWN, a test within an
exchange abandons its epoch, and another starts the exchange and proposes its first epoch. -/
theorem execLaneTestDone_noInverted {good : BitVec 26} (hst : bndState s u j = 2 ∨ bndState s u j = 3) :
    execLaneTestDone u j good 0 s =
      let x := bondX s u j
      let t := fset s (Reg.BND_RX_GOOD u j) 0 26 good.toNat
      let w := widthOf (goodList good.toNat).length
      if w = 0 then .next (bndDown t u j 0xD4)
      else if x.own ≠ 0 then .next (abandon (setBondX t u j { x with own := w }) u j (x.e + 1))
      else .next (propose (setBondX (setBnd t u j 3) u j { x with
        e := firstEpoch (if x.fresh then none else some (fget t (Reg.BND_STATUS u j) 8 8)) x.pLast, own := w, sentW := none, gotW := none, gave := 0 }) u j) := by
  have hgood : (good &&& ~~~(0 : BitVec 26)).toNat = good.toNat := by
    simp only [BitVec.ofNat_eq_ofNat, BitVec.not_zero, BitVec.and_allOnes]
  have hpol : goodList (0 : BitVec 26).toNat = [] := goodList_zero
  have hrun : ¬ (bndState s u j ≠ 2 ∧ bndState s u j ≠ 3 ∧ bndState s u j ≠ 5) := by omega
  have hfirst : bndState s u j ≠ 5 := by omega
  simp only [execLaneTestDone, hgood, hpol, List.foldl_nil, if_neg hrun, if_neg hfirst]

/-! ### The exchange and the timers -/

/-- An epoch that runs out within an exchange is abandoned. -/
theorem execEpochTimeout_exchange (hst : bndState s u j = 3 ∨ bndState s u j = 5) (hown : (bondX s u j).own ≠ 0) :
    execEpochTimeout u j s = .next (abandon s u j ((bondX s u j).e + 1)) := by
  rw [execEpochTimeout, if_pos ⟨hst, hown⟩]

/-- Within an exchange the ticket is sent again: CONFIRM of the width answered, PROPOSE before an answer. -/
theorem execWidthTicketSend_exchange (hst : bndState s u j = 3 ∨ bndState s u j = 5) (hown : (bondX s u j).own ≠ 0) :
    execWidthTicketSend u j s = .next ((bondX s u j).sentW.elim (propose s u j)
      (fun w => sendTicket s u j 2 (bondX s u j).e w (fget s (Reg.BND_RX_GOOD u j) 0 26) 0)) := by
  have hrun : ¬ ((bndState s u j ≠ 3 ∧ bndState s u j ≠ 5) ∨ (bondX s u j).own = 0) := by omega
  simp only [execWidthTicketSend, if_neg hrun]
  cases (bondX s u j).sentW <;> rfl

theorem execPartnerSilent_active (hst : bndState s u j = 4) : execPartnerSilent u j s = .next (bndAbsent s u j) := by
  rw [execPartnerSilent, if_pos hst]

theorem execRetrainTimeout_retrain (hst : bndState s u j = 5) : execRetrainTimeout u j s = .next (bndAbsent s u j) := by
  rw [execRetrainTimeout, if_pos hst]

end

/-- Settles O41: each clause is the case of the command's equation that the joint's state and reservations choose. -/
theorem jointControlComplete : Obligations.JointControlComplete := by
  refine ⟨?enabled, ?disabled, ?retrained, ?reserved, ?ts0, ?laneTest, ?tooFew, ?epochOut, ?proposeAgain, ?silent, ?noEpoch,
    ?notConnected, ?domainOff, ?notActive, ?fourthJoint, ?confirmAgain, ?ts0Active⟩
  case enabled =>
    intro u j s hw hj ⟨hc, hon⟩ hoff
    simp only [exec_bndEnable, execBndEnable_open hw hj, hc, hon, Bool.true_eq_false, if_false, if_pos hoff]
  case disabled =>
    intro u j s hw hj hfree
    rw [exec_bndDisable, execBndDisable_open hw hj, hfree, if_neg Bool.false_ne_true]
  case retrained =>
    intro u j s hw hj hfree hactive
    rw [exec_bndRetrain, execBndRetrain_open hw hj, hfree, if_neg Bool.false_ne_true, if_neg (not_not.mpr hactive)]
  case reserved =>
    intro u j s hw hj hheld
    rw [exec_bndDisable, exec_bndRetrain, execBndDisable_open hw hj, execBndRetrain_open hw hj, if_pos hheld, if_pos hheld]
    exact ⟨rfl, rfl⟩
  case ts0 =>
    intro u j s ⟨hc, hon⟩ hst
    exact (execTs0Lock_on hc hon).trans (if_pos hst)
  case laneTest =>
    intro u j good pol s hst hown hpol henough
    have hwidth : widthOf (goodList good.toNat).length ≠ 0 := mt widthOf_eq_zero.mp (not_lt.mpr henough)
    subst hpol
    simp only [exec_laneTestDone, execLaneTestDone_noInverted hst, if_neg hwidth, if_neg (not_not.mpr hown)]
  case tooFew =>
    intro u j good s hst hfew
    rw [exec_laneTestDone, execLaneTestDone_noInverted (.inl hst)]
    exact if_pos (widthOf_eq_zero.mpr hfew)
  case epochOut =>
    intro u j s hst hown
    rw [exec_epochTimeout, execEpochTimeout_exchange hst hown]
  case proposeAgain =>
    intro u j s hst hown hsent
    rw [exec_widthTicketSend, execWidthTicketSend_exchange hst hown, hsent, Option.elim_none]
  case silent =>
    intro u j s hst
    rw [exec_partnerSilent, execPartnerSilent_active hst]
  case noEpoch =>
    intro u j s hst
    rw [exec_retrainTimeout, execRetrainTimeout_retrain hst]
  case notConnected =>
    intro u j s hw hj hc
    simp only [exec_bndEnable, execBndEnable_open hw hj, if_pos hc]
  case domainOff =>
    intro u j s hw hj ⟨hc, hoff⟩
    simp only [exec_bndEnable, execBndEnable_open hw hj, hc, Bool.true_eq_false, if_false, if_pos hoff]
  case notActive =>
    intro u j s hw hj hfree hst
    rw [exec_bndRetrain, execBndRetrain_open hw hj, hfree, if_neg Bool.false_ne_true, if_pos hst]
  case fourthJoint =>
    intro u j s hw hj
    rw [exec_bndEnable, exec_bndDisable, exec_bndRetrain]
    exact ⟨jointWrite_lacking hw hj, jointWrite_lacking hw hj, jointWrite_lacking hw hj⟩
  case confirmAgain =>
    intro u j w s hst hown hsent
    rw [exec_widthTicketSend, execWidthTicketSend_exchange hst hown, hsent, Option.elim_some]
  case ts0Active =>
    intro u j s ⟨hc, hon⟩ hst
    have htraining : ¬ (bndState s u j = 1 ∨ bndState s u j = 6) := by omega
    simp only [exec_ts0Lock, execTs0Lock_on hc hon, if_neg htraining, if_pos hst]

end Sys2Proof.Machine
end

section
/-! PROOFS. The queue (00, INDEX.md): a step runs its front command, every command keeps the rest and the canonical forms, and every command
that a sender can form answers a next state. -/

namespace Sys2Proof.Machine

/-! ### What a command keeps -/

/-- Every command keeps the queue behind it and the canonical forms. -/
theorem keep_exec (s : State) : ∀ c : Instr, KeepOut s (exec c s)
  | .powerUp _ => keep_execPowerUp .rfl
  | .powerGood => keep_execPowerGood .rfl
  | .modEnFall => keep_execModEnFall .rfl
  | .modResetAssert _ => keep_execModResetAssert .rfl
  | .modResetRelease => keep_execModResetRelease .rfl
  | .inputHigh _ => keep_execInputHigh .rfl
  | .inputMargin _ => keep_execInputMargin .rfl
  | .inputNormal _ => keep_execInputNormal .rfl
  | .inputLow _ => keep_execInputLow .rfl
  | .refclkLoss _ => keep_execRefclkLoss .rfl
  | .pllUnlock _ => keep_execPllUnlock .rfl
  | .hwThermTrip => keep_execHwThermTrip .rfl
  | .thermalTrip _ _ _ => keep_execThermalTrip .rfl
  | .coolantWarm _ => keep_execCoolantWarm .rfl
  | .moduleCold => keep_execModuleCold .rfl
  | .moduleWarm => keep_execModuleWarm .rfl
  | .kcore _ _ => keep_execKcore .rfl
  | .kfull _ => keep_execKfull .rfl
  | .dieWarm _ => keep_execDieWarm .rfl
  | .dieCold _ => keep_execDieCold .rfl
  | .resetReqModuleWarm _ _ => keep_execResetReqModuleWarm .rfl
  | .resetReqKcore _ _ => keep_execResetReqKcore .rfl
  | .resetReqKfull _ _ => keep_execResetReqKfull .rfl
  | .resetReqDieWarm _ _ => keep_execResetReqDieWarm .rfl
  | .resetReqDieCold _ _ => keep_execResetReqDieCold .rfl
  | .romElection _ _ => keep_execRomElection .rfl
  | .bootStepDone _ _ => keep_execBootStepDone .rfl
  | .bootStepTimeout => keep_execBootStepTimeout .rfl
  | .positionCheck _ _ _ _ => keep_execPositionCheck .rfl
  | .pdRequestOn _ _ => keep_execPdRequestOn .rfl
  | .pdRequestOff _ _ => keep_execPdRequestOff .rfl
  | .pdQueueHead _ => keep_execPdQueueHead .rfl
  | .domainWakeDone _ => keep_execDomainWakeDone .rfl
  | .domainOffDone _ => keep_execDomainOffDone .rfl
  | .blockFence _ _ => keep_execBlockFence .rfl
  | .blockTest _ _ => keep_execBlockTest .rfl
  | .blockSelftestDone _ _ _ => keep_execBlockSelftestDone .rfl
  | .blockClearDone _ _ => keep_execBlockClearDone .rfl
  | .ctxEnable _ _ _ => keep_execCtxEnable .rfl
  | .ctxDisable _ _ _ => keep_execCtxDisable .rfl
  | .fpFlagsClear _ _ _ _ _ _ => keep_execFpFlagsClear .rfl
  | .violClear _ _ _ _ => keep_execViolClear .rfl
  | .spadRead _ _ _ _ _ _ => keep_execSpadRead .rfl
  | .spadWrite _ _ _ _ _ _ => keep_execSpadWrite .rfl
  | .spadSetWrite _ _ _ _ _ _ => keep_execSpadSetWrite .rfl
  | .spadClearWrite _ _ _ _ _ _ => keep_execSpadClearWrite .rfl
  | .opnd _ _ _ => keep_execOpnd .rfl
  | .mason _ _ _ => keep_execMason .rfl
  | .masonStart _ _ _ => keep_execMasonStart .rfl
  | .masonDone _ _ _ => keep_execMasonDone .rfl
  | .plumbCompareDone _ => keep_execPlumbCompareDone .rfl
  | .hod _ _ _ => keep_execHod .rfl
  | .hodDone _ _ _ _ => keep_execHodDone .rfl
  | .transferPlannedDone _ _ _ _ => keep_execTransferPlannedDone .rfl
  | .waitg _ _ _ => keep_execWaitg .rfl
  | .ctxWake _ _ _ => keep_execCtxWake .rfl
  | .signal _ _ _ => keep_execSignal .rfl
  | .loop _ _ _ => keep_execLoop .rfl
  | .fencew _ _ _ => keep_execFencew .rfl
  | .ctxEnd _ _ _ => keep_execCtxEnd .rfl
  | .add _ _ _ => keep_execAdd .rfl
  | .sub _ _ _ => keep_execSub .rfl
  | .mul _ _ _ => keep_execMul .rfl
  | .fma _ _ _ => keep_execFma .rfl
  | .div _ _ _ => keep_execDiv .rfl
  | .sqrt _ _ _ => keep_execSqrt .rfl
  | .min _ _ _ => keep_execMin .rfl
  | .max _ _ _ => keep_execMax .rfl
  | .minnum _ _ _ => keep_execMinnum .rfl
  | .maxnum _ _ _ => keep_execMaxnum .rfl
  | .cmpeq _ _ _ => keep_execCmpeq .rfl
  | .cmplt _ _ _ => keep_execCmplt .rfl
  | .cmple _ _ _ => keep_execCmple .rfl
  | .exp2 _ _ _ => keep_execExp2 .rfl
  | .log2 _ _ _ => keep_execLog2 .rfl
  | .tanh _ _ _ => keep_execTanh .rfl
  | .sigmoid _ _ _ => keep_execSigmoid .rfl
  | .erf _ _ _ => keep_execErf .rfl
  | .sinpi _ _ _ => keep_execSinpi .rfl
  | .cospi _ _ _ => keep_execCospi .rfl
  | .rsqrt _ _ _ => keep_execRsqrt .rfl
  | .vload _ _ _ => keep_execVload .rfl
  | .vstore _ _ _ => keep_execVstore .rfl
  | .vkey _ _ _ => keep_execVkey .rfl
  | .poolMax _ _ _ => keep_execPoolMax .rfl
  | .poolAvgAll _ _ _ => keep_execPoolAvgAll .rfl
  | .poolAvgValid _ _ _ => keep_execPoolAvgValid .rfl
  | .argmax _ _ _ => keep_execArgmax .rfl
  | .argmaxCont _ _ _ => keep_execArgmaxCont .rfl
  | .castAbsmax _ _ _ => keep_execCastAbsmax .rfl
  | .castDelayed _ _ _ => keep_execCastDelayed .rfl
  | .castDecode _ _ _ => keep_execCastDecode .rfl
  | .cvt _ _ _ => keep_execCvt .rfl
  | .vecDone _ _ _ => keep_execVecDone .rfl
  | .lintelRowArrive _ _ _ _ => keep_execLintelRowArrive .rfl
  | .lintelReleaseArrive _ _ _ _ _ => keep_execLintelReleaseArrive .rfl
  | .lintelIssueStart _ _ _ _ => keep_execLintelIssueStart .rfl
  | .plbEnable _ _ => keep_execPlbEnable .rfl
  | .plbDisable _ => keep_execPlbDisable .rfl
  | .ringDoorbell _ _ _ => keep_execRingDoorbell .rfl
  | .ringEnable _ _ _ => keep_execRingEnable .rfl
  | .ringDisable _ _ => keep_execRingDisable .rfl
  | .move _ _ => keep_execMove .rfl
  | .run _ _ => keep_execRun .rfl
  | .load _ _ => keep_execLoad .rfl
  | .loadDigestDone _ _ _ => keep_execLoadDigestDone .rfl
  | .unload _ _ => keep_execUnload .rfl
  | .abort _ _ => keep_execAbort .rfl
  | .powerOn _ _ => keep_execPowerOn .rfl
  | .powerOff _ _ => keep_execPowerOff .rfl
  | .fence _ _ => keep_execFence .rfl
  | .itemStart _ _ _ => keep_execItemStart .rfl
  | .runStart _ _ _ => keep_execRunStart .rfl
  | .runEnd _ _ _ => keep_execRunEnd .rfl
  | .itemComplete _ _ _ => keep_execItemComplete .rfl
  | .fbBatchIdleClose _ => keep_execFbBatchIdleClose .rfl
  | .fbResume _ _ => keep_execFbResume .rfl
  | .invRange _ _ => keep_execInvRange .rfl
  | .invAsid _ _ => keep_execInvAsid .rfl
  | .invAll _ => keep_execInvAll .rfl
  | .invAck _ => keep_execInvAck .rfl
  | .xltEnable _ _ => keep_execXltEnable .rfl
  | .xltDisable _ => keep_execXltDisable .rfl
  | .pcieRequest _ _ _ _ _ _ => keep_execPcieRequest .rfl
  | .ledgerPeriodEnd _ _ _ _ _ => keep_execLedgerPeriodEnd .rfl
  | .calendarSlotEnd _ => keep_execCalendarSlotEnd .rfl
  | .recalWindowEnd _ => keep_execRecalWindowEnd .rfl
  | .reserveExhausted _ _ => keep_execReserveExhausted .rfl
  | .sensorReport _ _ _ => keep_execSensorReport .rfl
  | .ldgEnable _ => keep_execLdgEnable .rfl
  | .ldgDisable _ => keep_execLdgDisable .rfl
  | .ldgModuleWrite _ => keep_execLdgModuleWrite .rfl
  | .ldgBudgetWrite _ _ _ => keep_execLdgBudgetWrite .rfl
  | .rowRepairStart _ _ _ _ => keep_execRowRepairStart .rfl
  | .rowRepairDone _ => keep_execRowRepairDone .rfl
  | .retireRequest _ _ => keep_execRetireRequest .rfl
  | .retireCopyStart _ => keep_execRetireCopyStart .rfl
  | .retireDone _ => keep_execRetireDone .rfl
  | .patrolScrubTick _ _ => keep_execPatrolScrubTick .rfl
  | .sktEvacuate _ => keep_execSktEvacuate .rfl
  | .sktOffline _ => keep_execSktOffline .rfl
  | .sktOnline _ => keep_execSktOnline .rfl
  | .sktStopDone _ => keep_execSktStopDone .rfl
  | .sktTrainDone _ _ _ => keep_execSktTrainDone .rfl
  | .sktClearDone _ => keep_execSktClearDone .rfl
  | .ftgEnable _ => keep_execFtgEnable .rfl
  | .ftgDisable _ => keep_execFtgDisable .rfl
  | .updateMomentum _ _ => keep_execUpdateMomentum .rfl
  | .updateAdaptive _ _ => keep_execUpdateAdaptive .rfl
  | .updateSigned _ _ => keep_execUpdateSigned .rfl
  | .reduce _ _ => keep_execReduce .rfl
  | .compressTopk _ _ => keep_execCompressTopk .rfl
  | .topkMerge _ _ => keep_execTopkMerge .rfl
  | .compressSign _ _ => keep_execCompressSign .rfl
  | .hash _ _ => keep_execHash .rfl
  | .scrub _ _ => keep_execScrub .rfl
  | .zero _ _ => keep_execZero .rfl
  | .ftgCommandStart _ _ => keep_execFtgCommandStart .rfl
  | .ftgCommandDone _ _ _ => keep_execFtgCommandDone .rfl
  | .fetchShared _ _ _ _ _ => keep_execFetchShared .rfl
  | .fetchOwned _ _ _ _ _ => keep_execFetchOwned .rfl
  | .ownHeld _ _ _ _ _ => keep_execOwnHeld .rfl
  | .fetchCopy _ _ _ _ _ => keep_execFetchCopy .rfl
  | .fetchClean _ _ _ _ _ => keep_execFetchClean .rfl
  | .putLine _ _ _ _ _ => keep_execPutLine .rfl
  | .putBytes _ _ _ _ _ _ _ => keep_execPutBytes .rfl
  | .atomHome _ _ _ _ _ _ _ _ _ => keep_execAtomHome .rfl
  | .probeShare _ _ req => keep_execProbeShare (req := req) .rfl
  | .probeYield _ _ req => keep_execProbeYield (req := req) .rfl
  | .probeDrop _ _ req => keep_execProbeDrop (req := req) .rfl
  | .probeCopy _ _ req => keep_execProbeCopy (req := req) .rfl
  | .probeFlush _ _ req => keep_execProbeFlush (req := req) .rfl
  | .snoopResponse _ _ _ => keep_execSnoopResponse .rfl
  | .writeBack _ _ _ => keep_execWriteBack .rfl
  | .homeQueueServe _ _ => keep_execHomeQueueServe .rfl
  | .deadNotice _ _ => keep_execDeadNotice .rfl
  | .reclaimDone _ => keep_execReclaimDone .rfl
  | .readaheadPurge _ _ _ => keep_execReadaheadPurge .rfl
  | .atomAdd _ _ _ _ => keep_execAtomAdd .rfl
  | .atomSmin _ _ _ _ => keep_execAtomSmin .rfl
  | .atomSmax _ _ _ _ => keep_execAtomSmax .rfl
  | .atomUmin _ _ _ _ => keep_execAtomUmin .rfl
  | .atomUmax _ _ _ _ => keep_execAtomUmax .rfl
  | .atomSwap _ _ _ _ => keep_execAtomSwap .rfl
  | .atomCas _ _ _ _ _ => keep_execAtomCas .rfl
  | .atomAnd _ _ _ _ => keep_execAtomAnd .rfl
  | .atomOr _ _ _ _ => keep_execAtomOr .rfl
  | .atomXor _ _ _ _ => keep_execAtomXor .rfl
  | .atomModeWrite _ _ => keep_execAtomModeWrite .rfl
  | .scopeG _ _ _ => keep_execScopeG .rfl
  | .bndEnable _ _ => keep_execBndEnable .rfl
  | .bndDisable _ _ => keep_execBndDisable .rfl
  | .bndRetrain _ _ => keep_execBndRetrain .rfl
  | .ts0Lock _ _ => keep_execTs0Lock .rfl
  | .laneTestDone _ _ _ _ => keep_execLaneTestDone .rfl
  | .propose _ _ _ => keep_execPropose .rfl
  | .confirm _ _ _ => keep_execConfirm .rfl
  | .narrowPropose _ _ _ => keep_execNarrowPropose .rfl
  | .narrowConfirm _ _ _ => keep_execNarrowConfirm .rfl
  | .epochTimeout _ _ => keep_execEpochTimeout .rfl
  | .narrowTimeout _ _ => keep_execNarrowTimeout .rfl
  | .flitReceive _ _ _ _ => keep_execFlitReceive .rfl
  | .partnerSilent _ _ => keep_execPartnerSilent .rfl
  | .retrainTimeout _ _ => keep_execRetrainTimeout .rfl
  | .absentNotice _ _ => keep_execAbsentNotice .rfl
  | .rejoin _ => keep_execRejoin .rfl
  | .admitDie _ => keep_execAdmitDie .rfl
  | .netPortEnable _ _ _ => keep_execNetPortEnable .rfl
  | .netPortDisable _ _ => keep_execNetPortDisable .rfl
  | .linkUp _ _ _ => keep_execLinkUp .rfl
  | .linkLost _ _ _ => keep_execLinkLost .rfl
  | .netWrite _ _ => keep_execNetWrite .rfl
  | .netRead _ _ => keep_execNetRead .rfl
  | .netSend _ _ => keep_execNetSend .rfl
  | .netRecv _ _ => keep_execNetRecv .rfl
  | .netReg _ _ => keep_execNetReg .rfl
  | .netDereg _ _ => keep_execNetDereg .rfl
  | .rawTx _ _ => keep_execRawTx .rfl
  | .flowSetOpen _ _ => keep_execFlowSetOpen .rfl
  | .flowSetReset _ _ => keep_execFlowSetReset .rfl
  | .flowSetClose _ _ => keep_execFlowSetClose .rfl
  | .nvme _ _ => keep_execNvme .rfl
  | .nvmeResponse _ _ _ => keep_execNvmeResponse .rfl
  | .roceSend _ _ _ _ _ _ _ => keep_execRoceSend .rfl
  | .roceWrite _ _ _ _ _ _ _ _ _ _ => keep_execRoceWrite .rfl
  | .roceReadRequest _ _ _ _ _ _ _ _ => keep_execRoceReadRequest .rfl
  | .roceReadResponse _ _ _ _ _ _ _ => keep_execRoceReadResponse .rfl
  | .roceAck _ _ _ => keep_execRoceAck .rfl
  | .roceNak _ _ _ _ => keep_execRoceNak .rfl
  | .cnp _ _ => keep_execCnp .rfl
  | .pollekData _ _ _ _ _ => keep_execPollekData .rfl
  | .pollekAck _ _ _ _ => keep_execPollekAck .rfl
  | .pollekNak _ _ _ => keep_execPollekNak .rfl
  | .exceptionFrame _ _ _ => keep_execExceptionFrame .rfl
  | .rxReserveAdmit _ _ => keep_execRxReserveAdmit .rfl
  | .rtoExpire _ _ => keep_execRtoExpire .rfl
  | .ackTimer _ _ => keep_execAckTimer .rfl
  | .netBoundExpire _ _ _ => keep_execNetBoundExpire .rfl
  | .chainSum _ _ => keep_execChainSum .rfl
  | .chainTopk _ _ => keep_execChainTopk .rfl
  | .chainSign _ _ => keep_execChainSign .rfl
  | .permute _ _ => keep_execPermute .rfl
  | .groupSet _ _ => keep_execGroupSet .rfl
  | .groupClose _ _ => keep_execGroupClose .rfl
  | .helloTimer _ _ => keep_execHelloTimer .rfl
  | .hello _ _ _ _ => keep_execHello .rfl
  | .redSum _ _ _ _ => keep_execRedSum .rfl
  | .redTopk _ _ _ _ => keep_execRedTopk .rfl
  | .redSign _ _ _ _ => keep_execRedSign .rfl
  | .gather _ _ _ _ => keep_execGather .rfl
  | .perm _ _ _ _ => keep_execPerm .rfl
  | .chainBoundExpire _ _ _ => keep_execChainBoundExpire .rfl
  | .plnStageWrite _ _ _ => keep_execPlnStageWrite .rfl
  | .idleClear _ _ => keep_execIdleClear .rfl
  | .wdogCtrlWrite _ _ => keep_execWdogCtrlWrite .rfl
  | .wdogKick _ => keep_execWdogKick .rfl
  | .wdogExpire _ => keep_execWdogExpire .rfl
  | .l2WritebackTimeout _ _ => keep_execL2WritebackTimeout .rfl
  | .keystoneReturned _ => keep_execKeystoneReturned .rfl
  | .attachEnable _ => keep_execAttachEnable .rfl
  | .attachClaim _ _ => keep_execAttachClaim .rfl
  | .attachFinish _ _ => keep_execAttachFinish .rfl
  | .attachRecordRewrite _ => keep_execAttachRecordRewrite .rfl
  | .holdReplay _ => keep_execHoldReplay .rfl
  | .holdDiscard _ => keep_execHoldDiscard .rfl
  | .holdDrainDone _ => keep_execHoldDrainDone .rfl
  | .holdStallResume _ => keep_execHoldStallResume .rfl
  | .fltEnable _ _ => keep_execFltEnable .rfl
  | .fltDisable _ => keep_execFltDisable .rfl
  | .fltRingEnable _ _ _ => keep_execFltRingEnable .rfl
  | .fltHeadWrite _ _ _ => keep_execFltHeadWrite .rfl
  | .overflowDrain _ _ => keep_execOverflowDrain .rfl
  | .fltFlagsClear _ _ _ => keep_execFltFlagsClear .rfl
  | .pkgSlotRequest _ _ => keep_execPkgSlotRequest .rfl
  | .recoverySlotGrant _ _ => keep_execRecoverySlotGrant .rfl
  | .recoveryActionDone _ _ _ => keep_execRecoveryActionDone .rfl
  | .recoveryTimeout _ _ => keep_execRecoveryTimeout .rfl
  | .ckpEnable _ _ => keep_execCkpEnable .rfl
  | .ckpDisable _ => keep_execCkpDisable .rfl
  | .point _ _ => keep_execPoint .rfl
  | .bed _ _ => keep_execBed .rfl
  | .unbed _ _ => keep_execUnbed .rfl
  | .verify _ _ => keep_execVerify .rfl
  | .adopt _ _ => keep_execAdopt .rfl
  | .holdupReady _ => keep_execHoldupReady .rfl
  | .persistentStoreStart _ => keep_execPersistentStoreStart .rfl
  | .persistentStoreDone _ => keep_execPersistentStoreDone .rfl
  | .imgUpdate => keep_execImgUpdate .rfl
  | .imgCheckDone => keep_execImgCheckDone .rfl
  | .imgRaiseSvn => keep_execImgRaiseSvn .rfl
  | .cntInc => keep_execCntInc .rfl
  | .sealExtend _ => keep_execSealExtend .rfl
  | .jrnlEnable _ _ _ => keep_execJrnlEnable .rfl
  | .jrnlDisable _ _ => keep_execJrnlDisable .rfl
  | .getCert _ _ _ => keep_execGetCert .rfl
  | .getMeasurements _ _ _ => keep_execGetMeasurements .rfl
  | .getSeal _ _ _ => keep_execGetSeal .rfl
  | .getTreatment _ _ _ => keep_execGetTreatment .rfl
  | .entdaa _ => keep_execEntdaa .rfl
  | .setEndpointId _ => keep_execSetEndpointId .rfl
  | .getEndpointId => keep_execGetEndpointId .rfl
  | .getMctpVersionSupport _ => keep_execGetMctpVersionSupport .rfl
  | .getMessageTypeSupport => keep_execGetMessageTypeSupport .rfl
  | .getStatus _ _ _ => keep_execGetStatus .rfl
  | .mgmtReset _ _ _ => keep_execMgmtReset .rfl
  | .setBudget _ _ _ => keep_execSetBudget .rfl
  | .getFatal _ _ _ => keep_execGetFatal .rfl
  | .locate _ _ _ => keep_execLocate .rfl
  | .registerWrite _ _ _ _ => keep_execRegisterWrite .rfl
  | .pllLock _ => keep_execPllLock .rfl
  | .uncorrectableStateError _ _ _ => keep_execUncorrectableStateError .rfl
  | .hbmLaneFault _ _ => keep_execHbmLaneFault .rfl
  | .widthTicketSend _ _ => keep_execWidthTicketSend .rfl
  | .imgReadbackDone => keep_execImgReadbackDone .rfl
  | .groupSetBoundExpire _ _ _ => keep_execGroupSetBoundExpire .rfl
  | .stalledItemBoundExpire _ _ _ => keep_execStalledItemBoundExpire .rfl
  | .loReadLatch _ => keep_execLoReadLatch .rfl

/-- A step keeps the canonical forms: the front command does, and so does an idle cycle. -/
theorem keep_step {s t : State} (h : step s = .next t) :
    ∃ u : State, (u.mem = s.mem ∧ u.regs = s.regs ∧ u.wide = s.wide ∧ u.latch = s.latch) ∧ Keep u t := by
  cases hq : s.pending with
  | nil => exact ⟨s, ⟨rfl, rfl, rfl, rfl⟩, keepOut_next (keep_idleCycle .rfl) t ((step_nil s hq).symm.trans h)⟩
  | cons c cs => exact ⟨s.withPending cs, ⟨rfl, rfl, rfl, rfl⟩, keep_exec _ c t ((step_cons s c cs hq).symm.trans h)⟩

/-! ### Outcomes that are a next state -/

/-- The outcome is a next state: the command neither faults nor is refused. -/
def Answers (o : Out) : Prop := ∃ t, o = .next t

namespace Answers

theorem next {t : State} : Answers (.next t) := ⟨t, rfl⟩

section
variable {p : Prop} [Decidable p] {a b : Out}

theorem ite (ha : Answers a) (hb : Answers b) : Answers (if p then a else b) := by split <;> assumption
theorem guard {s : State} (hb : Answers b) : Answers (if p then .next s else b) := .ite .next hb
theorem pos (hp : p) (ha : Answers a) : Answers (if p then a else b) := by rwa [if_pos hp]
theorem neg (hp : ¬ p) (hb : Answers b) : Answers (if p then a else b) := by rwa [if_neg hp]

end

section
variable {s : State} {d n c r : Nat}

theorem viaWin {u : Nat} {f : State → Out} (h : ∀ s, Answers (f s)) : Answers (viaWin s u f) := .guard (.guard (h s))

theorem sktAction {f : Nat → Option State} : Answers (sktAction s n f) := by
  refine .viaWin fun t => .guard ?_
  split <;> exact .next

theorem letIn {mine : State → List Byte → Bool} {ask : State → List Byte → Asked} : Answers (letIn s d r mine ask) := by
  unfold Machine.letIn
  repeat' first | exact .next | split

theorem ftgAdmit {op : Nat} : Answers (ftgAdmit s d r op) := .letIn

theorem vecIssue {mine : Nat → Bool} {run : State → Nat → Got} : Answers (vecIssue s d n c mine run) := by
  unfold Machine.vecIssue
  split
  · exact .guard (.guard .next)
  · exact .next

theorem vecEw {base : Nat} : Answers (vecEw s d n c base) := .vecIssue

theorem request {ver : Byte} {tag : BitVec 16} {ok early : Bool} {bad notReady : Nat} {serve : State → State} :
    Answers (request s ver tag ok early bad notReady serve) := .guard (.guard (.guard .next))

end

/-- A request that a Keystone can form is completed, whatever it meets. -/
theorem pcieRequest {k : Key} {pasid : Option (BitVec 20)} {va : BitVec 64} {kind : Fin 13} {len : Nat} {data : List Byte} {s : State}
    (h : ¬ (kind.val = 0 ∧ (len = 0 ∨ 4096 < len) ∨ kind.val = 1 ∧ (data.length = 0 ∨ 512 < data.length))) :
    Answers (execPcieRequest k pasid va kind len data s) := by
  refine .guard (.guard (.neg h (.guard (.guard (.guard (.guard ?_))))))
  dsimp only
  repeat' first | exact .next | split

/-! Commands that look something up in the state -/

section
variable {d : Die} {n : Blk} {c : Ctx} {r : Ring} {seq : W32} {u : Unit6} {num : Nat} {j : Joint} {h : Stack} {home : Fin 18} {line : Nat} {s : State}

theorem romElection {pass : BitVec 4} {pos : List (Fin 4)} : Answers (execRomElection pass pos s) := by
  simp only [execRomElection]; repeat' first | exact .next | split
theorem pdQueueHead {q : Unit6} : Answers (execPdQueueHead q s) := by
  simp only [execPdQueueHead]; split; exacts [.guard (.guard (.guard .next)), .next]
theorem opnd : Answers (execOpnd d n c s) := by simp only [execOpnd]; split <;> exact .next
theorem mason : Answers (execMason d n c s) := by simp only [execMason]; split <;> exact .next
theorem masonStart : Answers (execMasonStart d n c s) := by simp only [execMasonStart]; repeat' first | exact .next | split
theorem masonDone : Answers (execMasonDone d n c s) := by simp only [execMasonDone]; repeat' first | exact .next | split
theorem plumbCompareDone : Answers (execPlumbCompareDone d s) := by simp only [execPlumbCompareDone]; split; exacts [.next, .guard .next]
theorem hod : Answers (execHod d n c s) := by simp only [execHod]; repeat' first | exact .next | split
theorem waitg : Answers (execWaitg d n c s) := by simp only [execWaitg]; split; exacts [.guard .next, .next]
theorem ctxWake : Answers (execCtxWake d n c s) := by simp only [execCtxWake]; repeat' first | exact .next | split
theorem signal : Answers (execSignal d n c s) := by simp only [execSignal]; split <;> exact .next
theorem loop : Answers (execLoop d n c s) := by simp only [execLoop]; split <;> exact .next
theorem fencew : Answers (execFencew d n c s) := by simp only [execFencew]; split; exacts [.guard .next, .next]
theorem ctxEnd : Answers (execCtxEnd d n c s) := by simp only [execCtxEnd]; split <;> exact .next
theorem vecDone : Answers (execVecDone d n c s) := by simp only [execVecDone]; split; exacts [.guard .next, .next]
theorem lintelRowArrive {i : Fin 64} {g : BitVec 20} : Answers (execLintelRowArrive d n i g s) := by
  simp only [execLintelRowArrive]; repeat' first | exact .next | split
theorem lintelReleaseArrive {i : Nat} {count : BitVec 20} : Answers (execLintelReleaseArrive d n c i count s) := by
  simp only [execLintelReleaseArrive]; split; exacts [.guard .next, .next]
theorem lintelIssueStart {i : Nat} : Answers (execLintelIssueStart d n c i s) := by
  simp only [execLintelIssueStart]; split; exacts [.guard .next, .next]
theorem loadDigestDone : Answers (execLoadDigestDone d r seq s) := by simp only [execLoadDigestDone]; split; exacts [.next, .guard .next]
theorem runStart : Answers (execRunStart d r seq s) := by simp only [execRunStart]; repeat' first | exact .next | split
theorem runEnd : Answers (execRunEnd d r seq s) := by simp only [execRunEnd]; repeat' first | exact .next | split
theorem invAck : Answers (execInvAck u s) := by simp only [execInvAck]; split; exacts [.next, .guard .next]
theorem rowRepairDone : Answers (execRowRepairDone h s) := by simp only [execRowRepairDone]; split <;> exact .next
theorem retireCopyStart : Answers (execRetireCopyStart h s) := by simp only [execRetireCopyStart]; split; exacts [.guard .next, .next]
theorem retireDone : Answers (execRetireDone h s) := by simp only [execRetireDone]; repeat' first | exact .next | split
theorem ftgCommandStart {e : Fin 5} : Answers (execFtgCommandStart h e s) := by
  simp only [execFtgCommandStart]; split; exacts [.next, .guard (.guard .next)]
theorem ftgCommandDone {e : Fin 5} {ecc : List (Nat × Bool)} : Answers (execFtgCommandDone h e ecc s) := by
  simp only [execFtgCommandDone]; split; exacts [.next, .guard .next]
theorem snoopResponse {a : Fin 40} : Answers (execSnoopResponse home line a s) := by
  simp only [execSnoopResponse]; split; exacts [.guard .next, .next]
theorem writeBack {a : Fin 40} : Answers (execWriteBack home line a s) := by simp only [execWriteBack]; repeat' first | exact .next | split
theorem homeQueueServe : Answers (execHomeQueueServe home line s) := by simp only [execHomeQueueServe]; repeat' first | exact .next | split
theorem reclaimDone : Answers (execReclaimDone home s) := by simp only [execReclaimDone]; split <;> exact .next
theorem narrowConfirm {t : List Byte} : Answers (execNarrowConfirm u j t s) := by
  simp only [execNarrowConfirm]; split; exacts [.next, .guard (.guard .next)]
theorem narrowTimeout : Answers (execNarrowTimeout u j s) := by simp only [execNarrowTimeout]; split <;> exact .next
theorem nvmeResponse {ctx : Fin 262144} {data : List Byte} : Answers (execNvmeResponse d ctx data s) := by
  simp only [execNvmeResponse]; repeat' first | exact .next | split
theorem exceptionFrame {n : Fin 2} {data : List Byte} : Answers (execExceptionFrame d n data s) := by
  simp only [execExceptionFrame]; repeat' first | exact .next | split
theorem rxReserveAdmit {n : Fin 2} : Answers (execRxReserveAdmit d n s) := by simp only [execRxReserveAdmit]; split <;> exact .next
theorem netBoundExpire : Answers (execNetBoundExpire d r seq s) := by simp only [execNetBoundExpire]; repeat' first | exact .next | split
theorem chainBoundExpire : Answers (execChainBoundExpire d r seq s) := by simp only [execChainBoundExpire]; split; exacts [.guard .next, .next]
theorem pkgSlotRequest : Answers (execPkgSlotRequest u num s) := by simp only [execPkgSlotRequest]; split; exacts [.next, .guard .next]
theorem recoverySlotGrant : Answers (execRecoverySlotGrant u num s) := by simp only [execRecoverySlotGrant]; split; exacts [.next, .guard .next]
theorem recoveryActionDone {ok : Bool} : Answers (execRecoveryActionDone u num ok s) := by
  simp only [execRecoveryActionDone]; split; exacts [.next, .guard (.guard .next)]
theorem recoveryTimeout : Answers (execRecoveryTimeout u num s) := by simp only [execRecoveryTimeout]; split <;> exact .next
theorem persistentStoreStart {u : BitVec 16} : Answers (execPersistentStoreStart u s) := by
  simp only [execPersistentStoreStart]; repeat' first | exact .next | split
theorem persistentStoreDone {u : BitVec 16} : Answers (execPersistentStoreDone u s) := by simp only [execPersistentStoreDone]; split <;> exact .next
theorem imgUpdate : Answers (execImgUpdate s) := by simp only [execImgUpdate]; split <;> exact .next
theorem imgCheckDone : Answers (execImgCheckDone s) := by simp only [execImgCheckDone]; repeat' first | exact .next | split
theorem registerWrite {pcie : Bool} {a : BitVec 52} {size : Nat} {v : W64} : Answers (execRegisterWrite pcie a size v s) := by
  simp only [execRegisterWrite]; repeat' first | exact .next | split
theorem imgReadbackDone : Answers (execImgReadbackDone s) := by simp only [execImgReadbackDone]; split; exacts [.next, .guard (.guard .next)]
theorem groupSetBoundExpire : Answers (execGroupSetBoundExpire d r seq s) := by
  simp only [execGroupSetBoundExpire]; split; exacts [.guard .next, .next]
theorem stalledItemBoundExpire : Answers (execStalledItemBoundExpire d r seq s) := by
  simp only [execStalledItemBoundExpire]; split; exacts [.next, .guard .next]
theorem loReadLatch {a : BitVec 52} : Answers (execLoReadLatch a s) := by simp only [execLoReadLatch]; repeat' first | exact .next | split

end

end Answers

/-! ### Every command answers -/

/-- Every branch of a command's meaning is a next state, but for operands that no sender can form (log entry 142): one group of commands for
each form of the meaning. -/
theorem exec_answers {c : Instr} (hwf : c.wf = true) (s : State) : Answers (exec c s) := by
  cases c with
  -- One effect in every state.
  | modResetRelease | refclkLoss | moduleCold | moduleWarm | kcore | dieWarm | dieCold | hodDone | itemStart | itemComplete |
    fbBatchIdleClose | ledgerPeriodEnd | recalWindowEnd | ldgModuleWrite | fetchShared | fetchOwned | ownHeld | fetchCopy | fetchClean |
    atomHome | probeShare | probeYield | probeDrop | probeCopy | probeFlush | readaheadPurge | atomAdd | atomSmin | atomSmax | atomUmin |
    atomUmax | atomSwap | atomCas | atomAnd | atomOr | atomXor | epochTimeout | partnerSilent | retrainTimeout | absentNotice | linkUp |
    roceSend | roceWrite | roceReadRequest | roceReadResponse | roceAck | cnp | pollekData | rtoExpire | ackTimer | helloTimer | hello |
    redSum | redTopk | redSign | gather | perm | holdStallResume | holdupReady | cntInc | pllLock => exact .next
  -- Writes through a control window.
  | resetReqModuleWarm | resetReqKcore | resetReqKfull | resetReqDieWarm | resetReqDieCold | blockFence | ctxEnable | fpFlagsClear |
    plbEnable | plbDisable | ringDoorbell | invRange | invAsid | invAll | xltEnable | xltDisable | ldgEnable | ldgDisable | ftgEnable |
    ftgDisable | netPortEnable | plnStageWrite | idleClear | wdogKick | attachEnable | holdReplay | holdDiscard | fltEnable | fltDisable |
    fltRingEnable | fltFlagsClear | ckpDisable =>
    unfold exec
    exact .viaWin fun _ => .next
  | blockTest | ctxDisable | ringDisable | atomModeWrite | netPortDisable | wdogCtrlWrite | attachClaim | fltHeadWrite | ckpEnable |
    jrnlDisable =>
    unfold exec
    exact .viaWin fun _ => .guard .next
  | bndDisable | attachFinish =>
    unfold exec
    exact .viaWin fun _ => .guard (.guard .next)
  | bndRetrain =>
    unfold exec
    exact .viaWin fun _ => .guard (.guard (.guard .next))
  -- Ring commands.
  | move | run | load | unload | abort | powerOn | powerOff | fence | netWrite | netRead | netSend | netRecv | netReg | netDereg | rawTx |
    flowSetOpen | flowSetReset | flowSetClose | nvme | chainSum | chainTopk | chainSign | permute | groupSet | groupClose | point | bed |
    unbed | verify | adopt =>
    unfold exec
    exact .letIn
  -- Footing commands.
  | updateMomentum | updateAdaptive | updateSigned | reduce | compressTopk | topkMerge | compressSign | hash | scrub | zero =>
    unfold exec
    exact .ftgAdmit
  -- Vector instructions.
  | vload | vstore | vkey | poolMax | poolAvgAll | poolAvgValid | argmax | argmaxCont | castAbsmax | castDelayed | castDecode | cvt =>
    unfold exec
    exact .vecIssue
  | add | sub | mul | fma | div | sqrt | min | max | minnum | maxnum | cmpeq | cmplt | cmple | exp2 | log2 | tanh | sigmoid | erf | sinpi |
    cospi | rsqrt =>
    unfold exec
    exact .vecEw
  -- Management requests.
  | getMeasurements | getSeal | getStatus =>
    unfold exec
    exact .request
  -- Socket actions.
  | sktEvacuate | sktOffline | sktOnline =>
    unfold exec
    exact .sktAction
  -- Events, guarded by the states in which they have come.
  | powerUp | powerGood | inputNormal | inputLow | pllUnlock | hwThermTrip | thermalTrip | kfull | bootStepDone | bootStepTimeout |
    domainWakeDone | domainOffDone | blockSelftestDone | blockClearDone | transferPlannedDone | calendarSlotEnd | reserveExhausted |
    sensorReport | sktStopDone | sktClearDone | deadNotice | rejoin | admitDie | linkLost | roceNak | pollekAck | pollekNak | wdogExpire |
    l2WritebackTimeout | keystoneReturned | attachRecordRewrite | holdDrainDone | imgRaiseSvn | entdaa | getEndpointId |
    getMessageTypeSupport | hbmLaneFault | widthTicketSend =>
    unfold exec
    exact .guard .next
  | modEnFall | inputHigh | inputMargin | coolantWarm | positionCheck | rowRepairStart | patrolScrubTick | narrowPropose | overflowDrain |
    sealExtend | setEndpointId | getMctpVersionSupport | getFatal =>
    unfold exec
    exact .guard (.guard .next)
  | modResetAssert | sktTrainDone | ts0Lock | laneTestDone | confirm | getCert | getTreatment | mgmtReset | setBudget | locate =>
    unfold exec
    exact .guard (.guard (.guard .next))
  | scopeG | propose =>
    unfold exec
    exact .guard (.guard (.guard (.guard .next)))
  -- Commands that look something up in the state.
  | romElection => exact .romElection
  | pdQueueHead => exact .pdQueueHead
  | opnd => exact .opnd
  | mason => exact .mason
  | masonStart => exact .masonStart
  | masonDone => exact .masonDone
  | plumbCompareDone => exact .plumbCompareDone
  | hod => exact .hod
  | waitg => exact .waitg
  | ctxWake => exact .ctxWake
  | signal => exact .signal
  | loop => exact .loop
  | fencew => exact .fencew
  | ctxEnd => exact .ctxEnd
  | vecDone => exact .vecDone
  | lintelRowArrive => exact .lintelRowArrive
  | lintelReleaseArrive => exact .lintelReleaseArrive
  | lintelIssueStart => exact .lintelIssueStart
  | loadDigestDone => exact .loadDigestDone
  | runStart => exact .runStart
  | runEnd => exact .runEnd
  | invAck => exact .invAck
  | rowRepairDone => exact .rowRepairDone
  | retireCopyStart => exact .retireCopyStart
  | retireDone => exact .retireDone
  | ftgCommandStart => exact .ftgCommandStart
  | ftgCommandDone => exact .ftgCommandDone
  | snoopResponse => exact .snoopResponse
  | writeBack => exact .writeBack
  | homeQueueServe => exact .homeQueueServe
  | reclaimDone => exact .reclaimDone
  | narrowConfirm => exact .narrowConfirm
  | narrowTimeout => exact .narrowTimeout
  | nvmeResponse => exact .nvmeResponse
  | exceptionFrame => exact .exceptionFrame
  | rxReserveAdmit => exact .rxReserveAdmit
  | netBoundExpire => exact .netBoundExpire
  | chainBoundExpire => exact .chainBoundExpire
  | pkgSlotRequest => exact .pkgSlotRequest
  | recoverySlotGrant => exact .recoverySlotGrant
  | recoveryActionDone => exact .recoveryActionDone
  | recoveryTimeout => exact .recoveryTimeout
  | persistentStoreStart => exact .persistentStoreStart
  | persistentStoreDone => exact .persistentStoreDone
  | imgUpdate => exact .imgUpdate
  | imgCheckDone => exact .imgCheckDone
  | registerWrite => exact .registerWrite
  | imgReadbackDone => exact .imgReadbackDone
  | groupSetBoundExpire => exact .groupSetBoundExpire
  | stalledItemBoundExpire => exact .stalledItemBoundExpire
  | loReadLatch => exact .loReadLatch
  -- Writes through a control window that look something up.
  | violClear | ringEnable | fbResume | ldgBudgetWrite | bndEnable | jrnlEnable =>
    unfold exec
    refine .viaWin fun _ => ?_
    repeat' first | exact .next | refine .guard ?_ | (dsimp only; split)
  | retireRequest =>
    unfold exec
    exact .viaWin fun _ => .guard (.guard (.guard (.guard (.guard .next))))
  -- Commands whose operands a sender can form in part only.
  | pdRequestOn | pdRequestOff =>
    have hu := of_decide_eq_true hwf
    unfold exec
    exact .viaWin fun _ => .neg (by omega) .next
  | spadRead | spadWrite | spadSetWrite | spadClearWrite =>
    have hlen := of_decide_eq_true hwf
    unfold exec
    exact .neg (by omega) .next
  | putLine | putBytes =>
    have hlen := of_decide_eq_true hwf
    unfold exec
    exact .neg (not_not.mpr hlen) .next
  | flitReceive =>
    have hlen := of_decide_eq_true hwf
    unfold exec execFlitReceive
    refine .neg (not_not.mpr hlen) (.guard (.guard ?_))
    dsimp only
    repeat' first | exact .next | refine .ite ?_ ?_
  | pcieRequest =>
    have hform := of_decide_eq_true hwf
    unfold exec
    exact .pcieRequest (by omega)
  | uncorrectableStateError t =>
    unfold exec execUncorrectableStateError
    fin_cases t
    · exact .pos (of_decide_eq_true hwf) .next
    · exact .pos (of_decide_eq_true hwf) .next
    · exact .next
    · exact .pos (of_decide_eq_true hwf) .next
    · exact .pos (of_decide_eq_true hwf) .next

/-! ### The obligations -/

/-- Settles O1: with a queue in front a step is its front command, on the queue behind it. -/
theorem stepRunsFront : Obligations.StepRunsFront := fun c cs s => step_cons (s.withPending (c :: cs)) c cs rfl

/-- Settles O50: each command keeps the queue behind it, and each that a sender can form answers. -/
theorem queueKept : Obligations.QueueKept := by
  have hkeep : ∀ (c : Instr) (s t : State), exec c s = .next t → t.pending = s.pending := fun c s t h => (keep_exec s c t h).pending
  refine ⟨hkeep, fun c s hwf => ?_⟩
  obtain ⟨t, ht⟩ := exec_answers hwf s
  exact ⟨t, ht, hkeep c s t ht⟩

/-- Settles O53: each command and the idle cycle keep the canonical forms, and taking a command from the queue touches none. -/
theorem stepKeepsCanon : Obligations.StepKeepsCanon := by
  intro s t ⟨hmem, hregs, hwide, hlatch⟩ h
  obtain ⟨u, ⟨emem, eregs, ewide, elatch⟩, hk⟩ := keep_step h
  exact ⟨hk.mem (emem ▸ hmem), hk.regs (eregs ▸ hregs), hk.wide (ewide ▸ hwide), hk.latch (elatch ▸ hlatch)⟩

end Sys2Proof.Machine
end

section
/-! PROOFS. Register writes through the windows of units out of service (21 R503). -/

namespace Sys2Proof.Machine

/-- A write through the window of a Footing whose domain is OFF changes nothing. -/
theorem viaWin_footingOff {s : State} {h : Stack} {f : State → Out} (hg : winGone s (8 + h) = false) (hoff : pd s (dFooting h) = 0) :
    viaWin s (8 + h) f = .next s := by
  have hdom : 8 ≤ 8 + h.val ∧ pd s (dFooting (8 + h.val - 8)) = 0 := ⟨by omega, by rwa [Nat.add_sub_cancel_left]⟩
  simp only [viaWin, hg, Bool.false_eq_true, if_false, hdom, and_self, if_true]

/-- Settles O60: each command of the lists is its meaning through the window, and a window out of service answers before the meaning. -/
theorem windowsOutOfService : Obligations.WindowsOutOfService := by
  intro u v d n j c b4 i16 b13 b7 b16 h i17 i4 i21 i2 w b3 i64 r b17 ov k x s
  refine ⟨fun hg => ?unit, fun hg => ?die, fun hg => ?footing, fun hg => ?domain, fun hg => ?keystone, fun hg hoff => ?off⟩ <;> revert x <;>
    simp only [← List.forall_iff_forall_mem, List.Forall]
  case off =>
    unfold exec
    exact ⟨viaWin_footingOff hg hoff, viaWin_footingOff hg hoff, viaWin_footingOff hg hoff⟩
  all_goals
    repeat' apply And.intro
    all_goals
      unfold exec
      exact viaWin_gone hg

end Sys2Proof.Machine
end

section
/-! PROOFS. An idle cycle (18 R437, log entries 10, 172 and 174) and the order of persistent stores (18 R452). -/

namespace Sys2Proof.Machine

/-! ### A message that no joint can carry -/

/-- The reset state with 64 bytes of BLK sent from unit 0 to unit 1: no joint is ACTIVE, so no route leads there. -/
def strandedBulk : State := State.reset.withSent [⟨.bulk, [0, 1, 64], []⟩]

theorem strandedBulk_noJointActive : ∀ u < 6, ∀ j < 3, bndState strandedBulk u j ≠ 4 := by decide +kernel

/-- The cycle that queues the message finds no route for it, and an error response goes back to its source (12 R317). -/
theorem idleCycle_strandedBulk_sent : (idleCycle strandedBulk).sent = ⟨.errorResponse, [Rsn.DIE_ABSENT, 0xD5], []⟩ :: strandedBulk.sent := by
  decide +kernel

/-- Refutes O51: with no joint ACTIVE, a message already sent to another unit is answered DIE_ABSENT 0xD5 in the idle cycle, so the messages
sent are not unchanged. -/
theorem not_emptyQueueIdles : ¬ Obligations.EmptyQueueIdles := by
  intro h
  obtain ⟨t, hstep, -, hidle⟩ := h strandedBulk rfl
  obtain ⟨-, -, -, -, -, -, hquiet⟩ := hidle rfl
  have ht : idleCycle strandedBulk = t := Host.Outcome.next.inj ((step_nil strandedBulk rfl).symm.trans hstep)
  have hsent : (idleCycle strandedBulk).sent = strandedBulk.sent := ht ▸ (hquiet strandedBulk_noJointActive).2
  exact absurd (idleCycle_strandedBulk_sent.symm.trans hsent) (List.cons_ne_self _ _)

/-! ### The next store -/

/-- A class of 18 R451 is one of the four. -/
theorem StoreWork.cls_mem (w : StoreWork) : w.cls ∈ [1, 0, 2, 3] := by cases w <;> simp [StoreWork.cls]

/-- The classes before the one that a search in class order stops at have no request. -/
theorem findSome?_cls {q : List StoreWork} {w : StoreWork} {cs : List Nat}
    (h : cs.findSome? (fun c => q.find? (fun w => w.cls == c)) = some w) :
    q.find? (fun x => x.cls == w.cls) = some w ∧ ∀ x ∈ q, x.cls ∈ cs → cs.idxOf w.cls ≤ cs.idxOf x.cls := by
  obtain ⟨before, c, after, rfl, hc, hbefore⟩ := List.findSome?_eq_some_iff.mp h
  have hw : w.cls = c := by simpa using List.find?_some hc
  subst hw
  have hnone : ∀ x ∈ q, x.cls ∉ before := fun x hx hmem => by simpa using List.find?_eq_none.mp (hbefore _ hmem) x hx
  refine ⟨hc, fun x hx _ => ?_⟩
  rw [List.idxOf_append_of_notMem (hnone x hx), List.idxOf_append_of_notMem (hnone w (List.mem_of_find?_eq_some hc)), List.idxOf_cons_self]
  omega

end Sys2Proof.Machine

namespace Sys2Proof

/-- Settles O59: the search takes the first class in order that has a request, and of that class the request that came first. -/
theorem nextStore : Obligations.NextStore := by
  refine ⟨fun q => ⟨fun h => ?empty, fun h => h ▸ rfl⟩, fun q w h => ?taken⟩
  case empty =>
    refine List.eq_nil_iff_forall_not_mem.mpr fun w hw => ?_
    have hclass := List.findSome?_eq_none_iff.mp h w.cls w.cls_mem
    simpa using List.find?_eq_none.mp hclass w hw
  case taken =>
    obtain ⟨hfirst, hclass⟩ := Machine.findSome?_cls h
    obtain ⟨-, l, r, hq, hl⟩ := List.find?_eq_some_iff_append.mp hfirst
    exact ⟨l, r, hq, fun x hx => by simpa using hl x hx, fun x hx => hclass x hx x.cls_mem⟩

end Sys2Proof
end

section
/-! PROOFS. The network ports' enables and links (13 R324, R341). -/

namespace Sys2Proof.Machine

section
variable {d : Die} {n half : Fin 2} {s : State}

@[simp] theorem rwlIn_modx (s : State) (a mask : Nat) (v : W32) : (rwlIn s a mask v).modx = s.modx := by
  unfold rwlIn
  split
  · rfl
  · exact wr_modx _ _ _

theorem onChk_none (s : State) (a lo : Nat) (f : State → State) : onChk s a lo none f = f s := rfl
theorem onChk_some (s : State) (a lo r e : Nat) (f : State → State) : onChk s a lo (some (r, e)) f = setRD s a lo r e := rfl

/-- An item or a READY context of the port keeps it enabled. -/
def portHeld (s : State) (d n : Nat) : Bool :=
  (ctxsOf s d).any (fun c => (flow s c).st == 1 && cPort s c == n) || s.items.any (fun i => i.die == d && i.uses.contains (400 + 2 * d + n))

theorem portHeld_eq_false {d n : Nat} (hctx : ∀ c ∈ ctxsOf s d, (flow s c).st = 1 → cPort s c ≠ n)
    (hitem : ∀ i ∈ s.items, i.die = d → i.uses.contains (400 + 2 * d + n) = false) : portHeld s d n = false := by
  simp only [portHeld, Bool.or_eq_false_iff, List.any_eq_false, Bool.and_eq_true, beq_iff_eq, not_and, Bool.not_eq_true]
  exact ⟨hctx, hitem⟩

theorem portHeld_of_ready {d n c : Nat} (hc : c ∈ ctxsOf s d) (hready : (flow s c).st = 1 ∧ cPort s c = n) : portHeld s d n = true := by
  simp only [portHeld, Bool.or_eq_true, List.any_eq_true, Bool.and_eq_true, beq_iff_eq]
  exact .inl ⟨c, hc, hready⟩

theorem execNetPortDisable_open (hw : winOpen s d) :
    execNetPortDisable d n s =
      if portHeld s d n then .next (setRD s (Reg.NET_PORT_STATUS d n) 8 Rsn.STATE 0xED)
      else .next (setRD (fset (fset (fset s (Reg.NET_PORT_CFG d n) 0 1 0) (Reg.NET_PORT_STATUS d n) 0 2 0) (Reg.NET_PORT_STATUS d n) 2 2 0)
        (Reg.NET_PORT_STATUS d n) 8 0 0) := viaWin_open hw

/-- ENABLE set: the links of a port that was not enabled train, both of them with BREAKOUT. -/
def portEnabled (t : State) (d n : Nat) : State :=
  let u := setRD (fset t (Reg.NET_PORT_CFG d n) 0 1 1) (Reg.NET_PORT_STATUS d n) 8 0 0
  if bit t (Reg.NET_PORT_CFG d n) 0 || u.modx.l4 then u
  else
    let w := fset u (Reg.NET_PORT_STATUS d n) 0 2 1
    if bit w (Reg.NET_PORT_CFG d n) 1 then fset w (Reg.NET_PORT_STATUS d n) 2 2 1 else w

/-- An enable through an open window takes the RWL fields; the codes of the check that fails are shown, or the port is enabled. -/
theorem execNetPortEnable_open {v : W32} (hw : winOpen s d) :
    execNetPortEnable d n v s = .next (onChk (rwlIn s (Reg.NET_PORT_CFG d n) 0x1F1F06 v) (Reg.NET_PORT_STATUS d n) 8
      (portChecks (rwlIn s (Reg.NET_PORT_CFG d n) 0x1F1F06 v) d n) fun t => portEnabled t d n) := viaWin_open hw

theorem portEnabled_trains {t : State} {d n : Nat} (hwas : bit t (Reg.NET_PORT_CFG d n) 0 = false) (hl4 : t.modx.l4 = false) :
    portEnabled t d n =
      let w := fset (setRD (fset t (Reg.NET_PORT_CFG d n) 0 1 1) (Reg.NET_PORT_STATUS d n) 8 0 0) (Reg.NET_PORT_STATUS d n) 0 2 1
      if bit w (Reg.NET_PORT_CFG d n) 1 then fset w (Reg.NET_PORT_STATUS d n) 2 2 1 else w := by
  rw [portEnabled, setRD_modx, fset_modx, hwas, hl4, Bool.or_self, if_neg Bool.false_ne_true]

end

/-- Settles O44: each clause is the case of the command's equation that its hypotheses choose. -/
theorem portsComplete : Obligations.PortsComplete := by
  refine ⟨?enabled, ?failed, ?disabled, ?held, ?up, ?lost⟩
  case enabled =>
    intro d n v s hw hpass hwas hl4
    rw [exec_netPortEnable, execNetPortEnable_open hw, hpass, onChk_none, portEnabled_trains hwas (by rw [rwlIn_modx, hl4])]
  case failed =>
    intro d n v a b s hw hfail
    rw [exec_netPortEnable, execNetPortEnable_open hw, hfail, onChk_some]
  case disabled =>
    intro d n s hw hctx hitem
    rw [exec_netPortDisable, execNetPortDisable_open hw, portHeld_eq_false hctx hitem, if_neg Bool.false_ne_true]
  case held =>
    intro d n c s hw hc hready
    rw [exec_netPortDisable, execNetPortDisable_open hw, if_pos (portHeld_of_ready hc hready)]
  case up =>
    intro d n half s htraining ⟨hin, hl4⟩
    simp only [exec_linkUp, execLinkUp, htraining, hin, hl4, Bool.not_false, and_self, if_true]
  case lost =>
    intro d n half s hup
    simp only [exec_linkLost, execLinkLost, hup, ne_eq, not_true, if_false]

end Sys2Proof.Machine
end

section
/-! PROOFS. Inbound packets and frames (13 R327-R331, R336, R339; 14 R352). -/

namespace Sys2Proof.Machine

section
variable {s : State} {d c : Nat}

theorem ctxLive_of_ready (hd : c / 65536 = d ∧ outOf s d = false) (hup : (flow s c).st = 1 ∧ ctxUp s c = true) : ctxLive s d c = true := by
  simp only [ctxLive, hd, hup, BEq.rfl, Bool.not_false, Bool.and_self]

/-! ### The port's buffer -/

/-- A packet for a READY context of its transport, not RAW, on a link that is UP, is taken at once when its reserve admits it and none is
ahead of it; else it waits in the buffer, or is dropped when that is full. -/
theorem inbound_ready {pollek held : Bool} {cmd : Instr} (hd : c / 65536 = d ∧ outOf s d = false)
    (hup : (flow s c).st = 1 ∧ ctxUp s c = true) (hkind : (cKind s c == 1) = pollek ∧ cKind s c ≠ 3) :
    inbound s d c pollek held cmd =
      let q := tget rxbufDef s.rxbuf (2 * d + cPort s c)
      if !held && q.isEmpty then inNow s cmd
      else if 2097152 < (q.map inBytes).sum + inBytes cmd then holdAdd s (Reg.NET_PORT_DROPS d (cPort s c)) 0 16 1
      else s.withRxbuf (tset rxbufDef s.rxbuf (2 * d + cPort s c) (q ++ [cmd])) := by
  obtain ⟨hhere, hin⟩ := hd
  obtain ⟨hready, hlink⟩ := hup
  obtain ⟨htransport, hraw⟩ := hkind
  have hgone : ¬ (c / 65536 ≠ d ∨ outOf s d = true) := by simp [hhere, hin]
  simp only [inbound, if_neg hgone, if_neg (not_not.mpr hready), hlink, htransport, bne_self_eq_false, beq_eq_false_iff_ne.mpr hraw,
    Bool.not_true, Bool.or_self, Bool.false_eq_true, if_false]

theorem inbound_admitted {pollek : Bool} {cmd : Instr} (hd : c / 65536 = d ∧ outOf s d = false)
    (hup : (flow s c).st = 1 ∧ ctxUp s c = true) (hkind : (cKind s c == 1) = pollek ∧ cKind s c ≠ 3)
    (hempty : tget rxbufDef s.rxbuf (2 * d + cPort s c) = []) : inbound s d c pollek false cmd = inNow s cmd := by
  simp only [inbound_ready hd hup hkind, hempty, List.isEmpty_nil, Bool.not_false, Bool.and_self, if_true]

theorem inbound_held {pollek : Bool} {cmd : Instr} (hd : c / 65536 = d ∧ outOf s d = false)
    (hup : (flow s c).st = 1 ∧ ctxUp s c = true) (hkind : (cKind s c == 1) = pollek ∧ cKind s c ≠ 3)
    (hroom : ((tget rxbufDef s.rxbuf (2 * d + cPort s c)).map inBytes).sum + inBytes cmd ≤ 2097152) :
    inbound s d c pollek true cmd =
      s.withRxbuf (tset rxbufDef s.rxbuf (2 * d + cPort s c) (tget rxbufDef s.rxbuf (2 * d + cPort s c) ++ [cmd])) := by
  simp only [inbound_ready hd hup hkind, Bool.not_true, Bool.false_and, Bool.false_eq_true, if_false, if_neg (not_lt.mpr hroom)]

/-- A RoCEv2 context: neither Pollek nor RAW. -/
theorem kind_roce (h : cKind s c ≠ 1 ∧ cKind s c ≠ 3) : (cKind s c == 1) = false ∧ cKind s c ≠ 3 := ⟨beq_eq_false_iff_ne.mpr h.1, h.2⟩
theorem kind_pollek (h : cKind s c = 1) : (cKind s c == 1) = true ∧ cKind s c ≠ 3 := ⟨beq_iff_eq.mpr h, by omega⟩

/-! ### Packets of a collective -/

/-- Every packet of a collective comes in by the one operation, which its OP then tells apart. -/
theorem exec_of_mem_collectives {mk : Die → Option (Fin 262144) → Bool → List Byte → Instr}
    (h : mk ∈ [Instr.hello, Instr.redSum, Instr.redTopk, Instr.redSign, Instr.gather, Instr.perm]) (d : Die)
    (ctx : Option (Fin 262144)) (ce : Bool) (pkt : List Byte) (s : State) : exec (mk d ctx ce pkt) s = .next (collIn s d ctx ce pkt) := by
  revert mk d ctx ce pkt s
  simp only [List.forall_mem_cons]
  exact ⟨exec_hello, exec_redSum, exec_redTopk, exec_redSign, exec_gather, exec_perm, List.forall_mem_nil _⟩

theorem collIn_ctx {c : Fin 262144} {ce : Bool} {pkt : List Byte} (hd : c / 65536 = d ∧ outOf s d = false)
    (hup : (flow s c).st = 1 ∧ ctxUp s c = true) (hkind : cKind s c = 1) : collIn s d (some c) ce pkt = pollekIn s c ce pkt := by
  obtain ⟨hhere, hin⟩ := hd
  obtain ⟨hready, hlink⟩ := hup
  have hgone : ¬ (c.val / 65536 ≠ d ∨ outOf s d = true) := by simp [hhere, hin]
  simp only [collIn, if_neg hgone, hready, hkind, hlink, ne_eq, not_true, Bool.not_true, Bool.false_eq_true, or_self, if_false]

theorem collIn_die {ce : Bool} {pkt : List Byte} {h : PHdr} (hin : outOf s d = false) (hread : pollekRead pkt false = some h) (hop : 2 ≤ h.op) :
    collIn s d none ce pkt = (groupIn s d none h).1 := by
  simp only [collIn, hin, hread, Bool.false_eq_true, if_false, if_pos hop]

/-! ### Frames without a context of their own -/

/-- The receive that takes a frame of a port with at most one READY RAW context. -/
def rawRecv (s : State) (d n : Nat) (data : List Byte) : Option Item :=
  if frameOk data then (rawCtxs s d n).head?.bind (recvOf s) else none

theorem execExceptionFrame_oneRaw {d : Die} {n : Fin 2} {data : List Byte} (hin : outOf s d = false) (hraw : (rawCtxs s d n).length ≤ 1) :
    execExceptionFrame d n data s = .next ((rawRecv s d n data).elim (discard s d n) fun it =>
      if dfld it.desc 0x20 4 < data.length then discard s d n
      else recvDone (extWrite s it (dfld it.desc 0x18 8) data) (itNow (extWrite s it (dfld it.desc 0x18 8) data) it) data.length) := by
  have hone : (rawCtxs s d n).length ≠ 2 := by omega
  simp only [execExceptionFrame, hin, Bool.false_eq_true, if_false, if_neg hone]
  rw [← rawRecv]
  cases rawRecv s d n data with
  | none => rfl
  | some it => simp only [Option.elim_some]; split <;> rfl

theorem frameOk_eq_false {data : List Byte} (h : data.length < 60 ∨ 9216 < data.length ∨ (data.drop 12).take 2 = [0x88, 0x08]) :
    frameOk data = false := by
  rcases h with h | h | h
  · simp [frameOk, h]
  · simp [frameOk, h]
  · simp [frameOk, h]

/-! ### A response capsule -/

theorem execNvmeResponse_live {d : Die} {c : Fin 262144} {data : List Byte} {it : Item} (hlive : ctxLive s d c = true)
    (hkind : cKind s c = 2) (hlen : data.length = 16)
    (hit : s.items.find? (fun i => ofCtx i d c && i.opcode == 0x28 && i.started && i.phase == dfld data 12 2) = some it) :
    execNvmeResponse d c data s =
      let t := took s c 1 true
      let u := setFlow t c { flow t c with tx := (flow t c).tx.filter (fun p => ¬ (p.ring = it.ring ∧ p.seq = it.seq)) }
      let v := extWrite u it (dfld it.desc 0x28 8) data
      .next (if dfld data 14 2 / 2 = 0 then endItem v (itNow v it) 0 0 else endItem v (itNow v it) Rsn.LINK_FAIL 0xEA) := by
  simp only [execNvmeResponse, hlive, hkind, hlen, hit, Bool.not_true, bne_self_eq_false, Bool.or_self, Bool.false_eq_true, if_false]

end

/-- Settles O46: a packet of a live context goes through the port's buffer to the handler of its transport, a collective's to its group, and a
frame to the receive of its port's RAW context. -/
theorem inboundPacketsComplete : Obligations.InboundPacketsComplete := by
  refine ⟨?send, ?write, ?readRequest, ?readResponse, ?pollek, ?malformed, ?collective, ?fromDie, ?admitted, ?waits, ?capsule, ?noRaw,
    ?frame, ?dropped⟩
  case send =>
    intro d c psn ce seg data s hd hup hempty hkind
    rw [exec_roceSend, execRoceSend, inbound_admitted hd hup (kind_roce hkind) hempty, inNow, if_pos (ctxLive_of_ready hd hup)]
  case write =>
    intro d c psn ce seg va key len data s hd hup hempty hkind
    rw [exec_roceWrite, execRoceWrite, inbound_admitted hd hup (kind_roce hkind) hempty, inNow, if_pos (ctxLive_of_ready hd hup)]
  case readRequest =>
    intro d c psn ce va key len s hd hup hempty hkind
    rw [exec_roceReadRequest, execRoceReadRequest, inbound_admitted hd hup (kind_roce hkind) hempty, inNow, if_pos (ctxLive_of_ready hd hup)]
  case readResponse =>
    intro d c psn ce seg data s hd hup hempty hkind
    rw [exec_roceReadResponse, execRoceReadResponse, inbound_admitted hd hup (kind_roce hkind) hempty, inNow,
      if_pos (ctxLive_of_ready hd hup)]
  case pollek =>
    intro d c ce pkt s hd hup hempty hkind
    rw [exec_pollekData, execPollekData, inbound_admitted hd hup (kind_pollek hkind) hempty, inNow, if_pos (ctxLive_of_ready hd hup)]
  case malformed =>
    intro s c ce pkt hread
    simp only [pollekIn, hread, discard]
  case collective =>
    intro mk d c ce pkt s hmk hd hup hkind
    rw [exec_of_mem_collectives hmk, collIn_ctx hd hup hkind]
  case fromDie =>
    intro mk d h ce pkt s hmk hin hread hop
    rw [exec_of_mem_collectives hmk, collIn_die hin hread hop]
  case admitted =>
    intro d n i is s hq
    simp only [exec_rxReserveAdmit, execRxReserveAdmit, hq]
  case waits =>
    intro d c psn ce seg data s hd hup hkind hroom
    exact congrArg Host.Outcome.next (inbound_held (cmd := .roceSend d c psn ce seg true data) hd hup (kind_roce hkind) hroom)
  case capsule =>
    intro d c data it s hlive hkind hlen hit hok
    simp only [exec_nvmeResponse, execNvmeResponse_live hlive hkind hlen hit, if_pos hok]
  case noRaw =>
    intro d n data s hin hraws
    have hnone : rawRecv s d n data = none := by simp [rawRecv, hraws]
    rw [exec_exceptionFrame, execExceptionFrame_oneRaw hin (by simp [hraws]), hnone, Option.elim_none, discard]
  case frame =>
    intro d n c data it s hin hok hraws hrecv hlen
    have hraws : rawCtxs s d n = [c] := hraws
    have hone : (rawCtxs s d n).length ≤ 1 := by simp [hraws]
    have hsome : rawRecv s d n data = some it := by simp [rawRecv, hok, hraws, hrecv]
    simp only [exec_exceptionFrame, execExceptionFrame_oneRaw hin hone, hsome, Option.elim_some, if_neg (not_lt.mpr hlen)]
  case dropped =>
    intro d n data s hin hraws hbad
    have hnone : rawRecv s d n data = none := by simp [rawRecv, frameOk_eq_false hbad]
    rw [exec_exceptionFrame, execExceptionFrame_oneRaw hin hraws, hnone, Option.elim_none, discard]

end Sys2Proof.Machine
end

section
/-! PROOFS. The checkpoint enables (17 R426, R432, R433), the stage registers and idle counters (14 R358, R360), and the bounds of collective
items (14 R345, R354). -/

namespace Sys2Proof.Machine

section
variable {d : Die} {s : State}

/-! ### CKP_CTRL -/

/-- The state in which the checks of an enable run: VERIFIED cleared and the RWL fields taken. -/
def ckpTaken (s : State) (d : Nat) (v : W32) : State := rwlIn (fset s (Reg.CKP_STATUS d) 2 3 0) (Reg.CKP_CTRL d) 0xE v

theorem execCkpEnable_open {v : W32} (hw : winOpen s d) :
    execCkpEnable d v s =
      if ckpBusy s d then .next (setRD s (Reg.CKP_CTRL d) 8 Rsn.STATE 0x2F)
      else
        let c := ckpChecks (ckpTaken s d v) d
        let t := finishEnable (ckpTaken s d v) (Reg.CKP_CTRL d) 8 c
        .next (if c.isNone then spareReg (fset t (Reg.CKP_STATUS d) 0 2 (if bit t (Reg.CKP_CTRL d) 1 then 1 else 0)) else t) := viaWin_open hw

theorem execCkpEnable_busy {v : W32} (hw : winOpen s d) (hbusy : ckpBusy s d = true) :
    execCkpEnable d v s = .next (setRD s (Reg.CKP_CTRL d) 8 Rsn.STATE 0x2F) := by rw [execCkpEnable_open hw, if_pos hbusy]

/-- Without a checkpoint item outstanding, a passed enable sets ENABLE and then ROLE. -/
theorem execCkpEnable_pass {v : W32} (hw : winOpen s d) (hfree : ckpBusy s d = false) (hpass : ckpChecks (ckpTaken s d v) d = none) :
    execCkpEnable d v s =
      let t := finishEnable (ckpTaken s d v) (Reg.CKP_CTRL d) 8 none
      .next (spareReg (fset t (Reg.CKP_STATUS d) 0 2 (if bit t (Reg.CKP_CTRL d) 1 then 1 else 0))) := by
  rw [execCkpEnable_open hw, hfree, if_neg Bool.false_ne_true, hpass]
  rfl

theorem execCkpEnable_fail {v : W32} {r e : Nat} (hw : winOpen s d) (hfree : ckpBusy s d = false)
    (hfail : ckpChecks (ckpTaken s d v) d = some (r, e)) :
    execCkpEnable d v s = .next (finishEnable (ckpTaken s d v) (Reg.CKP_CTRL d) 8 (some (r, e))) := by
  rw [execCkpEnable_open hw, hfree, if_neg Bool.false_ne_true, hfail]
  rfl

theorem execCkpDisable_open (hw : winOpen s d) :
    execCkpDisable d s = .next (if ckpBusy s d then setRD s (Reg.CKP_CTRL d) 8 Rsn.STATE 0x2F
      else setRD (fset (fset s (Reg.CKP_STATUS d) 2 3 0) (Reg.CKP_CTRL d) 0 1 0) (Reg.CKP_CTRL d) 8 0 0) := viaWin_open hw

/-! ### Stage entries -/

theorem execPlnStageWrite_open {i : Fin 16} {v : W32} (hw : winOpen s d) :
    execPlnStageWrite d i v s = .next (if v.getLsbD 20 && (planOf s d (getBits v 0 16)).isNone then emit s .refusal [Rsn.STATE, 0xA2] []
      else wr s (Reg.PLN_STAGE d i) (v &&& 0x1FFFFF)) := viaWin_open hw

/-! ### Bounds -/

variable {r : Ring} {seq : W32} {it : Item}

theorem execChainBoundExpire_due (hit : findItem s d r seq.toNat = some it) (hdue : it.bound ≤ ctl s d)
    (hop : 0x29 ≤ it.opcode ∧ it.opcode ≤ 0x2C) : execChainBoundExpire d r seq s = .next (endItem s it Rsn.LINK_FAIL 0xF3) := by
  have hend : ¬ (it.opcode < 0x29 ∨ 0x2C < it.opcode ∨ ctl s d < it.bound) := by omega
  simp only [execChainBoundExpire, hit, if_neg hend]

theorem execGroupSetBoundExpire_due (hit : findItem s d r seq.toNat = some it) (hdue : it.bound ≤ ctl s d) (hop : it.opcode = 0x2D) :
    execGroupSetBoundExpire d r seq s = .next (endItem (closeGroup s d it.obj) it Rsn.LINK_FAIL 0xF3) := by
  have hend : ¬ (it.opcode ≠ 0x2D ∨ ctl s d < it.bound) := by omega
  simp only [execGroupSetBoundExpire, hit, if_neg hend]

end

/-- Settles O49: each clause is the case of the command's equation that its hypotheses choose. -/
theorem checkpointAndStagesComplete : Obligations.CheckpointAndStagesComplete := by
  refine ⟨?enabled, ?disabled, ?busy, ?stage, ?idle, ?hello, ?chainBound, ?groupBound, ?failed, ?stageRefused⟩
  case enabled =>
    intro d v s hw hfree hpass
    rw [exec_ckpEnable, execCkpEnable_pass hw hfree hpass, ckpTaken]
  case disabled =>
    intro d s hw hfree
    rw [exec_ckpDisable, execCkpDisable_open hw, hfree, if_neg Bool.false_ne_true]
  case busy =>
    intro d v s hw hbusy
    rw [exec_ckpEnable, exec_ckpDisable, execCkpEnable_busy hw hbusy, execCkpDisable_open hw, if_pos hbusy]
    exact ⟨rfl, rfl⟩
  case stage =>
    intro d i v s hw hplan
    have hok : (v.getLsbD 20 && (planOf s d (getBits v 0 16)).isNone) = false := by
      rcases hplan with hinvalid | hresident
      · rw [hinvalid, Bool.false_and]
      · rw [Option.isNone_eq_false_iff.mpr hresident, Bool.and_false]
    rw [exec_plnStageWrite, execPlnStageWrite_open hw, hok, if_neg Bool.false_ne_true]
  case idle =>
    intro d row s hw
    rw [exec_idleClear]
    exact viaWin_open hw
  case hello =>
    intro d g x s hg hpending hin
    simp only [exec_helloTimer, execHelloTimer, hg, hpending, hin, Bool.not_false, and_self, if_true]
  case chainBound =>
    intro d r seq it s hit hdue hop
    rw [exec_chainBoundExpire, execChainBoundExpire_due hit hdue hop]
  case groupBound =>
    intro d r seq it s hit hdue hop
    rw [exec_groupSetBoundExpire, execGroupSetBoundExpire_due hit hdue hop]
  case failed =>
    intro d v r e s hw hfree hfail
    rw [exec_ckpEnable, execCkpEnable_fail hw hfree hfail, ckpTaken]
  case stageRefused =>
    intro d i v s hw hvalid hplan
    have hbad : (v.getLsbD 20 && (planOf s d (getBits v 0 16)).isNone) = true := by rw [hvalid, hplan]; rfl
    rw [exec_plnStageWrite, execPlnStageWrite_open hw, if_pos hbad]

end Sys2Proof.Machine
end

section
/-! PROOFS. The commands of the fault units (16 R391, R392, R403, R404). -/

namespace Sys2Proof.Machine

section
variable {d : Die} {r : Fin 16} {s : State}

/-! ### FLT_CTRL -/

/-- The posted policy table taken as the die's own. -/
def policyTaken (s : State) (d : Nat) : State :=
  s.withPolicy ((policyEntries s d).zipIdx.foldl (fun t p => tset policyDef t (d * 256 + p.2) p.1) s.policy)

theorem execFltEnable_open {v : W32} (hw : winOpen s d) :
    execFltEnable d v s =
      let t := rwlIn s (Reg.FLT_CTRL d) 0xE v
      let u := finishEnable t (Reg.FLT_CTRL d) 8 (fltChecks t d)
      .next (if fltChecks t d = none ∧ bit u (Reg.FLT_CTRL d) 1 = true then policyTaken u d else u) := viaWin_open hw

theorem execFltDisable_open (hw : winOpen s d) :
    execFltDisable d s = .next (if s.recov.any (fun r => r.owner == d.val) then setRD s (Reg.FLT_CTRL d) 8 Rsn.STATE 0x4F
      else setRD (fset s (Reg.FLT_CTRL d) 0 1 0) (Reg.FLT_CTRL d) 8 0 0) := viaWin_open hw

/-! ### Fault rings -/

theorem fring_fset (s : State) (a lo n v d r : Nat) : fring (fset s a lo n v) d r = fring s d r := by
  rw [fring, fset_fring, fring]

/-- The checks of a ring's ENABLE: its base aligned, in the die's own stacks, and clear of every other enabled ring. -/
def fringChecks (s : State) (d r : Nat) : Chk := firstFail [
  (decide (fringBase s d r % 0x40000 = 0), Rsn.CFG_ALIGN, 0x4E),
  (inOwnStack s d (fringBase s d r) 0x40000, Rsn.CFG_RANGE, 0x4E),
  ((List.range 16).all (fun q => q == r || !bit s (Reg.FLT_RING_CTRL d q) 0 ||
    !overlap (fringBase s d r) 0x40000 (fringBase s d q) 0x40000), Rsn.CFG_CONFLICT, 0x4E)]

theorem execFltRingEnable_open {v : W32} (hw : winOpen s d) :
    execFltRingEnable d r v s =
      let t := rwlIn s (Reg.FLT_RING_CTRL d r) 2 v
      .next (onChk t (Reg.FLT_RING_CTRL d r) 8 (fringChecks t d r) fun t =>
        flushFatal (fset t (Reg.FLT_RING_CTRL d r) 0 1 1) d r (fring t d r).waiting.length) := viaWin_open hw

/-- A ring passes beside rings that are not enabled. -/
theorem fringChecks_pass (halign : fringBase s d r % 0x40000 = 0) (hown : inOwnStack s d (fringBase s d r) 0x40000 = true)
    (halone : ∀ q : Fin 16, q ≠ r → bit s (Reg.FLT_RING_CTRL d q) 0 = false) : fringChecks s d r = none := by
  have hclear : ∀ q ∈ List.range 16, (q == r.val || !bit s (Reg.FLT_RING_CTRL d q) 0 ||
      !overlap (fringBase s d r) 0x40000 (fringBase s d q) 0x40000) = true := by
    intro q hq
    by_cases hqr : q = r.val
    · simp [hqr]
    · simp [halone ⟨q, List.mem_range.mp hq⟩ (fun h => hqr (congrArg Fin.val h))]
  simp only [fringChecks, firstFail, halign, hown, List.all_eq_true.mpr hclear, decide_true, if_true]

theorem execFltHeadWrite_open {v : BitVec 13} (hw : winOpen s d) :
    execFltHeadWrite d r v s =
      let h := fget s (Reg.FLT_RING_HEAD d r) 0 13
      if (v.toNat + 8192 - h) % 8192 ≤ (fget s (Reg.FLT_RING_TAIL d r) 0 13 + 8192 - h) % 8192 then
        let t := fset s (Reg.FLT_RING_HEAD d r) 0 13 v.toNat
        .next (flushFatal t d r (fring t d r).waiting.length)
      else .next (setRD s (Reg.FLT_RING_CTRL d r) 8 Rsn.STATE 0x4F) := viaWin_open hw

/-- A ring drains when it holds overflow entries, no FATAL record waits and more than 16 entries are free. -/
theorem drains_iff (hovf : (fring s d r).ovf.isEmpty = false) (hwait : (fring s d r).waiting.isEmpty = true)
    (hon : bit s (Reg.FLT_RING_CTRL d r) 0 = true) (hfree : ¬ (fringFree s d r ≤ 16)) :
    ¬ (((fring s d r).ovf.isEmpty || !bit s (Reg.FLT_RING_CTRL d r) 0 || decide (fringFree s d r ≤ 16) ||
      !(fring s d r).waiting.isEmpty) = true) := by
  simp only [hovf, hwait, hon, hfree, Bool.not_true, decide_false, Bool.or_self, Bool.false_eq_true, not_false_eq_true]

/-! ### FLT_FLAGS -/

theorem execFltFlagsClear_open {v : W32} {same : BitVec 4} (hw : winOpen s d) :
    execFltFlagsClear d v same s =
      let p := w1c (rd s (Reg.FLT_FLAGS d)) 0xF v (same.zeroExtend 32)
      let t := wr s (Reg.FLT_FLAGS d) p.1
      .next (if p.2 then holdAdd t (Reg.FLT_FLAGS d) 24 8 1 else t) := viaWin_open hw

end

/-- Settles O11: each clause is the case of the command's equation that its hypotheses choose. -/
theorem faultUnitComplete : Obligations.FaultUnitComplete := by
  refine ⟨?enable, ?disableRefused, ?disabled, ?ring, ?head, ?headRefused, ?drain, ?flags⟩
  case enable =>
    intro d v s hw
    exact execFltEnable_open hw
  case disableRefused =>
    intro d s hw hrec
    rw [exec_fltDisable, execFltDisable_open hw, if_pos hrec]
  case disabled =>
    intro d s hw hrec
    rw [exec_fltDisable, execFltDisable_open hw, hrec, if_neg Bool.false_ne_true]
  case ring =>
    intro d r v s hw halign hown halone
    rw [exec_fltRingEnable, execFltRingEnable_open hw]
    dsimp only
    rw [fringChecks_pass halign hown halone, onChk_none, fring_fset]
  case head =>
    intro d r v s hw hin
    rw [exec_fltHeadWrite, execFltHeadWrite_open hw]
    exact if_pos hin
  case headRefused =>
    intro d r v s hw hout
    rw [exec_fltHeadWrite, execFltHeadWrite_open hw]
    exact if_neg hout
  case drain =>
    intro d r s hovf hwait hon hfree
    rw [exec_overflowDrain, execOverflowDrain, if_neg (drains_iff hovf hwait hon hfree)]
    exact (apply_ite Host.Outcome.next _ _ _).symm
  case flags =>
    intro d v same s hw
    exact execFltFlagsClear_open hw

end Sys2Proof.Machine
end

section
/-! PROOFS. The recoveries of the ladder (16 R394, R395, R400) and the uncorrectable errors of state memories (16 R396, R405). -/

namespace Sys2Proof.Machine

section
variable {u : Unit6} {num : Nat} {r : Recovery} {s : State}

/-! ### The recoveries by their owner and number -/

theorem execPkgSlotRequest_of_recovOf (hr : recovOf s u num = some r) :
    execPkgSlotRequest u num s =
      if r.pkgSlot ∨ s.pkgQ.contains (u.val, num) then .next s
      else
        let q := s.withPkgQ (s.pkgQ ++ [(u.val, num)])
        let t := if decide (4 ≤ (s.recov.filter (·.pkgSlot)).length) then putRecov q u num (fun r => { r with waited := true }) else q
        .next (recovReg (grantPkg t t.pkgQ.length) u) := by
  rw [execPkgSlotRequest, hr]

theorem execRecoverySlotGrant_of_recovOf (hr : recovOf s u num = some r) :
    execRecoverySlotGrant u num s =
      if r.running ∨ (r.dom.slots.1 ∧ !r.dieSlot) ∨ (r.dom.slots.2 ∧ !r.pkgSlot) then .next s
      else .next (recovReg (startAction (putRecov s u num (fun q => { q with running := true, start := ctl s u })) r) u) := by
  rw [execRecoverySlotGrant, hr]

/-- A running recovery that is verified: it is gone, with its DONE record, and its slots go on. -/
def recovVerified (s : State) (u : Unit6) (num : Nat) (r : Recovery) : State :=
  let t := s.withRecov (s.recov.filter (fun q => ¬ (q.owner = u.val ∧ q.num = num)))
  let a := recordAt t ⟨u, Rsn.DONE, 0x4C, 7, 15, if u.val < 4 then u.val else cornerstone t, recovData t r, r.dom⟩ 7
    (if r.waited then 16 else 0) num
  let b := if u.val < 4 then wrapAdd a (Reg.FLT_RECOVERY u) 16 16 1 else a
  let c := match r.dom with
    | .socket n => fset b (Reg.GLB_SKT_STATUS (4 + n / 3) (n % 3)) 0 4 1
    | _ => b
  recovReg (grantPkg (takeSlots (figures c r) u) 64) u

theorem execRecoveryActionDone_verified (hr : recovOf s u num = some r) (hrun : r.running = true) :
    execRecoveryActionDone u num true s = .next (recovVerified s u num r) := by
  have hgo : ¬ ((!r.running) = true) := by rw [hrun]; exact Bool.false_ne_true
  rw [execRecoveryActionDone, hr]
  dsimp only
  rw [if_neg hgo, if_pos rfl]
  unfold recovVerified
  -- both sides match on the domain, and agree at each constructor
  cases r.dom <;> dsimp only

theorem execRecoveryActionDone_failed (hr : recovOf s u num = some r) (hrun : r.running = true) :
    execRecoveryActionDone u num false s =
      .next (raise s ⟨u, r.reason, r.detail, r.dom.level, r.dom.src.1, r.dom.src.2, [], r.dom⟩ false) := by
  have hgo : ¬ ((!r.running) = true) := by rw [hrun]; exact Bool.false_ne_true
  rw [execRecoveryActionDone, hr]
  dsimp only
  rw [if_neg hgo, if_neg Bool.false_ne_true]

theorem execRecoveryTimeout_of_recovOf (hr : recovOf s u num = some r) :
    execRecoveryTimeout u num s = .next (recovLate s u r) := by
  rw [execRecoveryTimeout, hr]

end

/-! ### UNCORRECTABLE_STATE_ERROR -/

section
variable {i : Fin 12} {j : Fin 16} {s : State}

theorem execUncorrectableStateError_course (hi : i.val < 4) : execUncorrectableStateError 0 i j s =
    .next (raise s ⟨i, Rsn.ECC_UNCORR, 0x44, 2, 1, i + 8 * j, [], .course i j⟩ (unitHeld s (.course i j))) := if_pos hi

theorem execUncorrectableStateError_bay (hi : i.val < 4) (hj : j.val < 3) : execUncorrectableStateError 1 i j s =
    .next (raise s ⟨i, Rsn.ECC_UNCORR, 0x45, 2, 2, i + 8 * j, [], .bay i j⟩ (unitHeld s (.bay i j))) := if_pos ⟨hi, hj⟩

theorem execUncorrectableStateError_footing : execUncorrectableStateError 2 i j s =
    .next (raise s ⟨i / 3, Rsn.ECC_UNCORR, 0x46, 2, 3, i, [], .footing i⟩ (unitHeld s (.footing i))) := rfl

theorem execUncorrectableStateError_mortar (hi : i.val < 4) : execUncorrectableStateError 3 i j s =
    .next (raise s ⟨i, Rsn.ECC_UNCORR, 0x47, 3, 10, i, [], .ashlar i⟩ (unitHeld s (.ashlar i))) := if_pos hi

theorem execUncorrectableStateError_keystone (hi : i.val < 2) : execUncorrectableStateError 4 i j s =
    .next (raise s ⟨4 + i, Rsn.ECC_UNCORR, 0x48, 3, 11, 4 + i + 8 * 31, [], .keystone i⟩ (unitHeld s (.keystone i))) := if_pos hi

end

/-- Settles O12: each clause is the case of the command's equation that its hypotheses choose. -/
theorem recoveriesComplete : Obligations.RecoveriesComplete := by
  refine ⟨?request, ?grant, ?failed, ?verified, ?timeout, ?course, ?bay, ?footing, ?mortar, ?keystone⟩
  case request =>
    intro u num r s hr hnew
    rw [exec_pkgSlotRequest, execPkgSlotRequest_of_recovOf hr, if_neg hnew]
  case grant =>
    intro u num r s hr hready
    rw [exec_recoverySlotGrant, execRecoverySlotGrant_of_recovOf hr, if_neg hready]
  case failed =>
    intro u num r s hr hrun
    rw [exec_recoveryActionDone, execRecoveryActionDone_failed hr hrun]
  case verified =>
    intro u num r s hr hrun
    rw [exec_recoveryActionDone, execRecoveryActionDone_verified hr hrun]
    rfl
  case timeout =>
    intro u num r s hr
    rw [exec_recoveryTimeout, execRecoveryTimeout_of_recovOf hr, recovLate]
  case course =>
    intro i j s hi
    rw [exec_uncorrectableStateError, execUncorrectableStateError_course hi]
  case bay =>
    intro i j s hi hj
    rw [exec_uncorrectableStateError, execUncorrectableStateError_bay hi hj]
  case footing =>
    intro i j s
    rw [exec_uncorrectableStateError, execUncorrectableStateError_footing]
  case mortar =>
    intro i j s hi
    rw [exec_uncorrectableStateError, execUncorrectableStateError_mortar hi]
  case keystone =>
    intro i j s hi
    rw [exec_uncorrectableStateError, execUncorrectableStateError_keystone hi]

end Sys2Proof.Machine
end

section
/-! PROOFS. The input bands (18 R453, 20 R483), the hardware thermal trip (20 R488) and the coolant (20 R498). -/

namespace Sys2Proof.Machine

section
variable {v : BitVec 16} {s : State}

theorem not_rail_off (hr : s.modx.rail = true) : ¬ ((!s.modx.rail) = true) := by rw [hr]; exact Bool.false_ne_true

/-! ### The bands with the management rail up -/

theorem execInputHigh_in (hv : 6600 < v.toNat) (hr : s.modx.rail = true) :
    execInputHigh v s =
      let t := moduleCause (setBand (setInput s v.toNat) 3) Rsn.ABORTED 0xF9
      .next (if holding t then t else railCheck (allOff (setHolding (t.withModx { t.modx with switch := false })))) := by
  rw [execInputHigh, if_neg (not_or.mpr ⟨Nat.not_le.mpr hv, not_rail_off hr⟩)]
  exact (apply_ite Host.Outcome.next _ _ _).symm

theorem execInputMargin_in (hlo : 4600 ≤ v.toNat) (hhi : v.toNat < 5000) (hr : s.modx.rail = true) :
    execInputMargin v s =
      let t := modEvent (setBand (setInput s v.toNat) 2) 1
      .next (if t.modx.marginTold then t
        else note (t.withModx { t.modx with marginTold := true }) (cornerstone t) Rsn.NOT_SCHEDULABLE 0xFA 13 0 []) := by
  rw [execInputMargin, if_neg (not_or.mpr ⟨Nat.not_le.mpr hhi, not_or.mpr ⟨Nat.not_lt.mpr hlo, not_rail_off hr⟩⟩)]
  exact (apply_ite Host.Outcome.next _ _ _).symm

theorem execInputNormal_in (hlo : 5000 ≤ v.toNat) (hhi : v.toNat ≤ 6600) (hr : s.modx.rail = true) :
    execInputNormal v s =
      let t := setBand (setInput s v.toNat) 1
      .next (t.withModx { t.modx with marginTold := false }) := by
  rw [execInputNormal, if_neg (not_or.mpr ⟨Nat.not_lt.mpr hhi, not_or.mpr ⟨Nat.not_lt.mpr hlo, not_rail_off hr⟩⟩)]

theorem execInputLow_in (hv : v.toNat < 4600) (hr : s.modx.rail = true) :
    execInputLow v s =
      let t := allOff (moduleCause (setHolding (setBand (setInput s v.toNat) 0)) Rsn.ABORTED 0x0E)
      .next (railCheck (if t.update.isSome then imgFail t Rsn.HOLDUP_LOW 0x0F else t)) := by
  rw [execInputLow, if_neg (not_or.mpr ⟨Nat.not_le.mpr hv, not_rail_off hr⟩)]

/-! ### The thermal trip and the coolant -/

theorem execHwThermTrip_on (hr : s.modx.rail = true) :
    execHwThermTrip s =
      let t := if running s then fset (s.withModx { s.modx with tripN := true }) Reg.GLB_MOD_STATUS 10 1 1 else s
      .next (allOff (enterL4 (t.withModx { t.modx with pkgRails := false, powerGood := false }))) := by
  rw [execHwThermTrip, if_neg (not_rail_off hr)]

theorem execCoolantWarm_on {t : BitVec 11} (hr : s.modx.rail = true) :
    execCoolantWarm t s =
      let u := fset s Reg.GLB_MOD_COOLANT 0 11 t.toNat
      .next (if t.toInt ≤ 180 then u else note (modEvent u 2) (cornerstone u) Rsn.NOT_SCHEDULABLE 0xFD 13 0 []) := by
  rw [execCoolantWarm, if_neg (not_rail_off hr)]
  exact (apply_ite Host.Outcome.next _ _ _).symm

end

/-- Settles O3: each command's equation with the rail up and its reading in the band. -/
theorem inputBandsComplete : Obligations.InputBandsComplete := by
  refine ⟨?high, ?margin, ?normal, ?low, ?trip, ?coolant⟩
  case high =>
    intro v s hv hr
    rw [exec_inputHigh, execInputHigh_in hv hr]
  case margin =>
    intro v s hlo hhi hr
    rw [exec_inputMargin, execInputMargin_in hlo hhi hr]
  case normal =>
    intro v s hlo hhi hr
    rw [exec_inputNormal, execInputNormal_in hlo hhi hr]
  case low =>
    intro v s hv hr
    rw [exec_inputLow, execInputLow_in hv hr]
  case trip =>
    intro s hr
    rw [exec_hwThermTrip, execHwThermTrip_on hr]
  case coolant =>
    intro t s hr
    rw [exec_coolantWarm, execCoolantWarm_on hr]

end Sys2Proof.Machine
end

section
/-! PROOFS. The root PLLs and the reference (18 R436), and the sensors' trip limits (18 R448). -/

namespace Sys2Proof.Machine

section
variable {s : State}

theorem execPllUnlock_locked {u : Unit6} (hu : u.val ∉ s.pllOff) :
    execPllUnlock u s =
      let t := s.withPllOff (kins u s.pllOff)
      let o := if cornerstone t = u.val then (otherDies t u).headD (cornerstone t) else cornerstone t
      .next (raise t (if u.val < 4 then ⟨o, Rsn.DIE_ABSENT, 0x0B, 3, 14, u, [], .ashlar u⟩
        else ⟨o, Rsn.DIE_ABSENT, 0x0B, 3, 11, u + 8 * 31, [], .keystone (u - 4)⟩) false) := by
  rw [execPllUnlock, if_neg (mt List.contains_iff_mem.mp hu)]

/-! ### THERMAL_TRIP -/

/-- A reading at its limit: THERM_TRIP_N driven, and the module-level cause. -/
def tripped (s : State) : State :=
  let q := fset (s.withModx { s.modx with tripN := true }) Reg.GLB_MOD_STATUS 10 1 1
  raise q ⟨cornerstone q, Rsn.ABORTED, 0x0D, 4, 13, 0, [], .module⟩ false

/-- A die's sensor: its register, the die's highest readings, and the trip. -/
theorem execThermalTrip_die {u : Fin 20} {i : Fin 24} {t : BitVec 11} (hu : u.val < 4) :
    execThermalTrip u i t s =
      let r := showTemps (fset s (Reg.GLB_TEMP u i) 0 11 t.toNat) u
      .next (if tq t < 4 * (256 + s.cfg.limits.getD 1 115) then r else tripped r) := by
  have hglb : u.val < 8 := by omega
  have hshown : ¬ ((4 ≤ u.val ∧ u.val < 8 ∧ 8 ≤ i.val) ∨ u.val = 6 ∨ u.val = 7) := by omega
  rw [execThermalTrip]
  simp only [if_pos hglb, if_neg hshown, if_pos hu]
  exact (apply_ite Host.Outcome.next _ _ _).symm

/-- A stack's sensor, whose highest readings its die shows. -/
theorem execThermalTrip_footing {u : Fin 20} {i : Fin 24} {t : BitVec 11} (hu : 8 ≤ u.val) :
    execThermalTrip u i t s =
      let r := showTemps (fset s (Reg.FTG_TEMP u) 0 11 t.toNat) ((u - 8) / 3)
      .next (if tq t < 4 * (256 + s.cfg.limits.getD 3 105) then r else tripped r) := by
  have hftg : ¬ u.val < 8 := by omega
  have hshown : ¬ ((4 ≤ u.val ∧ u.val < 8 ∧ 8 ≤ i.val) ∨ u.val = 6 ∨ u.val = 7) := by omega
  have hdie : ¬ u.val < 4 := by omega
  rw [execThermalTrip]
  simp only [if_neg hftg, if_neg hshown, if_neg hdie]
  exact (apply_ite Host.Outcome.next _ _ _).symm

end

/-- Settles O4: each clause is the case of the command's equation that its hypotheses choose. -/
theorem clockLossComplete : Obligations.ClockLossComplete := by
  refine ⟨?unlock, ?lock, ?reference, ?below, ?dieTrip, ?footingTrip⟩
  case unlock =>
    intro u s hu
    rw [exec_pllUnlock, execPllUnlock_locked hu]
  case lock =>
    intro u s
    rw [exec_pllLock, execPllLock]
  case reference =>
    intro d s
    rw [exec_refclkLoss, execRefclkLoss]
  case below =>
    intro u i t s hu ht
    rw [exec_thermalTrip, execThermalTrip_die hu]
    exact congrArg _ (if_pos ht)
  case dieTrip =>
    intro u i t s hu ht
    rw [exec_thermalTrip, execThermalTrip_die hu]
    exact congrArg _ (if_neg (Nat.not_lt.mpr ht))
  case footingTrip =>
    intro u i t s hu
    rw [exec_thermalTrip, execThermalTrip_footing hu]
    rfl

end Sys2Proof.Machine
end

section
/-! PROOFS. The requests of the management bus (19 R475-R478, 20 R494) and the bus's own messages (20 R493). -/

namespace Sys2Proof.Machine

section
variable {s : State} {ver : Byte} {tag : BitVec 16} {ok early : Bool} {bad notReady : Nat} {serve : State → State}

/-! ### Requests -/

/-- A well-formed request is served: with the rail on, and initialisation over unless it may come early. -/
theorem request_served (hr : s.modx.rail = true) (hv : ver = 1) (hok : ok = true) (hready : early = true ∨ ready s = true) :
    request s ver tag ok early bad notReady serve = .next (serve s) := by
  have hform : ¬ (ver ≠ 1 ∨ ok = false) := by simp only [hv, hok, ne_eq, not_true_eq_false, reduceCtorEq, or_self, not_false_eq_true]
  have hgo : ¬ ((!early && !ready s) = true) := by
    obtain h | h := hready <;> simp [h]
  rw [request, if_neg (not_rail_off hr), if_neg hform, if_neg hgo]

/-- A malformed request is answered with its codes. -/
theorem request_malformed (hr : s.modx.rail = true) (hok : ok = false) :
    request s ver tag ok early bad notReady serve = .next (frameErr s tag.toNat Rsn.BAD_DESC bad) := by
  rw [request, if_neg (not_rail_off hr), if_pos (.inr hok)]

end

/-- Settles O25: each request with its operands in range is served, and one of a wrong length is malformed. -/
theorem managementComplete : Obligations.ManagementComplete := by
  refine ⟨?cert, ?measurements, ?seals, ?treatment, ?status, ?reset, ?resetRefused, ?budget, ?fatal, ?locate, ?certMalformed⟩
  case cert =>
    intro ver tag data s hr hv hready hform
    rw [exec_getCert, execGetCert, request_served hr hv (decide_eq_true hform) (.inr hready)]
  case measurements =>
    intro ver tag data s hr hv hready hform
    rw [exec_getMeasurements, execGetMeasurements, request_served hr hv (decide_eq_true hform) (.inr hready)]
  case seals =>
    intro ver tag data s hr hv hready hform
    rw [exec_getSeal, execGetSeal, request_served hr hv (decide_eq_true hform) (.inr hready)]
  case treatment =>
    intro ver tag data s hr hv hready hform hserving hjournal
    have hok : (decide (data.length = 36 ∧ fld data 32 1 < 4 ∧ fld data 33 1 < 4) && !outOf s (fld data 32 1) &&
        bit s (Reg.SEAL_JRNL_CTRL (fld data 32 1) (fld data 33 1)) 0) = true := by
      rw [decide_eq_true hform, hserving, hjournal]
      rfl
    rw [exec_getTreatment, execGetTreatment, request_served hr hv hok (.inr hready)]
  case status =>
    intro ver tag data s hr hv hform
    rw [exec_getStatus, execGetStatus, request_served hr hv (decide_eq_true hform) (.inl rfl)]
  case reset =>
    intro ver tag data s hr hv hready hform hpass
    rw [exec_mgmtReset, execMgmtReset, request_served hr hv (decide_eq_true hform) (.inr hready)]
    simp only [hpass]
  case resetRefused =>
    intro ver tag data s hr hv hready hform hfail
    rw [exec_mgmtReset, execMgmtReset, request_served hr hv (decide_eq_true hform) (.inr hready)]
    simp only [hfail]
  case budget =>
    intro ver tag data s hr hv hready hform hrange hpass
    obtain ⟨hwatts, hallot⟩ := hrange
    rw [exec_setBudget, execSetBudget, request_served hr hv (decide_eq_true hform) (.inr hready)]
    exact congrArg _ (if_pos ⟨hwatts, hallot, hpass⟩)
  case fatal =>
    intro ver tag data s hr hv hform
    rw [exec_getFatal, execGetFatal, request_served hr hv (decide_eq_true hform) (.inl rfl)]
  case locate =>
    intro ver tag data s hr hv hready hform
    rw [exec_locate, execLocate, request_served hr hv (decide_eq_true hform) (.inr hready)]
  case certMalformed =>
    intro ver tag data s hr _ hlen
    rw [exec_getCert, execGetCert, request_malformed hr (decide_eq_false fun h => hlen h.1)]

/-- Settles O26: each command's equation with the rail on. -/
theorem i3cAndMctpComplete : Obligations.I3cAndMctpComplete := by
  refine ⟨?address, ?setEndpoint, ?getEndpoint, ?version, ?types⟩
  case address =>
    intro a s hr hfree
    have hassign : ¬ ((!s.modx.rail || s.modx.i3c.isSome) = true) := by rw [hr, hfree]; exact Bool.false_ne_true
    rw [exec_entdaa, execEntdaa, if_neg hassign]
  case setEndpoint =>
    intro e s hr hid
    obtain ⟨hnull, hbroadcast⟩ := hid
    rw [exec_setEndpointId, execSetEndpointId, if_neg (not_rail_off hr), if_neg (not_or.mpr ⟨hnull, hbroadcast⟩)]
  case getEndpoint =>
    intro s hr
    rw [exec_getEndpointId, execGetEndpointId, if_neg (not_rail_off hr), endpointId]
  case version =>
    intro t s hr hcarried
    rw [exec_getMctpVersionSupport, execGetMctpVersionSupport, if_neg (not_rail_off hr), if_pos hcarried]
    rfl
  case types =>
    intro s hr
    rw [exec_getMessageTypeSupport, execGetMessageTypeSupport, if_neg (not_rail_off hr)]

end Sys2Proof.Machine
end

section
/-! PROOFS. The resets (15 R371, R376, R515; 19 R465, R467). -/

namespace Sys2Proof.Machine

section
variable {s : State}

/-! ### What a MODULE_COLD leaves -/

@[simp] theorem moduleCold_mem (s : State) : (moduleCold s).mem = [] := by
  rw [moduleCold, fset_mem, fset_mem]; rfl
@[simp] theorem moduleCold_items (s : State) : (moduleCold s).items = [] := by
  rw [moduleCold, fset_items, fset_items]; rfl
@[simp] theorem moduleCold_flash (s : State) : (moduleCold s).flash = s.flash := by
  rw [moduleCold, fset_flash, fset_flash]; rfl
@[simp] theorem moduleCold_pending (s : State) : (moduleCold s).pending = s.pending := by
  rw [moduleCold, fset_pending, fset_pending]; rfl

/-! ### The resets of a Keystone -/

/-- The state in which a KFULL of Keystone `k` runs: its request, if it is the head of the Cornerstone's queue, has left it. -/
def kfullServed (s : State) (k : Key) : State := resetServed s 3 (fun t => t == 4 + k.val || t == 6)

theorem execKfull_present {k : Key} (hk : hostState (kfullServed s k) k ≠ 2) :
    execKfull k s =
      let t := kfullServed s k
      let u := kfullReset (beginKfull (t.withL2busy (tset natDef t.l2busy k 0)) k) k
      .next (if l4Due u then enterL4 u else u) := if_neg hk

theorem execKfull_absent {k : Key} (hk : hostState (kfullServed s k) k = 2) : execKfull k s = .next (kfullServed s k) := if_pos hk

theorem execKeystoneReturned_absent {k : Key} (hk : hostState s k = 2) :
    execKeystoneReturned k s =
      let t := (List.range 6).foldl (fun s i => setPd s (96 + 6 * k + i) 2) (kfullReset s k)
      let u := t.withAbsent (t.absent.filter (· ≠ 4 + k.val)) |>.withModx { t.modx with perst := t.modx.perst.set k false }
      .next (agentsBack (homesChanged (bondEnable (setHost (hartsStart (loadBoot u k) k) k 3) (4 + k)))) := by
  rw [execKeystoneReturned, if_neg (not_not.mpr hk)]

/-- A cluster that has not written back is reclaimed; with the last one the KCORE ends. -/
theorem execL2WritebackTimeout_busy {k : Key} {cl : Fin 12} (hb : (tget natDef s.l2busy k).testBit cl = true) :
    execL2WritebackTimeout k cl s =
      let t := mgt (s.withL2busy (tset natDef s.l2busy k (tget natDef s.l2busy k - 2 ^ cl.val))) 2 (12 * k + cl) 0
      .next (if tget natDef t.l2busy k = 0 then kcoreFinish t k else t) := by
  have hgo : ¬ ((!(tget natDef s.l2busy k).testBit cl) = true) := by rw [hb]; exact Bool.false_ne_true
  rw [execL2WritebackTimeout]
  dsimp only
  rw [if_neg hgo]

end

/-- Settles O5: each clause is the command's equation, or what MODULE_COLD leaves of one part of the state. -/
theorem resetsComplete : Obligations.ResetsComplete := by
  refine ⟨?cold, ?left, ?warm, ?kcore, ?kfull, ?kfullAbsent, ?dieWarm, ?dieCold, ?returned, ?timeout⟩
  case cold =>
    intro s
    rw [exec_moduleCold, execModuleCold]
  case left =>
    intro s
    exact ⟨moduleCold_mem s, moduleCold_items s, moduleCold_flash s, moduleCold_pending s⟩
  case warm =>
    intro s
    rw [exec_moduleWarm, execModuleWarm]
  case kcore =>
    intro ks slow s
    rw [exec_kcore, execKcore]
  case kfull =>
    intro k s hk
    rw [exec_kfull, execKfull_present hk, kfullServed]
  case kfullAbsent =>
    intro k s hk
    rw [exec_kfull, execKfull_absent hk, kfullServed]
  case dieWarm =>
    intro d s
    rw [exec_dieWarm, execDieWarm]
  case dieCold =>
    intro d s
    rw [exec_dieCold, execDieCold]
  case returned =>
    intro k s hk
    rw [exec_keystoneReturned, execKeystoneReturned_absent hk]
  case timeout =>
    intro k cl s hb
    rw [exec_l2WritebackTimeout, execL2WritebackTimeout_busy hb]

end Sys2Proof.Machine
end

section
/-! PROOFS. The boot sequence (19 R463-R465) and the check of positions (01 R37). -/

namespace Sys2Proof.Machine

section
variable {s : State}

/-- The POS among which the Cornerstone is elected, ascending: of the dies in service that passed, those no other die reported. -/
def electable (s : State) (pass : BitVec 4) (ps : List (Fin 4)) : List Nat :=
  sortNat (((ps.zipIdx).filter (fun p => pass.getLsbD p.2 && !outOf s p.2 && (ps.filter (fun x => x == p.1)).length == 1)).map
    (fun p => p.1.val))

/-! ### BOOT_STEP_DONE -/

/-- With power good and no stop a step of the sequence is carried out. -/
theorem execBootStepDone_going {good : BitVec 20} {caps : List (BitVec 10)} (hp : s.modx.powerGood = true) (hi : s.modx.inReset = false)
    (hf : s.modx.faultN = false) (hn : fget s Reg.GLB_BOOT_STATUS 6 4 < 9) :
    execBootStepDone good caps s = .next (bootStep s (fget s Reg.GLB_BOOT_STATUS 6 4 + 1) good caps) := by
  have hgo : ¬ ((!s.modx.powerGood || s.modx.inReset || s.modx.faultN || decide (9 < fget s Reg.GLB_BOOT_STATUS 6 4 + 1)) = true) := by
    rw [hp, hi, hf, decide_eq_false (by omega)]
    exact Bool.false_ne_true
  rw [execBootStepDone, if_neg hgo]

/-- A step of dies in which the Cornerstone's die fails restarts the sequence. -/
theorem bootDies_restart {good : BitVec 20} {us : List Nat} {go : State → State} (hg : good.getLsbD (cornerstone s) = false)
    (hl4 : (bootGood s good us).modx.l4 = false) : bootDies s good us go = fset (bootGood s good us) Reg.GLB_BOOT_STATUS 6 4 1 := by
  rw [bootDies, hg, hl4, Bool.or_self, if_neg Bool.false_ne_true]

/-- The dies that steps 2 to 4 ask: the Cornerstone's alone in step 3. -/
def stepDies (s : State) (n : Nat) : List Nat := if n = 2 then [cornerstone s] else [0, 1, 2, 3]

theorem bootStep_dies {n : Nat} {good : BitVec 20} {caps : List (BitVec 10)} (hn : 1 ≤ n ∧ n ≤ 3) :
    ∃ go, bootStep s (n + 1) good caps = bootDies s good (stepDies s n) go := by
  obtain rfl | rfl | rfl : n = 1 ∨ n = 2 ∨ n = 3 := by omega
  all_goals
    unfold bootStep
    exact ⟨_, rfl⟩

/-- Steps 2 to 4 restart when the Cornerstone's die fails. -/
theorem bootStep_restart {n : Nat} {good : BitVec 20} {caps : List (BitVec 10)} (hn : 1 ≤ n ∧ n ≤ 3)
    (hg : good.getLsbD (cornerstone s) = false) (hl4 : (bootGood s good (stepDies s n)).modx.l4 = false) :
    bootStep s (n + 1) good caps = fset (bootGood s good (stepDies s n)) Reg.GLB_BOOT_STATUS 6 4 1 := by
  obtain ⟨go, hdies⟩ := bootStep_dies hn
  rw [hdies, bootDies_restart hg hl4]

/-! ### POSITION_CHECK -/

theorem execPositionCheck_agreed {d : Die} {j1 j2 kp : Option (Fin 4)} (hnew : fget s (Reg.GLB_DIE_IDENT d) 2 2 = 0)
    (hmost : (posVotes j1 j2 kp).length < 2 * ((posVotes j1 j2 kp).filter (fun p => p == fget s (Reg.GLB_DIE_IDENT d) 0 2)).length) :
    execPositionCheck d j1 j2 kp s = .next (fset s (Reg.GLB_DIE_IDENT d) 2 2 1) := by
  rw [execPositionCheck, if_neg (not_not.mpr hnew)]
  exact if_pos hmost

/-- A die none of whose partners trained is held with POS_CHECK 3. -/
theorem execPositionCheck_alone {d : Die} (hnew : fget s (Reg.GLB_DIE_IDENT d) 2 2 = 0) :
    execPositionCheck d none none none s =
      let u := fset (holdDie (s.withAbsent (kins d s.absent)) d) (Reg.GLB_DIE_IDENT d) 2 2 3
      let t := recordAt u ⟨cornerstone u, Rsn.DIE_ABSENT, 0x49, 3, 14, d, leBytes 1 (fget s (Reg.GLB_DIE_IDENT d) 0 2) ++ leBytes 1 3,
        .ashlar d⟩ 3 0 0
      .next (if l4Due t then enterL4 t else t) := by
  rw [execPositionCheck, if_neg (not_not.mpr hnew)]
  exact if_neg (Nat.lt_irrefl 0)

end

/-- Settles O7: each clause is the case of the command's equation that its hypotheses choose. -/
theorem bootCommandsComplete : Obligations.BootCommandsComplete := by
  refine ⟨?election, ?step, ?timeout, ?agreed, ?alone, ?restart⟩
  case election =>
    intro pass pos s hstep
    rw [exec_romElection, execRomElection, if_neg (not_not.mpr hstep)]
    cases hps : electable s pass (if s.modx.warm then heldPos s else pos) with
    | nil =>
      unfold electable at hps
      simp only [hps]
    | cons p ps =>
      unfold electable at hps
      simp only [hps]
  case step =>
    intro good caps s hp hi hf hn
    rw [exec_bootStepDone, execBootStepDone_going hp hi hf hn]
  case timeout =>
    intro s hn
    rw [exec_bootStepTimeout, execBootStepTimeout, if_neg hn]
  case agreed =>
    intro d j1 j2 kp s hnew hmost
    rw [exec_positionCheck, execPositionCheck_agreed hnew hmost]
  case alone =>
    intro d s hnew
    rw [exec_positionCheck, execPositionCheck_alone hnew]
  case restart =>
    intro good caps s hp hi hf hn hg hl4
    rw [exec_bootStepDone, execBootStepDone_going hp hi hf (by omega), bootStep_restart hn hg hl4, stepDies]

end Sys2Proof.Machine
end

section
/-! PROOFS. The live update, the counters and the extend register (19 R469-R471, R473). -/

namespace Sys2Proof.Machine

section
variable {s : State}

/-! ### IMG_UPDATE -/

/-- The checks of an update: idle, LEN and SRC in range. -/
def imgUpdateChecks (s : State) : Chk := firstFail [
  (!bit s Reg.GLB_IMG_CTRL 31 && s.update.isNone && !holding s, Rsn.STATE, 0xCB),
  (decide (4096 ≤ (rd s Reg.GLB_IMG_LEN).toNat ∧ (rd s Reg.GLB_IMG_LEN).toNat ≤ 130023424), Rsn.CFG_RANGE, 0xCD),
  (decide (imgSrc s % 4096 = 0), Rsn.CFG_RANGE, 0xCD)]

/-- Neither an action nor an update is under way, and the store is not HOLDING. -/
def imgIdle (s : State) : Bool := !bit s Reg.GLB_IMG_CTRL 31 && s.update.isNone && !holding s

theorem imgIdle_of (hb : bit s Reg.GLB_IMG_CTRL 31 = false) (hu : s.update = none) (hh : holding s = false) : imgIdle s = true := by
  rw [imgIdle, hb, hu, hh]
  rfl

theorem imgUpdateChecks_busy (hi : imgIdle s = false) : imgUpdateChecks s = some (Rsn.STATE, 0xCB) :=
  if_neg (ne_true_of_eq_false hi)

theorem imgUpdateChecks_len (hi : imgIdle s = true)
    (hlen : ¬ (4096 ≤ (rd s Reg.GLB_IMG_LEN).toNat ∧ (rd s Reg.GLB_IMG_LEN).toNat ≤ 130023424)) :
    imgUpdateChecks s = some (Rsn.CFG_RANGE, 0xCD) :=
  (if_pos hi).trans (if_neg (ne_true_of_eq_false (decide_eq_false hlen)))

theorem imgUpdateChecks_src (hi : imgIdle s = true)
    (hlen : 4096 ≤ (rd s Reg.GLB_IMG_LEN).toNat ∧ (rd s Reg.GLB_IMG_LEN).toNat ≤ 130023424) (hsrc : ¬ imgSrc s % 4096 = 0) :
    imgUpdateChecks s = some (Rsn.CFG_RANGE, 0xCD) :=
  (if_pos hi).trans ((if_pos (decide_eq_true hlen)).trans (if_neg (ne_true_of_eq_false (decide_eq_false hsrc))))

theorem imgUpdateChecks_pass (hi : imgIdle s = true)
    (hlen : 4096 ≤ (rd s Reg.GLB_IMG_LEN).toNat ∧ (rd s Reg.GLB_IMG_LEN).toNat ≤ 130023424) (hsrc : imgSrc s % 4096 = 0) :
    imgUpdateChecks s = none :=
  (if_pos hi).trans ((if_pos (decide_eq_true hlen)).trans (if_pos (decide_eq_true hsrc)))

theorem execImgUpdate_refused {r e : Nat} (hc : imgUpdateChecks s = some (r, e)) : execImgUpdate s = .next (imgRefuse s r e) := by
  rw [imgUpdateChecks] at hc
  rw [execImgUpdate]
  dsimp only
  rw [hc]

theorem execImgUpdate_pass (hc : imgUpdateChecks s = none) :
    execImgUpdate s =
      let t := s.withUpdate (some ⟨1 - fget s Reg.GLB_BOOT_STATUS 0 1, imgSrc s, (rd s Reg.GLB_IMG_LEN).toNat, shippedImg, []⟩)
      .next (setRD (fset (fset (fset t Reg.GLB_IMG_CTRL 31 1 1) Reg.GLB_IMG_CTRL 2 3 1) Reg.GLB_IMG_PROGRESS 0 11 0) Reg.GLB_IMG_CTRL 8 0 0) := by
  rw [imgUpdateChecks] at hc
  rw [execImgUpdate]
  dsimp only
  rw [hc]

/-! ### The checks of the image, and of what was written -/

/-- The image in memory checked: the codes of the first check that fails, or the erase requested. -/
theorem execImgCheckDone_verifying {u : Update} (hu : s.update = some u) (hst : fget s Reg.GLB_IMG_CTRL 2 3 = 1) :
    execImgCheckDone s =
      let t := cleanPa s u.src u.len
      let i := parseImg (memRead t u.src u.len)
      .next (if i.wellFormed then
          (if i.authentic then
            (if imgCurrent t i then requestStore (fset (t.withUpdate (some { u with img := i })) Reg.GLB_IMG_CTRL 2 3 2) (.image 0)
            else imgFail t Rsn.CFG_CONFLICT 0xC9)
          else imgFail t Rsn.SEAL_MISMATCH 0xC8)
        else imgFail t Rsn.BAD_DESC 0xCA) := by
  rw [execImgCheckDone, hu]
  dsimp only
  rw [if_neg (not_not.mpr hst)]
  generalize cleanPa s u.src u.len = t
  generalize parseImg (memRead t u.src u.len) = i
  cases hw : i.wellFormed with
  | false => simp only [firstFail, Bool.false_eq_true, if_false]
  | true =>
    cases ha : i.authentic with
    | false => simp only [firstFail, Bool.false_eq_true, if_false, if_true]
    | true =>
      cases hc : imgCurrent t i with
      | false => simp only [firstFail, Bool.false_eq_true, if_false, if_true]
      | true => simp only [firstFail, if_true]

theorem execImgReadbackDone_written {u : Update} (hu : s.update = some u) (hst : fget s Reg.GLB_IMG_CTRL 2 3 = 3) :
    execImgReadbackDone s =
      let i := parseImg u.written
      .next (if i.wellFormed && i.authentic && i.digest == u.img.digest then
          requestStore (s.withUpdate (some { u with img := i })) (.image 10000)
        else imgFail s Rsn.SEAL_MISMATCH 0xC8) := by
  rw [execImgReadbackDone, hu]
  dsimp only
  rw [if_neg (not_not.mpr hst)]
  exact (apply_ite Host.Outcome.next _ _ _).symm

/-! ### IMG_RAISE_SVN and SEAL_EXTEND -/

/-- What refuses raising the counter: BUSY, an update, or a counter that has reached the booted SVN. -/
def raiseRefused (s : State) : Bool :=
  bit s Reg.GLB_IMG_CTRL 31 || s.update.isSome || decide ((bootedSlot s).img.svn ≤ s.flash.counters.getD 0 0)

theorem execImgRaiseSvn_eq :
    execImgRaiseSvn s =
      if raiseRefused s then .next (imgRefuse s Rsn.STATE 0xCB)
      else .next (setRD (fset ((List.range ((bootedSlot s).img.svn - s.flash.counters.getD 0 0)).foldl
        (fun s _ => requestStore s (.counter 0)) s) Reg.GLB_IMG_CTRL 31 1 1) Reg.GLB_IMG_CTRL 8 0 0) := rfl

theorem raiseRefused_of_reached (h : (bootedSlot s).img.svn ≤ s.flash.counters.getD 0 0) : raiseRefused s = true := by
  rw [raiseRefused, decide_eq_true h, Bool.or_true]

theorem raiseRefused_eq_false (hb : bit s Reg.GLB_IMG_CTRL 31 = false) (hu : s.update = none)
    (hsvn : s.flash.counters.getD 0 0 < (bootedSlot s).img.svn) : raiseRefused s = false := by
  rw [raiseRefused, hb, hu, decide_eq_false (Nat.not_le.mpr hsvn)]
  rfl

theorem execSealExtend_go {v : W32} (hgo : getBits v 4 1 = 1) :
    execSealExtend v s =
      if getBits v 0 4 < 8 then .next (emit s .refusal [Rsn.CFG_RANGE, 0xCD] [])
      else .next (setMeas s (getBits v 0 4) (sha384 (meas s (getBits v 0 4) ++
        (List.range 12).flatMap (fun w => leBytes 4 (rd s (Reg.SEAL_EXT_DATA w)).toNat)))) := by
  have hset : ¬ getBits v 4 1 = 0 := by omega
  rw [execSealExtend, if_neg hset]

end

/-- Settles O9: each clause is the case of the command's equation that its hypotheses choose. -/
theorem imageUpdateComplete : Obligations.ImageUpdateComplete := by
  refine ⟨?update, ?updateBusy, ?updateShort, ?check, ?readback, ?raised, ?raiseRefused, ?counter, ?extended, ?extendRefused,
    ?updateHeld, ?updateRange⟩
  case update =>
    intro s hb hu hh hlen hsrc
    rw [exec_imgUpdate, execImgUpdate_pass (imgUpdateChecks_pass (imgIdle_of hb hu hh) hlen hsrc)]
  case updateBusy =>
    intro s hb
    have hidle : imgIdle s = false := by rw [imgIdle, hb]; rfl
    rw [exec_imgUpdate, execImgUpdate_refused (imgUpdateChecks_busy hidle)]
  case updateShort =>
    intro s hb hu hh hlen
    rw [exec_imgUpdate, execImgUpdate_refused (imgUpdateChecks_len (imgIdle_of hb hu hh) (by omega))]
  case check =>
    intro u s hu hst
    rw [exec_imgCheckDone, execImgCheckDone_verifying hu hst]
  case readback =>
    intro u s hu hst
    rw [exec_imgReadbackDone, execImgReadbackDone_written hu hst]
  case raised =>
    intro s hb hu hsvn
    rw [exec_imgRaiseSvn, execImgRaiseSvn_eq, raiseRefused_eq_false hb hu hsvn, if_neg Bool.false_ne_true]
  case raiseRefused =>
    intro s hsvn
    rw [exec_imgRaiseSvn, execImgRaiseSvn_eq, if_pos (raiseRefused_of_reached hsvn)]
  case counter =>
    intro s
    rw [exec_cntInc, execCntInc]
  case extended =>
    intro v s hgo hi
    rw [exec_sealExtend, execSealExtend_go hgo, if_neg (Nat.not_lt.mpr hi)]
  case extendRefused =>
    intro v s hgo hi
    rw [exec_sealExtend, execSealExtend_go hgo, if_pos hi]
  case updateHeld =>
    intro s hheld
    have hidle : imgIdle s = false := by
      obtain hu | hh := hheld
      · rw [imgIdle, Option.isNone_eq_false_iff.mpr hu, Bool.and_false, Bool.false_and]
      · rw [imgIdle, hh, Bool.not_true, Bool.and_false]
    rw [exec_imgUpdate, execImgUpdate_refused (imgUpdateChecks_busy hidle)]
  case updateRange =>
    intro s hb hu hh hlo hout
    have hidle := imgIdle_of hb hu hh
    rw [exec_imgUpdate]
    by_cases hhi : (rd s Reg.GLB_IMG_LEN).toNat ≤ 130023424
    · have hsrc : ¬ imgSrc s % 4096 = 0 := by omega
      rw [execImgUpdate_refused (imgUpdateChecks_src hidle ⟨hlo, hhi⟩ hsrc)]
    · rw [execImgUpdate_refused (imgUpdateChecks_len hidle fun h => hhi h.2)]

end Sys2Proof.Machine
end

section
/-! PROOFS. The writes of the energy ledger (18 R440, R454, R455). -/

namespace Sys2Proof.Machine

section
variable {d : Die} {s : State}

/-! ### LDG_CTRL -/

/-- The checks of the ledger's ENABLE: Mortar ON, LDG_MODULE in range, and at the Cornerstone the quotas within it. -/
def ldgChecks (s : State) (d : Nat) : Chk := firstFail [
  (mortarOn s d, Rsn.STATE, 0x94),
  (moduleRange (rd s Reg.LDG_MODULE).toNat, Rsn.CFG_RANGE, 0x06),
  (cornerstone s ≠ d || quotaSum ((List.range 4).map (fun p => fget s (Reg.LDG_BUDGET p 20) 0 24)) (rd s Reg.LDG_MODULE).toNat,
    Rsn.CFG_CONFLICT, 0x07)]

theorem execLdgEnable_open (hw : winOpen s d) :
    execLdgEnable d s = .next (finishEnable s (Reg.LDG_CTRL d) 8 (ldgChecks s d)) := viaWin_open hw

/-- Something is committed on the die. -/
def ldgCommitted (s : State) (d : Nat) : Bool :=
  s.items.any (fun i => i.charges.any (fun c => c.budget / 32 == d && decide (0 < c.uj))) || (ledgerX s d).kept.any (fun c => decide (0 < c.uj))

theorem execLdgDisable_open (hw : winOpen s d) :
    execLdgDisable d s = .next (if ldgCommitted s d then setRD s (Reg.LDG_CTRL d) 8 Rsn.STATE 0x08
      else setRD (fset s (Reg.LDG_CTRL d) 0 1 0) (Reg.LDG_CTRL d) 8 0 0) := viaWin_open hw

/-! ### LDG_MODULE and LDG_BUDGET -/

/-- What a write of LDG_MODULE leaves: the codes of its checks, or the value, held until the boundary. -/
theorem moduleWrite_of_chk {m : Nat} (hm : moduleChk s (m % 8192 + m / 65536 % 1024 * 65536) = none) :
    moduleWrite s m = setRD (setModule s (m % 8192 + m / 65536 % 1024 * 65536)) (Reg.LDG_CTRL (cornerstone s)) 8 0 0 := by
  rw [moduleWrite, hm]

theorem moduleWrite_of_refused {m r e : Nat} (hm : moduleChk s (m % 8192 + m / 65536 % 1024 * 65536) = some (r, e)) :
    moduleWrite s m = setRD s (Reg.LDG_CTRL (cornerstone s)) 8 r e := by
  rw [moduleWrite, hm]

/-- The quotas of the four dies with `b` in place of die `d`'s. -/
def quotasWith (s : State) (d : Die) (b : Nat) : List Nat := (List.range 4).map (fun p => if p = d.val then b else fget s (Reg.LDG_BUDGET p 20) 0 24)
/-- What is committed in the current period or a later one stays within `b`. -/
def coversCommitted (s : State) (d i b : Nat) : Bool :=
  (chargedPeriods s d).all (fun p => decide (p < period s d) || decide (committed s d i p ≤ b))

/-- The checks of a budget: the Mortar's within LDG_MODULE, and every one at least what is committed. -/
def budgetChecks (s : State) (d : Die) (i : Fin 21) (b : Nat) : Chk := firstFail [
  (i.val ≠ 20 || quotaSum (quotasWith s d b) (rd s Reg.LDG_MODULE).toNat, Rsn.CFG_CONFLICT, 0x07), (coversCommitted s d i b, Rsn.STATE, 0x08)]

variable {i : Fin 21} {v : W32} {b : Nat}

theorem execLdgBudgetWrite_refused {r e : Nat} (hw : winOpen s d) (hc : budgetChecks s d i (v.toNat % 0x1000000) = some (r, e)) :
    execLdgBudgetWrite d i v s = .next (setRD s (Reg.LDG_CTRL d) 8 r e) := by
  unfold budgetChecks quotasWith coversCommitted at hc
  unfold execLdgBudgetWrite
  rw [viaWin_open hw]
  dsimp only
  rw [hc]

theorem execLdgBudgetWrite_pass (hw : winOpen s d) (hc : budgetChecks s d i (v.toNat % 0x1000000) = none) :
    execLdgBudgetWrite d i v s = .next (setRD (fset (setLedgerX s d ((ledgerX s d).hold i (fget s (Reg.LDG_BUDGET d i) 0 24)))
      (Reg.LDG_BUDGET d i) 0 24 (v.toNat % 0x1000000)) (Reg.LDG_CTRL d) 8 0 0) := by
  unfold budgetChecks quotasWith coversCommitted at hc
  unfold execLdgBudgetWrite
  rw [viaWin_open hw]
  dsimp only
  rw [hc]

theorem budgetChecks_over (h : i.val = 20 ∧ quotaSum (quotasWith s d b) (rd s Reg.LDG_MODULE).toNat = false) :
    budgetChecks s d i b = some (Rsn.CFG_CONFLICT, 0x07) := by
  obtain ⟨hi, hq⟩ := h
  refine if_neg ?_
  rw [hq, decide_eq_false (not_not.mpr hi)]
  exact Bool.false_ne_true

theorem budgetChecks_within (h : ¬ (i.val = 20 ∧ quotaSum (quotasWith s d b) (rd s Reg.LDG_MODULE).toNat = false)) :
    budgetChecks s d i b = if coversCommitted s d i b then none else some (Rsn.STATE, 0x08) := by
  refine if_pos ?_
  rw [Bool.or_eq_true, decide_eq_true_eq, ← Bool.not_eq_false]
  exact Classical.or_iff_not_imp_left.mpr fun hi hq => h ⟨not_not.mp hi, hq⟩

end

/-- Settles O13: each clause is the case of the command's equation that its hypotheses choose. -/
theorem ledgerWritesComplete : Obligations.LedgerWritesComplete := by
  refine ⟨?enable, ?disabled, ?disableRefused, ?module, ?budget⟩
  case enable =>
    intro d s hw
    rw [exec_ldgEnable, execLdgEnable_open hw, ldgChecks]
  case disabled =>
    intro d s hw hfree
    rw [exec_ldgDisable, execLdgDisable_open hw, ldgCommitted, hfree, if_neg Bool.false_ne_true]
  case disableRefused =>
    intro d s hw hheld
    rw [exec_ldgDisable, execLdgDisable_open hw, ldgCommitted, if_pos hheld]
  case module =>
    intro v s
    dsimp only
    rw [exec_ldgModuleWrite, execLdgModuleWrite]
    cases hm : moduleChk s (v.toNat % 8192 + v.toNat / 65536 % 1024 * 65536) with
    | some c => rw [moduleWrite_of_refused hm]
    | none => rw [moduleWrite_of_chk hm, setModule]
  case budget =>
    intro d i v s hw
    dsimp only
    rw [exec_ldgBudgetWrite, ← quotasWith, ← coversCommitted]
    by_cases hquota : i.val = 20 ∧ quotaSum (quotasWith s d (v.toNat % 0x1000000)) (rd s Reg.LDG_MODULE).toNat = false
    · rw [if_pos hquota, execLdgBudgetWrite_refused hw (budgetChecks_over hquota)]
    · rw [if_neg hquota]
      cases hcov : coversCommitted s d i (v.toNat % 0x1000000) with
      | true => rw [if_pos rfl, execLdgBudgetWrite_pass hw (by rw [budgetChecks_within hquota, if_pos hcov])]
      | false =>
        have hchk : budgetChecks s d i (v.toNat % 0x1000000) = some (Rsn.STATE, 0x08) := by
          rw [budgetChecks_within hquota, hcov, if_neg Bool.false_ne_true]
        rw [if_neg Bool.false_ne_true, execLdgBudgetWrite_refused hw hchk]

end Sys2Proof.Machine
end

section
/-! PROOFS. Fields of one register that do not overlap: a write of one leaves the other. -/

namespace Sys2Proof.Machine

/-- A bit of a register after a field is set: the field's, or the register's own. -/
theorem setBits_getLsbD (w : W32) (lo n v k : Nat) (hk : k < 32) :
    (setBits w lo n v).getLsbD k = if lo ≤ k ∧ k < lo + n then v.testBit (k - lo) else w.getLsbD k := by
  simp only [setBits, BitVec.getLsbD_or, BitVec.getLsbD_and, BitVec.getLsbD_not, BitVec.getLsbD_shiftLeft, BitVec.getLsbD_ofNat,
    Nat.testBit_two_pow_sub_one, Nat.testBit_mod_two_pow, hk, decide_true, Bool.true_and]
  by_cases hlo : k < lo
  · have hout : ¬ (lo ≤ k ∧ k < lo + n) := by omega
    simp only [hlo, if_neg hout, decide_true, Bool.not_true, Bool.false_and, Bool.not_false, Bool.and_true, Bool.or_false]
  · by_cases hn : k < lo + n
    · have hin : lo ≤ k ∧ k < lo + n := by omega
      have hbit : k - lo < n := by omega
      have hbit' : k - lo < 32 := by omega
      simp only [hlo, if_pos hin, hbit, hbit', decide_false, decide_true, Bool.not_false, Bool.true_and, Bool.not_true, Bool.and_false,
        Bool.false_or]
    · have hout : ¬ (lo ≤ k ∧ k < lo + n) := by omega
      have hbit : ¬ k - lo < n := by omega
      simp only [if_neg hout, hbit, decide_false, Bool.false_and, Bool.and_false, Bool.not_false, Bool.and_true, Bool.or_false]

/-- A field's bits after another field is set. -/
theorem getBits_setBits_disjoint (w : W32) {lo n lo' n' : Nat} (v : Nat) (h : lo' + n' ≤ lo ∨ lo + n ≤ lo') :
    getBits (setBits w lo n v) lo' n' = getBits w lo' n' := by
  refine congrArg BitVec.toNat (BitVec.eq_of_getLsbD_eq fun i hi => ?_)
  rw [BitVec.getLsbD_extractLsb', BitVec.getLsbD_extractLsb']
  by_cases hk : lo' + i < 32
  · have hout : ¬ (lo ≤ lo' + i ∧ lo' + i < lo + n) := by omega
    rw [setBits_getLsbD w lo n v _ hk, if_neg hout]
  · rw [BitVec.getLsbD_of_ge _ _ (by omega), BitVec.getLsbD_of_ge _ _ (by omega)]

/-- A field after another of its register is set. -/
theorem fget_fset_disjoint (s : State) (a : Nat) {lo n lo' n' : Nat} (v : Nat) (h : lo' + n' ≤ lo ∨ lo + n ≤ lo') :
    fget (fset s a lo n v) a lo' n' = fget s a lo' n' := by
  rw [fget, fset, rd_wr_same, getBits_setBits_disjoint _ _ h, fget]

/-- Fields follow the register table alone. -/
theorem fget_of_regs {s t : State} (h : t.regs = s.regs) (a lo n : Nat) : fget t a lo n = fget s a lo n := by
  rw [fget, rd, h, ← rd, ← fget]

/-- A flag after it is set, or cleared. -/
theorem bit_fset_same (s : State) (a i v : Nat) (h : i < 32) : bit (fset s a i 1 v) a i = (v % 2 == 1) := by
  rw [bit, fget_fset_same _ _ _ _ _ (by omega), Nat.pow_one]

/-- A reason and a detail after they are shown. -/
theorem fget_setRD_reason (s : State) (a lo r e : Nat) (h : lo + 16 ≤ 32) : fget (setRD s a lo r e) a lo 8 = r % 2 ^ 8 := by
  rw [setRD, fget_fset_disjoint _ _ _ (.inl (Nat.le_refl _)), fget_fset_same _ _ _ _ _ (by omega)]

theorem fget_setRD_detail (s : State) (a lo r e : Nat) (h : lo + 16 ≤ 32) : fget (setRD s a lo r e) a (lo + 8) 8 = e % 2 ^ 8 := by
  rw [setRD, fget_fset_same _ _ _ _ _ (by omega)]

/-- A field outside the two of a reason and a detail. -/
theorem fget_setRD_disjoint (s : State) (a : Nat) {lo lo' n' : Nat} (r e : Nat) (h : lo' + n' ≤ lo ∨ lo + 16 ≤ lo') :
    fget (setRD s a lo r e) a lo' n' = fget s a lo' n' := by
  rw [setRD, fget_fset_disjoint _ _ _ (by omega), fget_fset_disjoint _ _ _ (by omega)]

theorem fget_setRD_ne (s : State) {a b : Nat} (lo r e lo' n' : Nat) (h : b ≠ a) : fget (setRD s a lo r e) b lo' n' = fget s b lo' n' := by
  rw [setRD, fget_fset_ne _ _ _ _ _ _ h, fget_fset_ne _ _ _ _ _ _ h]

end Sys2Proof.Machine
end

section
/-! PROOFS. The hold-up store (18 R450, R452, R453). -/

namespace Sys2Proof.Machine

section
variable {s : State} {w : StoreWork} {usable : BitVec 16}

/-! ### HUP_STATUS and what shares no field with the usable energy -/

theorem hupCost_ne_hupStatus (c : Nat) : Reg.HUP_COST c ≠ Reg.HUP_STATUS := by
  unfold Reg.HUP_COST Reg.HUP_STATUS
  omega
theorem hupCost_ne_hupLast {c : Nat} (hc : c < 4) : Reg.HUP_COST c ≠ Reg.HUP_LAST := by
  unfold Reg.HUP_COST Reg.HUP_LAST
  omega
theorem hupStatus_ne_hupLast : Reg.HUP_STATUS ≠ Reg.HUP_LAST := by decide
theorem hupStatus_ne_hupCount : Reg.HUP_STATUS ≠ Reg.HUP_COUNT := by decide
theorem hupLast_ne_hupStatus : Reg.HUP_LAST ≠ Reg.HUP_STATUS := by decide
theorem hupLast_ne_hupCount : Reg.HUP_LAST ≠ Reg.HUP_COUNT := by decide
theorem hupCount_ne_hupLast : Reg.HUP_COUNT ≠ Reg.HUP_LAST := by decide
theorem hupCount_ne_hupStatus : Reg.HUP_COUNT ≠ Reg.HUP_STATUS := by decide
theorem modStatus_ne_hupStatus : Reg.GLB_MOD_STATUS ≠ Reg.HUP_STATUS := by decide
theorem modStatus_ne_hupLast : Reg.GLB_MOD_STATUS ≠ Reg.HUP_LAST := by decide
theorem modStatus_ne_hupCount : Reg.GLB_MOD_STATUS ≠ Reg.HUP_COUNT := by decide

theorem StoreWork.cls_lt (w : StoreWork) : w.cls < 4 := by cases w <;> simp [StoreWork.cls]

theorem setUsable_state : fget (setUsable s usable) Reg.HUP_STATUS 0 2 = fget s Reg.HUP_STATUS 0 2 :=
  fget_fset_disjoint _ _ _ (.inl (by decide))

theorem setUsable_cost (c : Nat) : fget (setUsable s usable) (Reg.HUP_COST c) 0 16 = fget s (Reg.HUP_COST c) 0 16 :=
  fget_fset_ne _ _ _ _ _ _ (hupCost_ne_hupStatus c)

/-! ### HOLDUP_READY -/

/-- The largest class cost. -/
def costMax (s : State) : Nat := ((List.range 4).map (fun c => fget s (Reg.HUP_COST c) 0 16)).foldl max 0

theorem costMax_setUsable : costMax (setUsable s usable) = costMax s := by simp only [costMax, setUsable_cost]

theorem execHoldupReady_ready (hst : fget s Reg.HUP_STATUS 0 2 = 0) (hmax : costMax s + 20000 ≤ usable.toNat) :
    execHoldupReady usable s = .next (fset (setUsable s usable) Reg.HUP_STATUS 0 2 1) := by
  have hready : fget (setUsable s usable) Reg.HUP_STATUS 0 2 = 0 ∧ costMax (setUsable s usable) + 20000 ≤ usable.toNat := by
    rw [setUsable_state, costMax_setUsable]
    exact ⟨hst, hmax⟩
  exact congrArg Host.Outcome.next (if_pos hready)

/-! ### PERSISTENT_STORE_START -/

/-- The state in which the next store is judged: its usable energy measured and its class shown. -/
def storeShown (s : State) (usable : BitVec 16) (w : StoreWork) : State := fset (setUsable s usable) Reg.HUP_LAST 0 2 w.cls

/-- The store begins. -/
def storeStarted (t : State) (w : StoreWork) : State :=
  wrapAdd (setRD (fset (t.withHup { t.hup with queue := t.hup.queue.erase w, cur := some w }) Reg.HUP_STATUS 2 1 1) Reg.HUP_LAST 8 0 0)
    Reg.HUP_COUNT 0 16 1

/-- The store is refused and kept for the retry. -/
def storeRefused (t : State) (w : StoreWork) : State :=
  holdAdd (setRD (t.withHup { t.hup with queue := t.hup.queue.erase w, retry := t.hup.retry ++ [w] }) Reg.HUP_LAST 8 Rsn.HOLDUP_LOW 0x0F)
    Reg.HUP_COUNT 16 16 1

theorem execPersistentStoreStart_next (hr : s.modx.rail = true) (hcur : s.hup.cur = none) (hw : nextStore s.hup.queue = some w) :
    execPersistentStoreStart usable s =
      let t := storeShown s usable w
      if fget t (Reg.HUP_COST w.cls) 0 16 + 20000 ≤ usable.toNat ∧ ¬ (w.cls = 3 ∧ holding t) then .next (storeStarted t w)
      else .next (railCheck (storeRefused t w)) := by
  have hcur' : (setUsable s usable).hup.cur = none := by rw [setUsable, fset_hup, hcur]
  have hnext : nextStore (setUsable s usable).hup.queue = some w := by rw [setUsable, fset_hup, hw]
  have hon : ¬ ((!(setUsable s usable).modx.rail) = true) := by rw [setUsable, fset_modx]; exact not_rail_off hr
  unfold execPersistentStoreStart
  dsimp only
  rw [hcur', hnext]
  dsimp only
  rw [if_neg hon]
  rfl

theorem storeShown_hup : (storeShown s usable w).hup = s.hup := by rw [storeShown, fset_hup, setUsable, fset_hup]
theorem storeShown_flash : (storeShown s usable w).flash = s.flash := by rw [storeShown, fset_flash, setUsable, fset_flash]
theorem storeShown_mem : (storeShown s usable w).mem = s.mem := by rw [storeShown, fset_mem, setUsable, fset_mem]

theorem storeShown_cost : fget (storeShown s usable w) (Reg.HUP_COST w.cls) 0 16 = fget s (Reg.HUP_COST w.cls) 0 16 := by
  rw [storeShown, fget_fset_ne _ _ _ _ _ _ (hupCost_ne_hupLast w.cls_lt), setUsable_cost]

theorem storeShown_holding : holding (storeShown s usable w) = holding s := by
  rw [holding, storeShown, fget_fset_ne _ _ _ _ _ _ hupStatus_ne_hupLast, setUsable_state, ← holding]

theorem storeShown_cls : fget (storeShown s usable w) Reg.HUP_LAST 0 2 = w.cls := by
  rw [storeShown, fget_fset_same _ _ _ _ _ (by decide)]
  exact Nat.mod_eq_of_lt w.cls_lt

theorem storeShown_count : fget (storeShown s usable w) Reg.HUP_COUNT 0 16 = fget s Reg.HUP_COUNT 0 16 := by
  rw [storeShown, fget_fset_ne _ _ _ _ _ _ hupCount_ne_hupLast, setUsable, fget_fset_ne _ _ _ _ _ _ hupCount_ne_hupStatus]

theorem storeShown_enabled : bit (storeShown s usable w) Reg.GLB_MOD_STATUS 6 = bit s Reg.GLB_MOD_STATUS 6 := by
  rw [bit, storeShown, fget_fset_ne _ _ _ _ _ _ modStatus_ne_hupLast, setUsable, fget_fset_ne _ _ _ _ _ _ modStatus_ne_hupStatus, ← bit]

/-! ### What a start, and a refusal, leave -/

variable {t : State}

theorem storeStarted_hup : (storeStarted t w).hup = { t.hup with queue := t.hup.queue.erase w, cur := some w } := by
  rw [storeStarted, wrapAdd, fset_hup, setRD_hup, fset_hup, State.withHup_hup]
theorem storeStarted_flash : (storeStarted t w).flash = t.flash := by
  rw [storeStarted, wrapAdd, fset_flash, setRD_flash, fset_flash]
  rfl
theorem storeStarted_mem : (storeStarted t w).mem = t.mem := by
  rw [storeStarted, wrapAdd, fset_mem, setRD_mem, fset_mem, State.withHup_mem]

theorem storeStarted_busy : bit (storeStarted t w) Reg.HUP_STATUS 2 = true := by
  rw [storeStarted, wrapAdd, bit, fget_fset_ne _ _ _ _ _ _ hupStatus_ne_hupCount, fget_setRD_ne _ _ _ _ _ _ hupStatus_ne_hupLast,
    fget_fset_same _ _ _ _ _ (by decide)]
  rfl

theorem storeStarted_cls : fget (storeStarted t w) Reg.HUP_LAST 0 2 = fget t Reg.HUP_LAST 0 2 := by
  rw [storeStarted, wrapAdd, fget_fset_ne _ _ _ _ _ _ hupLast_ne_hupCount, fget_setRD_disjoint _ _ _ _ (.inl (by decide)),
    fget_fset_ne _ _ _ _ _ _ hupLast_ne_hupStatus, fget_of_regs (State.withHup_regs _ _)]

theorem storeStarted_reason : fget (storeStarted t w) Reg.HUP_LAST 8 8 = 0 := by
  rw [storeStarted, wrapAdd, fget_fset_ne _ _ _ _ _ _ hupLast_ne_hupCount, fget_setRD_reason _ _ _ _ _ (by decide)]
  rfl

theorem storeStarted_count : fget (storeStarted t w) Reg.HUP_COUNT 0 16 = (fget t Reg.HUP_COUNT 0 16 + 1) % 65536 := by
  rw [storeStarted, wrapAdd, fget_fset_same _ _ _ _ _ (by decide), fget_setRD_ne _ _ _ _ _ _ hupCount_ne_hupLast,
    fget_fset_ne _ _ _ _ _ _ hupCount_ne_hupStatus, fget_of_regs (State.withHup_regs _ _)]
  rfl

theorem storeRefused_hup : (storeRefused t w).hup = { t.hup with queue := t.hup.queue.erase w, retry := t.hup.retry ++ [w] } := by
  rw [storeRefused, holdAdd, fset_hup, setRD_hup, State.withHup_hup]
theorem storeRefused_flash : (storeRefused t w).flash = t.flash := by
  rw [storeRefused, holdAdd, fset_flash, setRD_flash]
  rfl

theorem storeRefused_reason : fget (storeRefused t w) Reg.HUP_LAST 8 8 = Rsn.HOLDUP_LOW := by
  rw [storeRefused, holdAdd, fget_fset_ne _ _ _ _ _ _ hupLast_ne_hupCount, fget_setRD_reason _ _ _ _ _ (by decide)]
  rfl

theorem storeRefused_detail : fget (storeRefused t w) Reg.HUP_LAST 16 8 = 0x0F := by
  rw [storeRefused, holdAdd, fget_fset_ne _ _ _ _ _ _ hupLast_ne_hupCount, fget_setRD_detail _ _ 8 _ _ (by decide)]
  rfl

theorem storeRefused_holding : holding (storeRefused t w) = holding t := by
  rw [holding, storeRefused, holdAdd, fget_fset_ne _ _ _ _ _ _ hupStatus_ne_hupCount, fget_setRD_ne _ _ _ _ _ _ hupStatus_ne_hupLast,
    fget_of_regs (State.withHup_regs _ _), ← holding]

theorem storeRefused_enabled : bit (storeRefused t w) Reg.GLB_MOD_STATUS 6 = bit t Reg.GLB_MOD_STATUS 6 := by
  rw [bit, storeRefused, holdAdd, fget_fset_ne _ _ _ _ _ _ modStatus_ne_hupCount, fget_setRD_ne _ _ _ _ _ _ modStatus_ne_hupLast,
    fget_of_regs (State.withHup_regs _ _), ← bit]

/-- Outside HOLDING and with EN 1 the rail stays on. -/
theorem railCheck_stays (hh : holding t = false) (hen : bit t Reg.GLB_MOD_STATUS 6 = true) : railCheck t = t := by
  simp only [railCheck, hh, hen, Bool.not_true, Bool.false_and, Bool.or_false, Bool.and_false, Bool.false_eq_true, if_false]

/-! ### PERSISTENT_STORE_DONE -/

theorem execPersistentStoreDone_cur (hcur : s.hup.cur = some w) :
    execPersistentStoreDone usable s =
      let t := setUsable s usable
      let u := stored (fset (t.withHup { t.hup with cur := none }) Reg.HUP_STATUS 2 1 0) w
      .next (railCheck (if u.modx.coldDue then coldNow u else u)) := by
  have hcur' : (setUsable s usable).hup.cur = some w := by rw [setUsable, fset_hup, hcur]
  rw [execPersistentStoreDone]
  dsimp only
  rw [hcur']

end

/-- Settles O10: the next store starts or is refused from the state in which it is judged; each field of the statement is read there. -/
theorem holdUpStoreComplete : Obligations.HoldUpStoreComplete := by
  refine ⟨?charged, ?started, ?refused, ?done⟩
  case charged =>
    intro usable s hst hmax
    rw [exec_holdupReady, execHoldupReady_ready hst hmax]
  case started =>
    intro w usable s hr hcur hw hcost himage
    have hstart : fget (storeShown s usable w) (Reg.HUP_COST w.cls) 0 16 + 20000 ≤ usable.toNat ∧
        ¬ (w.cls = 3 ∧ holding (storeShown s usable w) = true) := by
      rw [storeShown_cost, storeShown_holding]
      exact ⟨hcost, himage⟩
    refine ⟨storeStarted (storeShown s usable w) w, ?_, ?_, ?_, storeStarted_busy, ?_, storeStarted_reason, ?_, ?_, ?_⟩
    · rw [exec_persistentStoreStart, execPersistentStoreStart_next hr hcur hw]
      exact if_pos hstart
    · rw [storeStarted_hup]
    · rw [storeStarted_hup, storeShown_hup]
    · rw [storeStarted_cls, storeShown_cls]
    · rw [storeStarted_count, storeShown_count]
    · rw [storeStarted_flash, storeShown_flash]
    · rw [storeStarted_mem, storeShown_mem]
  case refused =>
    intro w usable s hr hcur hw hcost hhold hen
    have hlow : ¬ (fget (storeShown s usable w) (Reg.HUP_COST w.cls) 0 16 + 20000 ≤ usable.toNat ∧
        ¬ (w.cls = 3 ∧ holding (storeShown s usable w) = true)) := by
      rw [storeShown_cost]
      omega
    refine ⟨storeRefused (storeShown s usable w) w, ?_, ?_, ?_, ?_, storeRefused_reason, storeRefused_detail, ?_⟩
    · have hrail : railCheck (storeRefused (storeShown s usable w) w) = storeRefused (storeShown s usable w) w :=
        railCheck_stays (by rw [storeRefused_holding, storeShown_holding, hhold]) (by rw [storeRefused_enabled, storeShown_enabled, hen])
      rw [exec_persistentStoreStart, execPersistentStoreStart_next hr hcur hw]
      dsimp only
      rw [if_neg hlow, hrail]
    · rw [storeRefused_hup, storeShown_hup, hcur]
    · rw [storeRefused_hup, storeShown_hup]
    · rw [storeRefused_hup, storeShown_hup]
    · rw [storeRefused_flash, storeShown_flash]
  case done =>
    intro w usable s hcur
    rw [exec_persistentStoreDone, execPersistentStoreDone_cur hcur]

end Sys2Proof.Machine
end

section
/-! PROOFS. The module's pins (20 R489, R491, R492, R496). -/

namespace Sys2Proof.Machine

section
variable {s : State}

/-! ### POWER_UP -/

/-- The module's own state after MODULE_COLD. -/
def coldModx (m : ModuleX) : ModuleX := { m with
  pkgRails := m.rail, coldDue := false, l4 := false, faultN := false, tripN := false, perst := [false, false], warm := false, refLost := [] }

theorem moduleCold_modx (s : State) : (moduleCold s).modx = coldModx s.modx := by
  rw [moduleCold, fset_modx, fset_modx]
  rfl

theorem clearRegs_modx (s : State) (p : Nat → RegRow → Bool) : (clearRegs s p).modx = s.modx := rfl
theorem clearRegs_mem (s : State) (p : Nat → RegRow → Bool) : (clearRegs s p).mem = s.mem := rfl
theorem clearRegs_items (s : State) (p : Nat → RegRow → Bool) : (clearRegs s p).items = s.items := rfl
theorem clearRegs_flash (s : State) (p : Nat → RegRow → Bool) : (clearRegs s p).flash = s.flash := rfl

/-- The management rail up, and the module as MODULE_COLD and the rail's own reset leave it. -/
def railUp (s : State) : State :=
  clearRegs (moduleCold (s.withModx { s.modx with rail := true, faultN := false, tripN := false, i3c := none, eid := none })) (fun _ r => r.grp == .h)

/-- SLOT_ID sampled and EN read as 1. -/
def slotSampled (s : State) (slot : BitVec 6) : State := fset (fset s Reg.GLB_MOD_STATUS 0 6 slot.toNat) Reg.GLB_MOD_STATUS 6 1 1

/-- The package rails follow, the switch is closed and the store starts to charge. -/
def pkgUp (s : State) : State :=
  s.withHup ⟨[], none, []⟩
    |>.withModx { s.modx with pkgRails := true, powerGood := false, switch := true, vPrev := 6000, vNow := 65535, marginTold := false }

theorem execPowerUp_off {slot : BitVec 6} (hr : s.modx.rail = false) :
    execPowerUp slot s = .next (pkgUp (slotSampled (railUp s) slot)) := by
  rw [execPowerUp, if_neg (ne_true_of_eq_false hr)]
  rfl

theorem railUp_rail (s : State) : (railUp s).modx.rail = true := by
  rw [railUp, clearRegs_modx, moduleCold_modx, State.withModx_modx, coldModx]
theorem railUp_mem (s : State) : (railUp s).mem = [] := by rw [railUp, clearRegs_mem, moduleCold_mem]
theorem railUp_items (s : State) : (railUp s).items = [] := by rw [railUp, clearRegs_items, moduleCold_items]
theorem railUp_flash (s : State) : (railUp s).flash = s.flash := by rw [railUp, clearRegs_flash, moduleCold_flash]; rfl

theorem slotSampled_slot (s : State) (slot : BitVec 6) : fget (slotSampled s slot) Reg.GLB_MOD_STATUS 0 6 = slot.toNat := by
  rw [slotSampled, fget_fset_disjoint _ _ _ (.inl (by decide)), fget_fset_same _ _ _ _ _ (by decide)]
  exact Nat.mod_eq_of_lt slot.isLt
theorem slotSampled_enabled (s : State) (slot : BitVec 6) : bit (slotSampled s slot) Reg.GLB_MOD_STATUS 6 = true :=
  bit_fset_same _ _ _ _ (by decide)

theorem pkgUp_regs (s : State) : (pkgUp s).regs = s.regs := rfl
theorem pkgUp_modx (s : State) : (pkgUp s).modx =
    { s.modx with pkgRails := true, powerGood := false, switch := true, vPrev := 6000, vNow := 65535, marginTold := false } := rfl
theorem pkgUp_mem (s : State) : (pkgUp s).mem = s.mem := rfl
theorem pkgUp_items (s : State) : (pkgUp s).items = s.items := rfl
theorem pkgUp_hup (s : State) : (pkgUp s).hup = ⟨[], none, []⟩ := rfl
theorem pkgUp_flash (s : State) : (pkgUp s).flash = s.flash := rfl

/-! ### MOD_EN and MOD_RESET_N -/

theorem execPowerGood_up (hr : s.modx.rail = true) (hp : s.modx.pkgRails = true) (hi : s.modx.inReset = false) :
    execPowerGood s = .next (fset (s.withModx { s.modx with powerGood := true }) Reg.GLB_MOD_STATUS 7 1 1) := by
  rw [execPowerGood, hr, hp, hi]
  rfl

/-- MOD_EN falling with the rail up and EN 1: the band says whether it acts. -/
theorem execModEnFall_enabled (hr : s.modx.rail = true) (hen : bit s Reg.GLB_MOD_STATUS 6 = true) :
    execModEnFall s =
      let u := fset s Reg.GLB_MOD_STATUS 6 1 0
      if fget s Reg.GLB_MOD_STATUS 13 2 = 1 ∨ fget s Reg.GLB_MOD_STATUS 13 2 = 2 then
        let t := allOff (moduleCause u Rsn.ABORTED 0xFE)
        .next (railCheck (if t.update.isSome then imgFail t Rsn.ABORTED 0xFE else t))
      else .next u := by
  have hgo : ¬ ((!s.modx.rail || !bit s Reg.GLB_MOD_STATUS 6) = true) := by rw [hr, hen]; exact Bool.false_ne_true
  rw [execModEnFall, if_neg hgo]

/-- A pulse of 10 µs or more with the rail up. -/
theorem execModResetAssert_long {ns : Nat} (hns : 10000 ≤ ns) (hr : s.modx.rail = true) :
    execModResetAssert ns s =
      let t := s.withModx { s.modx with inReset := true }
      if t.hup.cur.isSome then .next (t.withModx { t.modx with coldDue := true }) else .next (coldNow t) := by
  have hseen : ¬ (ns < 1000 ∨ (ns < 10000 ∧ Config.pulseSeen ns = false)) := by omega
  have hon : ¬ ((!(s.withModx { s.modx with inReset := true }).modx.rail) = true) := by rw [State.withModx_modx]; exact not_rail_off hr
  rw [execModResetAssert, if_neg hseen]
  dsimp only
  rw [if_neg hon]

end

/-- Settles O2: each clause is the case of the command's equation that its hypotheses choose. -/
theorem powerPinsComplete : Obligations.PowerPinsComplete := by
  refine ⟨?up, ?good, ?fall, ?fallGoverned, ?cold, ?coldDue, ?short, ?release⟩
  case up =>
    intro slot s hr
    refine ⟨pkgUp (slotSampled (railUp s) slot), by rw [exec_powerUp, execPowerUp_off hr], ?_, ?_, ?_, ?_, ?_, ?_, ?_, ?_, ?_, ?_⟩
    · rw [pkgUp_modx, slotSampled, fset_modx, fset_modx, railUp_rail]
    · rw [pkgUp_modx]
    · rw [pkgUp_modx]
    · rw [pkgUp_modx]
    · rw [fget_of_regs (pkgUp_regs _), slotSampled_slot]
    · rw [bit, fget_of_regs (pkgUp_regs _), ← bit, slotSampled_enabled]
    · rw [pkgUp_mem, slotSampled, fset_mem, fset_mem, railUp_mem]
    · rw [pkgUp_items, slotSampled, fset_items, fset_items, railUp_items]
    · rw [pkgUp_hup]
    · rw [pkgUp_flash, slotSampled, fset_flash, fset_flash, railUp_flash]
  case good =>
    intro s hr hp hi
    rw [exec_powerGood, execPowerGood_up hr hp hi]
  case fall =>
    intro s hr hen hband
    rw [exec_modEnFall, execModEnFall_enabled hr hen]
    exact if_pos hband
  case fallGoverned =>
    intro s hr hen hband
    have hother : ¬ (fget s Reg.GLB_MOD_STATUS 13 2 = 1 ∨ fget s Reg.GLB_MOD_STATUS 13 2 = 2) := by omega
    rw [exec_modEnFall, execModEnFall_enabled hr hen]
    exact if_neg hother
  case cold =>
    intro ns s hns hr hcur
    have hidle : ¬ ((s.withModx { s.modx with inReset := true }).hup.cur.isSome = true) := by
      change ¬ (s.hup.cur.isSome = true)
      rw [hcur]
      exact Bool.false_ne_true
    rw [exec_modResetAssert, execModResetAssert_long hns hr]
    exact if_neg hidle
  case coldDue =>
    intro ns s hns hr hcur
    have hbusy : (s.withModx { s.modx with inReset := true }).hup.cur.isSome = true := hcur
    rw [exec_modResetAssert, execModResetAssert_long hns hr]
    exact if_pos hbusy
  case short =>
    intro ns s hns
    rw [exec_modResetAssert, execModResetAssert, if_pos (.inl hns)]
  case release =>
    intro s
    rw [exec_modResetRelease, execModResetRelease]

end Sys2Proof.Machine
end

section
/-! PROOFS. What a fault event leaves alone: a record may be raised by a posted policy (16 R396) and so contain any domain, end items and take a
die or a Keystone out of service, but no CK_CTL counter moves and no item comes (16 R394-R402). One lemma per operation, as in Laws/Keep. -/

namespace Sys2Proof.Machine

/-- From `s` to `t` no CK_CTL counter has moved, and every item's opcode is one of an item of `s`. -/
structure Calm (s t : State) : Prop where
  count : ∀ u, tget wideDef t.wide (Reg.GLB_CTL_COUNT_LO u) = tget wideDef s.wide (Reg.GLB_CTL_COUNT_LO u)
  ops : t.items.map (·.opcode) ⊆ s.items.map (·.opcode)

theorem Calm.refl (s : State) : Calm s s := ⟨fun _ => rfl, List.Subset.refl _⟩

section
variable {s0 s t : State} {α β : Type}

/-- An opcode that no item had, none has. -/
theorem Calm.no_opcode (h : Calm s t) {op : Nat} (hs : ∀ i ∈ s.items, i.opcode ≠ op) : ∀ i ∈ t.items, i.opcode ≠ op := by
  intro i hi he
  obtain ⟨j, hj, hje⟩ := List.mem_map.mp (h.ops (List.mem_map.mpr ⟨i, hi, he⟩))
  exact hs j hj hje

/-! ### Composition -/

/-- What changes neither counters nor items. -/
theorem Calm.of_eq (h : Calm s0 s) (hw : t.wide = s.wide) (hi : t.items = s.items) : Calm s0 t := ⟨hw ▸ h.count, hi ▸ h.ops⟩

theorem calm_ite {c : Prop} [Decidable c] {a b : State} (ha : Calm s0 a) (hb : Calm s0 b) : Calm s0 (if c then a else b) := by
  split
  · exact ha
  · exact hb

/-- A step taken on a condition. -/
theorem calm_then {c : Prop} [Decidable c] {b : State} (h : Calm s0 s) (hb : Calm s0 s → Calm s0 b) : Calm s0 (if c then b else s) :=
  calm_ite (hb h) h

theorem calm_ite_fst {c : Prop} [Decidable c] {a b : State × α} (ha : Calm s0 a.1) (hb : Calm s0 b.1) :
    Calm s0 (if c then a else b).1 := by
  split
  · exact ha
  · exact hb

theorem calm_foldl {f : State → β → State} {l : List β} (h : Calm s0 s) (hf : ∀ t x, Calm s0 t → Calm s0 (f t x)) :
    Calm s0 (l.foldl f s) :=
  List.foldlRecOn (motive := Calm s0) l f h fun t ht x _ => hf t x ht

theorem calm_foldl_fst {f : State × α → β → State × α} {l : List β} {p : State × α} (h : Calm s0 p.1)
    (hf : ∀ q x, Calm s0 q.1 → Calm s0 (f q x).1) : Calm s0 (l.foldl f p).1 :=
  List.foldlRecOn (motive := fun q => Calm s0 q.1) l f h fun q hq x _ => hf q x hq

/-! ### Items, registers and counters -/

theorem calm_filterItems (p : Item → Bool) (h : Calm s0 s) : Calm s0 (s.withItems (s.items.filter p)) :=
  ⟨h.count, fun _ ho => h.ops (List.map_subset _ (List.filter_subset_self _) ho)⟩

theorem calm_mapItems {f : Item → Item} (hf : ∀ i, (f i).opcode = i.opcode) (h : Calm s0 s) : Calm s0 (s.withItems (s.items.map f)) := by
  refine ⟨h.count, fun o ho => h.ops ?_⟩
  rw [State.withItems_items, List.map_map] at ho
  exact (List.map_congr_left fun i _ => hf i : s.items.map ((·.opcode) ∘ f) = s.items.map (·.opcode)) ▸ ho

theorem ctlCount_ne_fltSeq (u o : Nat) : Reg.GLB_CTL_COUNT_LO u ≠ Reg.FLT_SEQ_LO o := by
  unfold Reg.GLB_CTL_COUNT_LO Reg.FLT_SEQ_LO winBase
  omega

theorem calm_wrSeq {o : Nat} {v : W64} (h : Calm s0 s) : Calm s0 (wrW s (Reg.FLT_SEQ_LO o) v) :=
  ⟨fun u => (tget_tset_ne _ _ _ (ctlCount_ne_fltSeq u o)).trans (h.count u), h.ops⟩

theorem calm_wr {a : Nat} {v : W32} (h : Calm s0 s) : Calm s0 (wr s a v) := h.of_eq rfl rfl
theorem calm_fset {a lo n v : Nat} (h : Calm s0 s) : Calm s0 (fset s a lo n v) := h.of_eq rfl rfl
theorem calm_setRD {a lo r e : Nat} (h : Calm s0 s) : Calm s0 (setRD s a lo r e) := calm_fset (calm_fset h)
theorem calm_holdAdd {a lo n k : Nat} (h : Calm s0 s) : Calm s0 (holdAdd s a lo n k) := calm_fset h
theorem calm_modEvent {i : Nat} (h : Calm s0 s) : Calm s0 (modEvent s i) := calm_fset (calm_fset h)
theorem calm_emit {k : MK} {args : List Nat} {data : List Byte} (h : Calm s0 s) : Calm s0 (emit s k args data) := h.of_eq rfl rfl
theorem calm_takeFree (h : Calm s0 s) : Calm s0 (takeFree s).2 := h.of_eq rfl rfl
theorem calm_requestStore {w : StoreWork} (h : Calm s0 s) : Calm s0 (requestStore s w) := h.of_eq rfl rfl
theorem calm_setFring {d r : Nat} {x : FRingX} (h : Calm s0 s) : Calm s0 (setFring s d r x) := h.of_eq rfl rfl
theorem calm_setHoldX {d : Nat} {x : HoldX} (h : Calm s0 s) : Calm s0 (setHoldX s d x) := h.of_eq rfl rfl
theorem calm_setLedgerX {d : Nat} {x : LedgerX} (h : Calm s0 s) : Calm s0 (setLedgerX s d x) := h.of_eq rfl rfl
theorem calm_setJournal {d j : Nat} {x : Journal} (h : Calm s0 s) : Calm s0 (setJournal s d j x) := h.of_eq rfl rfl
theorem calm_setXunit {u : Nat} {x : XUnit} (h : Calm s0 s) : Calm s0 (setXunit s u x) := h.of_eq rfl rfl
theorem calm_dropOps {d n c : Nat} (h : Calm s0 s) : Calm s0 (dropOps s d n c) := h.of_eq rfl rfl

/-! ### Memory -/

theorem calm_dirUses {es : List DirEnt} (h : Calm s0 s) : Calm s0 (dirUses s es) :=
  calm_foldl h fun _ _ ht => calm_fset ht

theorem calm_performReq {r : Req} (h : Calm s0 s) : Calm s0 (performReq s r).1 := by
  unfold performReq
  refine calm_ite_fst h (calm_ite_fst ?_ (calm_ite_fst ?_ (calm_ite_fst ?_ h)))
  all_goals exact h.of_eq rfl rfl

theorem calm_withQueues {ts : List Txn} {ws : List Req} (h : Calm s0 s) : Calm s0 ((s.withTxns ts).withWaitq ws) := h.of_eq rfl rfl

theorem calm_performPending {hit : Nat → Bool} (h : Calm s0 s) : Calm s0 (performPending s hit) := by
  unfold performPending
  refine calm_withQueues (calm_foldl_fst (calm_foldl_fst h fun x t hx => ?_) fun y r hy => ?_)
  · split
    · exact calm_ite_fst (calm_performReq hx) hx
    · exact hx
  · exact calm_ite_fst (calm_performReq hy) hy

theorem calm_dropLines {l n : Nat} (h : Calm s0 s) : Calm s0 (dropLines s l n) :=
  calm_ite h (calm_dirUses (calm_performPending (h.of_eq rfl rfl)))

theorem calm_purgeRange {l n : Nat} (h : Calm s0 s) : Calm s0 (purgeRange s l n) :=
  calm_foldl h fun _ _ ht => ht.of_eq rfl rfl

theorem calm_writeBackAll {hit : Copy → Bool} (h : Calm s0 s) : Calm s0 (writeBackAll s hit) :=
  calm_dirUses (h.of_eq rfl rfl)

theorem calm_memWriteAt {a : Nat} {bs : List Byte} (h : Calm s0 s) : Calm s0 (memWriteAt s a bs) :=
  (calm_dropLines h).of_eq rfl rfl

theorem calm_memWriteF {f : Nat} : ∀ {s : State} {a : Nat} {bs : List Byte}, Calm s0 s → Calm s0 (memWriteF s a bs f) := by
  induction f with
  | zero => exact id
  | succ f ih => exact fun h => calm_ite h (ih (calm_memWriteAt h))

theorem calm_memWrite {a : Nat} {bs : List Byte} (h : Calm s0 s) : Calm s0 (memWrite s a bs) := calm_memWriteF h

/-! ### Fault records -/

theorem calm_sendMsi {addr data : Nat} (h : Calm s0 s) : Calm s0 (sendMsi s addr data) := by
  unfold sendMsi
  split
  · exact calm_ite (calm_holdAdd h) (calm_emit h)
  · exact calm_emit h

theorem calm_fringPut {d r : Nat} {x : FRec} (h : Calm s0 s) : Calm s0 (fringPut s d r x) :=
  calm_ite (calm_sendMsi (calm_fset (calm_memWrite h))) (calm_fset (calm_memWrite h))

theorem calm_fringAbsorb {d r : Nat} {x : FRec} (h : Calm s0 s) : Calm s0 (fringAbsorb s d r x) :=
  calm_fset (calm_fset (calm_fset (calm_setFring h)))

theorem calm_logWords {d i : Nat} {x : FRec} (h : Calm s0 s) : Calm s0 (logWords s d i x) := calm_foldl h fun _ _ ht => calm_wr ht

theorem calm_logFatal {d : Nat} {x : FRec} (h : Calm s0 s) : Calm s0 (logFatal s d x) :=
  calm_ite (calm_requestStore (calm_fset (calm_fset (calm_logWords h)))) (calm_fset (calm_holdAdd h))

theorem calm_putRecord {d : Nat} {x : FRec} (h : Calm s0 s) : Calm s0 (putRecord s d x) := by
  have hlog : Calm s0 (modEvent (fset (logFatal s d x) (Reg.FLT_FLAGS d) 0 1 1) 0) := calm_modEvent (calm_fset (calm_logFatal h))
  exact calm_ite (calm_ite (calm_fringPut hlog) (calm_setFring hlog)) (calm_ite (calm_fringPut h) (calm_fringAbsorb h))

theorem calm_recordAt {e : Ev} {level flags recovery : Nat} (h : Calm s0 s) : Calm s0 (recordAt s e level flags recovery) :=
  calm_putRecord (calm_wrSeq h)

/-! ### Contexts and runs -/

theorem calm_setCtxState {d n c v : Nat} (h : Calm s0 s) : Calm s0 (setCtxState s d n c v) := calm_ite (calm_fset h) (calm_fset (calm_fset h))

theorem calm_loseSample {d : Nat} (h : Calm s0 s) : Calm s0 (loseSample s d) := by
  unfold loseSample
  split
  · exact calm_fset (h.of_eq rfl rfl)
  · exact h

theorem calm_dropSample {d : Nat} (h : Calm s0 s) : Calm s0 (dropSample s d) := calm_ite (calm_loseSample (calm_fset h)) h

theorem calm_dropCapture {d n c : Nat} (h : Calm s0 s) : Calm s0 (dropCapture s d n c) := by
  unfold dropCapture
  split
  · exact calm_ite (calm_dropSample h) h
  · exact h

theorem calm_runReport {p : Plan} (h : Calm s0 s) : Calm s0 (runReport s p) := calm_ite h (calm_memWrite h)

theorem calm_endContexts {p : Plan} (h : Calm s0 s) : Calm s0 (endContexts s p) := by
  refine calm_foldl h fun t b ht => ?_
  have hdrop : Calm s0 (dropCapture (dropOps t p.die b.1 b.2) p.die b.1 b.2) := calm_dropCapture (calm_dropOps ht)
  exact calm_ite (calm_setCtxState hdrop) hdrop

theorem calm_stopRun {d n : Nat} (h : Calm s0 s) : Calm s0 (stopRun s d n).1 := by
  unfold stopRun
  split
  · exact calm_runReport (calm_endContexts h)
  · exact h

/-! ### The end of an item -/

theorem calm_lookup {u bay asid va : Nat} (h : Calm s0 s) : Calm s0 (lookup s u bay asid va).2 := by
  unfold lookup
  cases cacheHit (xunit s u) bay asid va with
  | some e => exact h
  | none =>
    cases walk s u asid va with
    | ok e => exact calm_setXunit h
    | missing l => exact h
    | bad r d pa => exact h

theorem calm_touchSkt {a : Nat} (h : Calm s0 s) : Calm s0 (touchSkt s a) := calm_ite (h.of_eq rfl rfl) h

theorem calm_holdState {d : Nat} (h : Calm s0 s) : Calm s0 (holdState s d) := calm_ite (calm_fset h) h

theorem calm_holdPut {d kind ring iseq pa : Nat} {bs : List Byte} (h : Calm s0 s) : Calm s0 (holdPut s d kind ring iseq pa bs).1 :=
  calm_ite_fst h (calm_holdState (calm_fset (calm_setHoldX (calm_memWrite h))))

theorem calm_ringNotify {d r kind : Nat} {want : Bool} (h : Calm s0 s) : Calm s0 (ringNotify s d r kind want) := calm_ite (calm_sendMsi h) h

theorem calm_putCrec {d r tag seq kind scope reason detail flags time aux : Nat} {want : Bool} (h : Calm s0 s) :
    Calm s0 (putCrec s d r tag seq kind scope reason detail flags time aux want) := by
  refine calm_ringNotify (calm_emit (calm_fset ?_))
  split
  · exact calm_ite (calm_lookup h) (calm_ite (calm_ite (calm_lookup h) (calm_holdState (calm_fset (calm_memWrite (calm_lookup h)))))
      (calm_memWrite (calm_touchSkt (calm_lookup h))))
  · exact calm_lookup h

theorem calm_journalItem {it : Item} {reason detail flags : Nat} (h : Calm s0 s) : Calm s0 (journalItem s it reason detail flags) := by
  unfold journalItem
  split
  · exact h
  · exact calm_setJournal (calm_fset (calm_memWrite h))

theorem calm_loseOut {it : Item} (h : Calm s0 s) : Calm s0 (loseOut s it) := by
  refine calm_foldl h fun t r ht => calm_foldl ht fun t p ht => ?_
  dsimp only
  split
  · exact ht
  · exact calm_ite ht (calm_memWrite (calm_takeFree ht))

theorem calm_ftgStatus {k : Nat} (h : Calm s0 s) : Calm s0 (ftgStatus s k) :=
  calm_foldl (calm_fset h) fun _ _ ht => calm_ite (calm_ite (calm_fset (calm_takeFree ht)) (calm_fset ht)) (calm_fset ht)

theorem calm_ftgStatuses {d : Nat} (h : Calm s0 s) : Calm s0 (ftgStatuses s d) := calm_foldl h fun _ _ ht => calm_ftgStatus ht

theorem calm_dropRegs {p : NetReg → Bool} (h : Calm s0 s) : Calm s0 (dropRegs s p) :=
  calm_foldl (h.of_eq rfl rfl) fun _ _ ht => calm_ite ht (ht.of_eq rfl rfl)

theorem calm_dropItem {it : Item} (h : Calm s0 s) : Calm s0 (dropItem s it) := by
  unfold dropItem
  refine calm_fset (calm_fset (calm_then (calm_then (calm_dropRegs (Calm.of_eq (calm_filterItems _ (calm_foldl h ?_)) rfl rfl))
    calm_ftgStatus) calm_fset))
  exact fun t d ht => calm_setLedgerX ht

theorem calm_groupEnd {it : Item} {reason detail : Nat} (h : Calm s0 s) : Calm s0 (groupEnd s it reason detail) := calm_ite (h.of_eq rfl rfl) h

theorem calm_globalPurge {it : Item} (h : Calm s0 s) : Calm s0 (globalPurge s it) :=
  calm_foldl h fun _ _ ht => calm_emit (calm_purgeRange ht)

theorem calm_endItem {it : Item} {reason detail : Nat} (h : Calm s0 s) : Calm s0 (endItem s it reason detail) := by
  unfold endItem
  refine calm_ite (calm_setHoldX h) ?_
  have hheld : ∀ {c : Prop} [Decidable c] {x : HoldX}, Calm s0 (if c then setHoldX s it.die x else s) := calm_then h calm_setHoldX
  refine calm_ite (calm_filterItems _ hheld) ?_
  exact calm_dropItem (calm_groupEnd (calm_putCrec (calm_then (calm_then (calm_journalItem (calm_ite_fst (calm_stopRun hheld) hheld))
    calm_loseOut) calm_globalPurge)))

end

end Sys2Proof.Machine
end

section
/-! PROOFS. What a fault event leaves alone, continued: the containment of each domain, the ladder and the event itself (16 R394-R402). -/

namespace Sys2Proof.Machine

section
variable {s0 s : State}

/-! ### The fields that hold neither counters nor items -/

theorem calm_withPoison {v} (h : Calm s0 s) : Calm s0 (s.withPoison v) := h.of_eq rfl rfl
theorem calm_withAbsent {v} (h : Calm s0 s) : Calm s0 (s.withAbsent v) := h.of_eq rfl rfl
theorem calm_withSeqs {v} (h : Calm s0 s) : Calm s0 (s.withSeqs v) := h.of_eq rfl rfl
theorem calm_withRecov {v} (h : Calm s0 s) : Calm s0 (s.withRecov v) := h.of_eq rfl rfl
theorem calm_withRecNum {v} (h : Calm s0 s) : Calm s0 (s.withRecNum v) := h.of_eq rfl rfl
theorem calm_withPkgQ {v} (h : Calm s0 s) : Calm s0 (s.withPkgQ v) := h.of_eq rfl rfl
theorem calm_withUpdate {v} (h : Calm s0 s) : Calm s0 (s.withUpdate v) := h.of_eq rfl rfl
theorem calm_withModx {v} (h : Calm s0 s) : Calm s0 (s.withModx v) := h.of_eq rfl rfl
theorem calm_withCopies {v} (h : Calm s0 s) : Calm s0 (s.withCopies v) := h.of_eq rfl rfl
theorem calm_withHostx {v} (h : Calm s0 s) : Calm s0 (s.withHostx v) := h.of_eq rfl rfl
theorem calm_withDir {v} (h : Calm s0 s) : Calm s0 (s.withDir v) := h.of_eq rfl rfl
theorem calm_withHealth {v} (h : Calm s0 s) : Calm s0 (s.withHealth v) := h.of_eq rfl rfl
theorem calm_withTxns {v} (h : Calm s0 s) : Calm s0 (s.withTxns v) := h.of_eq rfl rfl
theorem calm_withWaitq {v} (h : Calm s0 s) : Calm s0 (s.withWaitq v) := h.of_eq rfl rfl
theorem calm_withResps {v} (h : Calm s0 s) : Calm s0 (s.withResps v) := h.of_eq rfl rfl
theorem calm_withWbs {v} (h : Calm s0 s) : Calm s0 (s.withWbs v) := h.of_eq rfl rfl
theorem calm_withReclaims {v} (h : Calm s0 s) : Calm s0 (s.withReclaims v) := h.of_eq rfl rfl
theorem calm_withNamed {v} (h : Calm s0 s) : Calm s0 (s.withNamed v) := h.of_eq rfl rfl
theorem calm_withGroups {v} (h : Calm s0 s) : Calm s0 (s.withGroups v) := h.of_eq rfl rfl
theorem calm_withBootStore {v} (h : Calm s0 s) : Calm s0 (s.withBootStore v) := h.of_eq rfl rfl
theorem calm_withHarts {v} (h : Calm s0 s) : Calm s0 (s.withHarts v) := h.of_eq rfl rfl
theorem calm_withSitesOut {v} (h : Calm s0 s) : Calm s0 (s.withSitesOut v) := h.of_eq rfl rfl
theorem calm_withResetQ {v} (h : Calm s0 s) : Calm s0 (s.withResetQ v) := h.of_eq rfl rfl

/-! ### Items, contexts and Blocks of a contained domain -/

theorem calm_recount {d : Nat} (h : Calm s0 s) : Calm s0 (recount s d) := calm_fset (calm_fset (calm_withSitesOut h))

theorem calm_mapChange {d n v : Nat} (h : Calm s0 s) : Calm s0 (mapChange s d n v) :=
  calm_requestStore (calm_withHealth (calm_fset h))

theorem calm_lateItems {p : Item → Bool} {late : Nat} (h : Calm s0 s) : Calm s0 (lateItems s p late) :=
  calm_mapItems (fun i => by split <;> rfl) h

theorem calm_hitItems {p : Item → Bool} {reason detail late : Nat} (h : Calm s0 s) : Calm s0 (hitItems s p reason detail late) :=
  calm_lateItems (calm_foldl h fun _ _ ht => calm_endItem ht)

theorem calm_haltCtx {d n c reason detail : Nat} (h : Calm s0 s) : Calm s0 (haltCtx s d n c reason detail) :=
  calm_then h fun h => calm_setCtxState (calm_setRD (calm_dropCapture (calm_dropOps h)))

theorem calm_haltBlock {d n reason detail : Nat} (h : Calm s0 s) : Calm s0 (haltBlock s d n reason detail) :=
  calm_foldl h fun _ _ ht => calm_haltCtx ht

theorem calm_fenceBlock {d n reason detail : Nat} (h : Calm s0 s) : Calm s0 (fenceBlock s d n reason detail) := by
  unfold fenceBlock
  refine calm_ite h (calm_recount ?_)
  have hmap : ∀ {cr cd : Nat} {p : Item → Bool}, Calm s0 (fset (setRD (mapChange (((haltBlock s d n cr cd).items.filter p).foldl
      (fun s i => endItem s i cr cd) (haltBlock s d n cr cd)) d n 2) (Reg.BLK_STATE d n) 8 reason detail) (Reg.BLK_CTRL d n) 0 1 1) :=
    calm_fset (calm_setRD (calm_mapChange (calm_foldl (calm_haltBlock h) fun _ _ ht => calm_endItem ht)))
  split
  · exact calm_ite (calm_mapChange hmap) hmap
  · exact hmap

/-! ### Coherence homes -/

theorem calm_refuseReq {r : Req} {code : Nat} (h : Calm s0 s) : Calm s0 (refuseReq s r code) :=
  calm_ite (calm_recordAt (calm_emit (calm_emit h))) (calm_emit h)

theorem calm_orphanDrop {a l : Nat} (h : Calm s0 s) : Calm s0 (orphanDrop s a l) := by
  unfold orphanDrop
  exact calm_recordAt (calm_withNamed h)

theorem calm_evictAll {hit : Copy → Bool} (h : Calm s0 s) : Calm s0 (evictAll s hit) :=
  calm_writeBackAll (calm_withCopies (calm_foldl h fun _ _ ht => calm_orphanDrop ht))

theorem calm_homeLost {k : Nat} (h : Calm s0 s) : Calm s0 (homeLost s k) :=
  calm_withReclaims (calm_withWbs (calm_withResps (calm_withWaitq (calm_withTxns (calm_withDir (calm_withCopies
    (calm_foldl h fun _ _ ht => calm_refuseReq ht)))))))

theorem calm_homeReturn {k : Nat} (h : Calm s0 s) : Calm s0 (homeReturn s k) :=
  calm_foldl (calm_withNamed (calm_writeBackAll h)) fun _ _ ht => calm_withPoison ht

theorem calm_homesChanged (h : Calm s0 s) : Calm s0 (homesChanged s) := by
  refine calm_foldl (calm_withCopies h) fun t k ht => ?_
  exact calm_ite (calm_ite (calm_fset (calm_fset (calm_homeReturn ht))) ht)
    (calm_ite (calm_withCopies ht) (calm_fset (calm_fset (calm_fset (calm_homeLost ht)))))

/-! ### A die, a Keystone, or the module leaves -/

theorem calm_movePlinth {d : Nat} (h : Calm s0 s) : Calm s0 (movePlinth s d) := by
  have hmoved : ∀ {qs : List ResetReq} {p : Nat}, Calm s0 ((qs.foldl (fun s q => match q.win with
      | some w => setRD (fset s (Reg.GLB_RESET_CTRL w) 31 1 0) (Reg.GLB_RESET_CTRL w) 8 Rsn.DIE_ABSENT 0xC7
      | none => emit s .errorResponse [Rsn.DIE_ABSENT, 0xC7] []) (fset s Reg.GLB_BOOT_STATUS 3 3 p)).withResetQ []) := by
    refine calm_withResetQ (calm_foldl (calm_fset h) fun t q ht => ?_)
    split
    · exact calm_setRD (calm_fset ht)
    · exact calm_emit ht
  unfold movePlinth
  refine calm_ite h ?_
  split
  · exact h
  · dsimp only
    split
    · exact calm_setRD (calm_fset (calm_fset (calm_withUpdate hmoved)))
    · exact hmoved

theorem calm_portsDown {d : Nat} (h : Calm s0 s) : Calm s0 (portsDown s d) := calm_foldl h fun _ _ ht => calm_fset (calm_fset ht)

theorem calm_groupsLost {d : Nat} (h : Calm s0 s) : Calm s0 (groupsLost s d) :=
  calm_withGroups (calm_foldl h fun _ _ ht => calm_then ht calm_endItem)

theorem calm_loseHeld {d : Nat} (h : Calm s0 s) : Calm s0 (loseHeld s d) := calm_ite h (calm_recordAt (calm_fset (calm_fset h)))

theorem calm_dieOut {d : Nat} (h : Calm s0 s) : Calm s0 (dieOut s d) := by
  unfold dieOut
  refine calm_homesChanged (calm_emit (calm_emit (calm_lateItems (calm_hitItems (calm_withPkgQ (calm_withRecov (calm_groupsLost (calm_portsDown
    (calm_ftgStatuses (calm_filterItems _ (calm_loseHeld (calm_movePlinth (calm_withAbsent (calm_foldl h ?_))))))))))))))
  exact fun _ _ ht => calm_loseOut ht

theorem calm_setHost {k v : Nat} (h : Calm s0 s) : Calm s0 (setHost s k v) := calm_foldl h fun _ _ ht => calm_withHostx (calm_fset ht)

theorem calm_enterL4 (h : Calm s0 s) : Calm s0 (enterL4 s) := by
  unfold enterL4
  refine calm_ite h (calm_foldl (calm_foldl (calm_recordAt (calm_fset (calm_fset (calm_withModx h)))) ?_) ?_)
  · exact fun _ _ ht => calm_portsDown ht
  · exact fun _ _ ht => calm_endItem ht

theorem calm_holdOrphans {k : Nat} (h : Calm s0 s) : Calm s0 (holdOrphans s k) :=
  calm_foldl h fun _ _ ht => calm_then ht fun ht => calm_ite (calm_withCopies (calm_holdPut ht)) ht

theorem calm_kfullSockets {k : Nat} (h : Calm s0 s) : Calm s0 (kfullSockets s k) :=
  calm_foldl h fun _ _ ht => calm_ite (calm_fset (calm_fset ht)) (calm_ite (calm_fset (calm_fset (calm_fset ht))) (calm_fset ht))

theorem calm_setPd {n v : Nat} (h : Calm s0 s) : Calm s0 (setPd s n v) := calm_fset h

theorem calm_beginKfull {k : Nat} (h : Calm s0 s) : Calm s0 (beginKfull s k) := by
  unfold beginKfull
  refine calm_homesChanged (calm_kfullSockets (calm_holdOrphans (calm_foldl (calm_foldl (calm_withModx (calm_foldl (calm_withAbsent
    (calm_evictAll (calm_setHost (calm_withHarts (calm_withBootStore h))))) ?_)) ?_) ?_)))
  · exact fun _ _ ht => calm_setHoldX ht
  · exact fun _ _ ht => calm_emit ht
  · exact fun _ _ ht => calm_setPd ht

/-! ### Power requests, slots and recoveries -/

theorem calm_pwrDone {r : PwrReq} {reason detail : Nat} (h : Calm s0 s) : Calm s0 (pwrDone s r reason detail) := by
  unfold pwrDone
  split
  · exact calm_fset (calm_fset h)
  · split
    · exact calm_endItem h
    · exact h
  · exact h

theorem calm_abandonPwr {p : Nat → Bool} {reason detail : Nat} (h : Calm s0 s) : Calm s0 (abandonPwr s p reason detail) := by
  refine calm_foldl h fun t q ht => ?_
  dsimp only
  split
  · exact calm_then ht fun ht => calm_pwrDone (calm_withSeqs ht)
  · exact ht

theorem calm_spareReg (h : Calm s0 s) : Calm s0 (spareReg s) := calm_fset h

theorem calm_recovReg {o : Nat} (h : Calm s0 s) : Calm s0 (recovReg s o) :=
  calm_ite (calm_spareReg (calm_fset (calm_fset (calm_fset h)))) (calm_spareReg (calm_fset h))

theorem calm_takeSlots {o : Nat} (h : Calm s0 s) : Calm s0 (takeSlots s o) := by
  unfold takeSlots
  refine calm_recovReg (calm_foldl (calm_foldl h fun t r ht => ?_) fun t r ht => ?_)
  · exact calm_then ht fun ht => calm_ite (calm_withRecov ht) (calm_withRecov ht)
  · exact calm_then ht fun ht => calm_emit (calm_withRecov ht)

theorem calm_newRecovery {dom : Dom} {o q reason detail : Nat} {die pkg cold : Bool} (h : Calm s0 s) :
    Calm s0 (newRecovery s dom o q reason detail die pkg cold).1 := calm_withRecov (calm_withRecNum h)

/-! ### Containment and the event -/

theorem calm_contain {dom : Dom} {reason detail : Nat} (h : Calm s0 s) : Calm s0 (contain s dom reason detail) := by
  have hpwr : Calm s0 (abandonPwr s dom.pds reason detail) := calm_abandonPwr h
  unfold contain
  split
  next d n => exact calm_fenceBlock hpwr
  next d c => exact calm_recount (calm_hitItems (calm_foldl hpwr fun _ _ ht => calm_haltBlock ht))
  next d b => exact calm_recount (calm_homesChanged (calm_hitItems (calm_setXunit hpwr)))
  next k => exact calm_recount (calm_homesChanged (calm_hitItems hpwr))
  next n => exact calm_homesChanged (calm_hitItems hpwr)
  next k => exact calm_setHost hpwr
  next u j => exact calm_lateItems hpwr
  next n => exact calm_hitItems hpwr
  next d => exact calm_dieOut hpwr
  next k => exact calm_beginKfull hpwr
  next => exact calm_enterL4 hpwr

theorem calm_s2Notice {e : Ev} {dom : Dom} {level recovery : Nat} (h : Calm s0 s) : Calm s0 (s2Notice s e dom level recovery) := by
  unfold s2Notice
  split
  · exact h
  · exact calm_ite h (calm_recordAt h)

theorem calm_raise {e : Ev} {conseq : Bool} (h : Calm s0 s) : Calm s0 (raise s e conseq) := by
  unfold raise
  refine calm_ite (calm_s2Notice (calm_recordAt h)) (calm_ite (calm_s2Notice (calm_recordAt h)) ?_)
  have hfree : ∀ {c : Prop} [Decidable c] {a : Nat} {rs : List Recovery} {qs : List (Nat × Nat)},
      Calm s0 (((if c then fset s a 3 1 1 else s).withRecov rs).withPkgQ qs) := calm_withPkgQ (calm_withRecov (calm_then h calm_fset))
  refine calm_then (calm_foldl (calm_takeSlots (calm_contain (calm_s2Notice (calm_recordAt (calm_ite_fst (calm_newRecovery hfree) hfree))))) ?_)
    calm_enterL4
  exact fun _ _ ht => calm_ite ht (calm_takeSlots ht)

theorem calm_note {origin reason detail kind source : Nat} {data : List Byte} (h : Calm s0 s) :
    Calm s0 (note s origin reason detail kind source data) := calm_raise h

end

end Sys2Proof.Machine
end

section
/-! PROOFS. The ends of ledger periods, windows and slots, exhausted reserves and sensor reports (13 R332; 18 R443-R449). -/

namespace Sys2Proof.Machine

section
variable {s0 s : State} {d : Die}

/-! ### LEDGER_PERIOD_END leaves the counter at the boundary -/

theorem calm_edgeReport {d n edge : Nat} {temps : List (BitVec 11)} (h : Calm s0 s) : Calm s0 (edgeReport s d n edge temps) :=
  calm_ite h (calm_emit h)

theorem calm_edgeReports {d : Nat} {temps : List (BitVec 11)} (h : Calm s0 s) : Calm s0 (edgeReports s d temps) :=
  calm_edgeReport (calm_edgeReport h)

theorem calm_wakeEnergy {d c : Nat} (h : Calm s0 s) : Calm s0 (wakeEnergy s d c) :=
  calm_foldl h fun _ _ ht => calm_then ht fun ht => calm_fset (calm_fset ht)

theorem calm_recal {d i : Nat} (h : Calm s0 s) : Calm s0 (recal s d i) := calm_ite (calm_fset (calm_takeFree h)) (calm_fset h)

theorem calm_inputRead {v : Nat} (h : Calm s0 s) : Calm s0 (inputRead s v) := calm_fset (calm_fset (calm_takeFree h))

theorem calm_withHup {v : Holdup} (h : Calm s0 s) : Calm s0 (s.withHup v) := h.of_eq rfl rfl

theorem calm_budgetTemp {d i : Nat} (h : Calm s0 s) : Calm s0 (budgetTemp s d i) := by
  have hshown : ∀ {a a' v v' : Nat}, Calm s0 (fset (fset s a 0 8 v) a' 8 5 v') := calm_fset (calm_fset h)
  exact calm_ite (calm_setLedgerX hshown) (calm_ite (calm_setLedgerX hshown)
    (calm_ite (calm_note (calm_modEvent (calm_setLedgerX hshown))) (calm_ite (calm_note (calm_modEvent (calm_setLedgerX hshown)))
      (calm_note (calm_modEvent (calm_setLedgerX hshown))))))

/-- The die's counter on the next multiple of `n` cycles. -/
def countTo (s : State) (d n : Nat) : State := wrW s (Reg.GLB_CTL_COUNT_LO d) (BitVec.ofNat 64 ((ctl s d / n + 1) * n))

/-- After the counter has moved to the boundary, the rest of a period's end moves none. -/
theorem execLedgerPeriodEnd_calm (d : Die) (draw : List Nat) (temps ftg : List (BitVec 11)) (v : BitVec 16) (s : State) :
    ∃ t, execLedgerPeriodEnd d draw temps ftg v s = .next t ∧ Calm (countTo s d 131250) t := by
  unfold execLedgerPeriodEnd
  refine ⟨_, rfl, ?_⟩
  refine calm_then (calm_setLedgerX (calm_fset (calm_fset (calm_foldl (calm_foldl (calm_foldl (calm_foldl (calm_edgeReports (calm_setLedgerX
    (calm_foldl (Calm.refl _) ?_))) ?_) ?_) ?_) ?_)))) fun h => calm_withHup (calm_withModx (calm_inputRead h))
  · exact fun _ _ ht => calm_fset ht
  · exact fun _ _ ht => calm_fset ht
  · exact fun _ _ ht => calm_fset ht
  · exact fun _ _ ht => calm_foldl (calm_recal ht) fun _ _ ht => calm_wakeEnergy ht
  · exact fun _ _ ht => calm_budgetTemp ht

theorem Calm.rdW_count {s t : State} (h : Calm s t) (u : Nat) : rdW t (Reg.GLB_CTL_COUNT_LO u) = rdW s (Reg.GLB_CTL_COUNT_LO u) := h.count u

/-! ### RESERVE_EXHAUSTED -/

/-- The contexts of course `c` that run wait for ENERGY. -/
def stopEnergy (s : State) (d c : Nat) : State :=
  (List.range 72).foldl (fun s i =>
    if fget s (Reg.BLK_CTX_STATUS d (c * 18 + i / 4) (i % 4)) 0 3 = 3 then
      fset (fset s (Reg.BLK_CTX_STATUS d (c * 18 + i / 4) (i % 4)) 0 3 4) (Reg.BLK_CTX_STATUS d (c * 18 + i / 4) (i % 4)) 24 4 4 else s) s

/-- Domain `b` of the die stalled: noted once per period, its Courses' contexts waiting and its items late. -/
def reserveStalled (s : State) (d : Die) (b : Fin 21) : State :=
  let t := (stallCourses b).foldl (fun s c => stopEnergy s d c) (setLedgerX s d { ledgerX s d with stalled := b :: (ledgerX s d).stalled })
  t.withItems (t.items.map (fun i => if (i.die == d.val && (b.val == 20 || b.val == 19 || (b.val < 16 && i.uses.contains (dCourse d b)) ||
    (decide (16 ≤ b.val) && i.uses.contains (dBay d (b - 16))))) && i.late == 0 then { i with late := 0xA9 } else i))

/-- The informational record of a stall. -/
def reserveNote (t : State) (d : Die) (b : Fin 21) : State :=
  if b.val < 16 then note t d Rsn.LATE 0x09 1 (d + 8 * b) []
  else if b.val < 19 then note t d Rsn.LATE 0x09 2 (d + 8 * (b - 16)) [] else note t d Rsn.LATE 0x09 10 d []

theorem stopEnergy_mem (s : State) (d c : Nat) : (stopEnergy s d c).mem = s.mem := by
  refine foldl_keeps State.mem fun t i => ?_
  split
  · rw [fset_mem, fset_mem]
  · rfl

theorem reserveStalled_mem (s : State) (d : Die) (b : Fin 21) : (reserveStalled s d b).mem = s.mem := by
  rw [reserveStalled, State.withItems_mem]
  exact (foldl_keeps State.mem fun t c => stopEnergy_mem t d c).trans rfl

theorem execReserveExhausted_new {b : Fin 21} (hb : (ledgerX s d).stalled.contains b.val = false) :
    execReserveExhausted d b s = .next (reserveNote (reserveStalled s d b) d b) := by
  rw [execReserveExhausted]
  dsimp only
  rw [if_neg (ne_true_of_eq_false hb)]
  rfl

theorem execReserveExhausted_again {b : Fin 21} (hb : (ledgerX s d).stalled.contains b.val = true) :
    execReserveExhausted d b s = .next s := if_pos hb

/-! ### SENSOR_REPORT and CALENDAR_SLOT_END -/

/-- The readings of a report whose sensors face the die. -/
def facingReads (d src : Die) (reads : List (Fin 24 × BitVec 11)) : List (Nat × Nat) :=
  (reads.filter (fun r => sensorEdge r.1 == (if src.val = (d.val + 1) % 4 then 2 else if src.val = (d.val + 3) % 4 then 1 else 9))).map
    (fun r => (src.val, tq r.2))

theorem execSensorReport_in {src : Die} {reads : List (Fin 24 × BitVec 11)} (hs : outOf s src = false) :
    execSensorReport d src reads s =
      .next (setLedgerX s d { ledgerX s d with nbrNext := (ledgerX s d).nbrNext ++ facingReads d src reads }) := by
  rw [execSensorReport, if_neg (ne_true_of_eq_false hs), facingReads]

theorem execSensorReport_out {src : Die} {reads : List (Fin 24 × BitVec 11)} (hs : outOf s src = true) :
    execSensorReport d src reads s = .next s := if_pos hs

theorem execCalendarSlotEnd_in (hd : outOf s d = false) (hl : s.pllOff.contains d.val = false) :
    execCalendarSlotEnd d s = .next (slotEnd (countTo s d 8750) d) := by
  have hgo : ¬ ((outOf s d || s.pllOff.contains d.val) = true) := by rw [hd, hl]; exact Bool.false_ne_true
  rw [execCalendarSlotEnd, if_neg hgo]
  rfl

end

/-- Settles O14: the equations of the events, and the counter at the boundary, which nothing after its write moves. -/
theorem ledgerEventsComplete : Obligations.LedgerEventsComplete := by
  refine ⟨?count, ?window, ?exhaustedMem, ?report, ?slot, ?period, ?exhausted, ?again, ?reportOut⟩
  case count =>
    intro d draw temps ftg v s
    obtain ⟨t, ht, hcalm⟩ := execLedgerPeriodEnd_calm d draw temps ftg v s
    refine ⟨t, by rw [exec_ledgerPeriodEnd, ht], ?_⟩
    rw [hcalm.rdW_count, countTo, rdW_wrW_same]
  case window =>
    intro d s
    rw [exec_recalWindowEnd, execRecalWindowEnd]
  case exhaustedMem =>
    intro d b s hb
    refine ⟨reserveStalled s d b, ?_, reserveStalled_mem s d b⟩
    rw [exec_reserveExhausted, execReserveExhausted_new hb, reserveNote]
  case report =>
    intro d src reads s hs
    rw [exec_sensorReport, execSensorReport_in hs, facingReads]
  case slot =>
    intro d s hd hl
    rw [exec_calendarSlotEnd, execCalendarSlotEnd_in hd hl, countTo]
  case period =>
    intro d draw temps ftg v s
    rw [exec_ledgerPeriodEnd, execLedgerPeriodEnd]
  case exhausted =>
    intro d b s hb
    rw [exec_reserveExhausted, execReserveExhausted_new hb, reserveNote]
    rfl
  case again =>
    intro d b s hb
    rw [exec_reserveExhausted, execReserveExhausted_again hb]
  case reportOut =>
    intro d src reads s hs
    rw [exec_sensorReport, execSensorReport_out hs]

end Sys2Proof.Machine
end

section
/-! PROOFS. The holding area: its actions, its drain and the writes stalled on it (15 R376, R379-R381). -/

namespace Sys2Proof.Machine

section
variable {d : Die} {s : State}

/-! ### GLB_HOLD_CTRL -/

/-- Some host has returned. -/
def hostBack (s : State) : Bool := (List.range 2).any (fun k => hostState s k == 3 || hostState s k == 4)

theorem hostBack_eq_true (h : ∃ k < 2, hostState s k = 3 ∨ hostState s k = 4) : hostBack s = true := by
  obtain ⟨k, hk, hst⟩ := h
  exact List.any_eq_true.mpr ⟨k, List.mem_range.mpr hk, by simpa using hst⟩

theorem hostBack_eq_false (h : ∀ k < 2, hostState s k ≠ 3 ∧ hostState s k ≠ 4) : hostBack s = false :=
  List.any_eq_false.mpr fun k hk => by simpa using h k (List.mem_range.mp hk)

theorem holdAction_starts {act : Nat} (hback : hostBack s = true) (hfree : bit s (Reg.GLB_HOLD_CTRL d) 31 = false) :
    holdAction s d act =
      fset (fset (setRD s (Reg.GLB_HOLD_CTRL d) 8 0 0) (Reg.GLB_HOLD_CTRL d) 2 2 (act + 1)) (Reg.GLB_HOLD_CTRL d) 31 1 1 := by
  have hgo : ¬ ((!hostBack s || bit s (Reg.GLB_HOLD_CTRL d) 31) = true) := by rw [hback, hfree]; exact Bool.false_ne_true
  rw [holdAction, ← hostBack, if_neg hgo]

theorem holdAction_refused {act : Nat} (hback : hostBack s = false) :
    holdAction s d act = setRD s (Reg.GLB_HOLD_CTRL d) 8 Rsn.STATE 0x88 := by
  have hstop : (!hostBack s || bit s (Reg.GLB_HOLD_CTRL d) 31) = true := by rw [hback]; rfl
  rw [holdAction, ← hostBack, if_pos hstop]

theorem execHoldReplay_open (hw : winOpen s d) : execHoldReplay d s = .next (holdAction s d 1) := viaWin_open hw
theorem execHoldDiscard_open (hw : winOpen s d) : execHoldDiscard d s = .next (holdAction s d 2) := viaWin_open hw

/-! ### The drain -/

/-- The home of an address lies on an absent Keystone. -/
def keyAbsent (s : State) (pa : Nat) : Bool :=
  match keyHome s pa with
  | some k => hostState s k == 2
  | none => false

theorem socketOf_lt (s : State) (a : Nat) : socketOf s a < 6 := by
  rw [socketOf, List.getD_eq_getElem?_getD]
  cases hn : (sockets s)[a / 4096 % max 1 (sockets s).length]? with
  | none => exact Nat.zero_lt_succ 5
  | some n => exact List.mem_range.mp (List.mem_of_mem_filter (List.mem_of_getElem? hn))

theorem keyAbsent_eq_false (hhost : ∀ k < 2, hostState s k ≠ 2) (pa : Nat) : keyAbsent s pa = false := by
  unfold keyAbsent keyHome
  by_cases hpa : pa < 0x030000000000
  · rw [if_pos hpa]
    have hk : socketOf s pa / 3 < 2 := by
      have := socketOf_lt s pa
      omega
    exact beq_eq_false_iff_ne.mpr (hhost _ hk)
  · rw [if_neg hpa]

/-- The home slot of a held record. -/
def recSlot (r : List Byte) : Nat := leNat ((r.drop 32).take 8)

/-- What keeps a drain from ending: none under way, the die out of service, or a home that is still absent. -/
def drainBlocked (s : State) (d : Nat) : Bool :=
  !bit s (Reg.GLB_HOLD_CTRL d) 31 || outOf s d || (fget s (Reg.GLB_HOLD_CTRL d) 2 2 == 2 && (holdLog s d).any (fun e => keyAbsent s e.pa)) ||
    (holdRecs s d).any (fun r => keyAbsent s (recSlot r))

theorem drainBlocked_eq_false (hbusy : bit s (Reg.GLB_HOLD_CTRL d) 31 = true) (hd : outOf s d = false) (hhost : ∀ k < 2, hostState s k ≠ 2) :
    drainBlocked s d = false := by
  have hlog : (holdLog s d).any (fun e => keyAbsent s e.pa) = false :=
    List.any_eq_false.mpr fun e _ => ne_true_of_eq_false (keyAbsent_eq_false hhost _)
  have hrecs : (holdRecs s d).any (fun r => keyAbsent s (recSlot r)) = false :=
    List.any_eq_false.mpr fun r _ => ne_true_of_eq_false (keyAbsent_eq_false hhost _)
  rw [drainBlocked, hbusy, hd, hlog, hrecs, Bool.and_false]
  rfl

/-- The held writes of a REPLAY performed. -/
def replayed (s : State) (es : List HoldEnt) : State := es.foldl (fun s e => memWriteAt (touchSkt s e.pa) e.pa e.bytes) s

/-- A held record as a drain writes it: after a DISCARD, that of an item with entries carries HOST_ABSENT 0x8E. -/
def drainRec (replay : Bool) (es : List HoldEnt) (r : List Byte) : List Byte :=
  if !replay && es.any (fun e => e.kind == 1 && e.ring == leNat ((r.drop 40).take 2) && e.seq == leNat ((r.drop 8).take 4)) then
    (r.take 32).take 13 ++ leBytes 1 Rsn.HOST_ABSENT ++ leBytes 1 0x8E ++ (r.take 32).drop 15
  else r.take 32

/-- The held records written to their slots. -/
def recsWritten (s : State) (replay : Bool) (es : List HoldEnt) (rs : List (List Byte)) : State :=
  rs.foldl (fun s r => memWrite s (recSlot r) (drainRec replay es r)) s

/-- The entries of a DISCARD whose items have ended, with their records written: each is a fault. -/
def lostHeld (s : State) (d : Nat) (es : List HoldEnt) (rs : List (List Byte)) : List (Nat × Nat) :=
  ((es.filter (·.kind == 1)).map (fun e => (e.ring, e.seq))).eraseDups.filter (fun p =>
    !(rs.map (fun r => (leNat ((r.drop 40).take 2), leNat ((r.drop 8).take 4)))).contains p && (findItem s d p.1 p.2).isNone)

def heldNoted (s : State) (d : Nat) (ps : List (Nat × Nat)) : State :=
  ps.foldl (fun s p => note s d Rsn.HOST_ABSENT 0x8E 7 (ringSrc d p.1) (ringData p.2 0 0)) s

/-- Everything written, and for a DISCARD the faults raised. -/
def drained (s : State) (d : Nat) : State :=
  let es := holdLog s d
  let rs := holdRecs s d
  let replay := fget s (Reg.GLB_HOLD_CTRL d) 2 2 == 2
  let t := recsWritten (if replay then replayed s es else s) replay es rs
  if replay then t else heldNoted t d (lostHeld t d es rs)

/-- The fate of an item whose held writes are gone. -/
def drainFate (s : State) (d : Nat) : Option (Nat × Nat) :=
  if fget s (Reg.GLB_HOLD_CTRL d) 2 2 == 2 then none else some (Rsn.HOST_ABSENT, 0x8E)

/-- Nothing is held any more, and BUSY is cleared. -/
def holdEmptied (s : State) (d : Nat) (fate : Option (Nat × Nat)) : State :=
  let t := fset (fset (unheld s d fate) (Reg.GLB_HOLD_USED d) 0 26 0) (Reg.GLB_HOLD_RECORDS d) 0 18 0
  let t := fset (fset t (Reg.GLB_HOLD_CTRL d) 2 2 0) (Reg.GLB_HOLD_CTRL d) 31 1 0
  setHoldX t d { holdX t d with away := (holdX t d).away.filter (fun k => hostState t k == 2) }

/-- The POINTs that waited for the drain go on. -/
def pointsResumed (t : State) (d : Nat) : State :=
  (t.items.filter (fun i => i.die == d && i.opcode == 0x30 && i.started)).foldl (fun s i =>
    if (flow s i.obj).tx.any (fun p => p.ring == i.ring && p.seq == i.seq) then s else pointAcked s i) t

theorem execHoldDrainDone_eq :
    execHoldDrainDone d s = if drainBlocked s d then .next s else .next (pointsResumed (holdEmptied (drained s d) d (drainFate s d)) d) := by
  unfold execHoldDrainDone drainBlocked
  exact if_congr Iff.rfl rfl rfl

/-! ### What the drain leaves -/

theorem calm_drained (s : State) (d : Nat) : Calm s (drained s d) := by
  have hrecs : ∀ {t : State} {replay : Bool} {es : List HoldEnt} {rs : List (List Byte)}, Calm s t → Calm s (recsWritten t replay es rs) :=
    fun ht => calm_foldl ht fun _ _ ht => calm_memWrite ht
  have hreplayed : ∀ {es : List HoldEnt}, Calm s (replayed s es) :=
    calm_foldl (Calm.refl s) fun _ _ ht => calm_memWriteAt (calm_touchSkt ht)
  have hnoted : ∀ {t : State} {ps : List (Nat × Nat)}, Calm s t → Calm s (heldNoted t d ps) := fun ht => calm_foldl ht fun _ _ ht => calm_note ht
  have hwritten := fun {c : Prop} [Decidable c] {replay : Bool} {es es' : List HoldEnt} {rs : List (List Byte)} =>
    hrecs (replay := replay) (es := es) (rs := rs) (calm_ite (c := c) (hreplayed (es := es')) (Calm.refl s))
  exact calm_ite hwritten (hnoted hwritten)

theorem calm_unheld {s0 : State} {fate : Option (Nat × Nat)} (h : Calm s0 s) : Calm s0 (unheld s d fate) :=
  calm_mapItems (fun i => by split <;> rfl) h

theorem calm_holdEmptied {s0 : State} {fate : Option (Nat × Nat)} (h : Calm s0 s) : Calm s0 (holdEmptied s d fate) :=
  calm_setHoldX (calm_fset (calm_fset (calm_fset (calm_fset (calm_unheld h)))))

/-- Without a POINT among the items none goes on. -/
theorem pointsResumed_of_none {t : State} (h : ∀ i ∈ t.items, i.opcode ≠ 0x30) : pointsResumed t d = t := by
  have hnone : t.items.filter (fun i => i.die == d.val && i.opcode == 0x30 && i.started) = [] :=
    List.filter_eq_nil_iff.mpr fun i hi => by simp [h i hi]
  rw [pointsResumed, hnone, List.foldl_nil]

theorem unheld_held {fate : Option (Nat × Nat)} {i : Item} (hi : i ∈ (unheld s d fate).items) (hd : i.die = d.val) : i.held = false := by
  rw [unheld, State.withItems_items, List.mem_map] at hi
  obtain ⟨j, _, rfl⟩ := hi
  by_cases hj : j.die = d.val ∧ j.held = true
  · rw [if_pos hj]
  · rw [if_neg hj] at hd ⊢
    exact Bool.eq_false_iff.mpr fun hheld => hj ⟨hd, hheld⟩

section
variable {fate : Option (Nat × Nat)}

theorem holdCtrl_ne_holdUsed (u : Nat) : Reg.GLB_HOLD_CTRL u ≠ Reg.GLB_HOLD_USED u := by
  unfold Reg.GLB_HOLD_CTRL Reg.GLB_HOLD_USED
  omega
theorem holdCtrl_ne_holdRecords (u : Nat) : Reg.GLB_HOLD_CTRL u ≠ Reg.GLB_HOLD_RECORDS u := by
  unfold Reg.GLB_HOLD_CTRL Reg.GLB_HOLD_RECORDS
  omega
theorem holdUsed_ne_holdRecords (u : Nat) : Reg.GLB_HOLD_USED u ≠ Reg.GLB_HOLD_RECORDS u := by
  unfold Reg.GLB_HOLD_USED Reg.GLB_HOLD_RECORDS
  omega

theorem setHoldX_regs (s : State) (d : Nat) (x : HoldX) : (setHoldX s d x).regs = s.regs := rfl

theorem holdEmptied_busy : bit (holdEmptied s d fate) (Reg.GLB_HOLD_CTRL d) 31 = false := by
  rw [holdEmptied, bit, fget_of_regs (setHoldX_regs _ _ _), fget_fset_same _ _ _ _ _ (by decide)]
  rfl

theorem holdEmptied_used : fget (holdEmptied s d fate) (Reg.GLB_HOLD_USED d) 0 26 = 0 := by
  rw [holdEmptied, fget_of_regs (setHoldX_regs _ _ _), fget_fset_ne _ _ _ _ _ _ (holdCtrl_ne_holdUsed d).symm,
    fget_fset_ne _ _ _ _ _ _ (holdCtrl_ne_holdUsed d).symm, fget_fset_ne _ _ _ _ _ _ (holdUsed_ne_holdRecords d),
    fget_fset_same _ _ _ _ _ (by decide), Nat.zero_mod]

theorem holdEmptied_records : fget (holdEmptied s d fate) (Reg.GLB_HOLD_RECORDS d) 0 18 = 0 := by
  rw [holdEmptied, fget_of_regs (setHoldX_regs _ _ _), fget_fset_ne _ _ _ _ _ _ (holdCtrl_ne_holdRecords d).symm,
    fget_fset_ne _ _ _ _ _ _ (holdCtrl_ne_holdRecords d).symm, fget_fset_same _ _ _ _ _ (by decide), Nat.zero_mod]

theorem holdEmptied_items : (holdEmptied s d fate).items = (unheld s d fate).items := by
  rw [holdEmptied, setHoldX, State.withHold_items, fset_items, fset_items, fset_items, fset_items]

end

/-! ### Stalled items -/

theorem execStalledItemBoundExpire_due {r : Ring} {seq : W32} {it : Item} (hit : findItem s d r seq.toNat = some it) (hdue : it.bound ≤ ctl s d)
    (hwaits : (holdX s d).stalled.any (fun w => w.1 == r.val && w.2.1 == seq.toNat) = true ∨ itemWaits s it = true) :
    execStalledItemBoundExpire d r seq s = .next (endItem s it Rsn.HOST_ABSENT 0xAC) := by
  rw [execStalledItemBoundExpire, hit]
  exact if_pos ⟨hdue, hwaits⟩

end

/-- Settles O48: the drain ends with nothing held, and as no fault on its way brings an item, no POINT goes on after it. -/
theorem holdingAreaComplete : Obligations.HoldingAreaComplete := by
  refine ⟨?started, ?refused, ?drain, ?resume, ?expired⟩
  case started =>
    intro d s hw hback hfree
    rw [exec_holdReplay, exec_holdDiscard, execHoldReplay_open hw, execHoldDiscard_open hw,
      holdAction_starts (hostBack_eq_true hback) hfree, holdAction_starts (hostBack_eq_true hback) hfree]
    exact ⟨rfl, rfl⟩
  case refused =>
    intro d s hw hnone
    rw [exec_holdReplay, exec_holdDiscard, execHoldReplay_open hw, execHoldDiscard_open hw,
      holdAction_refused (hostBack_eq_false hnone), holdAction_refused (hostBack_eq_false hnone)]
    exact ⟨rfl, rfl⟩
  case drain =>
    intro d s hbusy hd hhost hitems
    have hpoints := (calm_holdEmptied (d := d) (fate := drainFate s d) (calm_drained s d)).no_opcode hitems
    refine ⟨holdEmptied (drained s d) d (drainFate s d), ?_, holdEmptied_busy, holdEmptied_used, holdEmptied_records, fun i hi hid => ?_⟩
    · rw [exec_holdDrainDone, execHoldDrainDone_eq, drainBlocked_eq_false hbusy hd hhost, if_neg Bool.false_ne_true,
        pointsResumed_of_none hpoints]
    · rw [holdEmptied_items] at hi
      exact unheld_held hi hid
  case resume =>
    intro d s
    exact (exec_holdStallResume d s).trans rfl
  case expired =>
    intro d r seq it s hit hdue hwaits
    rw [exec_stalledItemBoundExpire, execStalledItemBoundExpire_due hit hdue hwaits]

end Sys2Proof.Machine
end
